-- ==== Sys2Proof/Word.lean ====
section
/-! DEFINITION. The word types of the TD16: a byte, and the 16- and 32-bit fields of feed frames (R181). -/

namespace Sys2Proof

/-- One byte of a frame, of image data or of artwork. -/
abbrev Byte := BitVec 8

/-- A two-byte field: a tag, a repeat, a mask. -/
abbrev Word16 := BitVec 16

/-- A four-byte field: a length, an offset, a CRC-32. -/
abbrev Word32 := BitVec 32

end Sys2Proof
end

