-- ==== Sys2Proof/Machine/Crc.lean ====
section
/-! DEFINITION. The one CRC-32 of the TD16 ("The CRC" in 00_scope.md): polynomial 0x04C11DB7, reflected in and
out, initial value all ones, final value complemented. -/

namespace Sys2Proof.Machine

/-- The generator polynomial 0x04C11DB7 with its bits reflected. -/
def crcPoly : Word32 := 0xEDB88320#32

/-- The initial CRC state: all ones. -/
def crcInit : Word32 := 0xFFFFFFFF#32

/-- `n` bit steps of the reflected CRC. -/
def crcBits : Nat → Word32 → Word32
  | 0, c => c
  | n + 1, c => crcBits n (if c.getLsbD 0 then (c >>> 1) ^^^ crcPoly else c >>> 1)

/-- The CRC state after one more byte. -/
def crcByte (c : Word32) (b : Byte) : Word32 := crcBits 8 (c ^^^ b.setWidth 32)

/-- The CRC state after more bytes, in byte order. -/
def crcRun (c : Word32) (bytes : List Byte) : Word32 := bytes.foldl crcByte c

/-- The finished value: the state complemented. -/
def crcFinish (c : Word32) : Word32 := ~~~c

/-- The CRC-32 of a byte string. -/
def crc32 (bytes : List Byte) : Word32 := crcFinish (crcRun crcInit bytes)

end Sys2Proof.Machine
end

