-- ==== Sys2Proof/Syntax.lean ====
section
/-! DEFINITION. The commands and events that reach the TD16: one constructor of `Instr` for each row of
spec/opcode_table.json, and the types of their operands. -/

namespace Sys2Proof

/-- A drive, D0 to D15. -/
abbrev Drive := Fin 16
/-- A wave, W0 to W3. -/
abbrev WaveNo := Fin 4
/-- An image slot, I0 to I3. -/
abbrev SlotNo := Fin 4
/-- An order, O0 to O7. -/
abbrev OrderNo := Fin 8
/-- A label template, L0 to L7. -/
abbrev TmplNo := Fin 8
/-- An artwork slot, A0 to A7. -/
abbrev ArtNo := Fin 8
/-- A rung of the speed ladder. -/
abbrev Rung := Fin 8
/-- A disc record, 0 to 63. -/
abbrev RecNo := Fin 64
/-- A station of the map by its fixed index (R139). -/
abbrev StationNo := Fin 24

/-- A checked TABLE frame (R184, R187): its tag, its RESEND flag, the entry number and the body. -/
structure TableFrame where
  tag : Word16
  resend : Bool
  entry : Byte
  body : List Byte
  deriving DecidableEq, Repr, Inhabited

/-- A checked COMMAND frame (R184, R188): its tag, its RESEND flag and the body. -/
structure CmdFrame where
  tag : Word16
  resend : Bool
  body : List Byte
  deriving DecidableEq, Repr, Inhabited

/-- The two kinds of frame that are answered by a REPLY (R190). -/
inductive AnsweredKind where
  | table
  | command
  deriving DecidableEq, Repr, Inhabited

/-- The causes a drive's FAULT reply carries, in the order of R45. -/
inductive FaultCause where
  | media
  | tray
  | speed
  | noDisc
  | other
  deriving DecidableEq, Repr, Inhabited

/-- One reply on a drive link (R45). The two fields of DONE are read for a SENSE alone. -/
inductive DriveReply where
  | done (discPresent : Bool) (mediaClass : Fin 16)
  | data (bytes : List Byte)
  | fault (cause : FaultCause)
  deriving DecidableEq, Repr

/-- How the identification exchange of a link check ends when an answer came (R50, R170). -/
inductive ExchangeResult where
  | good
  | linkErrors
  | wrongDevice
  deriving DecidableEq, Repr, Inhabited

/-- The outcomes of arm operations (R148); HOMED carries the gripper sense. -/
inductive ArmOutcome where
  | atTarget
  | gripped
  | double
  | miss
  | released
  | stuck
  | homed (holding : Bool)
  deriving DecidableEq, Repr, Inhabited

/-- The causes a printer's FAULT reply carries, in the order of R168. -/
inductive PrinterFaultCause where
  | tray
  | jam
  | supply
  | other
  deriving DecidableEq, Repr, Inhabited

/-- One reply on the printer link (R168). The field of DONE is read for a SENSE alone. -/
inductive PrinterReply where
  | done (discPresent : Bool)
  | fault (cause : PrinterFaultCause)
  deriving DecidableEq, Repr, Inhabited

/-- The kind of a station map entry, with its wire code as its position (R139, R187). -/
inductive StationKind where
  | noKind
  | spindle
  | tray
  | printer
  | bin
  deriving DecidableEq, Repr, Inhabited

/-- One station map entry as the settings image holds it (R200): a spindle's media class or a bin's
capacity stands in `value`. -/
structure StoredStation where
  kind : StationKind
  lift : Word16
  rotate : Word16
  value : Byte
  deriving DecidableEq, Repr, Inhabited

/-- The values of one settings image (R200). -/
structure SettingsValues where
  codes : Vector Byte 8
  stations : Vector StoredStation 24
  deriving DecidableEq, Repr, Inhabited

/-- A settings image as the EEPROM holds it: the values and the CRC-32 that follows them (R200). -/
structure StoredImage where
  values : SettingsValues
  crc : Word32
  deriving DecidableEq, Repr, Inhabited

/-- How the settings read over the SPI port ends when it does not time out (R201): the EEPROM's contents as
the model knows them, contents the part is given from outside the model's knowledge, or a failed exchange. -/
inductive SpiRead where
  | contents
  | image (i : StoredImage)
  | failed
  deriving DecidableEq, Repr

/-- The commands and events of the TD16, one constructor per row of spec/opcode_table.json, in its order. -/
inductive Instr where
  /-- POWER_ON (R203). -/
  | powerOn
  /-- SECTOR (R23): wave, first sector, the sectors in ascending order. -/
  | sector (w : WaveNo) (first : Word32) (sectors : List (List Byte))
  /-- RUN (R24): wave, first sector, repeat field, the one payload. -/
  | run (w : WaveNo) (first : Word32) (rep : Word16) (payload : List Byte)
  /-- ARTWORK_FRAME (R165): artwork slot, offset, the data bytes. -/
  | artworkFrame (a : ArtNo) (offset : Word32) (data : List Byte)
  /-- INBOUND_FRAME_DISCARD (R185): the bytes of the frame as delivered. -/
  | inboundFrameDiscard (frame : List Byte)
  /-- UNKNOWN (R187, R188): a checked frame whose table or command number does not exist. -/
  | unknown (kind : AnsweredKind) (number : Byte) (f : TableFrame)
  /-- SPEED_LADDER_WRITE (R68). -/
  | speedLadderWrite (f : TableFrame)
  /-- STATION_MAP_WRITE (R140). -/
  | stationMapWrite (f : TableFrame)
  /-- STAGED_ASSIGNMENT_WRITE (R70). -/
  | stagedAssignmentWrite (f : TableFrame)
  /-- TEMPLATE_WRITE (R167). -/
  | templateWrite (f : TableFrame)
  /-- IMAGE_DEFINE (R2), command 1. -/
  | imageDefine (f : CmdFrame)
  /-- IMAGE_RELEASE (R3), command 2. -/
  | imageRelease (f : CmdFrame)
  /-- WAVE_OPEN (R20, R21), command 3. -/
  | waveOpen (f : CmdFrame)
  /-- WAVE_ABORT (R41), command 4. -/
  | waveAbort (f : CmdFrame)
  /-- APPLY_NOW (R74), command 5. -/
  | applyNow (f : CmdFrame)
  /-- APPLY_AT_LOAD (R77), command 6. -/
  | applyAtLoad (f : CmdFrame)
  /-- ORDER_DEFINE (R121), command 7. -/
  | orderDefine (f : CmdFrame)
  /-- ORDER_HOLD (R122), command 8. -/
  | orderHold (f : CmdFrame)
  /-- ORDER_RESUME (R123), command 9. -/
  | orderResume (f : CmdFrame)
  /-- ORDER_QUANTITY (R124), command 10. -/
  | orderQuantity (f : CmdFrame)
  /-- ORDER_CANCEL (R125), command 11. -/
  | orderCancel (f : CmdFrame)
  /-- FEED_ENABLE (R159), command 12. -/
  | feedEnable (f : CmdFrame)
  /-- TRANSPORT_START (R156), command 13. -/
  | transportStart (f : CmdFrame)
  /-- PARK (R157), command 14. -/
  | park (f : CmdFrame)
  /-- RESUME (R158), command 15. -/
  | resume (f : CmdFrame)
  /-- DISC_REMOVE (R160), command 16. -/
  | discRemove (f : CmdFrame)
  /-- SPINDLE_REFILL (R141), command 17. -/
  | spindleRefill (f : CmdFrame)
  /-- BIN_EMPTIED (R142), command 18. -/
  | binEmptied (f : CmdFrame)
  /-- PORT_CHECK (R52), command 19. -/
  | portCheck (f : CmdFrame)
  /-- PORT_RESET (R53), command 20. -/
  | portReset (f : CmdFrame)
  /-- PRINTER_RESET (R171), command 21. -/
  | printerReset (f : CmdFrame)
  /-- ARTWORK_BEGIN (R164), command 22. -/
  | artworkBegin (f : CmdFrame)
  /-- EVENT_ENABLE (R198), command 23. -/
  | eventEnable (f : CmdFrame)
  /-- QUERY (R199), command 24. -/
  | query (f : CmdFrame)
  /-- STORE_SETTINGS (R202), command 25. -/
  | storeSettings (f : CmdFrame)
  /-- ABORT_ALL (R194), command 26. -/
  | abortAll (f : CmdFrame)
  /-- OUTBOUND_FRAME_SEND (R191). -/
  | outboundFrameSend
  /-- EVENT_FRAME_SEND (R197). -/
  | eventFrameSend
  /-- PORT_CHECK_EXCHANGE_END (R50). -/
  | portCheckExchangeEnd (d : Drive) (r : ExchangeResult)
  /-- PORT_CHECK_TIMEOUT (R50). -/
  | portCheckTimeout (d : Drive)
  /-- TRAY_OPEN_REPLY (R61): drive, request number, reply. -/
  | trayOpenReply (d : Drive) (n : Byte) (r : DriveReply)
  /-- TRAY_CLOSE_REPLY (R62). -/
  | trayCloseReply (d : Drive) (n : Byte) (r : DriveReply)
  /-- SPEED_REPLY (R58, R75). -/
  | speedReply (d : Drive) (n : Byte) (r : DriveReply)
  /-- WRITE_REPLY (R87). -/
  | writeReply (d : Drive) (n : Byte) (r : DriveReply)
  /-- CLOSE_REPLY (R95). -/
  | closeReply (d : Drive) (n : Byte) (r : DriveReply)
  /-- READ_REPLY (R106). -/
  | readReply (d : Drive) (n : Byte) (r : DriveReply)
  /-- SENSE_REPLY (R51, R58). -/
  | senseReply (d : Drive) (n : Byte) (r : DriveReply)
  /-- DRIVE_REQUEST_TIMEOUT (R47). -/
  | driveRequestTimeout (d : Drive)
  /-- STARVATION_EXPIRY (R35). -/
  | starvationExpiry (w : WaveNo)
  /-- GOTO_OUTCOME (R149): operation number, outcome. -/
  | gotoOutcome (n : Byte) (o : ArmOutcome)
  /-- PICK_OUTCOME (R150, R152, R153). -/
  | pickOutcome (n : Byte) (o : ArmOutcome)
  /-- PLACE_OUTCOME (R151). -/
  | placeOutcome (n : Byte) (o : ArmOutcome)
  /-- HOME_OUTCOME (R156, R158). -/
  | homeOutcome (n : Byte) (o : ArmOutcome)
  /-- ARM_OPERATION_TIMEOUT (R148). -/
  | armOperationTimeout
  /-- DROPPED (R154). -/
  | dropped
  /-- PRINTER_CHECK_EXCHANGE_END (R170). -/
  | printerCheckExchangeEnd (r : ExchangeResult)
  /-- PRINTER_CHECK_TIMEOUT (R170). -/
  | printerCheckTimeout
  /-- PRINTER_SENSE_REPLY (R170): request number, reply. -/
  | printerSenseReply (n : Byte) (r : PrinterReply)
  /-- TRAY_OUT_REPLY (R172, R174). -/
  | trayOutReply (n : Byte) (r : PrinterReply)
  /-- TRAY_IN_REPLY (R172, R173). -/
  | trayInReply (n : Byte) (r : PrinterReply)
  /-- START_REPLY (R174). -/
  | startReply (n : Byte) (r : PrinterReply)
  /-- BAND_REPLY (R174). -/
  | bandReply (n : Byte) (r : PrinterReply)
  /-- FINISH_REPLY (R174). -/
  | finishReply (n : Byte) (r : PrinterReply)
  /-- PRINTER_REQUEST_TIMEOUT (R168). -/
  | printerRequestTimeout
  /-- SETTINGS_LOAD_END (R201). -/
  | settingsLoadEnd (r : SpiRead)
  /-- SETTINGS_LOAD_TIMEOUT (R201). -/
  | settingsLoadTimeout
  /-- SETTINGS_STORE_ACK (R202): acknowledged, or the SPI exchange failed. -/
  | settingsStoreAck (ok : Bool)
  /-- SETTINGS_STORE_TIMEOUT (R202). -/
  | settingsStoreTimeout
  deriving DecidableEq, Repr

end Sys2Proof
end

