-- ==== Sys2Proof/Config.lean ====
section
/-! DEFINITION. What the manual fixes once for the part (sizes and limits), and the free values it leaves
open: opaque constants without a body, of which nothing can be proved but that they have a value. -/

namespace Sys2Proof.Config

/-- Slots of the sector pool (R16). -/
def poolSlots : Nat := 65536
/-- Bytes of user data in one sector. -/
def sectorBytes : Nat := 2048
/-- Sectors of a block that is not the last one. -/
def blockSectors : Nat := 16
/-- The largest image, in sectors (R1, R2). -/
def maxLength : Nat := 16777215
/-- The least window capacity (R17, R20). -/
def minCapacity : Nat := 64
/-- The starvation limit a field of 0 selects, in seconds (R20). -/
def defaultStarvation : Nat := 10
/-- Releases that call for a credit frame (R33). -/
def creditStep : Nat := 256
/-- The longest WRITE, in sectors (R85). -/
def writeSectors : Nat := 32
/-- READs of one verify slice (R110). -/
def sliceReads : Nat := 8
/-- Consecutive read faults that end a verify (R108). -/
def readFaultLimit : Nat := 3
/-- Pass-over count from which an entry goes before its class (R146). -/
def passOverLimit : Nat := 8
/-- Discs a spindle holds at most (R139, R141, R145). -/
def spindleMax : Nat := 150
/-- The largest arm target (R139, R140). -/
def maxTarget : Nat := 4095
/-- The largest artwork, in bytes (R164). -/
def maxArtwork : Nat := 8388608
/-- Bytes of one artwork band (R174). -/
def bandBytes : Nat := 65536
/-- The largest serial (R167). -/
def maxSerial : Nat := 999999
/-- Where FP's counters stop (R183). -/
def counterMax : Nat := 4294967295
/-- The largest feed frame, in bytes (R184). -/
def maxFrame : Nat := 8256
/-- The largest ARTWORK body, in bytes (R182). -/
def maxArtworkBody : Nat := 8236
/-- The largest RUN repeat (R182). -/
def maxRepeat : Nat := 4095

/-- How far a failed store has come at the EEPROM (R202): the earlier image stands, the image is partly written, or
the copy was written whole before the failure. -/
inductive StoreReach where
  | untouched
  | partly
  | whole
  deriving DecidableEq, Repr, Inhabited

/-- FREE VALUE (log entry 11): how far the n-th failed store has come, a store that a POWER_ON cuts off
among them (log entry 48). R202: "A failed store may leave the image
partly written". -/
opaque storeReach : Nat → StoreReach

/-- FREE VALUE (log entry 11): the bytes of the EEPROM after the n-th failed store, where that store has left the
image partly written. R202 says of them that their CRC is bad and nothing else. -/
opaque partialImage : Nat → StoredImage

/-- FREE VALUE (log entry 14): the byte by which a TRANSPORT answer shows a BY-VERDICT destination; R192
gives stations, ON-ARM and UNKNOWN codes and this one none. -/
opaque byVerdictCode : Byte

/-- FREE VALUE (log entry 14): the byte by which a TRANSPORT answer shows the source ARM. -/
opaque armSourceCode : Byte

/-- FREE VALUE (log entry 14): the byte by which a TRANSPORT answer refers to the current entry, a function
of its position in the queue. -/
opaque currentEntryCode : Nat → Byte

end Sys2Proof.Config
end

