-- ==== Sys2Proof/Machine/State.lean ====
section
/-! DEFINITION. The state of the TD16 as plain data: the tables, queues, records and flags each block owns,
with their values after power-on, and the queue of commands that wait. Fields that the manual names but that
another field determines (occupied, blocks recorded, fill point, remaining, the current entry) are computed in
Machine/Ops.lean. -/

namespace Sys2Proof.Machine

/-! ### Disc records (PU) and places -/

/-- A disc token: record number and generation. -/
structure Token where
  num : RecNo
  gen : Byte
  deriving DecidableEq, Repr, Inhabited

/-- Where a disc is or ended (R129, R134): a station of the map, the arm, or unknown. -/
inductive Place where
  | station (i : StationNo)
  | onArm
  | unknown
  deriving DecidableEq, Repr, Inhabited

/-- Origin of a disc (R129). -/
inductive Origin where
  | spindle (i : Fin 4)
  | orphan
  deriving DecidableEq, Repr, Inhabited

/-- A disc record is free, set aside for a pick, or in use (R129). -/
inductive RecordUse where
  | free
  | setAside
  | inUse
  deriving DecidableEq, Repr, Inhabited

/-- Burn outcome (R129); `notYet` is NONE. -/
inductive BurnOutcome where
  | notYet
  | pass
  | fail
  deriving DecidableEq, Repr, Inhabited

/-- Verify outcome (R129); `notYet` is NONE. -/
inductive VerifyOutcome where
  | notYet
  | pass
  | fail
  | skipped
  deriving DecidableEq, Repr, Inhabited

/-- Print outcome (R129); `notYet` is NONE. -/
inductive PrintOutcome where
  | notYet
  | pass
  | fail
  | notRequired
  deriving DecidableEq, Repr, Inhabited

/-- The sixteen fail causes, in the order of R132. -/
inductive FailCause where
  | writeFault
  | closeFault
  | detached
  | waveAborted
  | conflict
  | verifyErrors
  | unreadable
  | printFault
  | driveFault
  | timeout
  | lost
  | doublePick
  | orphan
  | abortAll
  | removed
  | mediaMismatch
  deriving DecidableEq, Repr, Inhabited

/-- The verdict of a record (R133). -/
inductive Verdict where
  | pass
  | fail
  | returned
  deriving DecidableEq, Repr, Inhabited

/-- One disc record (R129). The fields other than `use` and `gen` have a meaning only while in use. -/
structure DiscRecord where
  use : RecordUse
  gen : Byte
  origin : Origin
  mediaClass : Nat
  discCount : Nat
  order : Option OrderNo
  drive : Option Drive
  rung : Option Rung
  slot : Option SlotNo
  location : Place
  burn : BurnOutcome
  verify : VerifyOutcome
  print : PrintOutcome
  cause : Option FailCause
  errorBlocks : Nat
  serial : Option Nat
  deriving DecidableEq, Repr, Inhabited

/-- A record after power-on: free with generation 0 (R129); the other fields are log entry 25's choice. -/
def DiscRecord.reset : DiscRecord :=
  { use := .free, gen := 0, origin := .orphan, mediaClass := 0, discCount := 1, order := none, drive := none,
    rung := none, slot := none, location := .unknown, burn := .notYet, verify := .notYet, print := .notYet,
    cause := none, errorBlocks := 0, serial := none }

/-- Order states (R120). -/
inductive OrderState where
  | free
  | opened
  | held
  | complete
  deriving DecidableEq, Repr, Inhabited

/-- One production order (R120). Remaining is computed. -/
structure Order where
  state : OrderState
  slot : SlotNo
  mediaClass : Nat
  quantity : Nat
  template : Option TmplNo
  passed : Nat
  failed : Nat
  inProgress : Nat
  deriving DecidableEq, Repr, Inhabited

/-- An order after power-on (R120). -/
def Order.reset : Order :=
  { state := .free, slot := 0, mediaClass := 0, quantity := 0, template := none, passed := 0, failed := 0,
    inProgress := 0 }

/-! ### Images (IS) -/

/-- Image slot states (R1). -/
inductive ImageState where
  | undefined
  | defined
  | filling
  | complete
  deriving DecidableEq, Repr, Inhabited

/-- One image slot with its digest table: entry k of `digests` is the digest of block k (R1). -/
structure ImageSlot where
  tag : Word32
  length : Nat
  state : ImageState
  fillingWave : Option WaveNo
  digests : List Word32
  waveCount : Nat
  verifyCount : Nat
  orderCount : Nat
  deriving DecidableEq, Repr, Inhabited

/-- An image slot after power-on (R1). -/
def ImageSlot.reset : ImageSlot :=
  { tag := 0, length := 0, state := .undefined, fillingWave := none, digests := [], waveCount := 0,
    verifyCount := 0, orderCount := 0 }

/-- Accumulator modes (R7). -/
inductive AccMode where
  | idle
  | fill
  | check
  deriving DecidableEq, Repr, Inhabited

/-- One block accumulator (R7). -/
structure Accumulator where
  mode : AccMode
  slot : Option SlotNo
  block : Nat
  taken : Nat
  crc : Word32
  deriving DecidableEq, Repr, Inhabited

/-- An accumulator after power-on and after its wave's end: IDLE (R7, R12). -/
def Accumulator.reset : Accumulator :=
  { mode := .idle, slot := none, block := 0, taken := 0, crc := 0xFFFFFFFF#32 }

/-- Causes of IMAGE-STATE, in order of first appearance in the table of R14 (R192). -/
inductive ImageCause where
  | command
  | opened
  | filled
  | conflict
  | waveAborted
  | noDrives
  | abortAll
  deriving DecidableEq, Repr, Inhabited

/-! ### Waves (SD) -/

/-- Wave states (R18). -/
inductive WaveState where
  | idle
  | opened
  | streaming
  | draining
  deriving DecidableEq, Repr, Inhabited

/-- Causes of WAVE-STATE, in order of first appearance in the table of R43 (R192). -/
inductive WaveCause where
  | command
  | gateClosed
  | headAtLength
  | drained
  | waveAborted
  | conflict
  | abortAll
  | noDrives
  deriving DecidableEq, Repr, Inhabited

/-- End causes of a wave (R18). -/
inductive EndCause where
  | none
  | drained
  | waveAborted
  | noDrives
  | conflict
  | abortAll
  deriving DecidableEq, Repr, Inhabited

/-- The four causes of a wave abort (R40). -/
inductive AbortCause where
  | waveAborted
  | noDrives
  | conflict
  | abortAll
  deriving DecidableEq, Repr, Inhabited

/-- One held pool slot: a sector, or a run that stands for the sectors `first` to `last` (R16, R19). -/
structure HeldEntry where
  first : Nat
  last : Nat
  isRun : Bool
  payload : List Byte
  deriving DecidableEq, Repr, Inhabited

/-- The sectors of an outstanding WRITE (R26). -/
structure InFlight where
  first : Nat
  count : Nat
  deriving DecidableEq, Repr, Inhabited

/-- An attachment record (R26). -/
structure Attachment where
  drive : Drive
  cursor : Nat
  inFlight : Option InFlight
  deriving DecidableEq, Repr, Inhabited

/-- One wave record (R18) with its held list, oldest first (R19). Occupied is the list's length. -/
structure Wave where
  state : WaveState
  slot : Option SlotNo
  checkFlag : Bool
  capacity : Nat
  held : List HeldEntry
  head : Nat
  releasedTotal : Nat
  lastCredited : Nat
  starvationLimit : Nat
  timerRunning : Bool
  attachments : List Attachment
  endCause : EndCause
  deriving DecidableEq, Repr, Inhabited

/-- A wave after power-on (R18). -/
def Wave.reset : Wave :=
  { state := .idle, slot := none, checkFlag := false, capacity := 0, held := [], head := 0, releasedTotal := 0,
    lastCredited := 0, starvationLimit := Config.defaultStarvation, timerRunning := false, attachments := [],
    endCause := .none }

/-! ### Drives (DPC) and their assignments (AU) -/

/-- Drive states (R49). -/
inductive DriveState where
  | absent
  | empty
  | loading
  | ready
  | burning
  | closing
  | verifying
  | unloading
  | faulted
  deriving DecidableEq, Repr, Inhabited

/-- Phases of LOADING and UNLOADING, in order of first appearance in R49; `noPhase` is none. -/
inductive DrivePhase where
  | trayOpening
  | waitDisc
  | trayClosing
  | speedSet
  | mediaSense
  | waitPick
  | noPhase
  deriving DecidableEq, Repr, Inhabited

/-- Check phases of a drive port and of the printer (R49, R169); `idle` is NONE. -/
inductive CheckPhase where
  | idle
  | checking
  | sensing
  deriving DecidableEq, Repr, Inhabited

/-- Check results (R49, R50). -/
inductive CheckResult where
  | good
  | noResponse
  | linkErrors
  | wrongDevice
  deriving DecidableEq, Repr, Inhabited

/-- Who asked for a SPEED: DPC during loading, or AU after Apply Now (R45). -/
inductive SpeedFor where
  | loading
  | apply
  deriving DecidableEq, Repr, Inhabited

/-- A request on a drive link with its argument (R45). A SPEED also keeps the rung its code came from (R69). -/
inductive DriveRequest where
  | trayOpen
  | trayClose
  | speed (code : Byte) (rung : Rung) (who : SpeedFor)
  | write (first : Nat) (count : Nat) (data : List Byte)
  | close
  | read (first : Nat) (count : Nat)
  | sense
  deriving DecidableEq, Repr, Inhabited

/-- The seven request kinds, in the order of R45. -/
inductive ReqKind where
  | trayOpen
  | trayClose
  | speed
  | write
  | close
  | read
  | sense
  deriving DecidableEq, Repr, Inhabited

/-- The request now on a drive link, with its number (R45, R49). -/
structure OutstandingRequest where
  req : DriveRequest
  number : Byte
  deriving DecidableEq, Repr, Inhabited

/-- The last fault of a drive (R49). -/
inductive DriveFailure where
  | fault (kind : ReqKind) (cause : FaultCause)
  | timeout (kind : ReqKind)
  | noRecord
  deriving DecidableEq, Repr, Inhabited

/-- Kinds of transport entries, in the order of R143. -/
inductive EntryKind where
  | load
  | unload
  | clear
  | return
  | purge
  deriving DecidableEq, Repr, Inhabited

/-- Verify modes in force (R70). -/
inductive VerifyMode where
  | none
  | full
  | sampled
  deriving DecidableEq, Repr, Inhabited

/-- A staged assignment entry, every field as written (R70). -/
structure StagedEntry where
  order : OrderNo
  start : Nat
  floor : Nat
  threshold : Nat
  mode : Nat
  stride : Nat
  tolerance : Nat
  deriving DecidableEq, Repr, Inhabited

/-- A staged entry after power-on: zero in every field (R70). -/
def StagedEntry.reset : StagedEntry :=
  { order := 0, start := 0, floor := 0, threshold := 0, mode := 0, stride := 0, tolerance := 0 }

/-- An assignment with values in force (R70, R71). -/
structure Assignment where
  order : OrderNo
  start : Rung
  floor : Rung
  threshold : Nat
  mode : VerifyMode
  stride : Nat
  tolerance : Nat
  deriving DecidableEq, Repr, Inhabited

/-- Apply status (R71); `idle` is NONE. -/
inductive ApplyStatus where
  | idle
  | pending
  | inProgress
  | success
  | rejOrder
  | rejRung
  | rejVerify
  | rejBusy
  | speedFailed
  deriving DecidableEq, Repr, Inhabited

/-- One drive slot record (R49) with the staged entry (R70) and the assignment fields (R71) of the drive. -/
structure DriveSlot where
  state : DriveState
  phase : DrivePhase
  checkPhase : CheckPhase
  resultsValid : Bool
  checkResult : Option CheckResult
  timeoutCount : Nat
  outstanding : Option OutstandingRequest
  waiting : Option DriveRequest
  nextNumber : Byte
  trayRecord : Option Token
  entry : Option EntryKind
  lastFault : Option DriveFailure
  staged : StagedEntry
  active : Option Assignment
  pendingCopy : Option Assignment
  rung : Rung
  failCount : Nat
  applyStatus : ApplyStatus
  deriving DecidableEq, Repr, Inhabited

/-- A drive slot after power-on: ABSENT and CHECKING (R49, R54, R70, R71). -/
def DriveSlot.reset : DriveSlot :=
  { state := .absent, phase := .noPhase, checkPhase := .checking, resultsValid := false, checkResult := none,
    timeoutCount := 0, outstanding := none, waiting := none, nextNumber := 0, trayRecord := none, entry := none,
    lastFault := none, staged := .reset, active := none, pendingCopy := none, rung := 0, failCount := 0,
    applyStatus := .idle }

/-! ### Verification (VE) -/

/-- Verify sub-states (R100); `outside` is NONE. -/
inductive SubState where
  | outside
  | queued
  | active
  deriving DecidableEq, Repr, Inhabited

/-- Block list modes (R100). -/
inductive ListMode where
  | full
  | sampled
  deriving DecidableEq, Repr, Inhabited

/-- How a drive's last verify ended (R100); `notYet` is NONE. -/
inductive LastEnding where
  | notYet
  | pass
  | verifyErrors
  | unreadable
  | abortAll
  | driveFault
  | removed
  deriving DecidableEq, Repr, Inhabited

/-- The progress fields of a verify: what a context copies from and to the save (R103). -/
structure Progress where
  next : Nat
  compared : Nat
  errors : Nat
  readFaults : Nat
  consecutive : Nat
  firstError : Option Nat
  deriving DecidableEq, Repr, Inhabited

/-- Progress at the start of a verify and after power-on (R100, R101). -/
def Progress.reset : Progress :=
  { next := 0, compared := 0, errors := 0, readFaults := 0, consecutive := 0, firstError := none }

/-- One verify save (R100). -/
structure VerifySave where
  sub : SubState
  slot : Option SlotNo
  length : Nat
  lastBlock : Nat
  mode : Option ListMode
  stride : Option Nat
  tolerance : Nat
  progress : Progress
  lastEnding : LastEnding
  deriving DecidableEq, Repr, Inhabited

/-- A verify save after power-on (R100). -/
def VerifySave.reset : VerifySave :=
  { sub := .outside, slot := none, length := 0, lastBlock := 0, mode := none, stride := none, tolerance := 0,
    progress := .reset, lastEnding := .notYet }

/-- The blocks of an outstanding READ (R103). -/
structure OutstandingRead where
  first : Nat
  blocks : Nat
  deriving DecidableEq, Repr, Inhabited

/-- A BUSY compare context (R103). -/
structure Context where
  drive : Drive
  work : Progress
  slice : Nat
  reading : Option OutstandingRead
  deriving DecidableEq, Repr, Inhabited

/-! ### Transport (TC) -/

/-- One station map entry with its counts (R139). The class and LOADED belong to a spindle, the capacity to a
bin, the count to both. -/
structure Station where
  kind : StationKind
  lift : Nat
  rotate : Nat
  mediaClass : Nat
  count : Nat
  loaded : Bool
  capacity : Nat
  deriving DecidableEq, Repr, Inhabited

/-- A map entry until the settings load ends (R139, R201). -/
def Station.reset : Station :=
  { kind := .noKind, lift := 0, rotate := 0, mediaClass := 0, count := 0, loaded := false, capacity := 0 }

/-- Source of a queue entry (R143). -/
inductive Source where
  | station (i : StationNo)
  | mediaClass (c : Nat)
  | arm
  deriving DecidableEq, Repr, Inhabited

/-- Destination of a queue entry (R143). -/
inductive Dest where
  | station (i : StationNo)
  | byVerdict
  deriving DecidableEq, Repr, Inhabited

/-- One transport queue entry (R143). `srcAt` and `dstAt` are what the dispatch resolved (R147), `setAside` the
record set aside for a LOAD's pick (R147), `pickSent` whether its PICK has been sent (R141, R161). -/
structure Entry where
  kind : EntryKind
  source : Source
  dest : Dest
  token : Option Token
  drive : Option Drive
  order : Option OrderNo
  passOver : Nat
  current : Bool
  srcAt : Option StationNo
  dstAt : Option StationNo
  setAside : Option RecNo
  pickSent : Bool
  deriving DecidableEq, Repr, Inhabited

/-- Transport modes (R155). -/
inductive TransportMode where
  | parked
  | running
  | held
  deriving DecidableEq, Repr, Inhabited

/-- Arm phases (R155). -/
inductive ArmPhase where
  | idle
  | homing
  | travelSrc
  | pick
  | travelDst
  | place
  deriving DecidableEq, Repr, Inhabited

/-- Arm operations with their arguments (R148). -/
inductive ArmOp where
  | goto (lift : Nat) (rotate : Nat)
  | pick
  | place
  | home
  deriving DecidableEq, Repr, Inhabited

/-- The operation now on the arm port (R155). -/
structure OutstandingOp where
  op : ArmOp
  number : Byte
  abandoned : Bool
  deriving DecidableEq, Repr, Inhabited

/-- Held causes, in the order of R155. -/
inductive HeldCause where
  | timeout
  | stuck
  | dropped
  | miss
  | refused
  | noRecord
  deriving DecidableEq, Repr, Inhabited

/-- The transport record (R155). The current entry is the queue entry whose `current` is set. -/
structure Transport where
  mode : TransportMode
  phase : ArmPhase
  pickMisses : Nat
  outstanding : Option OutstandingOp
  nextNumber : Byte
  parkWaiting : Bool
  heldCause : Option HeldCause
  autoFeed : Bool
  heldCopy : Bool
  deriving DecidableEq, Repr, Inhabited

/-- The transport record after power-on (R155). -/
def Transport.reset : Transport :=
  { mode := .parked, phase := .idle, pickMisses := 0, outstanding := none, nextNumber := 0, parkWaiting := false,
    heldCause := none, autoFeed := false, heldCopy := false }

/-! ### Label printing (LPC) -/

/-- Artwork slot states (R163). -/
inductive ArtState where
  | empty
  | filling
  | ready
  deriving DecidableEq, Repr, Inhabited

/-- One artwork slot with the bytes received so far (R163); the fill point is their number. -/
structure Artwork where
  state : ArtState
  length : Nat
  check : Word32
  bytes : List Byte
  crc : Word32
  inUse : Bool
  deriving DecidableEq, Repr, Inhabited

/-- An artwork slot after power-on (R163). -/
def Artwork.reset : Artwork :=
  { state := .empty, length := 0, check := 0, bytes := [], crc := 0xFFFFFFFF#32, inUse := false }

/-- One label template (R167). -/
structure Template where
  art : ArtNo
  serialEnabled : Bool
  text : List Byte
  nextSerial : Nat
  issued : Word32
  printed : Word32
  voided : Word32
  deriving DecidableEq, Repr, Inhabited

/-- A template after power-on (R167). -/
def Template.reset : Template :=
  { art := 0, serialEnabled := false, text := [], nextSerial := 0, issued := 0, printed := 0, voided := 0 }

/-- Printer states (R169). -/
inductive PrinterState where
  | offline
  | idle
  | opened
  | printing
  | discharge
  | faulted
  deriving DecidableEq, Repr, Inhabited

/-- Printer phases, in order of first appearance in R169; `noPhase` is NONE. -/
inductive PrinterPhase where
  | noPhase
  | opening
  | closing
  | trayIn
  | start
  | band
  | finish
  | ejecting
  | waitPick
  deriving DecidableEq, Repr, Inhabited

/-- A request on the printer link with its argument (R168); the text of a START is absent when none is sent. -/
inductive PrinterRequest where
  | trayOut
  | trayIn
  | sense
  | start (text : Option (List Byte))
  | band (index : Nat) (bytes : List Byte)
  | finish
  deriving DecidableEq, Repr, Inhabited

/-- The six printer request kinds, in the order of R168. -/
inductive PrinterReqKind where
  | trayOut
  | trayIn
  | sense
  | start
  | band
  | finish
  deriving DecidableEq, Repr, Inhabited

/-- The request now on the printer link (R169). -/
structure OutstandingPrint where
  req : PrinterRequest
  number : Byte
  deriving DecidableEq, Repr, Inhabited

/-- The snapshot of a print (R169, R173). -/
structure Snapshot where
  template : TmplNo
  art : ArtNo
  length : Nat
  serialEnabled : Bool
  text : List Byte
  serial : Option Nat
  deriving DecidableEq, Repr, Inhabited

/-- The last fault of the printer (R169). -/
inductive PrinterFailure where
  | fault (kind : PrinterReqKind) (cause : PrinterFaultCause)
  | timeout (kind : PrinterReqKind)
  | noRecord
  deriving DecidableEq, Repr, Inhabited

/-- Causes of the PRINTER event (R180). -/
inductive PrinterCause where
  | failure (f : PrinterFailure)
  | check (r : CheckResult)
  | artworkNotReady
  | repeatedFaults
  | reset
  | abortAll
  deriving DecidableEq, Repr, Inhabited

/-- The printer record (R169). `resetRunning` is set while the check of a Printer Reset or its follow-up runs,
since R171 raises PRINTER at its end. -/
structure Printer where
  state : PrinterState
  phase : PrinterPhase
  checkPhase : CheckPhase
  checkResult : Option CheckResult
  outstanding : Option OutstandingPrint
  waiting : Option PrinterRequest
  nextNumber : Byte
  token : Option Token
  snapshot : Option Snapshot
  bandsLeft : Nat
  faultRun : Nat
  lastFault : Option PrinterFailure
  resetRunning : Bool
  deriving DecidableEq, Repr, Inhabited

/-- The printer record after power-on (R169). -/
def Printer.reset : Printer :=
  { state := .offline, phase := .noPhase, checkPhase := .checking, checkResult := none, outstanding := none,
    waiting := none, nextNumber := 0, token := none, snapshot := none, bandsLeft := 0, faultRun := 0,
    lastFault := none, resetRunning := false }

/-! ### Feed link (FP) and events (EQU) -/

/-- Discard causes, in the order of R183. -/
inductive DiscardCause where
  | badCheck
  | format
  | noWave
  | sequence
  | length
  | overrun
  | artwork
  deriving DecidableEq, Repr, Inhabited

/-- Status codes of a REPLY, in the order of R190. -/
inductive Status where
  | ok
  | busy
  | state
  | range
  | noSpace
  | format
  | unknown
  | ignored
  deriving DecidableEq, Repr, Inhabited

/-- The fifteen event classes, in the order of R195. -/
inductive EventClass where
  | feedError
  | driveState
  | applyDone
  | waveState
  | detach
  | imageState
  | downshift
  | spindleEmpty
  | binFull
  | armHeld
  | portCheck
  | orderState
  | printer
  | artwork
  | settings
  deriving DecidableEq, Repr, Inhabited

/-- SETTINGS results (R201). -/
inductive SettingsResult where
  | loaded
  | done
  | failed
  deriving DecidableEq, Repr, Inhabited

/-- The single-value fields of an event's payload, class by class (R195). A rung absent in DOWNSHIFT is
BLOCKED. -/
inductive EventValue where
  | feedError (cause : DiscardCause)
  | wave (w : WaveNo) (state : WaveState) (cause : WaveCause)
  | detach (w : WaveNo)
  | image (i : SlotNo) (state : ImageState) (cause : ImageCause)
  | downshift (d : Drive) (rung : Option Rung)
  | armHeld (cause : HeldCause)
  | printer (state : PrinterState) (cause : PrinterCause)
  | artwork (ready : Bool)
  | settings (result : SettingsResult)
  deriving DecidableEq, Repr, Inhabited

/-- One event class record (R195). -/
structure EventRecord where
  enabled : Bool
  pending : Bool
  overwritten : Bool
  placed : Bool
  mask : Word16
  value : Option EventValue
  count : Nat
  deriving DecidableEq, Repr, Inhabited

/-- An event class record after power-on: enabled, nothing pending (R195). -/
def EventRecord.reset : EventRecord :=
  { enabled := true, pending := false, overwritten := false, placed := false, mask := 0, value := none,
    count := 0 }

/-- A frame of the outbound list (R182, R191). The contents of an EVENT frame are taken when it is sent (R197);
a QUERY-RESULT holds the answer's bytes, taken at the Query's arrival (R199). -/
inductive OutFrame where
  | reply (tag : Word16) (kind : AnsweredKind) (number : Byte) (status : Status) (original : Option Status)
      (refused : Word16) (ignored : Word16)
  | event (c : EventClass)
  | credit (w : WaveNo) (released : Nat) (head : Nat)
  | discDone (n : RecNo) (r : DiscRecord) (final : Place) (verdict : Verdict)
  | queryResult (tag : Word16) (selector : Byte) (index : Byte) (body : List Byte)
  deriving DecidableEq, Repr, Inhabited

/-- The feed port record (R183); the outbound list stands in `State.outbound`. `sent` is the model's own field:
the bytes of the frame FP last sent (log entry 28). -/
structure FeedPort where
  accepted : Nat
  discards : Vector Nat 7
  lastTag : Option Word16
  lastStatus : Option Status
  restartPending : Bool
  sent : Option (List Byte)
  deriving DecidableEq, Repr, Inhabited

/-- The feed port record after power-on (R183). -/
def FeedPort.reset : FeedPort :=
  { accepted := 0, discards := Vector.replicate 7 0, lastTag := none, lastStatus := none, restartPending := true,
    sent := none }

/-! ### Stored settings (EQU) -/

/-- The settings access (R200). -/
inductive SettingsAccess where
  | idle
  | loading
  | storing
  deriving DecidableEq, Repr, Inhabited

/-- The settings access, its written flags, the copy being stored, and the EEPROM on the SPI port (R200, R202).
`failedStores` counts the failed stores: the index of the next free value (log entry 11). -/
structure Settings where
  access : SettingsAccess
  ladderWritten : Vector Bool 8
  mapWritten : Vector Bool 24
  storing : Option SettingsValues
  eeprom : StoredImage
  failedStores : Nat
  deriving DecidableEq, Repr, Inhabited

/-- An EEPROM of which nothing is known: zeros with a CRC of 0 (log entry 10, DESIGN CHOICE). -/
def blankImage : StoredImage :=
  { values := { codes := Vector.replicate 8 0,
                stations := Vector.replicate 24 { kind := .noKind, lift := 0, rotate := 0, value := 0 } },
    crc := 0 }

/-- The settings access after power-on: LOADING, no entry written (R200). -/
def Settings.reset : Settings :=
  { access := .loading, ladderWritten := Vector.replicate 8 false, mapWritten := Vector.replicate 24 false,
    storing := none, eeprom := blankImage, failedStores := 0 }

/-! ### The whole state -/

/-- The state of the TD16 and the queue of commands that wait, oldest first. -/
structure State where
  images : Vector ImageSlot 4
  accs : Vector Accumulator 4
  waves : Vector Wave 4
  drives : Vector DriveSlot 16
  ladder : Vector Byte 8
  saves : Vector VerifySave 16
  verifyQueue : List Drive
  contexts : Vector (Option Context) 4
  orders : Vector Order 8
  records : Vector DiscRecord 64
  stations : Vector Station 24
  queue : List Entry
  transport : Transport
  artworks : Vector Artwork 8
  templates : Vector Template 8
  printer : Printer
  feed : FeedPort
  outbound : List OutFrame
  events : Vector EventRecord 15
  settings : Settings
  pending : List Instr
  deriving DecidableEq, Repr

/-- The TD16 right after power-on (R203): every block at its starting values, the settings load, the sixteen
port checks and the printer link check begun, the transport PARKED. -/
def State.reset : State :=
  { images := Vector.replicate 4 .reset
    accs := Vector.replicate 4 .reset
    waves := Vector.replicate 4 .reset
    drives := Vector.replicate 16 .reset
    ladder := Vector.replicate 8 0
    saves := Vector.replicate 16 .reset
    verifyQueue := []
    contexts := Vector.replicate 4 none
    orders := Vector.replicate 8 .reset
    records := Vector.replicate 64 .reset
    stations := Vector.replicate 24 .reset
    queue := []
    transport := .reset
    artworks := Vector.replicate 8 .reset
    templates := Vector.replicate 8 .reset
    printer := .reset
    feed := .reset
    outbound := []
    events := Vector.replicate 15 .reset
    settings := .reset
    pending := [] }

/-- Reasons to stop with a fault. There is none: what the manual calls faults are effects on the state
(records, events, replies), so no command of the TD16 stops the machine. -/
inductive Fault where
  deriving DecidableEq, Repr

/-- Reasons to refuse a command. -/
inductive Refusal where
  /-- Raised by exec's arm of a command that has no meaning yet; safe: nothing is claimed of that command.
  No arm raises it in this model. -/
  | notModelled (mnemonic : String)
  deriving DecidableEq, Repr

end Sys2Proof.Machine
end

