-- ==== Sys2Proof/Machine/Ops.lean ====
section
/-! DEFINITION. The named operations over the state: the accessors of every table, one update for each, the
fields that the manual names and another field determines, and the reads of disc records. -/

namespace Sys2Proof.Machine

/-! ### Reads of the tables -/

/-- Image slot `i` (R1). -/
def State.image (s : State) (i : SlotNo) : ImageSlot := s.images[i.val]
/-- The accumulator of wave `w` (R7). -/
def State.acc (s : State) (w : WaveNo) : Accumulator := s.accs[w.val]
/-- Wave `w` (R18). -/
def State.wave (s : State) (w : WaveNo) : Wave := s.waves[w.val]
/-- The slot record of drive `d` (R49). -/
def State.drive (s : State) (d : Drive) : DriveSlot := s.drives[d.val]
/-- The speed code at rung `r` (R68). -/
def State.code (s : State) (r : Rung) : Byte := s.ladder[r.val]
/-- The verify save of drive `d` (R100). -/
def State.save (s : State) (d : Drive) : VerifySave := s.saves[d.val]
/-- Compare context `c` (R103). -/
def State.context (s : State) (c : Fin 4) : Option Context := s.contexts[c.val]
/-- Order `o` (R120). -/
def State.order (s : State) (o : OrderNo) : Order := s.orders[o.val]
/-- Disc record `n` (R129). -/
def State.record (s : State) (n : RecNo) : DiscRecord := s.records[n.val]
/-- Station map entry `i` (R139). -/
def State.station (s : State) (i : StationNo) : Station := s.stations[i.val]
/-- Artwork slot `a` (R163). -/
def State.artwork (s : State) (a : ArtNo) : Artwork := s.artworks[a.val]
/-- Template `l` (R167). -/
def State.template (s : State) (l : TmplNo) : Template := s.templates[l.val]

/-- The number of an event class (R195). -/
def EventClass.idx (c : EventClass) : Fin 15 := ⟨c.ctorIdx, by cases c <;> decide⟩
/-- The position of a discard cause in the list of R183. -/
def DiscardCause.idx (c : DiscardCause) : Fin 7 := ⟨c.ctorIdx, by cases c <;> decide⟩

/-- The record of event class `c` (R195). -/
def State.event (s : State) (c : EventClass) : EventRecord := s.events[c.idx.val]

/-! ### Updates of the tables -/

/-- Image slot `i` changed by `f`. -/
def State.modImage (s : State) (i : SlotNo) (f : ImageSlot → ImageSlot) : State :=
  { s with images := s.images.set i.val (f (s.image i)) i.isLt }
/-- The accumulator of wave `w` changed by `f`. -/
def State.modAcc (s : State) (w : WaveNo) (f : Accumulator → Accumulator) : State :=
  { s with accs := s.accs.set w.val (f (s.acc w)) w.isLt }
/-- Wave `w` changed by `f`. -/
def State.modWave (s : State) (w : WaveNo) (f : Wave → Wave) : State :=
  { s with waves := s.waves.set w.val (f (s.wave w)) w.isLt }
/-- Drive `d` changed by `f`. -/
def State.modDrive (s : State) (d : Drive) (f : DriveSlot → DriveSlot) : State :=
  { s with drives := s.drives.set d.val (f (s.drive d)) d.isLt }
/-- The speed code at rung `r` replaced. -/
def State.setCode (s : State) (r : Rung) (code : Byte) : State :=
  { s with ladder := s.ladder.set r.val code r.isLt }
/-- The verify save of drive `d` changed by `f`. -/
def State.modSave (s : State) (d : Drive) (f : VerifySave → VerifySave) : State :=
  { s with saves := s.saves.set d.val (f (s.save d)) d.isLt }
/-- The verify queue replaced. -/
def State.setVerifyQueue (s : State) (q : List Drive) : State := { s with verifyQueue := q }
/-- Compare context `c` replaced. -/
def State.setContext (s : State) (c : Fin 4) (x : Option Context) : State :=
  { s with contexts := s.contexts.set c.val x c.isLt }
/-- Order `o` changed by `f`. -/
def State.modOrder (s : State) (o : OrderNo) (f : Order → Order) : State :=
  { s with orders := s.orders.set o.val (f (s.order o)) o.isLt }
/-- Disc record `n` changed by `f`. -/
def State.modRecord (s : State) (n : RecNo) (f : DiscRecord → DiscRecord) : State :=
  { s with records := s.records.set n.val (f (s.record n)) n.isLt }
/-- Station map entry `i` changed by `f`. -/
def State.modStation (s : State) (i : StationNo) (f : Station → Station) : State :=
  { s with stations := s.stations.set i.val (f (s.station i)) i.isLt }
/-- The transport queue replaced. -/
def State.setQueue (s : State) (q : List Entry) : State := { s with queue := q }
/-- The transport record changed by `f`. -/
def State.modTransport (s : State) (f : Transport → Transport) : State :=
  { s with transport := f s.transport }
/-- Artwork slot `a` changed by `f`. -/
def State.modArtwork (s : State) (a : ArtNo) (f : Artwork → Artwork) : State :=
  { s with artworks := s.artworks.set a.val (f (s.artwork a)) a.isLt }
/-- Template `l` changed by `f`. -/
def State.modTemplate (s : State) (l : TmplNo) (f : Template → Template) : State :=
  { s with templates := s.templates.set l.val (f (s.template l)) l.isLt }
/-- The printer record changed by `f`. -/
def State.modPrinter (s : State) (f : Printer → Printer) : State := { s with printer := f s.printer }
/-- The feed port record changed by `f`. -/
def State.modFeed (s : State) (f : FeedPort → FeedPort) : State := { s with feed := f s.feed }
/-- The outbound list replaced. -/
def State.setOutbound (s : State) (l : List OutFrame) : State := { s with outbound := l }
/-- The record of event class `c` changed by `f`. -/
def State.modEvent (s : State) (c : EventClass) (f : EventRecord → EventRecord) : State :=
  { s with events := s.events.set c.idx.val (f (s.event c)) c.idx.isLt }
/-- The settings access changed by `f`. -/
def State.modSettings (s : State) (f : Settings → Settings) : State := { s with settings := f s.settings }

/-- A frame joins the outbound list at its end (R191). -/
def State.emit (s : State) (f : OutFrame) : State := s.setOutbound (s.outbound ++ [f])

/-! ### The numbered things, in ascending order -/

/-- D0 to D15. -/
def allDrives : List Drive := List.finRange 16
/-- W0 to W3. -/
def allWaves : List WaveNo := List.finRange 4
/-- O0 to O7. -/
def allOrders : List OrderNo := List.finRange 8
/-- The disc records, 0 to 63. -/
def allRecords : List RecNo := List.finRange 64
/-- The stations, 0 to 23. -/
def allStations : List StationNo := List.finRange 24
/-- S0 to S3 as stations. -/
def spindleStations : List StationNo := [0, 1, 2, 3]

/-! ### Fields that another field determines -/

/-- The number of blocks of an image: ceil(length / 16). -/
def blocksOf (length : Nat) : Nat := (length + 15) / 16
/-- Blocks recorded (R1): the entries of the digest table that hold digests. -/
def ImageSlot.blocksRecorded (i : ImageSlot) : Nat := i.digests.length
/-- Occupied (R18, R19): the length of the held list. -/
def Wave.occupied (w : Wave) : Nat := w.held.length
/-- The window capacities of all waves together (R17); an IDLE wave's capacity is 0. -/
def State.capacitySum (s : State) : Nat := (allWaves.map (fun w => (s.wave w).capacity)).sum
/-- The free slots of the pool (R17). -/
def State.freeSlots (s : State) : Nat :=
  Config.poolSlots - (allWaves.map (fun w => (s.wave w).occupied)).sum
/-- The fill point of an artwork slot (R163). -/
def Artwork.fillPoint (a : Artwork) : Nat := a.bytes.length
/-- Remaining (R120): quantity − passed − in-progress. -/
def Order.remaining (o : Order) : Nat := o.quantity - o.passed - o.inProgress
/-- The current entry of the transport queue (R143, R155). -/
def State.currentEntry (s : State) : Option Entry := s.queue.find? (·.current)
/-- The class of an entry, fixed by its kind (R143). -/
def Entry.class (e : Entry) : Nat :=
  match e.kind with
  | .purge => 0
  | .clear => 1
  | .unload => 2
  | .return => 2
  | .load => 3

/-! ### Stations (R139) -/

/-- PR. -/
def stationPR : StationNo := 20
/-- B0. -/
def stationB0 : StationNo := 21
/-- B1. -/
def stationB1 : StationNo := 22
/-- BX. -/
def stationBX : StationNo := 23
/-- The tray of drive `d`. -/
def trayOf (d : Drive) : StationNo := ⟨d.val + 4, by omega⟩
/-- The drive whose tray station `i` is. -/
def trayDrive (i : StationNo) : Option Drive :=
  if h : 4 ≤ i.val ∧ i.val < 20 then some ⟨i.val - 4, by omega⟩ else none
/-- Spindle `i` as a station. -/
def spindleStation (i : Fin 4) : StationNo := ⟨i.val, by omega⟩
/-- The spindle that station `i` is. -/
def stationSpindle (i : StationNo) : Option (Fin 4) :=
  if h : i.val < 4 then some ⟨i.val, h⟩ else none
/-- The fixed kind of the station at index `i` (R139). -/
def kindOfStation (i : StationNo) : StationKind :=
  if i.val < 4 then .spindle else if i.val < 20 then .tray else if i.val = 20 then .printer else .bin
/-- The map is VALID while every entry holds the kind of its station (R139). -/
def State.mapValid (s : State) : Bool :=
  allStations.all (fun i => decide ((s.station i).kind = kindOfStation i))
/-- The lowest-numbered LOADED spindle of a media class (R147). -/
def State.loadedSpindle (s : State) (cls : Nat) : Option StationNo :=
  spindleStations.find? (fun i => (s.station i).loaded && decide ((s.station i).mediaClass = cls))

/-! ### Disc records (R129 to R133) -/

/-- The lowest-numbered free disc record (R130). -/
def State.freeRecord (s : State) : Option RecNo :=
  allRecords.find? (fun n => decide ((s.record n).use = .free))
/-- A token names a record in use when the record is in use with that generation (R131). -/
def State.live (s : State) (t : Token) : Bool :=
  decide ((s.record t.num).use = .inUse) && decide ((s.record t.num).gen = t.gen)
/-- The record a token names, if it is in use with that generation. -/
def State.liveRecord (s : State) (t : Token) : Option DiscRecord :=
  if s.live t then some (s.record t.num) else none
/-- A block's write to a record: dropped unless the token names a record in use (R131). -/
def State.writeRecord (s : State) (t : Token) (f : DiscRecord → DiscRecord) : State :=
  if s.live t then s.modRecord t.num f else s
/-- A write through an optional token. -/
def State.writeRecord? (s : State) (t : Option Token) (f : DiscRecord → DiscRecord) : State :=
  match t with
  | some t => s.writeRecord t f
  | none => s
/-- A record keeps the first fail cause it is given (R132). -/
def DiscRecord.addCause (r : DiscRecord) (c : FailCause) : DiscRecord :=
  { r with cause := r.cause <|> some c }
/-- A block gives a record a fail cause (R132). -/
def State.giveCause (s : State) (t : Option Token) (c : FailCause) : State :=
  s.writeRecord? t (·.addCause c)
/-- The record a drive's tray holds, if in use. -/
def State.trayRecordOf (s : State) (d : Drive) : Option DiscRecord :=
  (s.drive d).trayRecord.bind s.liveRecord
/-- The order named by the record of a token. -/
def State.orderOf (s : State) (t : Option Token) : Option OrderNo :=
  (t.bind s.liveRecord).bind (·.order)
/-- The template named by the order of a record (R61, R136, R173). -/
def State.templateOf (s : State) (t : Option Token) : Option TmplNo :=
  (s.orderOf t).bind (fun o => (s.order o).template)

/-- The verdict at dispatch: tests 1, 3 and 4 of R133. -/
def DiscRecord.verdictAtDispatch (r : DiscRecord) : Verdict :=
  if r.cause.isSome then .fail
  else if r.burn = .pass ∧ (r.verify = .pass ∨ r.verify = .skipped) ∧
      (r.print = .pass ∨ r.print = .notRequired) then .pass
  else .fail

/-- The record ends at a spindle (R133 test 2). -/
def Place.isSpindle : Place → Bool
  | .station i => decide (i.val < 4)
  | _ => false

/-- The verdict at the end of a record (R133). -/
def DiscRecord.verdictAtEnd (r : DiscRecord) (final : Place) : Verdict :=
  if r.cause.isSome then .fail
  else if final.isSpindle then .returned
  else r.verdictAtDispatch

/-- A record is taken into use with the fields given (R130): the generation rises by 1, from 255 to 0. -/
def State.takeRecord (s : State) (n : RecNo) (init : DiscRecord) : State :=
  s.modRecord n (fun r => { init with use := .inUse, gen := r.gen + 1 })

/-- The token of the record `n` after it has been taken into use in state `s`. -/
def State.nextToken (s : State) (n : RecNo) : Token := ⟨n, (s.record n).gen + 1⟩

/-- The starting values of R130 for a field a creation does not name. -/
def DiscRecord.fresh (origin : Origin) (cls : Nat) (location : Place) : DiscRecord :=
  { DiscRecord.reset with origin := origin, mediaClass := cls, location := location, print := .notRequired }

/-- An orphan record's fields (R51, R130, R156, R170). -/
def DiscRecord.orphanAt (cls : Nat) (drive : Option Drive) (location : Place) : DiscRecord :=
  { DiscRecord.fresh .orphan cls location with drive := drive, cause := some .orphan }

/-- A set-aside record goes back to the free records (R147). -/
def State.returnSetAside (s : State) (n : Option RecNo) : State :=
  match n with
  | some n => s.modRecord n (fun r => if r.use = .setAside then { r with use := .free } else r)
  | none => s

end Sys2Proof.Machine
end

