-- ==== Sys2Proof/Machine/Flags.lean ====
section
/-! DEFINITION. The flags of the event class records: raising and merging an event (R196), placing its frame
(R197), enabling and disabling a class (R198); and FP's counters and REPLYs (R183, R185, R189, R190). -/

namespace Sys2Proof.Machine

/-- A raised event merged into its class record (R196). Only FEED-ERROR has a counted field. -/
def EventRecord.merge (r : EventRecord) (counted : Bool) (mask : Word16) (value : Option EventValue) :
    EventRecord :=
  if r.pending then
    { r with
      mask := r.mask ||| mask
      value := value
      overwritten := r.overwritten || decide (r.value ≠ value)
      count := if counted then min 65535 (r.count + 1) else r.count }
  else
    { r with pending := true, mask := mask, value := value, count := if counted then 1 else 0 }

/-- One EVENT frame of the class joins the outbound list and the place flag is set (R197). -/
def State.placeEvent (s : State) (c : EventClass) : State :=
  (s.modEvent c (fun r => { r with placed := true })).emit (.event c)

/-- A block raises an event (R196, R197): it is merged at once, and a raise that makes an enabled record
pending places its frame. -/
def State.raise (s : State) (c : EventClass) (mask : Word16) (value : Option EventValue) : State :=
  let before := s.event c
  let merged := s.modEvent c (fun r => r.merge (decide (c = .feedError)) mask value)
  if before.enabled && !before.pending then merged.placeEvent c else merged

/-- The mask with bit `n` set. -/
def bitMask (n : Nat) : Word16 := 1#16 <<< n

/-- DRIVE-STATE with the bit of drive `d` (R66). -/
def State.raiseDrive (s : State) (d : Drive) : State := s.raise .driveState (bitMask d.val) none
/-- APPLY-DONE with the bit of drive `d` (R82). -/
def State.raiseApply (s : State) (d : Drive) : State := s.raise .applyDone (bitMask d.val) none
/-- WAVE-STATE (R43). -/
def State.raiseWave (s : State) (w : WaveNo) (st : WaveState) (c : WaveCause) : State :=
  s.raise .waveState 0 (some (.wave w st c))
/-- IMAGE-STATE (R14). -/
def State.raiseImage (s : State) (i : SlotNo) (st : ImageState) (c : ImageCause) : State :=
  s.raise .imageState 0 (some (.image i st c))
/-- ORDER-STATE with the bit of order `o` (R137). -/
def State.raiseOrder (s : State) (o : OrderNo) : State := s.raise .orderState (bitMask o.val) none
/-- PRINTER (R180). -/
def State.raisePrinter (s : State) (st : PrinterState) (c : PrinterCause) : State :=
  s.raise .printer 0 (some (.printer st c))
/-- FEED-ERROR (R185). -/
def State.raiseFeedError (s : State) (c : DiscardCause) : State :=
  s.raise .feedError 0 (some (.feedError c))

/-- A class record after its frame's contents have been taken (R197). -/
def EventRecord.cleared (r : EventRecord) : EventRecord :=
  { r with pending := false, overwritten := false, placed := false, mask := 0, value := none, count := 0 }

/-- Event Enable for one class (R198): a class enabled while pending has its frame placed; a class disabled
while its frame stands in the list has that frame taken out. -/
def State.enableClass (s : State) (c : EventClass) (on : Bool) : State :=
  let r := s.event c
  if r.enabled = on then s
  else
    let t := s.modEvent c (fun r => { r with enabled := on })
    if on then (if r.pending then t.placeEvent c else t)
    else if r.placed then
      (t.modEvent c (fun r => { r with placed := false })).setOutbound
        (t.outbound.filter (fun f => decide (f ≠ .event c)))
    else t

/-- The fifteen classes in order. -/
def allClasses : List EventClass :=
  [.feedError, .driveState, .applyDone, .waveState, .detach, .imageState, .downshift, .spindleEmpty, .binFull,
   .armHeld, .portCheck, .orderState, .printer, .artwork, .settings]

/-! ### FP's counters -/

/-- A counter of FP rises by 1 and stops at 0xFFFFFFFF (R183). -/
def countUp (n : Nat) : Nat := min Config.counterMax (n + 1)

/-- An inbound frame is not discarded (R185). -/
def State.countAccepted (s : State) : State := s.modFeed (fun p => { p with accepted := countUp p.accepted })

/-- A frame is discarded whole: the counter of its cause rises and FEED-ERROR is raised (R185). -/
def State.discard (s : State) (c : DiscardCause) : State :=
  (s.modFeed (fun p => { p with
    discards := p.discards.set c.idx.val (countUp p.discards[c.idx.val]) c.idx.isLt })).raiseFeedError c

/-! ### REPLYs -/

/-- What a REPLY answers: its frame's tag, kind and number (R190). -/
structure ReplyTo where
  tag : Word16
  kind : AnsweredKind
  number : Byte
  deriving DecidableEq, Repr, Inhabited

/-- A REPLY other than IGNORED (R189, R190): it sets the last tag and the last status, and the frame is counted
as accepted (R185). -/
def State.reply (s : State) (rt : ReplyTo) (st : Status) (refused ignored : Word16) : State :=
  ((s.modFeed (fun p => { p with lastTag := some rt.tag, lastStatus := some st })).countAccepted).emit
    (.reply rt.tag rt.kind rt.number st none refused ignored)

/-- A REPLY that carries no masks. -/
def State.replyPlain (s : State) (rt : ReplyTo) (st : Status) : State := s.reply rt st 0 0

/-- The REPLY to a resend of the last frame answered: IGNORED with the last status (R189). -/
def State.replyIgnored (s : State) (rt : ReplyTo) : State :=
  s.countAccepted.emit (.reply rt.tag rt.kind rt.number .ignored s.feed.lastStatus 0 0)

/-- A frame with RESEND whose tag equals the last tag is not handed on (R189). -/
def State.isResend (s : State) (tag : Word16) (resend : Bool) : Bool :=
  resend && decide (s.feed.lastTag = some tag)

/-- How FP deals with a checked frame (R187 to R189): a resend of the last frame is answered IGNORED, a body
that does not parse is answered FORMAT, and anything else goes to its owner, who answers it. -/
def State.answer {α : Type} (s : State) (rt : ReplyTo) (resend : Bool) (args : Option α)
    (owner : α → State → State) : State :=
  if s.isResend rt.tag resend then s.replyIgnored rt
  else
    match args with
    | none => s.replyPlain rt .format
    | some a => owner a s

end Sys2Proof.Machine
end

