-- ==== Sys2Proof/Machine/Encode.lean ====
section
/-! DEFINITION. The bytes of outbound frames: the encodings of R192, the common header and trailer of R181 and
R182, and the bodies of REPLY, EVENT, CREDIT and DISC-DONE (R190, R193). -/

namespace Sys2Proof.Machine

/-! ### Numbers and absent fields (R192) -/

/-- A number in 1 byte. -/
def enc8 (n : Nat) : List Byte := [BitVec.ofNat 8 n]
/-- The bytes of a two-byte field, most significant first (R181). -/
def enc16w (w : Word16) : List Byte := [w.extractLsb' 8 8, w.extractLsb' 0 8]
/-- The bytes of a four-byte field, most significant first (R181). -/
def enc32w (w : Word32) : List Byte :=
  [w.extractLsb' 24 8, w.extractLsb' 16 8, w.extractLsb' 8 8, w.extractLsb' 0 8]
/-- A number in 2 bytes. -/
def enc16 (n : Nat) : List Byte := enc16w (BitVec.ofNat 16 n)
/-- A number in 4 bytes. -/
def enc32 (n : Nat) : List Byte := enc32w (BitVec.ofNat 32 n)
/-- An absent field of `n` bytes: all ones. -/
def absentBytes (n : Nat) : List Byte := List.replicate n 0xFF#8
/-- An optional field that takes `n` bytes. -/
def encOpt {α : Type} (n : Nat) (f : α → List Byte) (x : Option α) : List Byte :=
  match x with
  | some a => f a
  | none => absentBytes n
/-- A flag: 1 when set, 0 when clear. -/
def encFlag (b : Bool) : List Byte := enc8 (if b then 1 else 0)
/-- A list of varying length: a 1-byte count, then the items. -/
def encList {α : Type} (f : α → List Byte) (l : List α) : List Byte := enc8 l.length ++ l.flatMap f
/-- A name carried as its number. -/
def encFin {n : Nat} (i : Fin n) : List Byte := enc8 i.val
/-- An optional name. -/
def encFin? {n : Nat} (i : Option (Fin n)) : List Byte := encOpt 1 encFin i
/-- An optional name or number of 4 bytes. -/
def enc32? (x : Option Nat) : List Byte := encOpt 4 enc32 x

/-! ### Enumerated values: their position in the list that defines them (R192) -/

/-- The code of a disc location or final station: the station index, 0xFE for ON-ARM, 0xFD for UNKNOWN. -/
def Place.code : Place → Byte
  | .station i => BitVec.ofNat 8 i.val
  | .onArm => 0xFE#8
  | .unknown => 0xFD#8

/-- The code of an origin: spindle 0 to 3, ORPHAN 4 (R193). -/
def Origin.code : Origin → Byte
  | .spindle i => BitVec.ofNat 8 i.val
  | .orphan => 4#8

/-- A disc token: the record number, then the generation. -/
def Token.bytes (t : Token) : List Byte := encFin t.num ++ [t.gen]

/-- The bytes of a drive's last fault (R192). -/
def DriveFailure.bytes : DriveFailure → List Byte
  | .fault k c => enc8 k.ctorIdx ++ enc8 c.ctorIdx
  | .timeout k => enc8 k.ctorIdx ++ [0x10#8]
  | .noRecord => [0xFF#8, 0x11#8]

/-- The bytes of the printer's last fault (R192). -/
def PrinterFailure.bytes : PrinterFailure → List Byte
  | .fault k c => enc8 k.ctorIdx ++ enc8 c.ctorIdx
  | .timeout k => enc8 k.ctorIdx ++ [0x10#8]
  | .noRecord => [0xFF#8, 0x11#8]

/-- The code of a check result as a PRINTER cause (R192). GOOD is no failure and has no code there. -/
def CheckResult.causeCode : CheckResult → Byte
  | .noResponse => 0x12#8
  | .linkErrors => 0x13#8
  | .wrongDevice => 0x14#8
  | .good => 0xFF#8

/-- The bytes of a PRINTER cause (R192). -/
def PrinterCause.bytes : PrinterCause → List Byte
  | .failure f => f.bytes
  | .check r => [0xFF#8, r.causeCode]
  | .artworkNotReady => [0xFF#8, 0x15#8]
  | .repeatedFaults => [0xFF#8, 0x16#8]
  | .reset => [0xFF#8, 0x17#8]
  | .abortAll => [0xFF#8, 0x18#8]

/-- The kind of a drive request (R45). -/
def DriveRequest.kind : DriveRequest → ReqKind
  | .trayOpen => .trayOpen
  | .trayClose => .trayClose
  | .speed .. => .speed
  | .write .. => .write
  | .close => .close
  | .read .. => .read
  | .sense => .sense

/-- The kind of a printer request (R168). -/
def PrinterRequest.kind : PrinterRequest → PrinterReqKind
  | .trayOut => .trayOut
  | .trayIn => .trayIn
  | .sense => .sense
  | .start .. => .start
  | .band .. => .band
  | .finish => .finish

/-! ### Frames (R181, R182) -/

/-- The header fields of an outbound frame that its kind sets; the others are sent as 0. -/
structure Header where
  kind : Byte
  tag : Word16
  slot : Byte
  count : Byte
  offset : Word32
  deriving DecidableEq, Repr, Inhabited

/-- The bytes of an outbound frame: header, body and the CRC-32 trailer, with RESTART in bit 0 of the flags. -/
def frameBytes (h : Header) (restart : Bool) (body : List Byte) : List Byte :=
  let front := [h.kind, if restart then 1#8 else 0#8] ++ enc16w h.tag ++ enc32 (body.length + 20) ++
    [h.slot, h.count, 0#8, 0#8] ++ enc32w h.offset ++ body
  front ++ enc32w (crc32 front)

/-- The payload of an EVENT frame after its overwritten flag (R193), from the class record. -/
def eventPayload (c : EventClass) (r : EventRecord) : List Byte :=
  match c, r.value with
  | .feedError, some (.feedError cause) => enc8 cause.ctorIdx ++ enc16 r.count
  | .driveState, _ => enc16w r.mask
  | .applyDone, _ => enc16w r.mask
  | .waveState, some (.wave w st cause) => encFin w ++ enc8 st.ctorIdx ++ enc8 cause.ctorIdx
  | .detach, some (.detach w) => encFin w ++ enc16w r.mask
  | .imageState, some (.image i st cause) => encFin i ++ enc8 st.ctorIdx ++ enc8 cause.ctorIdx
  | .downshift, some (.downshift d rung) =>
    encFin d ++ (match rung with | some g => encFin g | none => [0x80#8])
  | .spindleEmpty, _ => [r.mask.setWidth 8]
  | .binFull, _ => [r.mask.setWidth 8]
  | .armHeld, some (.armHeld cause) => enc8 cause.ctorIdx
  | .portCheck, _ => enc16w r.mask
  | .orderState, _ => [r.mask.setWidth 8]
  | .printer, some (.printer st cause) => enc8 st.ctorIdx ++ cause.bytes
  | .artwork, some (.artwork ready) => [r.mask.setWidth 8] ++ (if ready then [0#8] else [1#8])
  | .settings, some (.settings result) => enc8 result.ctorIdx
  | _, _ => []

/-- The body of a REPLY (R190). -/
def replyBody (kind : AnsweredKind) (number : Byte) (status : Status) (original : Option Status)
    (refused ignored : Word16) : List Byte :=
  [match kind with | .table => 0x04#8 | .command => 0x05#8, number] ++ enc8 status.ctorIdx ++
    encOpt 1 (fun st : Status => enc8 st.ctorIdx) original ++ enc16w refused ++ enc16w ignored

/-- The body of a DISC-DONE (R193). `r.location` is the location at the end. -/
def discDoneBody (n : RecNo) (r : DiscRecord) (final : Place) (verdict : Verdict) : List Byte :=
  encFin n ++ [r.gen, r.origin.code] ++ enc8 r.mediaClass ++ enc8 r.discCount ++ encFin? r.order ++
    encFin? r.drive ++ encFin? r.rung ++ encFin? r.slot ++ [r.location.code] ++ enc8 r.burn.ctorIdx ++
    enc8 r.verify.ctorIdx ++ enc8 r.print.ctorIdx ++ encOpt 1 (fun c : FailCause => enc8 c.ctorIdx) r.cause ++
    enc16 r.errorBlocks ++ enc32? r.serial ++ [final.code] ++ enc8 verdict.ctorIdx

/-- The bytes of a frame of the outbound list as it is sent in state `s` (R181, R182, R193). -/
def State.outBytes (s : State) (f : OutFrame) : List Byte :=
  let go (kind : Byte) (tag : Word16) (slot count : Byte) (offset : Word32) (body : List Byte) :=
    frameBytes { kind := kind, tag := tag, slot := slot, count := count, offset := offset }
      s.feed.restartPending body
  match f with
  | .reply tag kind number status original refused ignored =>
    go 0x81#8 tag 0#8 0#8 0#32 (replyBody kind number status original refused ignored)
  | .event c =>
    let r := s.event c
    go 0x82#8 0#16 0#8 (BitVec.ofNat 8 c.ctorIdx) 0#32 (encFlag r.overwritten ++ eventPayload c r)
  | .credit w released head =>
    go 0x83#8 0#16 (BitVec.ofNat 8 w.val) 0#8 (BitVec.ofNat 32 head) (enc32 released)
  | .discDone n r final verdict =>
    go 0x84#8 0#16 (BitVec.ofNat 8 n.val) 0#8 0#32 (discDoneBody n r final verdict)
  | .queryResult tag selector index body => go 0x85#8 tag index selector 0#32 body

/-- The head of the outbound list has been sent (R191): its bytes are kept in `sent` and restart pending is
cleared. -/
def State.sendHead (s : State) : State :=
  match s.outbound with
  | [] => s
  | f :: rest =>
    (s.setOutbound rest).modFeed (fun p => { p with restartPending := false, sent := some (s.outBytes f) })

/-- The head of the outbound list is an EVENT frame of this class. -/
def State.headEvent (s : State) : Option EventClass :=
  match s.outbound with
  | .event c :: _ => some c
  | _ => none

end Sys2Proof.Machine
end

