-- ==== Sys2Proof/Machine/Operands.lean ====
section
/-! DEFINITION. The operands of TABLE and COMMAND frames: how each body is laid out and which fields FP checks
(R187, R188). A parser answers none where FP answers the frame with FORMAT. Quantities pass unchecked. -/

namespace Sys2Proof.Machine

/-- A two-byte field, most significant byte first (R181). -/
def be16 (a b : Byte) : Word16 := a ++ b
/-- A four-byte field, most significant byte first (R181). -/
def be32 (a b c d : Byte) : Word32 := a ++ b ++ c ++ d

/-- A byte that names one of `n` things; none where the value does not exist (R187 check 4, R188 check 3). -/
def nameOf (n : Nat) (b : Byte) : Option (Fin n) :=
  if h : b.toNat < n then some ⟨b.toNat, h⟩ else none

/-- A template argument: 0xFF means none (R188). -/
def templateArg (b : Byte) : Option (Option TmplNo) :=
  if b = 0xFF#8 then some none else (nameOf 8 b).map some

/-! ### Table entries (R187) -/

/-- Speed ladder: entry 0 to 7; the speed code. -/
def parseLadder (f : TableFrame) : Option (Rung × Byte) :=
  match nameOf 8 f.entry, f.body with
  | some r, [code] => some (r, code)
  | _, _ => none

/-- A station kind byte, 0 to 4 (R187 check 4). -/
def kindArg (b : Byte) : Option StationKind :=
  match b.toNat with
  | 0 => some .noKind
  | 1 => some .spindle
  | 2 => some .tray
  | 3 => some .printer
  | 4 => some .bin
  | _ => none

/-- The fields of a station map write (R187). -/
structure StationArgs where
  kind : StationKind
  lift : Word16
  rotate : Word16
  value : Byte
  deriving DecidableEq, Repr, Inhabited

/-- Station map: entry 0 to 23; kind, lift target, rotate target, class or capacity. -/
def parseStation (f : TableFrame) : Option (StationNo × StationArgs) :=
  match nameOf 24 f.entry, f.body with
  | some i, [k, l1, l0, r1, r0, v] =>
    (kindArg k).map (fun kind => (i, { kind := kind, lift := be16 l1 l0, rotate := be16 r1 r0, value := v }))
  | _, _ => none

/-- Staged assignment: entry 0 to 15; order, rungs, threshold and verify mode, stride, tolerance. Bits 6 and 7 of
the threshold byte must be 0. -/
def parseStaged (f : TableFrame) : Option (Drive × StagedEntry) :=
  match nameOf 16 f.entry, f.body with
  | some d, [o, rungs, tm, stride, t1, t0] =>
    match nameOf 8 o with
    | some order =>
      if tm.toNat < 64 then
        some (d, { order := order, start := rungs.toNat % 16, floor := rungs.toNat / 16,
                   threshold := tm.toNat % 16, mode := tm.toNat / 16, stride := stride.toNat,
                   tolerance := (be16 t1 t0).toNat })
      else none
    | none => none
  | _, _ => none

/-- The fields of a template write (R187): the prefix length is passed unchecked with the sixteen bytes. -/
structure TemplateArgs where
  art : ArtNo
  serialEnabled : Bool
  textLength : Nat
  textBytes : List Byte
  nextSerial : Nat
  deriving DecidableEq, Repr, Inhabited

/-- Template: entry 0 to 7; a body of 23 bytes. -/
def parseTemplate (f : TableFrame) : Option (TmplNo × TemplateArgs) :=
  match nameOf 8 f.entry, f.body with
  | some l, a :: e :: n :: rest =>
    match nameOf 8 a, nameOf 2 e, rest.drop 16 with
    | some art, some en, [s3, s2, s1, s0] =>
      some (l, { art := art, serialEnabled := decide (en = 1), textLength := n.toNat,
                 textBytes := rest.take 16, nextSerial := (be32 s3 s2 s1 s0).toNat })
    | _, _, _ => none
  | _, _ => none

/-! ### Command arguments (R188) -/

/-- No arguments: Transport Start, Park, Resume, Printer Reset, Store Settings, Abort All. -/
def parseNone (body : List Byte) : Option Unit :=
  match body with
  | [] => some ()
  | _ => none

/-- Image Define: slot, tag, length. -/
def parseImageDefine (body : List Byte) : Option (SlotNo × Word32 × Word32) :=
  match body with
  | [i, t3, t2, t1, t0, l3, l2, l1, l0] =>
    (nameOf 4 i).map (fun i => (i, be32 t3 t2 t1 t0, be32 l3 l2 l1 l0))
  | _ => none

/-- One byte that names one of `n` things: Image Release, Wave Abort, Order Hold, Order Resume, Order Cancel, Feed
Enable, Bin Emptied, Port Reset. -/
def parseName (n : Nat) (body : List Byte) : Option (Fin n) :=
  match body with
  | [b] => nameOf n b
  | _ => none

/-- The arguments of Wave Open. -/
structure WaveOpenArgs where
  wave : WaveNo
  slot : SlotNo
  capacity : Nat
  limit : Nat
  deriving DecidableEq, Repr, Inhabited

/-- Wave Open: wave, slot, capacity, starvation limit. -/
def parseWaveOpen (body : List Byte) : Option WaveOpenArgs :=
  match body with
  | [w, i, c3, c2, c1, c0, l] =>
    match nameOf 4 w, nameOf 4 i with
    | some w, some i => some { wave := w, slot := i, capacity := (be32 c3 c2 c1 c0).toNat, limit := l.toNat }
    | _, _ => none
  | _ => none

/-- A mask of two bytes: Apply Now, Apply At Load, Port Check. -/
def parseMask (body : List Byte) : Option Word16 :=
  match body with
  | [a, b] => some (be16 a b)
  | _ => none

/-- Event Enable: a class mask whose bit 15 is 0. -/
def parseClassMask (body : List Byte) : Option Word16 :=
  (parseMask body).bind (fun m => if m.getLsbD 15 then none else some m)

/-- The arguments of Order Define. -/
structure OrderDefineArgs where
  order : OrderNo
  slot : SlotNo
  mediaClass : Nat
  quantity : Nat
  template : Option TmplNo
  deriving DecidableEq, Repr, Inhabited

/-- Order Define: order, slot, media class, quantity, template. -/
def parseOrderDefine (body : List Byte) : Option OrderDefineArgs :=
  match body with
  | [o, i, c, q1, q0, t] =>
    match nameOf 8 o, nameOf 4 i, templateArg t with
    | some o, some i, some t =>
      some { order := o, slot := i, mediaClass := c.toNat, quantity := (be16 q1 q0).toNat, template := t }
    | _, _, _ => none
  | _ => none

/-- Order Quantity: order, quantity. -/
def parseOrderQuantity (body : List Byte) : Option (OrderNo × Nat) :=
  match body with
  | [o, q1, q0] => (nameOf 8 o).map (fun o => (o, (be16 q1 q0).toNat))
  | _ => none

/-- Disc Remove: record, generation. -/
def parseDiscRemove (body : List Byte) : Option Token :=
  match body with
  | [n, g] => (nameOf 64 n).map (fun n => { num := n, gen := g })
  | _ => none

/-- Spindle Refill: spindle, media class, count. -/
def parseRefill (body : List Byte) : Option (Fin 4 × Nat × Nat) :=
  match body with
  | [i, c, n] => (nameOf 4 i).map (fun i => (i, c.toNat, n.toNat))
  | _ => none

/-- Artwork Begin: slot, length, check value. -/
def parseArtworkBegin (body : List Byte) : Option (ArtNo × Nat × Word32) :=
  match body with
  | [a, l3, l2, l1, l0, c3, c2, c1, c0] =>
    (nameOf 8 a).map (fun a => (a, (be32 l3 l2 l1 l0).toNat, be32 c3 c2 c1 c0))
  | _ => none

/-- The selectors of a Query, numbered as R188 lists them. -/
inductive Selector where
  | drive
  | wave
  | image
  | order
  | record
  | station
  | transport
  | printer
  | template
  | artwork
  | verify
  | feed
  deriving DecidableEq, Repr, Inhabited

/-- A selector byte, 0 to 11. -/
def selectorArg (b : Byte) : Option Selector :=
  match b.toNat with
  | 0 => some .drive
  | 1 => some .wave
  | 2 => some .image
  | 3 => some .order
  | 4 => some .record
  | 5 => some .station
  | 6 => some .transport
  | 7 => some .printer
  | 8 => some .template
  | 9 => some .artwork
  | 10 => some .verify
  | 11 => some .feed
  | _ => none

/-- Query: selector, index. -/
def parseQuery (body : List Byte) : Option (Selector × Byte) :=
  match body with
  | [sel, i] => (selectorArg sel).map (fun sel => (sel, i))
  | _ => none

/-- What the REPLY to a table write answers. -/
def tableReply (f : TableFrame) (number : Byte) : ReplyTo := { tag := f.tag, kind := .table, number := number }
/-- What the REPLY to a command answers. -/
def cmdReply (f : CmdFrame) (number : Byte) : ReplyTo := { tag := f.tag, kind := .command, number := number }

/-- The drives of a mask, from D0 upward (R52, R74, R77). -/
def maskDrives (m : Word16) : List Drive := allDrives.filter (fun d => m.getLsbD d.val)
/-- The mask of the drives that satisfy `p`. -/
def driveMask (p : Drive → Bool) : Word16 :=
  allDrives.foldl (fun m d => if p d then m ||| bitMask d.val else m) 0

end Sys2Proof.Machine
end

