-- ==== Sys2Proof/WellFormed.lean ====
section
/-! DEFINITION. Which commands are well formed: the operand limits that the types of `Instr` do not hold.
A data frame that is not well formed is discarded with FORMAT (R184 checks 6 and 7), so exec answers a next
state for it too. -/

namespace Sys2Proof

/-- R184 checks 6 and 7 for a SECTOR frame: 1 to 4 sectors of 2,048 bytes each. -/
def sectorsOk (sectors : List (List Byte)) : Bool :=
  decide (1 ≤ sectors.length) && decide (sectors.length ≤ 4) &&
    sectors.all (fun p => decide (p.length = Config.sectorBytes))

/-- R184 checks 6 and 7 for a RUN frame: a repeat of at most 4,095 and one payload of 2,048 bytes. -/
def runOk (rep : Word16) (payload : List Byte) : Bool :=
  decide (rep.toNat ≤ Config.maxRepeat) && decide (payload.length = Config.sectorBytes)

/-- R184 check 7 for an ARTWORK frame: 1 to 8,236 bytes. -/
def artworkBodyOk (data : List Byte) : Bool :=
  decide (1 ≤ data.length) && decide (data.length ≤ Config.maxArtworkBody)

/-- The table numbers 1 to 4 and the command numbers 1 to 26 exist (R187, R188). -/
def numberExists (kind : AnsweredKind) (number : Byte) : Bool :=
  match kind with
  | .table => decide (1 ≤ number.toNat) && decide (number.toNat ≤ 4)
  | .command => decide (1 ≤ number.toNat) && decide (number.toNat ≤ 26)

/-- A TABLE or COMMAND frame of at most 8,256 bytes has a body of at most 8,236 (R184 check 1). -/
def bodyFits (body : List Byte) : Bool := decide (body.length ≤ Config.maxArtworkBody)

/-- The checks of one command. A frame handed to `inboundFrameDiscard` may be any bytes. The slot byte of a COMMAND
frame is 0 (R184 check 6), so an unknown command has entry 0. -/
def Instr.wf : Instr → Bool
  | .sector _ _ sectors => sectorsOk sectors
  | .run _ _ rep payload => runOk rep payload
  | .artworkFrame _ _ data => artworkBodyOk data
  | .unknown .table number f => !numberExists .table number && bodyFits f.body
  | .unknown .command number f => !numberExists .command number && decide (f.entry = 0) && bodyFits f.body
  | .speedLadderWrite f | .stationMapWrite f | .stagedAssignmentWrite f | .templateWrite f => bodyFits f.body
  | .imageDefine f | .imageRelease f | .waveOpen f | .waveAbort f | .applyNow f | .applyAtLoad f
  | .orderDefine f | .orderHold f | .orderResume f | .orderQuantity f | .orderCancel f | .feedEnable f
  | .transportStart f | .park f | .resume f | .discRemove f | .spindleRefill f | .binEmptied f
  | .portCheck f | .portReset f | .printerReset f | .artworkBegin f | .eventEnable f | .query f
  | .storeSettings f | .abortAll f => bodyFits f.body
  | _ => true

end Sys2Proof
end

