-- ==== Sys2Proof/Decode.lean ====
section
/-! DEFINITION. How the bytes of an inbound frame are read (R181, R182, R184, R187, R188): the checks of R184 in
order, the command a checked frame stands for, and an encoder of inbound frames from the same tables. The rows of
spec/opcode_table.json give no bits, so `decodeTableWord` answers none. -/

namespace Sys2Proof

open Sys2Proof.Machine

/-- The command that a word spells by the bits of spec/opcode_table.json: no row gives bits. -/
def decodeTableWord (_nbits _w : Nat) : Option Instr := none

/-- What FP's frame checker finds (R184): a cause to discard the frame whole, or the command it stands for. -/
inductive FrameCheck where
  | discard (cause : DiscardCause)
  | pass (i : Instr)
  deriving DecidableEq, Repr

/-- The header fields and the body of an inbound frame (R181). -/
structure InFrame where
  kind : Byte
  flags : Byte
  tag : Word16
  length : Word32
  slot : Byte
  count : Byte
  rep : Word16
  offset : Word32
  body : List Byte
  deriving DecidableEq, Repr, Inhabited

/-- The header read from the bytes before the trailer (R181); none when they are fewer than 16. -/
def readHeader (front : List Byte) : Option InFrame :=
  match front with
  | k :: fl :: t1 :: t0 :: l3 :: l2 :: l1 :: l0 :: sl :: ct :: r1 :: r0 :: o3 :: o2 :: o1 :: o0 :: body =>
    some { kind := k, flags := fl, tag := be16 t1 t0, length := be32 l3 l2 l1 l0, slot := sl, count := ct,
           rep := be16 r1 r0, offset := be32 o3 o2 o1 o0, body := body }
  | _ => none

/-- The RESEND flag (R181). -/
def InFrame.resend (h : InFrame) : Bool := h.flags.getLsbD 0

/-- Checks 4 and 5 of R184. -/
def InFrame.kindOk (h : InFrame) : Bool :=
  decide (1 ≤ h.kind.toNat) && decide (h.kind.toNat ≤ 5) && decide (h.flags.toNat ≤ 1) &&
    (decide (4 ≤ h.kind.toNat) || !h.resend)

/-- Check 6 of R184: every header field holds a value R182 allows for the kind. -/
def InFrame.fieldsOk (h : InFrame) : Bool :=
  match h.kind.toNat with
  | 1 => decide (h.slot.toNat < 4) && decide (1 ≤ h.count.toNat) && decide (h.count.toNat ≤ 4) && decide (h.rep = 0)
  | 2 => decide (h.slot.toNat < 4) && decide (h.count = 1) && decide (h.rep.toNat ≤ Config.maxRepeat)
  | 3 => decide (h.slot.toNat < 8) && decide (h.count = 0) && decide (h.rep = 0)
  | 4 => decide (h.rep = 0) && decide (h.offset = 0)
  | 5 => decide (h.slot = 0) && decide (h.rep = 0) && decide (h.offset = 0)
  | _ => false

/-- Check 7 of R184. -/
def InFrame.bodyOk (h : InFrame) : Bool :=
  match h.kind.toNat with
  | 1 => decide (h.body.length = Config.sectorBytes * h.count.toNat)
  | 2 => decide (h.body.length = Config.sectorBytes)
  | 3 => artworkBodyOk h.body
  | _ => true

/-- A body cut into `n` sectors. -/
def cutSectors : Nat → List Byte → List (List Byte)
  | 0, _ => []
  | n + 1, b => b.take Config.sectorBytes :: cutSectors n (b.drop Config.sectorBytes)

/-- The row of a TABLE frame by its table number (R187). -/
def tableInstr (number : Byte) (f : TableFrame) : Instr :=
  match number.toNat with
  | 1 => .speedLadderWrite f
  | 2 => .stationMapWrite f
  | 3 => .stagedAssignmentWrite f
  | 4 => .templateWrite f
  | _ => .unknown .table number f

/-- The row of a COMMAND frame by its command number (R188). -/
def commandInstr (number : Byte) (f : CmdFrame) : Instr :=
  match number.toNat with
  | 1 => .imageDefine f
  | 2 => .imageRelease f
  | 3 => .waveOpen f
  | 4 => .waveAbort f
  | 5 => .applyNow f
  | 6 => .applyAtLoad f
  | 7 => .orderDefine f
  | 8 => .orderHold f
  | 9 => .orderResume f
  | 10 => .orderQuantity f
  | 11 => .orderCancel f
  | 12 => .feedEnable f
  | 13 => .transportStart f
  | 14 => .park f
  | 15 => .resume f
  | 16 => .discRemove f
  | 17 => .spindleRefill f
  | 18 => .binEmptied f
  | 19 => .portCheck f
  | 20 => .portReset f
  | 21 => .printerReset f
  | 22 => .artworkBegin f
  | 23 => .eventEnable f
  | 24 => .query f
  | 25 => .storeSettings f
  | 26 => .abortAll f
  | _ => .unknown .command number { tag := f.tag, resend := f.resend, entry := 0, body := f.body }

/-- The command a frame that passes every check stands for. -/
def InFrame.instr (h : InFrame) : Instr :=
  match h.kind.toNat with
  | 1 => .sector (Fin.ofNat 4 h.slot.toNat) h.offset (cutSectors h.count.toNat h.body)
  | 2 => .run (Fin.ofNat 4 h.slot.toNat) h.offset h.rep h.body
  | 3 => .artworkFrame (Fin.ofNat 8 h.slot.toNat) h.offset h.body
  | 4 => tableInstr h.count { tag := h.tag, resend := h.resend, entry := h.slot, body := h.body }
  | _ => commandInstr h.count { tag := h.tag, resend := h.resend, body := h.body }

/-- The trailer of a frame (R181). -/
def readTrailer (b : List Byte) : Option Word32 :=
  match b.drop (b.length - 4) with
  | [c3, c2, c1, c0] => some (be32 c3 c2 c1 c0)
  | _ => none

/-- Checks 3 to 7 of R184 on the header of a frame of `n` bytes: each failure is FORMAT. -/
def InFrame.check (h : InFrame) (n : Nat) : FrameCheck :=
  if h.length.toNat = n ∧ h.kindOk ∧ h.fieldsOk ∧ h.bodyOk then .pass h.instr else .discard .format

/-- FP's frame checker (R184): checks 1 to 7 in order. -/
def checkFrame (b : List Byte) : FrameCheck :=
  if b.length < 20 ∨ Config.maxFrame < b.length then .discard .format
  else if readTrailer b ≠ some (crc32 (b.take (b.length - 4))) then .discard .badCheck
  else
    match readHeader (b.take (b.length - 4)) with
    | some h => h.check b.length
    | none => .discard .format

/-! ### Encoding an inbound frame -/

/-- The bytes of an inbound frame: header, body and trailer (R181). -/
def inboundBytes (kind : Byte) (resend : Bool) (tag : Word16) (slot count : Byte) (rep : Word16) (offset : Word32)
    (body : List Byte) : List Byte :=
  let front := [kind, if resend then 1#8 else 0#8] ++ enc16w tag ++ enc32 (body.length + 20) ++ [slot, count] ++
    enc16w rep ++ enc32w offset ++ body
  front ++ enc32w (crc32 front)

/-- The bytes of a TABLE frame. -/
def tableBytes (number : Byte) (f : TableFrame) : List Byte :=
  inboundBytes 4#8 f.resend f.tag f.entry number 0 0 f.body

/-- The bytes of a COMMAND frame. -/
def commandBytes (number : Byte) (f : CmdFrame) : List Byte :=
  inboundBytes 5#8 f.resend f.tag 0 number 0 0 f.body

/-- The bytes of the frame that carries a command; none for a row that is no frame. A data frame's tag is not read
(R186) and is 0 here. -/
def encodeFrame : Instr → Option (List Byte)
  | .sector w first sectors =>
    some (inboundBytes 1#8 false 0 (BitVec.ofNat 8 w.val) (BitVec.ofNat 8 sectors.length) 0 first sectors.flatten)
  | .run w first rep payload => some (inboundBytes 2#8 false 0 (BitVec.ofNat 8 w.val) 1#8 rep first payload)
  | .artworkFrame a offset data => some (inboundBytes 3#8 false 0 (BitVec.ofNat 8 a.val) 0 0 offset data)
  | .unknown .table number f => some (tableBytes number f)
  | .unknown .command number f => some (commandBytes number { tag := f.tag, resend := f.resend, body := f.body })
  | .speedLadderWrite f => some (tableBytes 1#8 f)
  | .stationMapWrite f => some (tableBytes 2#8 f)
  | .stagedAssignmentWrite f => some (tableBytes 3#8 f)
  | .templateWrite f => some (tableBytes 4#8 f)
  | .imageDefine f => some (commandBytes 1#8 f)
  | .imageRelease f => some (commandBytes 2#8 f)
  | .waveOpen f => some (commandBytes 3#8 f)
  | .waveAbort f => some (commandBytes 4#8 f)
  | .applyNow f => some (commandBytes 5#8 f)
  | .applyAtLoad f => some (commandBytes 6#8 f)
  | .orderDefine f => some (commandBytes 7#8 f)
  | .orderHold f => some (commandBytes 8#8 f)
  | .orderResume f => some (commandBytes 9#8 f)
  | .orderQuantity f => some (commandBytes 10#8 f)
  | .orderCancel f => some (commandBytes 11#8 f)
  | .feedEnable f => some (commandBytes 12#8 f)
  | .transportStart f => some (commandBytes 13#8 f)
  | .park f => some (commandBytes 14#8 f)
  | .resume f => some (commandBytes 15#8 f)
  | .discRemove f => some (commandBytes 16#8 f)
  | .spindleRefill f => some (commandBytes 17#8 f)
  | .binEmptied f => some (commandBytes 18#8 f)
  | .portCheck f => some (commandBytes 19#8 f)
  | .portReset f => some (commandBytes 20#8 f)
  | .printerReset f => some (commandBytes 21#8 f)
  | .artworkBegin f => some (commandBytes 22#8 f)
  | .eventEnable f => some (commandBytes 23#8 f)
  | .query f => some (commandBytes 24#8 f)
  | .storeSettings f => some (commandBytes 25#8 f)
  | .abortAll f => some (commandBytes 26#8 f)
  | _ => none

end Sys2Proof
end

