-- ==== Sys2Proof/Machine/Links.lean ====
section
/-! DEFINITION. Sending on the machine's links: requests on the sixteen drive links (R45, R46), on the printer
link (R168), and operations on the arm port (R148); and what an Apply Now SPEED that is not sent leaves (R75). -/

namespace Sys2Proof.Machine

/-! ### Drive links -/

/-- A request goes out on a drive's port with the port's next request number (R45). -/
def DriveSlot.sent (x : DriveSlot) (req : DriveRequest) : DriveSlot :=
  { x with outstanding := some { req := req, number := x.nextNumber }, nextNumber := x.nextNumber + 1 }

/-- A request goes out on the port of drive `d`. -/
def State.sendDrive (s : State) (d : Drive) (req : DriveRequest) : State := s.modDrive d (·.sent req)

/-- A waiting SPEED of an Apply Now (R46). -/
def DriveRequest.isApplySpeed : DriveRequest → Bool
  | .speed _ _ .apply => true
  | _ => false

/-- The apply status of drive `d` leaves IN-PROGRESS and its bit is raised in APPLY-DONE (R75). -/
def State.endApply (s : State) (d : Drive) (st : ApplyStatus) : State :=
  (s.modDrive d (fun x => { x with applyStatus := st })).raiseApply d

/-- The waiting request of drive `d` is dropped; a dropped SPEED of an Apply Now ends SPEED-FAILED (R75). -/
def State.dropWaiting (s : State) (d : Drive) : State :=
  let t := s.modDrive d (fun x => { x with waiting := none })
  match (s.drive d).waiting with
  | some req => if req.isApplySpeed then t.endApply d .speedFailed else t
  | none => t

/-- A port can send: nothing is outstanding on it and no port check runs (R46, R50). -/
def DriveSlot.portFree (x : DriveSlot) : Bool := x.outstanding.isNone && decide (x.checkPhase = .idle)

/-- A block asks for a request on the port of drive `d` (R46): it is sent, or becomes the waiting request in place
of one that waits already. -/
def State.askDrive (s : State) (d : Drive) (req : DriveRequest) : State :=
  if (s.drive d).portFree then s.sendDrive d req
  else (s.dropWaiting d).modDrive d (fun x => { x with waiting := some req })

/-- The waiting request of drive `d` is sent when the outstanding one has ended (R46). -/
def State.sendWaiting (s : State) (d : Drive) : State :=
  match (s.drive d).waiting with
  | some req => (s.modDrive d (fun x => { x with waiting := none })).sendDrive d req
  | none => s

/-! ### The printer link -/

/-- A request goes out on the printer link with the printer's next request number (R168). -/
def Printer.sent (p : Printer) (req : PrinterRequest) : Printer :=
  { p with outstanding := some { req := req, number := p.nextNumber }, nextNumber := p.nextNumber + 1 }

/-- A request goes out on the printer link. -/
def State.sendPrinter (s : State) (req : PrinterRequest) : State := s.modPrinter (·.sent req)

/-- LPC asks for a request (R168): it is sent, or becomes the waiting request in place of one that waits already.
It waits during the exchange of a link check too (log entry 35). -/
def State.askPrinter (s : State) (req : PrinterRequest) : State :=
  if s.printer.outstanding.isNone && decide (s.printer.checkPhase = .idle) then s.sendPrinter req
  else s.modPrinter (fun p => { p with waiting := some req })

/-! ### The arm port -/

/-- An operation goes out on the arm port with the port's next operation number (R148). -/
def State.sendArm (s : State) (op : ArmOp) : State :=
  s.modTransport (fun t => { t with
    outstanding := some { op := op, number := t.nextNumber, abandoned := false }
    nextNumber := t.nextNumber + 1 })

/-- The outstanding arm operation is abandoned (R148). -/
def Transport.abandon (t : Transport) : Transport :=
  { t with outstanding := t.outstanding.map (fun o => { o with abandoned := true }) }

/-- A HOME is asked for: the arm phase becomes HOMING, and the HOME is sent at once, or when an abandoned
operation ends (R148, R156, R158). -/
def State.askHome (s : State) : State :=
  let t := s.modTransport (fun t => { t with phase := .homing })
  if s.transport.outstanding.isNone then t.sendArm .home else t

/-- A GOTO of the targets of station `i` in arm phase `phase` (R149). -/
def State.sendGoto (s : State) (i : StationNo) (phase : ArmPhase) : State :=
  (s.modTransport (fun t => { t with phase := phase })).sendArm (.goto (s.station i).lift (s.station i).rotate)

end Sys2Proof.Machine
end

