-- ==== Sys2Proof/Machine/Loading.lean ====
section
/-! DEFINITION. The load decision and what hangs on it: the transport queue's enqueue and retirement (R143,
R144), the printer tray that follows the queue (R172), the taking of a pending copy (R78), reservations (R126),
the load decision (R55, R56) and the retirement of unpicked LOADs (R59, R141). -/

namespace Sys2Proof.Machine

/-! ### The queue and the printer tray -/

/-- An entry is bound for PR when its destination is PR (R172). -/
def Entry.boundForPR (e : Entry) : Bool := decide (e.dest = .station stationPR)

/-- LPC's tray follows the queue (R172): it opens for an entry bound for PR and closes when none is left. -/
def State.printerTray (s : State) : State :=
  if s.printer.state = .idle ∧ s.printer.phase = .noPhase ∧ s.queue.any (·.boundForPR) then
    (s.modPrinter (fun p => { p with phase := .opening })).askPrinter .trayOut
  else if s.printer.state = .opened ∧ ¬ s.queue.any (·.boundForPR) then
    (s.modPrinter (fun p => { p with state := .idle, phase := .closing })).askPrinter .trayIn
  else s

/-- A new entry with pass-over count 0 and current clear (R143). -/
def Entry.fresh (kind : EntryKind) (source : Source) (dest : Dest) (token : Option Token) (drive : Option Drive)
    (order : Option OrderNo) : Entry :=
  { kind := kind, source := source, dest := dest, token := token, drive := drive, order := order, passOver := 0,
    current := false, srcAt := none, dstAt := none, setAside := none, pickSent := false }

/-- An entry joins the transport queue at its tail (R143), and LPC is told (R172). -/
def State.enqueue (s : State) (e : Entry) : State := (s.setQueue (s.queue ++ [e])).printerTray

/-- The record of an entry is ON-ARM: its pick is done (R158). -/
def State.picked (s : State) (e : Entry) : Bool :=
  match e.token with
  | some t => decide ((s.record t.num).location = .onArm) && s.live t
  | none => false

/-- The current entry has been retired (R144): an outstanding operation is abandoned, the arm phase becomes IDLE,
and a waiting Park takes the transport to PARKED (R157). A HOME of Resume goes the same way: one that waits is dropped,
one that is outstanding is abandoned, and a new Resume is taken (log entry 40). -/
def Transport.afterRetirement (t : Transport) : Transport :=
  if t.parkWaiting ∧ t.mode = .running then
    { t.abandon with phase := .idle, mode := .parked, parkWaiting := false }
  else { t.abandon with phase := .idle }

/-- An entry is retired (R144): it leaves the queue, its set-aside record is returned, and LPC is told (R172). -/
def State.retire (s : State) (e : Entry) : State :=
  let t := (s.setQueue (s.queue.erase e)).returnSetAside e.setAside
  (if e.current then t.modTransport (·.afterRetirement) else t).printerTray

/-! ### Assignments at the load decision (AU) -/

/-- An assignment is put in force (R74, R78): active assignment, rung and fail count are set and the pending copy
is gone. -/
def DriveSlot.putInForce (x : DriveSlot) (a : Assignment) : DriveSlot :=
  { x with active := some a, pendingCopy := none, rung := a.start, failCount := 0 }

/-- Step 2 of the load decision (R78). -/
def State.takePending (s : State) (d : Drive) : State :=
  match (s.drive d).pendingCopy with
  | some a => (s.modDrive d (·.putInForce a)).endApply d .success
  | none => s

/-! ### Reservations (PU) -/

/-- The order's in-progress count rises by 1 (R126). -/
def State.reserve (s : State) (o : OrderNo) : State :=
  s.modOrder o (fun x => { x with inProgress := x.inProgress + 1 })

/-- The order's in-progress count falls by 1 (R126). -/
def State.unreserve (s : State) (o : Option OrderNo) : State :=
  match o with
  | some o => s.modOrder o (fun x => { x with inProgress := x.inProgress - 1 })
  | none => s

/-! ### The load decision -/

/-- A drive that passes the load decision goes to LOADING (R56). -/
def State.startLoading (s : State) (d : Drive) (o : OrderNo) : State :=
  let t := (s.modDrive d (fun x => { x with state := .loading, phase := .trayOpening, entry := some .load
                                          })).askDrive d .trayOpen
  (((t.enqueue (Entry.fresh .load (.mediaClass (s.order o).mediaClass) (.station (trayOf d)) none (some d)
    (some o))).reserve o).raiseDrive d)

/-- Steps 4 to 6 of the load decision (R55) for an assignment to order `o`. -/
def State.loadAllowed (s : State) (d : Drive) (o : OrderNo) : Bool :=
  decide ((s.order o).state = .opened) && decide (0 < (s.order o).remaining) &&
    decide (s.code (s.drive d).rung ≠ 0) && (s.loadedSpindle (s.order o).mediaClass).isSome

/-- Step 1 of the load decision (R55). -/
def State.loadAsked (s : State) (d : Drive) : Bool :=
  decide ((s.drive d).state = .empty) && decide ((s.drive d).checkPhase = .idle) && s.transport.autoFeed &&
    decide ((s.drive d).applyStatus ≠ .inProgress)

/-- Steps 3 to 6 of the load decision (R55), after a pending copy has been taken. -/
def State.loadIfAllowed (s : State) (d : Drive) : State :=
  match (s.drive d).active with
  | some a => if s.loadAllowed d a.order then s.startLoading d a.order else s
  | none => s

/-- The load decision of one drive (R55). -/
def State.decideDrive (s : State) (d : Drive) : State :=
  if s.loadAsked d then (s.takePending d).loadIfAllowed d else s

/-- The load decision for every EMPTY drive, from D0 upward (R55). -/
def State.loadDecision (s : State) : State := allDrives.foldl State.decideDrive s

/-! ### Unpicked LOADs -/

/-- DPC is told that the LOAD entry of drive `d` has been retired (R59). -/
def State.loadRetired (s : State) (d : Option Drive) : State :=
  match d with
  | some d =>
    if (s.drive d).state = .loading ∧ (s.drive d).entry = some .load then
      (s.modDrive d (fun x => { x with entry := none, phase := .trayClosing })).askDrive d .trayClose
    else s
  | none => s

/-- A LOAD entry is retired unpicked (R59): DPC is told and the reservation returns to the order. -/
def State.retireLoad (s : State) (e : Entry) : State :=
  ((s.retire e).unreserve e.order).loadRetired e.drive

/-- The classes of the LOADED spindles include `c` in `s` and no longer do in `t` (R141). -/
def State.lostTo (s t : State) (c : Nat) : Bool := (s.loadedSpindle c).isSome && (t.loadedSpindle c).isNone

/-- A LOAD entry that R140 and R141 retire when the classes `lost` are gone: unpicked, of such a class, its PICK
not sent. -/
def Entry.stranded (lost : Nat → Bool) (e : Entry) : Bool :=
  match e.kind, e.source with
  | .load, .mediaClass c => e.token.isNone && !e.pickSent && lost c
  | _, _ => false

/-- Every LOAD of a class that is gone is retired unpicked (R141). The load decision that a returned reservation
calls for (R126) is run by the caller. -/
def State.retireStranded (s : State) (lost : Nat → Bool) : State :=
  s.queue.foldl (fun t e => if e.stranded lost then t.retireLoad e else t) s

/-- The same for every LOAD but the current entry, whose course R152 settles (R141). -/
def State.retireOthersStranded (s : State) (lost : Nat → Bool) : State :=
  s.queue.foldl (fun t e => if !e.current && e.stranded lost then t.retireLoad e else t) s

/-- A spindle has become EMPTY (R141): SPINDLE-EMPTY is raised and the LOADs of the class that is gone with it are
retired. -/
def State.spindleEmptied (s : State) (i : StationNo) (lost : Nat → Bool) : State :=
  ((s.raise .spindleEmpty (bitMask i.val) none).retireStranded lost).loadDecision

end Sys2Proof.Machine
end

