-- ==== Sys2Proof/Machine/Unloading.lean ====
section
/-! DEFINITION. The end of a disc record (R134), the downshift it may cause (R79, R80), and a drive's way out of
work: UNLOADING, the withdrawal of a blank, the closing of a tray and the entry to EMPTY (R60 to R63). -/

namespace Sys2Proof.Machine

/-! ### Downshift (AU) -/

/-- The causes that count toward downshift (R79, R132). -/
def FailCause.counts : FailCause → Bool
  | .writeFault => true
  | .closeFault => true
  | .verifyErrors => true
  | .unreadable => true
  | _ => false

/-- The fail count has reached the threshold (R80): one rung slower, or BLOCKED at the floor. -/
def State.downshift (s : State) (d : Drive) (a : Assignment) : State :=
  let rung := (s.drive d).rung
  if h : rung.val < a.floor.val then
    (s.modDrive d (fun x => { x with failCount := 0, rung := ⟨rung.val + 1, by omega⟩ })).raise .downshift 0
      (some (.downshift d (some ⟨rung.val + 1, by omega⟩)))
  else
    (s.modDrive d (fun x => { x with failCount := 0 })).raise .downshift 0 (some (.downshift d none))

/-- A counted failure raises the fail count, and R80 acts when it reaches the threshold (R79). -/
def State.countFailure (s : State) (d : Drive) : State :=
  let n := (s.drive d).failCount + 1
  match (s.drive d).active with
  | some a => if a.threshold ≤ n then s.downshift d a else s.modDrive d (fun x => { x with failCount := n })
  | none => s.modDrive d (fun x => { x with failCount := min 6 n })

/-- PU tells AU of the end of a record that names a drive (R79). -/
def State.noticeEnd (s : State) (d : Option Drive) (v : Verdict) (c : Option FailCause) : State :=
  match d with
  | some d =>
    match v with
    | .pass => s.modDrive d (fun x => { x with failCount := 0 })
    | .fail => if c.any (·.counts) then s.countFailure d else s
    | .returned => s
  | none => s

/-! ### The end of a record (PU) -/

/-- An order's counts at the end of a record that names it (R134 step 4). -/
def Order.charge (x : Order) (v : Verdict) : Order :=
  match v with
  | .pass => { x with inProgress := x.inProgress - 1, passed := x.passed + 1 }
  | .fail => { x with inProgress := x.inProgress - 1, failed := min 65535 (x.failed + 1) }
  | .returned => { x with inProgress := x.inProgress - 1 }

/-- R134 step 4 with the completion of R128. -/
def State.chargeOrder (s : State) (o : Option OrderNo) (v : Verdict) : State :=
  match o with
  | some o =>
    let t := s.modOrder o (·.charge v)
    if v = .pass ∧ (t.order o).passed = (t.order o).quantity then
      (t.modOrder o (fun x => { x with state := .complete })).raiseOrder o
    else t
  | none => s

/-- R134 step 7: the load decision runs when the record named an order. Its in-progress count has fallen, and R126 and
R55 have the decision run at each such fall, whatever the order's state; that step 7's 'and the order is OPEN' does not
stop it is the model's reading (log entry 42). -/
def State.reloadFor (s : State) (o : Option OrderNo) : State := if o.isSome then s.loadDecision else s

/-- The record of token `t` ends at `final`, with a cause given at the end or none (R134, R135). -/
def State.endRecord (s : State) (t : Token) (cause : Option FailCause) (final : Place) : State :=
  let a := match cause with | some c => s.giveCause (some t) c | none => s
  let r := a.record t.num
  let v := r.verdictAtEnd final
  let b := ((a.emit (.discDone t.num r final v)).chargeOrder r.order v).noticeEnd r.drive v r.cause
  (b.modRecord t.num (fun x => { x with use := .free })).reloadFor r.order

/-! ### Out of work (DPC) -/

/-- A drive enters EMPTY (R59, R62): the load decision runs. -/
def State.goEmpty (s : State) (d : Drive) : State :=
  ((s.modDrive d (fun x => { x with state := .empty, phase := .noPhase })).raiseDrive d).loadDecision

/-- A drive enters UNLOADING with one transport entry (R61): it enqueues the entry, raises DRIVE-STATE and asks for
TRAY-OPEN. -/
def State.startUnloading (s : State) (d : Drive) (kind : EntryKind) (dest : Dest) : State :=
  ((((s.modDrive d (fun x => { x with state := .unloading, phase := .trayOpening, entry := some kind })).enqueue
    (Entry.fresh kind (.station (trayOf d)) dest (s.drive d).trayRecord (some d) none)).raiseDrive d).askDrive d
      .trayOpen)

/-- The destination of the UNLOAD of a drive that comes from BURNING, CLOSING or VERIFYING (R61). -/
def State.unloadDest (s : State) (t : Option Token) : Dest :=
  match t.bind s.liveRecord with
  | some r => if r.cause.isNone ∧ (s.templateOf t).isSome then .station stationPR else .byVerdict
  | none => .byVerdict

/-- A drive goes to UNLOADING with an UNLOAD entry to the destination of R61. -/
def State.unload (s : State) (d : Drive) : State :=
  s.startUnloading d .unload (s.unloadDest (s.drive d).trayRecord)

/-- A drive withdraws its blank (R60): UNLOADING with a RETURN entry to the record's origin spindle. A record
without one cannot be withdrawn in a state that a run reaches; it would leave by its verdict (log entry 34). -/
def State.withdraw (s : State) (d : Drive) : State :=
  match s.trayRecordOf d with
  | some r =>
    match r.origin with
    | .spindle i => s.startUnloading d .return (.station (spindleStation i))
    | .orphan => s.startUnloading d .unload .byVerdict
  | none => s.startUnloading d .unload .byVerdict

/-- A drive whose disc has been picked or removed closes its tray (R62, R63): UNLOADING in TRAY-CLOSING with no
transport entry. DRIVE-STATE is raised when the state changes. -/
def State.closeTray (s : State) (d : Drive) : State :=
  let t := s.modDrive d (fun x => { x with state := .unloading, phase := .trayClosing, entry := none })
  (if (s.drive d).state = .unloading then t else t.raiseDrive d).askDrive d .trayClose

end Sys2Proof.Machine
end

