-- ==== Sys2Proof/Machine/WaveSteps.lean ====
section
/-! DEFINITION. What happens to a wave inside a step (SD with IS): the sending of WRITEs (R85, R86), attachment
(R27), the drive side of a detach (R90), release and credit (R31 to R33), the end and the abort of a wave (R12,
R39, R40), and the taking of sectors into a block accumulator (R8 to R11). -/

namespace Sys2Proof.Machine

/-- The length of the image a wave carries. -/
def State.waveLength (s : State) (w : WaveNo) : Nat :=
  match (s.wave w).slot with
  | some i => (s.image i).length
  | none => 0

/-- The attachment of drive `d` in a wave (R26). -/
def Wave.attachment (x : Wave) (d : Drive) : Option Attachment := x.attachments.find? (fun a => decide (a.drive = d))

/-- The wave drive `d` is attached to (R26). -/
def State.waveOf (s : State) (d : Drive) : Option WaveNo :=
  allWaves.find? (fun w => ((s.wave w).attachment d).isSome)

/-- The attachment of drive `d` is changed by `f`. -/
def Wave.modAttachment (x : Wave) (d : Drive) (f : Attachment → Attachment) : Wave :=
  { x with attachments := x.attachments.map (fun a => if a.drive = d then f a else a) }

/-- The attachment of drive `d` is removed. -/
def Wave.unattach (x : Wave) (d : Drive) : Wave :=
  { x with attachments := x.attachments.filter (fun a => decide (a.drive ≠ d)) }

/-- An attachment joins the set at its place in drive order (R44). -/
def insertAttachment (a : Attachment) : List Attachment → List Attachment
  | [] => [a]
  | b :: rest => if a.drive.val < b.drive.val then a :: b :: rest else b :: insertAttachment a rest

/-- The payload that stands for one sector in the held list (R28). -/
def payloadOf (held : List HeldEntry) (n : Nat) : List Byte :=
  match held.find? (fun e => decide (e.first ≤ n) && decide (n ≤ e.last)) with
  | some e => e.payload
  | none => []

/-- The data of a WRITE: `count` sectors from `first`, in order (R28). -/
def gather (held : List HeldEntry) (first : Nat) (count : Nat) : List Byte :=
  (List.range count).flatMap (fun i => payloadOf held (first + i))

/-- The next WRITE of a drive in a wave: the lesser of 32 and head − cursor sectors (R85). -/
def writeCount (head cursor : Nat) : Nat := min Config.writeSectors (head - cursor)

/-- Drive `d` of wave `w` sends a WRITE when its port is idle and its cursor is below the head (R85, R86). -/
def State.writeSend (s : State) (w : WaveNo) (d : Drive) : State :=
  match (s.wave w).attachment d with
  | some a =>
    if (s.drive d).outstanding.isNone ∧ a.cursor < (s.wave w).head then
      let n := writeCount (s.wave w).head a.cursor
      (s.modWave w (fun x => x.modAttachment d (fun a => { a with inFlight := some ⟨a.cursor, n⟩ }))).sendDrive d
        (.write a.cursor n (gather (s.wave w).held a.cursor n))
    else s
  | none => s

/-- A drive attaches to a wave at cursor 0 and enters BURNING (R27, R84). -/
def State.attach (s : State) (w : WaveNo) (d : Drive) : State :=
  (((s.modWave w (fun x => { x with
      attachments := insertAttachment { drive := d, cursor := 0, inFlight := none } x.attachments })).modDrive d
    (fun x => { x with state := .burning, phase := .noPhase })).raiseDrive d).writeSend w d

/-- The image slot a drive in READY waits for: that of its record's order (R27). -/
def State.waitsFor (s : State) (d : Drive) : Option SlotNo :=
  (s.orderOf (s.drive d).trayRecord).map (fun o => (s.order o).slot)

/-- The lowest-numbered wave in OPEN on an image slot (R27). -/
def State.openWave (s : State) (i : SlotNo) : Option WaveNo :=
  allWaves.find? (fun w => decide ((s.wave w).state = .opened) && decide ((s.wave w).slot = some i))

/-- The record's order of a drive is HELD (R60). -/
def State.orderHeld (s : State) (d : Drive) : Bool :=
  match s.orderOf (s.drive d).trayRecord with
  | some o => decide ((s.order o).state = .held)
  | none => false

/-- A drive in READY looks for a wave in OPEN on its image slot and attaches to it (R27). -/
def State.joinGate (s : State) (d : Drive) : State :=
  match (s.waitsFor d).bind s.openWave with
  | some w => s.attach w d
  | none => s

/-- A loaded drive enters READY (R60). -/
def State.enterReady (s : State) (d : Drive) : State :=
  let t := (s.modDrive d (fun x => { x with state := .ready, phase := .noPhase })).raiseDrive d
  if t.orderHeld d then t.withdraw d else t.joinGate d

/-! ### Detach -/

/-- The record at a detached drive's tray: burn outcome FAIL and the fail cause (R90). -/
def State.failBurn (s : State) (d : Drive) (c : FailCause) : State :=
  (s.writeRecord? (s.drive d).trayRecord (fun r => { r with burn := .fail })).giveCause (s.drive d).trayRecord c

/-- The drive side of a detach to UNLOADING with a fail cause (R90): the record has a cause, so the entry's
destination is BY-VERDICT. -/
def State.detachToUnload (s : State) (d : Drive) (c : FailCause) : State :=
  (s.failBurn d c).startUnloading d .unload .byVerdict

/-- The drive's attachment record is removed (R37 step 1). -/
def State.unattach (s : State) (w : WaveNo) (d : Drive) : State := s.modWave w (·.unattach d)

/-- Drives detached as a group with one cause (R35, R40), in the order of `ds`. The rules give no order among them;
that the callers take drive order, which shows in the order of the UNLOAD entries, is the model's choice (log entry 37). -/
def State.detachAll (s : State) (w : WaveNo) (ds : List Drive) (c : FailCause) : State :=
  ds.foldl (fun t d => (t.unattach w d).detachToUnload d c) s

/-- DETACH for wave `w` with a drive mask (R43). -/
def State.raiseDetach (s : State) (w : WaveNo) (mask : Word16) : State :=
  s.raise .detach mask (some (.detach w))

/-- The mask of a list of drives. -/
def maskOf (ds : List Drive) : Word16 := driveMask (fun d => decide (d ∈ ds))

/-! ### End and abort of a wave -/

/-- A wave's IDLE values (R18). The starvation limit keeps the last pass's value: R18 names it neither among the IDLE
values nor among the kept ones, and the model chooses (log entry 36). -/
def Wave.ended (x : Wave) (c : EndCause) : Wave :=
  { x with state := .idle, slot := none, checkFlag := false, capacity := 0, held := [], timerRunning := false,
           attachments := [], endCause := c }

/-- An image slot whose filling pass was aborted (R12). -/
def ImageSlot.unfilled (x : ImageSlot) : ImageSlot :=
  { x with state := .defined, fillingWave := none, digests := [] }

/-- IS acts at a wave's return to IDLE (R12); an abort carries its cause. -/
def State.waveEndAtImage (s : State) (w : WaveNo) (slot : Option SlotNo) (c : Option ImageCause) : State :=
  let t := s.modAcc w (fun _ => .reset)
  match slot with
  | some i =>
    let u := t.modImage i (fun x => { x with waveCount := x.waveCount - 1 })
    match c with
    | some cause =>
      if (u.image i).state = .filling ∧ (u.image i).fillingWave = some w then
        (u.modImage i (·.unfilled)).raiseImage i .defined cause
      else u
    | none => u
  | none => t

/-- The fail cause of the discs of an aborted wave (R40). An abort with NO-DRIVES has no drive attached. -/
def AbortCause.failCause : AbortCause → FailCause
  | .waveAborted => .waveAborted
  | .noDrives => .detached
  | .conflict => .conflict
  | .abortAll => .abortAll
/-- The end cause of an aborted wave. -/
def AbortCause.endCause : AbortCause → EndCause
  | .waveAborted => .waveAborted
  | .noDrives => .noDrives
  | .conflict => .conflict
  | .abortAll => .abortAll
/-- The WAVE-STATE cause of an abort (R43). -/
def AbortCause.waveCause : AbortCause → WaveCause
  | .waveAborted => .waveAborted
  | .noDrives => .noDrives
  | .conflict => .conflict
  | .abortAll => .abortAll
/-- The IMAGE-STATE cause of an abort (R14). -/
def AbortCause.imageCause : AbortCause → ImageCause
  | .waveAborted => .waveAborted
  | .noDrives => .noDrives
  | .conflict => .conflict
  | .abortAll => .abortAll

/-- A wave is aborted (R40). -/
def State.abortWave (s : State) (w : WaveNo) (c : AbortCause) : State :=
  let ds := (s.wave w).attachments.map (·.drive)
  let a := (s.modWave w (fun x => { x with timerRunning := false })).detachAll w ds c.failCause
  let b := if ds.isEmpty then a else a.raiseDetach w (maskOf ds)
  ((b.modWave w (·.ended c.endCause)).waveEndAtImage w (s.wave w).slot (some c.imageCause)).raiseWave w .idle
    c.waveCause

/-- A DRAINING wave whose occupied count is 0 goes to IDLE with the cause DRAINED (R39). -/
def State.drainedCheck (s : State) (w : WaveNo) : State :=
  if (s.wave w).state = .draining ∧ (s.wave w).held = [] then
    ((s.modWave w (·.ended .drained)).waveEndAtImage w (s.wave w).slot none).raiseWave w .idle .drained
  else s

/-! ### Release and credit -/

/-- A held entry that every attached cursor has passed (R31). -/
def Wave.passedBy (x : Wave) (e : HeldEntry) : Bool :=
  !x.attachments.isEmpty && x.attachments.all (fun a => decide (e.last < a.cursor))

/-- How many entries the release rule frees from the front of the held list (R31). -/
def Wave.releasable (x : Wave) : Nat := (x.held.takeWhile x.passedBy).length

/-- `n` entries released from the front (R31). -/
def Wave.released (x : Wave) (n : Nat) : Wave :=
  { x with held := x.held.drop n, releasedTotal := x.releasedTotal + n, timerRunning := false }

/-- The first release of an OPEN wave closes its join gate (R32). -/
def State.closeGate (s : State) (w : WaveNo) : State :=
  if (s.wave w).state = .opened then
    (s.modWave w (fun x => { x with state := .streaming })).raiseWave w .streaming .gateClosed
  else s

/-- After releases a credit frame is due (R33). -/
def Wave.creditDue (x : Wave) : Bool :=
  decide (Config.creditStep ≤ x.releasedTotal - x.lastCredited) ||
    (x.held.isEmpty && decide (x.lastCredited < x.releasedTotal))

/-- A credit frame is sent (R33). -/
def State.sendCredit (s : State) (w : WaveNo) : State :=
  (s.modWave w (fun x => { x with lastCredited := x.releasedTotal })).emit
    (.credit w (s.wave w).releasedTotal (s.wave w).head)

/-- The credit frame is sent when it is due (R33). -/
def State.creditIfDue (s : State) (w : WaveNo) : State :=
  if (s.wave w).creditDue then s.sendCredit w else s

/-- The release rule (R31 to R33). -/
def State.releaseRule (s : State) (w : WaveNo) : State :=
  let n := (s.wave w).releasable
  if n = 0 then s else ((s.modWave w (·.released n)).closeGate w).creditIfDue w

/-- A wave whose attachment set is empty in STREAMING or DRAINING is aborted (R37 step 4). -/
def State.abortIfEmpty (s : State) (w : WaveNo) : State :=
  if (s.wave w).attachments = [] ∧ ((s.wave w).state = .streaming ∨ (s.wave w).state = .draining) then
    s.abortWave w .noDrives
  else s

/-- SD's side of one detach outside an abort (R36, R37): DETACH, the release rule, and the abort of a wave left
without drives. `side` is the drive's side of step 2. -/
def State.detachOne (s : State) (d : Drive) (side : State → State) : State :=
  match s.waveOf d with
  | some w =>
    ((((side (s.unattach w d)).raiseDetach w (bitMask d.val)).releaseRule w).drainedCheck w).abortIfEmpty w
  | none => side s

/-! ### Sector data into the accumulator (IS) -/

/-- A digest finished in FILL mode (R10): it is written, and the last one makes the slot COMPLETE. -/
def State.fillDigest (s : State) (i : SlotNo) (digest : Word32) (last : Bool) : State :=
  let t := s.modImage i (fun x => { x with digests := x.digests ++ [digest] })
  if last then
    (t.modImage i (fun x => { x with state := .complete, fillingWave := none })).raiseImage i .complete .filled
  else t

/-- The accumulator after a finished block (R8 step 3): the next block, or the last one again with nothing taken
(log entry 23). -/
def Accumulator.advanced (a : Accumulator) (last : Bool) : Accumulator :=
  { a with block := if last then a.block else a.block + 1, taken := 0, crc := crcInit }

/-- One sector is run through the wave's accumulator (R8, R10, R11). The flag tells of a conflict. -/
def State.takeSector (s : State) (w : WaveNo) (payload : List Byte) : State × Bool :=
  let a := s.acc w
  let crc := crcRun a.crc payload
  match a.slot with
  | none => (s, false)
  | some i =>
    let last := decide (a.block + 1 = blocksOf (s.image i).length)
    let done := decide (a.taken + 1 = Config.blockSectors) ||
      decide (a.block * Config.blockSectors + a.taken + 1 = (s.image i).length)
    let counted := s.modAcc w (fun a => { a with taken := a.taken + 1, crc := crc })
    if done then
      match a.mode with
      | .fill => ((counted.fillDigest i (crcFinish crc) last).modAcc w (·.advanced last), false)
      | .check =>
        if (s.image i).digests[a.block]? = some (crcFinish crc) then (counted.modAcc w (·.advanced last), false)
        else (counted.raiseImage i .complete .conflict, true)
      | .idle => (s, false)
    else (counted, false)

/-- The sectors of a frame are taken in ascending order, up to a conflict (R8, R9, R11). -/
def State.takeSectors (s : State) (w : WaveNo) : List (List Byte) → State × Bool
  | [] => (s, false)
  | p :: rest =>
    match s.takeSector w p with
    | (t, true) => (t, true)
    | (t, false) => t.takeSectors w rest

/-! ### Acceptance of a frame (SD) -/

/-- The checks of R22, in order, for a frame that covers `count` sectors from `first` and needs `slots` slots. -/
def State.frameCause (s : State) (w : WaveNo) (first count slots : Nat) : Option DiscardCause :=
  if (s.wave w).state ≠ .opened ∧ (s.wave w).state ≠ .streaming then some .noWave
  else if first ≠ (s.wave w).head then some .sequence
  else if s.waveLength w < first + count then some .length
  else if (s.wave w).capacity < (s.wave w).occupied + slots then some .overrun
  else none

/-- The head has reached the image length (R25): DRAINING, or the abort of a wave that no drive has joined. -/
def State.drain (s : State) (w : WaveNo) : State :=
  let t := (s.modWave w (fun x => { x with state := .draining })).raiseWave w .draining .headAtLength
  if (t.wave w).attachments = [] then t.abortWave w .noDrives else t

/-- The starvation timer starts when the window is full (R23 step 5, R34). -/
def State.startTimer (s : State) (w : WaveNo) : State :=
  if ((s.wave w).state = .opened ∨ (s.wave w).state = .streaming) ∧ (s.wave w).occupied = (s.wave w).capacity then
    s.modWave w (fun x => { x with timerRunning := true })
  else s

/-- DPC is told that the head has advanced: each attached drive may send a WRITE, from D0 upward (R23 step 6). -/
def State.writeAll (s : State) (w : WaveNo) : State :=
  ((s.wave w).attachments.map (·.drive)).foldl (fun t d => t.writeSend w d) s

/-- Steps 4 to 6 of R23 after IS has taken the sectors. -/
def State.afterTake (s : State) (w : WaveNo) : State :=
  ((if (s.wave w).head = s.waveLength w then s.drain w else s).startTimer w).writeAll w

/-- An accepted frame (R23, R24): the slots join the held list, the head advances, IS takes the sectors, and the
wave goes on or ends. -/
def State.acceptFrame (s : State) (w : WaveNo) (entries : List HeldEntry) (count : Nat)
    (sectors : List (List Byte)) : State :=
  let t := (s.countAccepted).modWave w (fun x => { x with held := x.held ++ entries, head := x.head + count })
  match t.takeSectors w sectors with
  | (u, true) => u.abortWave w .conflict
  | (u, false) => u.afterTake w

/-- One held slot for each sector of a SECTOR frame (R23 step 1). -/
def sectorEntries (first : Nat) : List (List Byte) → List HeldEntry
  | [] => []
  | p :: rest => { first := first, last := first, isRun := false, payload := p } :: sectorEntries (first + 1) rest

end Sys2Proof.Machine
end

