-- ==== Sys2Proof/Machine/VerifySteps.lean ====
section
/-! DEFINITION. What happens to a verify inside a step (VE): entry and queue (R101, R102), contexts (R103), the
block list and READs (R104, R105), comparison and read faults (R106, R107), endings and slices (R108 to R110),
and the other ways out of VERIFYING (R113 to R115). -/

namespace Sys2Proof.Machine

/-! ### The block list and READs -/

/-- The block after block `b` in the list (R104). -/
def VerifySave.blockAfter (v : VerifySave) (b : Nat) : Nat :=
  if v.lastBlock ≤ b then v.lastBlock + 1
  else match v.mode, v.stride with
    | some .sampled, some st => min (b + st) v.lastBlock
    | _, _ => b + 1

/-- The blocks a READ from block `b` covers (R105). -/
def VerifySave.readBlocks (v : VerifySave) (b : Nat) : Nat :=
  match v.mode with
  | some .sampled => 1
  | _ => min 4 (v.lastBlock + 1 - b)

/-- The sectors a READ from block `b` carries (R105). -/
def VerifySave.readCount (v : VerifySave) (b : Nat) : Nat :=
  match v.mode with
  | some .sampled => min 16 (v.length - 16 * b)
  | _ => min 64 (v.length - 16 * b)

/-- Context `c` changed by `f` when it is BUSY. -/
def State.modContext (s : State) (c : Fin 4) (f : Context → Context) : State :=
  s.setContext c ((s.context c).map f)

/-- A context sends the next READ of its drive's block list (R105). -/
def State.readSend (s : State) (c : Fin 4) : State :=
  match s.context c with
  | some x =>
    let v := s.save x.drive
    let b := x.work.next
    (s.modContext c (fun x => { x with reading := some ⟨b, v.readBlocks b⟩ })).askDrive x.drive
      (.read (16 * b) (v.readCount b))
  | none => s

/-! ### Queue and contexts -/

/-- C0 to C3. -/
def allContexts : List (Fin 4) := List.finRange 4

/-- The lowest-numbered FREE context (R103). -/
def State.freeContext (s : State) : Option (Fin 4) := allContexts.find? (fun c => (s.context c).isNone)

/-- The context drive `d` holds. -/
def State.contextOf (s : State) (d : Drive) : Option (Fin 4) :=
  allContexts.find? (fun c => (s.context c).any (fun x => decide (x.drive = d)))

/-- The head of the queue takes the lowest-numbered FREE context and sends its first READ (R103). -/
def State.takeContext (s : State) : State :=
  match s.freeContext, s.verifyQueue with
  | some c, d :: rest =>
    ((((s.setVerifyQueue rest).modSave d (fun v => { v with sub := .active })).setContext c
      (some { drive := d, work := (s.save d).progress, slice := 0, reading := none })).readSend c)
  | _, _ => s

/-- The context rule (R103): while a context is FREE and the queue is not empty, its head takes one. -/
def State.contextRule (s : State) : State := s.verifyQueue.foldl (fun t _ => t.takeContext) s

/-- A drive leaves the queue from whatever position it holds (R102). -/
def State.leaveQueue (s : State) (d : Drive) : State :=
  s.setVerifyQueue (s.verifyQueue.filter (fun x => decide (x ≠ d)))

/-- A drive's context is given back: its working copy is stored into the save (R109, R113 to R115). -/
def State.giveBack (s : State) (d : Drive) : State :=
  match s.contextOf d with
  | some c =>
    match s.context c with
    | some x => (s.modSave d (fun v => { v with progress := x.work })).setContext c none
    | none => s
  | none => s

/-- A drive leaves its verify (R109, R113, R114, R115): the working copy is stored, the context or the place in the
queue is given up, and the last ending is kept. -/
def State.leaveVerify (s : State) (d : Drive) (e : LastEnding) : State :=
  ((s.giveBack d).leaveQueue d).modSave d (fun v => { v with sub := .outside, lastEnding := e })

/-- The verify count of the slot a drive verifies falls by 1 (R5). -/
def State.verifyDown (s : State) (d : Drive) : State :=
  match (s.save d).slot with
  | some i => s.modImage i (fun x => { x with verifyCount := x.verifyCount - 1 })
  | none => s

/-- The tray record gets the verify outcome and the error blocks of the save (R109). -/
def State.writeVerify (s : State) (d : Drive) (o : VerifyOutcome) : State :=
  s.writeRecord? (s.drive d).trayRecord
    (fun r => { r with verify := o, errorBlocks := (s.save d).progress.errors })

/-! ### Entry -/

/-- The verify mode in force as a block list mode (R98). -/
def VerifyMode.list : VerifyMode → ListMode
  | .sampled => .sampled
  | _ => .full

/-- A save's starting values (R101). -/
def VerifySave.start (slot : SlotNo) (length : Nat) (a : Assignment) : VerifySave :=
  { sub := .queued, slot := some slot, length := length, lastBlock := blocksOf length - 1,
    mode := some a.mode.list, stride := if a.mode = .sampled then some a.stride else none,
    tolerance := a.tolerance, progress := .reset, lastEnding := .notYet }

/-- A drive enters VERIFYING (R98, R101): its save is set, it joins the tail of the queue and the context rule is
applied. -/
def State.enterVerify (s : State) (d : Drive) (slot : SlotNo) (a : Assignment) : State :=
  let t := (s.modDrive d (fun x => { x with state := .verifying, phase := .noPhase })).modImage slot
    (fun x => { x with verifyCount := x.verifyCount + 1 })
  let u := (t.modSave d (fun _ => VerifySave.start slot (s.image slot).length a)).raiseDrive d
  (u.setVerifyQueue (u.verifyQueue ++ [d])).contextRule

/-! ### Comparison -/

/-- The bytes of one block of a READ's data. -/
def blockBytes (data : List Byte) (k : Nat) : List Byte :=
  (data.drop (k * (Config.blockSectors * Config.sectorBytes))).take (Config.blockSectors * Config.sectorBytes)

/-- A mismatching or failed block range counted (R106 step 2, R107 step 1). -/
def Progress.addErrors (p : Progress) (first n : Nat) : Progress :=
  { p with errors := p.errors + n, firstError := p.firstError <|> some first }

/-- The blocks of a READ compared in ascending order (R106 step 2), stopping where a mismatch takes the error
blocks above the tolerance; the flag tells of that ending. -/
def compareBlocks (digests : List Word32) (tolerance : Nat) (data : List Byte) (first : Nat) :
    Nat → Nat → Progress → Progress × Bool
  | 0, _, p => (p, false)
  | n + 1, k, p =>
    let q := { p with compared := p.compared + 1 }
    if digests[first + k]? = some (crc32 (blockBytes data k)) then compareBlocks digests tolerance data first n (k + 1) q
    else
      let m := q.addErrors (first + k) 1
      if tolerance < m.errors then (m, true)
      else compareBlocks digests tolerance data first n (k + 1) m

/-- The working copy after a DATA reply whose comparison did not end the verify (R106 steps 1 to 3). -/
def VerifySave.afterData (v : VerifySave) (digests : List Word32) (rd : OutstandingRead) (data : List Byte)
    (p : Progress) : Progress × Bool :=
  match compareBlocks digests v.tolerance data rd.first rd.blocks 0 { p with consecutive := 0 } with
  | (q, true) => (q, true)
  | (q, false) => ({ q with next := v.blockAfter (rd.first + rd.blocks - 1) }, false)

/-- The working copy after a failed READ (R107 steps 1 to 4). -/
def VerifySave.afterFault (v : VerifySave) (rd : OutstandingRead) (p : Progress) : Progress :=
  { p.addErrors rd.first rd.blocks with
    readFaults := p.readFaults + 1
    consecutive := p.consecutive + 1
    next := v.blockAfter (rd.first + rd.blocks - 1) }

/-! ### Endings and slices -/

/-- The ending checks of R108, in order. -/
def VerifySave.ending (v : VerifySave) (p : Progress) : Option LastEnding :=
  if v.tolerance < p.errors then some .verifyErrors
  else if 3 ≤ p.consecutive then some .unreadable
  else if p.next = v.lastBlock + 1 then some .pass
  else none

/-- The fail cause of a verify ending (R108, R109). -/
def LastEnding.failCause : LastEnding → Option FailCause
  | .verifyErrors => some .verifyErrors
  | .unreadable => some .unreadable
  | .abortAll => some .abortAll
  | .driveFault => some .driveFault
  | _ => none

/-- The tray record of a drive gets the fail cause of a verify ending, if it has one (R109, R114). -/
def State.giveEnding (s : State) (d : Drive) (e : LastEnding) : State :=
  match e.failCause with
  | some c => s.giveCause (s.drive d).trayRecord c
  | none => s

/-- A verify in a context ends (R109): the record is written, the context freed, the drive unloads, and the head of
the queue takes the freed context. -/
def State.endVerify (s : State) (d : Drive) (e : LastEnding) : State :=
  let t := (s.leaveVerify d e).writeVerify d (if e = .pass then .pass else .fail)
  (((t.giveEnding d e).verifyDown d).unload d).contextRule

/-- A completed READ counts toward the slice (R110): the drive is suspended, or its next READ is sent. -/
def State.completeRead (s : State) (d : Drive) (c : Fin 4) (slice : Nat) : State :=
  if Config.sliceReads ≤ slice + 1 then
    if s.verifyQueue.isEmpty then (s.modContext c (fun x => { x with slice := 0 })).readSend c
    else
      let t := (s.giveBack d).modSave d (fun v => { v with sub := .queued })
      (t.setVerifyQueue (t.verifyQueue ++ [d])).contextRule
  else (s.modContext c (fun x => { x with slice := slice + 1 })).readSend c

/-- The end of a READ's handling (R106 steps 4 and 5, R107 steps 5 and 6) with the new working copy; `over` tells
that a mismatch has ended the verify. -/
def State.afterRead (s : State) (d : Drive) (c : Fin 4) (p : Progress) (above : Bool) : State :=
  let t := s.modContext c (fun x => { x with work := p, reading := none })
  match (if above then some LastEnding.verifyErrors else (s.save d).ending p), s.context c with
  | some e, _ => t.endVerify d e
  | none, some x => t.completeRead d c x.slice
  | none, none => t

/-- The digest table a drive's verify reads (R13). -/
def State.digestsFor (s : State) (d : Drive) : List Word32 :=
  match (s.save d).slot with
  | some i => (s.image i).digests
  | none => []

/-- DATA for the outstanding READ of an ACTIVE drive (R106). -/
def State.readData (s : State) (d : Drive) (bytes : List Byte) : State :=
  match s.contextOf d with
  | some c =>
    match s.context c with
    | some x =>
      match x.reading with
      | some rd =>
        let r := (s.save d).afterData (s.digestsFor d) rd bytes x.work
        s.afterRead d c r.1 r.2
      | none => s
    | none => s
  | none => s

/-- The outstanding READ of an ACTIVE drive has failed (R107). -/
def State.readFailed (s : State) (d : Drive) : State :=
  match s.contextOf d with
  | some c =>
    match s.context c with
    | some x =>
      match x.reading with
      | some rd => s.afterRead d c ((s.save d).afterFault rd x.work) false
      | none => s
    | none => s
  | none => s

/-! ### Other ways out -/

/-- A drive in VERIFYING goes to FAULTED (R113): outcome FAIL, the count falls, the context rule is applied. The
fail cause has been given by R64. -/
def State.verifyFaulted (s : State) (d : Drive) : State :=
  (((s.leaveVerify d .driveFault).writeVerify d .fail).verifyDown d).contextRule

/-- Disc Remove of the tray record of a drive in VERIFYING (R115). -/
def State.verifyRemoved (s : State) (d : Drive) : State :=
  (((s.leaveVerify d .removed).verifyDown d).closeTray d).contextRule

/-- Abort All at one drive in VERIFYING (R114). -/
def State.verifyAborted (s : State) (d : Drive) : State :=
  ((((s.leaveVerify d .abortAll).writeVerify d .fail).giveEnding d .abortAll).verifyDown d).startUnloading d .unload
    .byVerdict

end Sys2Proof.Machine
end

