-- ==== Sys2Proof/Machine/DriveSteps.lean ====
section
/-! DEFINITION. How a request on a drive link ends (R45 to R48) and what its requester does with the ending: the
entry to FAULTED (R64), port checks (R50, R51), loading (R56 to R58), unloading (R61, R62), burning (R87 to R89,
R94 to R96), verifying (R106, R107) and the SPEED of Apply Now (R75). -/

namespace Sys2Proof.Machine

/-! ### FAULTED -/

/-- The entry of a drive in the queue that has not been picked (R64 step 4). -/
def State.unpickedEntry (s : State) (d : Drive) : Option Entry :=
  s.queue.find? (fun e => decide (e.drive = some d) && !s.picked e)

/-- R64 step 4: an entry not yet picked is retired, and a LOAD's reservation returns to its order. -/
def State.dropEntry (s : State) (d : Drive) : State :=
  match (s.drive d).entry with
  | some _ =>
    match s.unpickedEntry d with
    | some e => (s.retire e).unreserve (if e.kind = .load then e.order else none)
    | none => s
  | none => s

/-- R64 step 3: the wave or the verify of a drive that goes to FAULTED lets it go. `before` is the state it was
in. -/
def State.faultWork (s : State) (d : Drive) (before : DriveState) : State :=
  if before = .burning then s.detachOne d (fun t => t.failBurn d .driveFault)
  else if before = .verifying then s.verifyFaulted d
  else s

/-- A drive goes to FAULTED (R64). The load decision at the end serves a returned reservation and the ending of a
dropped Apply Now SPEED. -/
def State.driveFaulted (s : State) (d : Drive) : State :=
  let a := (s.modDrive d (fun x => { x with state := .faulted, phase := .noPhase, checkPhase := .idle
                                          })).dropWaiting d
  let b := ((a.giveCause (s.drive d).trayRecord .driveFault).faultWork d (s.drive d).state).dropEntry d
  ((b.modDrive d (fun x => { x with entry := none })).raiseDrive d).loadDecision

/-! ### Port checks -/

/-- A port check begins (R50); it runs once nothing is outstanding on the port. -/
def DriveSlot.startCheck (x : DriveSlot) : DriveSlot :=
  { x with checkPhase := .checking, resultsValid := false, timeoutCount := 0 }

/-- The exchange of a port check is running (R50). -/
def DriveSlot.exchanging (x : DriveSlot) : Bool :=
  decide (x.checkPhase = .checking) && x.outstanding.isNone

/-- A port check ends with a result (R50). -/
def State.checkEnd (s : State) (d : Drive) (r : CheckResult) : State :=
  let a := (s.modDrive d (fun x => { x with checkResult := some r, resultsValid := true })).raise .portCheck
    (bitMask d.val) none
  if r = .good then (a.modDrive d (fun x => { x with checkPhase := .sensing })).sendDrive d .sense
  else
    let b := a.modDrive d (fun x => { x with checkPhase := .idle, state := .absent, phase := .noPhase })
    ((if (s.drive d).state = .absent then b else b.raiseDrive d).dropWaiting d).loadDecision

/-- The SENSE after a check found no disc (R51): EMPTY, and a waiting SPEED of Apply Now is sent. -/
def State.settleEmpty (s : State) (d : Drive) : State :=
  let a := s.modDrive d (fun x => { x with state := .empty, phase := .noPhase })
  ((if (s.drive d).state = .empty then a else a.raiseDrive d).sendWaiting d).loadDecision

/-- The SENSE after a check found a disc with no tray record (R51): an orphan record and a PURGE to BX, or FAULTED
when no record is free. -/
def State.settleOrphan (s : State) (d : Drive) (cls : Nat) : State :=
  match s.freeRecord with
  | some n =>
    let t := (s.takeRecord n (DiscRecord.orphanAt cls (some d) (.station (trayOf d)))).modDrive d
      (fun x => { x with trayRecord := some (s.nextToken n) })
    (((t.startUnloading d .purge (.station stationBX)).dropWaiting d).loadDecision)
  | none => (s.modDrive d (fun x => { x with lastFault := some .noRecord })).driveFaulted d

/-- The SENSE after a check has an answer (R51). -/
def State.settle (s : State) (d : Drive) (present : Bool) (cls : Nat) : State :=
  let a := s.modDrive d (fun x => { x with checkPhase := .idle })
  match present, (s.drive d).trayRecord with
  | false, none => a.settleEmpty d
  | false, some t =>
    ((a.endRecord t (some .lost) (.station (trayOf d))).modDrive d (fun x => { x with trayRecord := none
                                                                                   })).settleEmpty d
  | true, some _ => ((a.startUnloading d .unload .byVerdict).dropWaiting d).loadDecision
  | true, none => a.settleOrphan d cls

/-! ### How a request ended -/

/-- A request ends with a reply or with TIMEOUT (R47). -/
inductive Ending where
  | done (present : Bool) (mediaClass : Nat)
  | data (bytes : List Byte)
  | fault (cause : FaultCause)
  | timeout
  deriving DecidableEq, Repr

/-- A reply of the wrong kind is taken as FAULT with cause OTHER (R45). -/
def DriveRequest.ending (req : DriveRequest) (r : DriveReply) : Ending :=
  match r, req with
  | .done _ _, .read _ _ => .fault .other
  | .done p c, _ => .done p c.val
  | .data b, .read _ n => if b.length = n * Config.sectorBytes then .data b else .fault .other
  | .data _, _ => .fault .other
  | .fault c, _ => .fault c

/-- The last fault an ending leaves (R48). -/
def Ending.failure (e : Ending) (k : ReqKind) : Option DriveFailure :=
  match e with
  | .fault c => some (.fault k c)
  | .timeout => some (.timeout k)
  | _ => none

/-- The port's fields when its outstanding request ends (R47, R48). -/
def DriveSlot.ended (x : DriveSlot) (req : DriveRequest) (e : Ending) : DriveSlot :=
  { x with
    outstanding := none
    timeoutCount := if e = .timeout then x.timeoutCount + 1 else 0
    lastFault := e.failure req.kind <|> x.lastFault }

/-- An ending that puts the drive in FAULTED whichever block asked (R47, R48, R51). -/
def Ending.faults (e : Ending) (req : DriveRequest) (x : DriveSlot) : Bool :=
  match e with
  | .timeout => decide (2 ≤ x.timeoutCount)
  | .fault c =>
    decide (c = .tray) || decide (req = .trayOpen) || decide (req = .trayClose) ||
      (decide (req = .sense) && decide (x.checkPhase = .sensing) && decide (c ≠ .noDisc))
  | _ => false

/-! ### Loading -/

/-- The blank is spoiled in loading (R58): a fail cause and an UNLOAD to BY-VERDICT. -/
def State.failLoading (s : State) (d : Drive) (c : FailCause) : State :=
  (s.giveCause (s.drive d).trayRecord c).startUnloading d .unload .byVerdict

/-- SPEED-SET (R58, R69): the code at the current rung is read and sent, or the blank is withdrawn when the rung is
undefined. -/
def State.speedSet (s : State) (d : Drive) : State :=
  let g := (s.drive d).rung
  if s.code g = 0 then s.withdraw d
  else (s.modDrive d (fun x => { x with phase := .speedSet })).askDrive d (.speed (s.code g) g .loading)

/-- The ending of a TRAY-OPEN that faults nothing (R48, R56, R61). -/
def State.trayOpenEnded (s : State) (d : Drive) (e : Ending) : State :=
  match e with
  | .timeout => s.askDrive d .trayOpen
  | .done _ _ =>
    match (s.drive d).state, (s.drive d).phase with
    | .loading, .trayOpening => s.modDrive d (fun x => { x with phase := .waitDisc })
    | .unloading, .trayOpening => s.modDrive d (fun x => { x with phase := .waitPick })
    | _, _ => s
  | _ => s

/-- The ending of a TRAY-CLOSE that faults nothing (R58, R59, R62). -/
def State.trayCloseEnded (s : State) (d : Drive) (e : Ending) : State :=
  match e with
  | .timeout => s.askDrive d .trayClose
  | .done _ _ =>
    match (s.drive d).state, (s.drive d).phase with
    | .loading, .trayClosing => if (s.drive d).trayRecord.isSome then s.speedSet d else s.goEmpty d
    | .unloading, .trayClosing => s.goEmpty d
    | _, _ => s
  | _ => s

/-- The ending of a loading SPEED that faults nothing (R58). -/
def State.speedEnded (s : State) (d : Drive) (g : Rung) (e : Ending) : State :=
  match (s.drive d).state, (s.drive d).phase with
  | .loading, .speedSet =>
    match e with
    | .done _ _ =>
      ((s.writeRecord? (s.drive d).trayRecord (fun r => { r with rung := some g })).modDrive d
        (fun x => { x with phase := .mediaSense })).askDrive d .sense
    | .timeout => s.failLoading d .timeout
    | _ => s.failLoading d .mediaMismatch
  | _, _ => s

/-- The media class a drive's record carries. -/
def State.trayClass (s : State) (d : Drive) : Option Nat := (s.trayRecordOf d).map (·.mediaClass)

/-- The ending of the SENSE of MEDIA-SENSE that faults nothing (R58). -/
def State.senseEnded (s : State) (d : Drive) (e : Ending) : State :=
  match e with
  | .timeout => s.askDrive d .sense
  | .done present cls =>
    match (s.drive d).state, (s.drive d).phase with
    | .loading, .mediaSense =>
      if present ∧ cls ≠ 0 ∧ s.trayClass d = some cls then s.enterReady d else s.failLoading d .mediaMismatch
    | _, _ => s
  | _ =>
    match (s.drive d).state, (s.drive d).phase with
    | .loading, .mediaSense => s.failLoading d .mediaMismatch
    | _, _ => s

/-! ### Burning -/

/-- A drive finishes its wave (R30, R94): the release rule, then CLOSING and CLOSE, then the end of a drained
wave. -/
def State.finish (s : State) (w : WaveNo) (d : Drive) : State :=
  ((((((s.releaseRule w).unattach w d).modDrive d (fun x => { x with state := .closing, phase := .noPhase
                                                                   })).raiseDrive d).askDrive d .close).drainedCheck w)

/-- The WRITE of an attached drive is answered DONE (R29, R87). Short of the image length the next WRITE goes at once
when the cursor is below the head (R85), so an abort that comes after it finds that WRITE outstanding and TRAY-OPEN waits
(R90). R92's row for a DONE before an abort says that no WRITE is outstanding and TRAY-OPEN goes at once; where the
cursor is below the head the model follows R85 and R87 (log entry 44). -/
def State.writeDone (s : State) (w : WaveNo) (d : Drive) (a : Attachment) : State :=
  let cursor := a.cursor + (match a.inFlight with | some f => f.count | none => 0)
  let t := s.modWave w (fun x => x.modAttachment d (fun b => { b with cursor := cursor, inFlight := none }))
  if cursor = s.waveLength w then t.finish w d else (t.releaseRule w).writeSend w d

/-- The ending of a WRITE that faults nothing (R87 to R89). A drive that is no longer attached is left alone
(R38, R91). -/
def State.writeEnded (s : State) (d : Drive) (e : Ending) : State :=
  match s.waveOf d with
  | some w =>
    match (s.wave w).attachment d with
    | some a =>
      match e with
      | .done _ _ => s.writeDone w d a
      | .timeout => s.detachOne d (fun t => t.detachToUnload d .timeout)
      | _ => s.detachOne d (fun t => t.detachToUnload d .writeFault)
    | none => s
  | none => s

/-- CLOSE is answered DONE (R95): burn PASS, then VERIFYING or UNLOADING. -/
def State.closeDone (s : State) (d : Drive) : State :=
  let t := s.writeRecord? (s.drive d).trayRecord (fun r => { r with burn := .pass })
  match t.trayRecordOf d, (s.drive d).active with
  | some r, some a =>
    if r.cause.isSome then t.startUnloading d .unload .byVerdict
    else
      match a.mode, r.slot with
      | .none, _ =>
        (t.writeRecord? (s.drive d).trayRecord (fun r => { r with verify := .skipped })).unload d
      | _, some i => t.enterVerify d i a
      | _, none => t.startUnloading d .unload .byVerdict
  | _, _ => t.startUnloading d .unload .byVerdict

/-- The ending of a CLOSE that faults nothing (R95 to R97). -/
def State.closeEnded (s : State) (d : Drive) (e : Ending) : State :=
  if (s.drive d).state = .closing then
    match e with
    | .done _ _ => s.closeDone d
    | .timeout => (s.failBurn d .timeout).startUnloading d .unload .byVerdict
    | _ => (s.failBurn d .closeFault).startUnloading d .unload .byVerdict
  else s

/-- The ending of a READ that faults nothing (R106, R107). -/
def State.readEnded (s : State) (d : Drive) (e : Ending) : State :=
  match e with
  | .data bytes => s.readData d bytes
  | _ => s.readFailed d

/-! ### The ending as a whole -/

/-- A CLOSE that ends in FAULTED leaves burn outcome FAIL (R96). -/
def State.faultedClose (s : State) (d : Drive) (req : DriveRequest) : State :=
  if req = .close ∧ (s.drive d).state = .closing then
    s.writeRecord? (s.drive d).trayRecord (fun r => { r with burn := .fail })
  else s

/-- The requester's action on an ending that faults nothing, with no other request waiting. -/
def State.requesterActs (s : State) (d : Drive) (req : DriveRequest) (e : Ending) : State :=
  match req with
  | .trayOpen => s.trayOpenEnded d e
  | .trayClose => s.trayCloseEnded d e
  | .speed _ g _ => s.speedEnded d g e
  | .write _ _ _ => s.writeEnded d e
  | .close => s.closeEnded d e
  | .read _ _ => s.readEnded d e
  | .sense => s.senseEnded d e

/-- The status an ending of an Apply Now SPEED leaves (R75). -/
def Ending.applyStatus : Ending → ApplyStatus
  | .done _ _ => .success
  | _ => .speedFailed

/-- The SENSE after a port check ends without a fault that takes the drive to FAULTED (R51). -/
def State.checkSenseEnded (s : State) (d : Drive) (e : Ending) : State :=
  match e with
  | .timeout => s.sendDrive d .sense
  | .done present cls => s.settle d present cls
  | _ => s.settle d false 0

/-- The outstanding request of drive `d` has ended (R46 to R48): FAULTED, or the ending of an Apply Now SPEED, or
the SENSE of a port check, or the waiting request, or the requester's own rule. -/
def State.requestEnded (s : State) (d : Drive) (req : DriveRequest) (e : Ending) : State :=
  let t := s.modDrive d (fun x => x.ended req e)
  if e.faults req (t.drive d) then
    let u := (t.faultedClose d req).driveFaulted d
    if req.isApplySpeed then (u.endApply d .speedFailed).loadDecision else u
  else if req.isApplySpeed then (t.endApply d e.applyStatus).loadDecision
  else if req = .sense ∧ (t.drive d).checkPhase = .sensing then t.checkSenseEnded d e
  else if (t.drive d).waiting.isSome then t.sendWaiting d
  else t.requesterActs d req e

end Sys2Proof.Machine
end

