-- ==== Sys2Proof/Machine/Arm.lean ====
section
/-! DEFINITION. TC's choices and the way into HELD: where a BY-VERDICT entry goes (R147), what can give and take
(R145), the arbiter and the dispatch (R146, R147), the entry to HELD (R155), and the printer's share in a pick
from PR and a place at PR (R173, R176, R177). -/

namespace Sys2Proof.Machine

/-! ### Destinations -/

/-- A bin takes discs while its count is below its capacity (R142, R145). -/
def State.binTakes (s : State) (i : StationNo) : Bool := decide ((s.station i).count < (s.station i).capacity)

/-- The bin a disc with a verdict goes to (R147): for PASS B0 if it can take and otherwise B1, for FAIL BX. -/
def State.binFor (s : State) (v : Verdict) : StationNo :=
  match v with
  | .pass => if s.binTakes stationB0 then stationB0 else stationB1
  | _ => stationBX

/-- The verdict at dispatch of the record of an entry (R133, R147). A token that names no record in use gives
FAIL. -/
def State.entryVerdict (s : State) (e : Entry) : Verdict :=
  match e.token.bind s.liveRecord with
  | some r => r.verdictAtDispatch
  | none => .fail

/-- The station a destination resolves to (R147). -/
def State.destOf (s : State) (e : Entry) : StationNo :=
  match e.dest with
  | .station i => i
  | .byVerdict => s.binFor (s.entryVerdict e)

/-- The artwork of the template named by the record's order is READY (R145). -/
def State.artworkReady (s : State) (t : Option Token) : Bool :=
  match s.templateOf t with
  | some l => decide ((s.artwork (s.template l).art).state = .ready)
  | none => false

/-- Station `i` can take the disc of entry `e` (R145). -/
def State.canTake (s : State) (e : Entry) (i : StationNo) : Bool :=
  if i.val < 4 then decide ((s.station i).count < Config.spindleMax)
  else match trayDrive i with
    | some d =>
      decide ((s.drive d).state = .loading) && decide ((s.drive d).phase = .waitDisc) && (s.drive d).trayRecord.isNone
    | none => if i = stationPR then decide (s.printer.state = .opened) && s.artworkReady e.token else s.binTakes i

/-- The source of entry `e` can give its disc (R145). -/
def State.canGive (s : State) (e : Entry) : Bool :=
  match e.source with
  | .mediaClass c => (s.loadedSpindle c).isSome && s.freeRecord.isSome
  | .arm => true
  | .station i =>
    match trayDrive i with
    | some d => decide ((s.drive d).state = .unloading) && decide ((s.drive d).phase = .waitPick)
    | none => decide (i = stationPR) && decide (s.printer.state = .discharge)

/-- An entry whose source is ARM is in the queue (R145). -/
def State.armHolds (s : State) : Bool := s.queue.any (fun e => decide (e.source = .arm))

/-- An entry is eligible (R145). -/
def State.eligible (s : State) (e : Entry) : Bool :=
  s.canGive e && s.canTake e (s.destOf e) && (!s.armHolds || decide (e.source = .arm))

/-! ### The arbiter -/

/-- The arbiter may hand the arm to an entry (R146). -/
def State.armFree (s : State) : Bool :=
  decide (s.transport.mode = .running) && decide (s.transport.phase = .idle) && s.transport.outstanding.isNone &&
    s.currentEntry.isNone

/-- The position of the entry the arbiter chooses (R146): the oldest eligible one passed over 8 times, or the
oldest of the lowest class. -/
def State.choice (s : State) : Option Nat :=
  match s.queue.findIdx? (fun e => s.eligible e && decide (Config.passOverLimit ≤ e.passOver)) with
  | some k => some k
  | none =>
    match (s.queue.filter s.eligible).map Entry.class |>.min? with
    | some c => s.queue.findIdx? (fun e => s.eligible e && decide (e.class = c))
    | none => none

/-- The queue after an evaluation that chooses position `k` (R146): the chosen entry is current, with its source
and destination resolved (R147); the other eligible entries are passed over once more. -/
def State.chosen (s : State) (k : Nat) : List Entry :=
  s.queue.mapIdx (fun i e =>
    if i = k then
      { e with
        current := true
        pickSent := false
        srcAt := match e.source with
          | .station i => some i
          | .mediaClass c => s.loadedSpindle c
          | .arm => none
        dstAt := some (s.destOf e)
        setAside := if e.kind = .load then s.freeRecord else none }
    else if s.eligible e then { e with passOver := min 255 (e.passOver + 1) }
    else e)

/-- PU sets a record aside for the pick of a LOAD (R147). -/
def State.setAside (s : State) (n : Option RecNo) : State :=
  match n with
  | some n => s.modRecord n (fun r => { r with use := .setAside })
  | none => s

/-- The move of a dispatched entry starts (R149): at TRAVEL-SRC, or at TRAVEL-DST for a source ARM. -/
def State.startMove (s : State) (e : Entry) : State :=
  match e.srcAt, e.dstAt with
  | some i, _ => s.sendGoto i .travelSrc
  | none, some i => s.sendGoto i .travelDst
  | none, none => s

/-- The dispatch of the entry at position `k` (R146, R147, R149, R152). -/
def State.dispatch (s : State) (k : Nat) : State :=
  let t := (s.setQueue (s.chosen k)).modTransport (fun t => { t with pickMisses := 0 })
  match t.currentEntry with
  | some e => (t.setAside e.setAside).startMove e
  | none => t

/-- TC evaluates the arbiter (R146). -/
def State.arbiter (s : State) : State :=
  if s.armFree then
    match s.choice with
    | some k => s.dispatch k
    | none => s
  else s

/-! ### HELD -/

/-- The transport's fields at the entry to HELD (R155). -/
def Transport.held (t : Transport) (c : HeldCause) : Transport :=
  { t.abandon with mode := .held, heldCause := some c, heldCopy := t.autoFeed, autoFeed := false,
                   parkWaiting := false }

/-- The transport enters HELD and ARM-HELD is raised (R155). -/
def State.enterHeld (s : State) (c : HeldCause) : State :=
  (s.modTransport (·.held c)).raise .armHeld 0 (some (.armHeld c))

/-- The current entry changed by `f`. -/
def State.modCurrent (s : State) (f : Entry → Entry) : State :=
  s.setQueue (s.queue.map (fun e => if e.current then f e else e))

/-! ### The printer at a pick and a place -/

/-- The printer goes to FAULTED (R176). -/
def State.printerFaulted (s : State) (c : PrinterCause) : State :=
  (s.modPrinter (fun p => { p with state := .faulted, phase := .noPhase, waiting := none, checkPhase := .idle,
                                   resetRunning := false })).raisePrinter .faulted c

/-- The printer draws its tray in (R170, R172, R177, R178): IDLE in phase CLOSING. -/
def State.printerClose (s : State) : State :=
  (s.modPrinter (fun p => { p with state := .idle, phase := .closing })).askPrinter .trayIn

/-- The printer pushes a disc out (R170, R174, R175): DISCHARGE in phase EJECTING. -/
def State.printerEject (s : State) : State :=
  (s.modPrinter (fun p => { p with state := .discharge, phase := .ejecting })).askPrinter .trayOut

/-- The record at PR was found by the printer as an orphan (R170, R174; log entry 19). -/
def State.orphanAtPR (s : State) : Bool :=
  match s.printer.token.bind s.liveRecord with
  | some r => decide (r.origin = .orphan)
  | none => false

/-- A Printer Reset's follow-up has ended (R171): PRINTER with the state reached and RESET. -/
def State.resetEnded (s : State) (st : PrinterState) : State :=
  if s.printer.resetRunning then
    (s.modPrinter (fun p => { p with resetRunning := false })).raisePrinter st .reset
  else s

/-- The printer enters WAIT-PICK (R174): an entry with source PR is enqueued. -/
def State.waitPick (s : State) : State :=
  let t := s.modPrinter (fun p => { p with state := .discharge, phase := .waitPick })
  (t.enqueue (if s.orphanAtPR then
      Entry.fresh .purge (.station stationPR) (.station stationBX) s.printer.token none none
    else Entry.fresh .clear (.station stationPR) .byVerdict s.printer.token none none)).resetEnded .discharge

/-- The disc has been picked from PR (R177). -/
def State.printerPicked (s : State) : State :=
  let t := s.modPrinter (fun p => { p with token := none })
  if 2 ≤ s.printer.faultRun then t.printerFaulted .repeatedFaults
  else if s.queue.any (·.boundForPR) then t.modPrinter (fun p => { p with state := .opened, phase := .noPhase })
  else t.printerClose

/-- A disc has been placed at PR (R173). -/
def State.printerPlaced (s : State) (t : Option Token) : State :=
  let u := s.modPrinter (fun p => { p with token := t })
  match t.bind s.liveRecord with
  | some r =>
    if r.cause.isSome then u.waitPick
    else (u.modPrinter (fun p => { p with state := .printing, phase := .trayIn })).askPrinter .trayIn
  | none => u.waitPick

end Sys2Proof.Machine
end

