-- ==== Sys2Proof/Machine/Moves.lean ====
section
/-! DEFINITION. The moves of the arm (TC): what a pick and a place do (R150, R151), misses and double picks (R152,
R153), failures of a move (R154), the ends of a HOME at Transport Start and at Resume (R156, R158), and how an
operation's outcome and its expiry are taken (R148). -/

namespace Sys2Proof.Machine

/-- The current entry sends its PICK (R149). -/
def State.sendPick (s : State) : State :=
  ((s.modCurrent (fun e => { e with pickSent := true })).modTransport (fun t => { t with phase := .pick })).sendArm
    .pick

/-- The current entry goes on to its resolved destination (R149, R150). -/
def State.travelToDest (s : State) (e : Entry) : State :=
  match e.dstAt with
  | some i => s.sendGoto i .travelDst
  | none => s

/-! ### The pick -/

/-- A spindle's count after `n` discs have left it (R141): EMPTY at 0. -/
def Station.taken (x : Station) (n : Nat) : Station :=
  { x with count := x.count - n, loaded := x.loaded && decide (x.count - n ≠ 0) }

/-- The arm takes `n` discs from spindle station `i` (R141). -/
def State.takeFrom (s : State) (i : StationNo) (n : Nat) : State :=
  let t := s.modStation i (·.taken n)
  if (s.station i).loaded ∧ (s.station i).count - n = 0 then t.spindleEmptied i (s.lostTo t) else t

/-- The record of a LOAD's pick (R130). -/
def State.loadRecord (s : State) (i : StationNo) (e : Entry) : DiscRecord :=
  let origin := match stationSpindle i with | some k => Origin.spindle k | none => .orphan
  let cls := match e.source with | .mediaClass c => c | _ => (s.station i).mediaClass
  { DiscRecord.fresh origin cls .onArm with
    order := e.order
    slot := e.order.map (fun o => (s.order o).slot)
    print := match e.order with
      | some o => if (s.order o).template.isSome then .notYet else .notRequired
      | none => .notRequired }

/-- The pick of a LOAD at a spindle (R150): the set-aside record is taken into use and the reservation passes to
it. -/
def State.pickLoad (s : State) (i : StationNo) (e : Entry) : State :=
  match e.setAside with
  | some n =>
    ((s.takeRecord n (s.loadRecord i e)).modCurrent (fun x => { x with token := some (s.nextToken n), setAside := none
                                                                     })).takeFrom i 1
  | none => s

/-- The pick from the tray of a drive (R62, R150). -/
def State.pickTray (s : State) (d : Drive) : State :=
  (s.modDrive d (fun x => { x with trayRecord := none })).closeTray d

/-- A pick is done (R150): the station's owner is told and the record is ON-ARM. -/
def State.pickDone (s : State) (e : Entry) : State :=
  match e.srcAt with
  | some i =>
    if i.val < 4 then s.pickLoad i e
    else
      let t := s.writeRecord? e.token (fun r => { r with location := .onArm })
      match trayDrive i with
      | some d => t.pickTray d
      | none => t.printerPicked
  | none => s

/-- A PICK is answered GRIPPED, or DOUBLE at a tray or at PR (R150). -/
def State.gripped (s : State) (e : Entry) : State :=
  ((s.modTransport (fun t => { t with pickMisses := 0 })).pickDone e).travelToDest e

/-- The record of a double pick (R130, R152). -/
def State.doubleRecord (s : State) (i : StationNo) : DiscRecord :=
  let origin := match stationSpindle i with | some k => Origin.spindle k | none => .orphan
  { DiscRecord.fresh origin (s.station i).mediaClass .onArm with discCount := 2, cause := some .doublePick }

/-- A PICK at a spindle is answered DOUBLE (R152), in the rule's order: the count falls by 2, with what R141 does when
that empties the spindle, the entry is a PURGE, and only then the new LOAD with the reservation is appended, which
waits for a LOADED spindle of its class. -/
def State.doublePick (s : State) (i : StationNo) (e : Entry) : State :=
  match e.setAside with
  | some n =>
    let a := (s.takeRecord n (s.doubleRecord i)).modCurrent (fun x => { x with
      kind := .purge, source := .station i, dest := .station stationBX, token := some (s.nextToken n), drive := none,
      order := none, setAside := none, dstAt := some stationBX })
    ((((a.takeFrom i 2).enqueue (Entry.fresh .load e.source e.dest none e.drive e.order)).modTransport
      (fun t => { t with pickMisses := 0 })).sendGoto stationBX .travelDst)
  | none => s

/-- A spindle is found EMPTY (R141, R152). -/
def State.spindleExhausted (s : State) (i : StationNo) : State :=
  s.modStation i (fun x => { x with count := 0, loaded := false })

/-- The second MISS in a row at a spindle (R152): another spindle of the class, or the retirement of its LOADs.
LOADs of another class that the spindle alone could serve, because a refill has changed its class, are retired too
(R141). -/
def State.secondMiss (s : State) (i : StationNo) (e : Entry) (c : Nat) : State :=
  let a := ((s.spindleExhausted i).modTransport (fun t => { t with pickMisses := 0 })).raise .spindleEmpty
    (bitMask i.val) none
  match a.loadedSpindle c with
  | some j =>
    ((((a.modCurrent (fun x => { x with srcAt := some j, pickSent := false })).sendGoto j
      .travelSrc).retireOthersStranded (s.lostTo a)).loadDecision)
  | none => ((a.retireLoad e).retireStranded (fun k => decide (k = c) || s.lostTo a k)).loadDecision

/-- A PICK at a spindle is answered MISS (R152). -/
def State.spindleMiss (s : State) (i : StationNo) (e : Entry) : State :=
  if s.transport.pickMisses = 0 then
    (s.modTransport (fun t => { t with pickMisses := 1 })).sendPick
  else
    match e.source with
    | .mediaClass c => s.secondMiss i e c
    | _ => s

/-- A PICK at a tray or at PR is answered MISS (R153): the record is at UNKNOWN, the transport enters HELD and the
entry is retired. The drive's own transport entry field keeps its kind until Disc Remove: R49 ends the field at the
retirement, R144 and R153 tell the drive's owner nothing, and the model follows the latter (log entry 38). -/
def State.stationMiss (s : State) (e : Entry) : State :=
  ((((s.modTransport (fun t => { t with pickMisses := 0 })).writeRecord? e.token
    (fun r => { r with location := .unknown })).enterHeld .miss).retire e)

/-- The outcome of a PICK (R150, R152, R153). -/
def State.pickEnded (s : State) (e : Entry) (o : ArmOutcome) : State :=
  match e.srcAt with
  | some i =>
    match o with
    | .gripped => s.gripped e
    | .double => if i.val < 4 then s.doublePick i e else s.gripped e
    | .miss => if i.val < 4 then s.spindleMiss i e else s.stationMiss e
    | _ => s.enterHeld .timeout
  | none => s.enterHeld .timeout

/-! ### The place -/

/-- DPC is told of a disc placed at the tray of a drive (R57). -/
def State.placeNotice (s : State) (d : Drive) (t : Option Token) : State :=
  ((s.modDrive d (fun x => { x with trayRecord := t, entry := none, phase := .trayClosing })).writeRecord? t
    (fun r => { r with drive := some d })).askDrive d .trayClose

/-- A bin is full when its count equals its capacity: its bit is raised in BIN-FULL (R142). The mask has B0 in bit
0, B1 in bit 1 and BX in bit 2 (R192). -/
def State.raiseBinFull (s : State) (i : StationNo) : State :=
  if (s.station i).count = (s.station i).capacity then s.raise .binFull (bitMask (i.val - 21)) none else s

/-- A record ends where its disc was placed (R134). -/
def State.endPlaced (s : State) (t : Option Token) (i : StationNo) : State :=
  match t with
  | some t => s.endRecord t none (.station i)
  | none => s

/-- A RETURN placed on its spindle (R141, R151). Where a Spindle Refill has made the count 150 while the PLACE was on
its way, R139 bounds the count and R141 has it rise; that it becomes 151 is the model's choice (log entry 43). -/
def State.placeOnSpindle (s : State) (i : StationNo) (t : Option Token) : State :=
  ((s.modStation i (fun x => { x with count := x.count + 1, loaded := true })).endPlaced t i).loadDecision

/-- A disc placed in a bin (R142, R151): the DISC-DONE joins before BIN-FULL. -/
def State.placeInBin (s : State) (i : StationNo) (t : Option Token) : State :=
  ((s.modStation i (fun x => { x with count := x.count + 1 })).endPlaced t i).raiseBinFull i

/-- A place is done at station `i` (R151). -/
def State.placeAt (s : State) (i : StationNo) (t : Option Token) : State :=
  if i.val < 4 then s.placeOnSpindle i t
  else
    match trayDrive i with
    | some d => (s.writeRecord? t (fun r => { r with location := .station i })).placeNotice d t
    | none =>
      if i = stationPR then (s.writeRecord? t (fun r => { r with location := .station stationPR })).printerPlaced t
      else s.placeInBin i t

/-- The current entry, read again after the place, is retired (R151). -/
def State.retireCurrent (s : State) : State :=
  match s.currentEntry with
  | some e => s.retire e
  | none => s

/-- A PLACE is answered RELEASED (R151). -/
def State.released (s : State) (e : Entry) : State :=
  match e.dstAt with
  | some i => (s.placeAt i e.token).retireCurrent
  | none => s

/-- AT-TARGET at the destination (R149): PLACE, or HELD with REFUSED when the destination cannot take. -/
def State.arrived (s : State) (e : Entry) : State :=
  match e.dstAt with
  | some i =>
    if s.canTake e i then (s.modTransport (fun t => { t with phase := .place })).sendArm .place
    else s.enterHeld .refused
  | none => s

/-! ### HOME -/

/-- A disc is found in the gripper with no record (R156, R158): an orphan record and a PURGE to BX, or none when no
record is free. It does so also while an entry with source ARM waits already (log entry 41). -/
def State.orphanOnArm (s : State) : Option State :=
  match s.freeRecord with
  | some n =>
    some ((s.takeRecord n (DiscRecord.orphanAt 0 none .onArm)).enqueue
      (Entry.fresh .purge .arm (.station stationBX) (some (s.nextToken n)) none none))
  | none => none

/-- The mode becomes RUNNING with the arm IDLE (R156). -/
def State.run (s : State) : State := s.modTransport (fun t => { t with mode := .running, phase := .idle })

/-- The arm phase becomes IDLE. -/
def State.armIdle (s : State) : State := s.modTransport (fun t => { t with phase := .idle })

/-- The HOME of a Transport Start ends with HOMED (R156). -/
def State.startHomed (s : State) (holding : Bool) : State :=
  if holding then
    match s.orphanOnArm with
    | some t => t.run
    | none => s.armIdle.enterHeld .noRecord
  else s.run

/-- The mode becomes RUNNING after Resume (R158): the auto-feed flag takes the held copy, the held cause is gone. -/
def Transport.resumed (t : Transport) : Transport :=
  { t with mode := .running, autoFeed := t.heldCopy, heldCause := none }

/-- Resume has returned the transport to RUNNING (R158): the load decision runs when the flag is set. -/
def State.resumed (s : State) : State :=
  let t := s.modTransport (·.resumed)
  if t.transport.autoFeed then t.loadDecision else t

/-- Resume's HOME leaves the transport in HELD with another cause (R158): the held copy is kept and ARM-HELD is
raised again (log entry 16). -/
def State.heldAgain (s : State) (c : HeldCause) : State :=
  (s.modTransport (fun t => { t with phase := .idle, heldCause := some c })).raise .armHeld 0 (some (.armHeld c))

/-- The current entry after Resume found the gripper empty before its pick (R158): no longer current. -/
def Entry.uncurrent (e : Entry) : Entry :=
  { e with current := false, srcAt := none, dstAt := none, setAside := none, pickSent := false }

/-- A picked LOAD is told to DPC when its record ends (R59, R144). -/
def State.tellLoad (s : State) (e : Entry) : State := if e.kind = .load then s.loadRetired e.drive else s

/-- The record of a disc lost from the arm ends with LOST at ON-ARM (R158). -/
def State.endLost (s : State) (t : Option Token) : State :=
  match t with
  | some t => s.endRecord t (some .lost) .onArm
  | none => s

/-- A BY-VERDICT destination resolved again (R158). -/
def State.resolveAgain (s : State) (e : Entry) : State :=
  s.modCurrent (fun x => { x with dstAt := some (s.destOf e) })

/-- The move of the current entry goes on from TRAVEL-DST after Resume. -/
def State.goOn (s : State) : State :=
  match s.currentEntry with
  | some e => s.travelToDest e
  | none => s

/-- The HOME of a Resume ends with HOMED (R158). -/
def State.resumeHomed (s : State) (holding : Bool) : State :=
  match s.currentEntry with
  | none =>
    if holding then
      match s.orphanOnArm with
      | some t => t.armIdle.resumed
      | none => s.heldAgain .noRecord
    else s.armIdle.resumed
  | some e =>
    if s.picked e then
      if holding then ((s.resolveAgain e).goOn).resumed
      else ((((s.endLost e.token).retire e).tellLoad e).armIdle).resumed
    else if holding then
      (((s.modTransport (fun t => { t with pickMisses := 0 })).pickDone e).goOn).resumed
    else
      (((s.returnSetAside e.setAside).modCurrent (·.uncurrent)).armIdle).resumed

/-- A HOME ends with HOMED: that of a Resume in HELD, that of a Transport Start otherwise. -/
def State.homed (s : State) (holding : Bool) : State :=
  if s.transport.mode = .held then s.resumeHomed holding else s.startHomed holding

/-- A HOME ends with TIMEOUT (R156, R158). -/
def State.homeTimedOut (s : State) : State :=
  if s.transport.mode = .held then s.heldAgain .timeout else s.armIdle.enterHeld .timeout

/-! ### Outcomes and expiries -/

/-- TIMEOUT of an operation that is not abandoned (R154, R156, R158). -/
def State.opTimedOut (s : State) (op : ArmOp) : State :=
  match op with
  | .home => s.homeTimedOut
  | _ => s.enterHeld .timeout

/-- An outcome of an operation that is not abandoned (R148): one that is not among the operation's outcomes is its
TIMEOUT. -/
def State.opEnded (s : State) (op : ArmOp) (o : ArmOutcome) : State :=
  match op, o, s.currentEntry with
  | .home, .homed h, _ => s.homed h
  | .goto _ _, .atTarget, some e => if s.transport.phase = .travelSrc then s.sendPick else s.arrived e
  | .pick, .gripped, some e => s.pickEnded e .gripped
  | .pick, .double, some e => s.pickEnded e .double
  | .pick, .miss, some e => s.pickEnded e .miss
  | .place, .released, some e => s.released e
  | .place, .stuck, some _ => s.enterHeld .stuck
  | _, _, _ => s.opTimedOut op

/-- An abandoned operation has ended (R148): a HOME that waits for it is sent. -/
def State.abandonedEnded (s : State) : State :=
  if s.transport.phase = .homing then s.sendArm .home else s

/-- The outstanding operation becomes absent. -/
def State.clearOp (s : State) : State := s.modTransport (fun t => { t with outstanding := none })

/-- An outcome reaches the arm port (R148): it is taken when its number is that of the outstanding operation. -/
def State.armOutcome (s : State) (n : Byte) (o : ArmOutcome) : State :=
  match s.transport.outstanding with
  | some x =>
    if x.number = n then
      (if x.abandoned then s.clearOp.abandonedEnded else s.clearOp.opEnded x.op o).arbiter
    else s
  | none => s

/-- The timeout of the outstanding operation expires (R148). -/
def State.armTimeout (s : State) : State :=
  match s.transport.outstanding with
  | some x => (if x.abandoned then s.clearOp.abandonedEnded else s.clearOp.opTimedOut x.op).arbiter
  | none => s

end Sys2Proof.Machine
end

