-- ==== Sys2Proof/Machine/PrinterSteps.lean ====
section
/-! DEFINITION. The printer's own steps (LPC): the link check and what settles it (R170, R171), the print cycle
(R173, R174), print faults (R175), removal and Abort All (R178, R179), and how a request on the printer link ends
(R168). -/

namespace Sys2Proof.Machine

/-! ### The print -/

/-- The number of bands of an artwork length (R173). -/
def bandsOf (length : Nat) : Nat := (length + (Config.bandBytes - 1)) / Config.bandBytes

/-- The artwork bytes the band with index `k` of `b` carries (R174). -/
def bandData (bytes : List Byte) (b k : Nat) : List Byte :=
  (bytes.drop (Config.bandBytes * (b - 1 - k))).take Config.bandBytes

/-- Six decimal digits with leading zeros, as characters (R168). -/
def serialDigits (n : Nat) : List Byte :=
  [100000, 10000, 1000, 100, 10, 1].map (fun m => BitVec.ofNat 8 (48 + n / m % 10))

/-- The label text of a START (R168): prefix and serial, or none. -/
def Snapshot.label (p : Snapshot) : Option (List Byte) := p.serial.map (fun n => p.text ++ serialDigits n)

/-- The next BAND is sent (R174). -/
def State.sendBand (s : State) (p : Snapshot) : State :=
  let k := s.printer.bandsLeft - 1
  s.askPrinter (.band k (bandData (s.artwork p.art).bytes (bandsOf p.length) k))

/-- The serial of a print is accounted for: the template's count `f` of the snapshot's template changes when a
serial was issued (R174, R175, R178). -/
def State.accountSerial (s : State) (f : Template → Template) : State :=
  match s.printer.snapshot with
  | some p => if p.serial.isSome then s.modTemplate p.template f else s
  | none => s

/-- One serial more ended with PASS (R167, R174). -/
def Template.countPrinted (l : Template) : Template := { l with printed := l.printed + 1 }
/-- One serial more ended with FAIL (R167, R175). -/
def Template.countVoided (l : Template) : Template := { l with voided := l.voided + 1 }

/-- The snapshot and the artwork slot's print-in-use flag are cleared (R174, R175, R178). -/
def State.clearSnapshot (s : State) : State :=
  match s.printer.snapshot with
  | some p =>
    (s.modArtwork p.art (fun a => { a with inUse := false })).modPrinter (fun x => { x with snapshot := none })
  | none => s

/-- The steps of R175 with the cause that PRINTER carries; `counted` tells whether the fault run rises. -/
def State.printFault (s : State) (c : PrinterCause) (counted : Bool) : State :=
  let a := (s.giveCause s.printer.token .printFault).writeRecord? s.printer.token (fun r => { r with print := .fail })
  let b := (a.accountSerial (·.countVoided)).clearSnapshot
  let d := if counted then b.modPrinter (fun p => { p with faultRun := min 2 (p.faultRun + 1) }) else b
  (d.raisePrinter .discharge c).printerEject

/-- The snapshot of template `l` (R173), before a serial is issued. -/
def State.snapshotOf (s : State) (l : TmplNo) : Snapshot :=
  { template := l, art := (s.template l).art, length := (s.artwork (s.template l).art).length,
    serialEnabled := (s.template l).serialEnabled, text := (s.template l).text, serial := none }

/-- The next serial becomes the snapshot's and the record's serial (R173 step 2). -/
def State.issueSerial (s : State) (p : Snapshot) : State :=
  if p.serialEnabled then
    let n := (s.template p.template).nextSerial
    ((s.modTemplate p.template (fun l => { l with
        nextSerial := if n = Config.maxSerial then 0 else n + 1
        issued := l.issued + 1 })).writeRecord? s.printer.token (fun r => { r with serial := some n })).modPrinter
      (fun x => { x with snapshot := some { p with serial := some n } })
  else s

/-- START is sent with the snapshot's label text (R173 step 4). -/
def State.sendStart (s : State) : State :=
  s.askPrinter (.start (s.printer.snapshot.bind (·.label)))

/-- The print starts at the DONE of the TRAY-IN (R173). A record without a template at PR is in no state that a
run reaches; it leaves as for an artwork that is not READY (log entry 34). -/
def State.startPrint (s : State) : State :=
  match s.templateOf s.printer.token with
  | some l =>
    let p := s.snapshotOf l
    if (s.artwork p.art).state = .ready then
      ((((s.modPrinter (fun x => { x with snapshot := some p, bandsLeft := bandsOf p.length, phase := .start
                                        })).modArtwork p.art (fun a => { a with inUse := true })).issueSerial p).sendStart)
    else (s.modPrinter (fun x => { x with snapshot := some p })).printFault .artworkNotReady false
  | none => s.printFault .artworkNotReady false

/-- The DONE of a BAND (R174). -/
def State.bandDone (s : State) : State :=
  match s.printer.snapshot with
  | some p =>
    let t := s.modPrinter (fun x => { x with bandsLeft := x.bandsLeft - 1 })
    if t.printer.bandsLeft = 0 then (t.modPrinter (fun x => { x with phase := .finish })).askPrinter .finish
    else t.sendBand p
  | none => s

/-- The DONE of START (R174). -/
def State.startDone (s : State) : State :=
  match s.printer.snapshot with
  | some p => (s.modPrinter (fun x => { x with phase := .band })).sendBand p
  | none => s

/-- The DONE of FINISH: the print ends with PASS (R174). -/
def State.printPassed (s : State) : State :=
  (((((s.writeRecord? s.printer.token (fun r => { r with print := .pass })).accountSerial
    (·.countPrinted)).clearSnapshot).modPrinter (fun p => { p with faultRun := 0 })).printerEject)

/-! ### The link check -/

/-- A link check starts (R170). -/
def Printer.startCheck (p : Printer) : Printer :=
  { p with checkPhase := .checking, outstanding := none, waiting := none }

/-- The exchange of a link check is running (R170). -/
def State.printerChecking (s : State) : Bool := decide (s.printer.checkPhase = .checking)

/-- A link check ends with a result (R170). -/
def State.printerCheckEnd (s : State) (r : CheckResult) : State :=
  let a := s.modPrinter (fun p => { p with checkResult := some r })
  if r = .good then (a.modPrinter (fun p => { p with checkPhase := .sensing })).sendPrinter .sense
  else
    (a.modPrinter (fun p => { p with checkPhase := .idle, state := .offline, phase := .noPhase, waiting := none,
                                     resetRunning := false })).raisePrinter .offline (.check r)

/-- The SENSE of a link check found no disc (R170): a record at PR ends LOST and the tray is drawn in. -/
def State.printerEmpty (s : State) : State :=
  match s.printer.token with
  | some t =>
    ((s.endRecord t (some .lost) (.station stationPR)).modPrinter (fun p => { p with token := none })).printerClose
  | none => s.printerClose

/-- The SENSE of a link check found a disc (R170). -/
def State.printerOccupied (s : State) : State :=
  match s.printer.token with
  | some _ => s.printerEject
  | none =>
    match s.freeRecord with
    | some n =>
      ((s.takeRecord n (DiscRecord.orphanAt 0 none (.station stationPR))).modPrinter
        (fun p => { p with token := some (s.nextToken n) })).printerEject
    | none => (s.modPrinter (fun p => { p with lastFault := some .noRecord })).printerFaulted (.failure .noRecord)

/-- The DONE of the SENSE of a link check (R170). A request that a removal left waiting is replaced by the one the
outcome asks for (R168; log entry 35). -/
def State.printerSensed (s : State) (present : Bool) : State :=
  let t := s.modPrinter (fun p => { p with checkPhase := .idle, waiting := none })
  if present then t.printerOccupied else t.printerEmpty

/-! ### How a request ended -/

/-- A printer request ends with DONE, FAULT or TIMEOUT (R168). -/
inductive PrintEnding where
  | done (present : Bool)
  | fault (cause : PrinterFaultCause)
  | timeout
  deriving DecidableEq, Repr

/-- The ending a reply gives. -/
def PrintEnding.ofReply : PrinterReply → PrintEnding
  | .done p => .done p
  | .fault c => .fault c

/-- The failure an ending leaves in the last fault field (R168). -/
def PrintEnding.failure (e : PrintEnding) (k : PrinterReqKind) : Option PrinterFailure :=
  match e with
  | .fault c => some (.fault k c)
  | .timeout => some (.timeout k)
  | .done _ => none

/-- The printer's fields when its outstanding request ends (R168). -/
def Printer.ended (p : Printer) (req : PrinterRequest) (e : PrintEnding) : Printer :=
  { p with outstanding := none, lastFault := e.failure req.kind <|> p.lastFault }

/-- A request fails by R175 in PRINTING, and by R176 otherwise; a printer in FAULTED takes no further action. -/
def State.printerFailed (s : State) (f : PrinterFailure) : State :=
  match s.printer.state with
  | .printing => s.printFault (.failure f) true
  | .faulted => if s.printer.checkPhase = .idle then s else s.printerFaulted (.failure f)
  | _ => s.printerFaulted (.failure f)

/-- DONE acts by the state and phase (R170 to R174). -/
def State.printerDone (s : State) (present : Bool) : State :=
  if s.printer.checkPhase = .sensing then s.printerSensed present
  else
    match s.printer.state, s.printer.phase with
    | .idle, .opening => (s.modPrinter (fun p => { p with state := .opened, phase := .noPhase })).printerTray
    | .idle, .closing => ((s.modPrinter (fun p => { p with phase := .noPhase })).resetEnded .idle).printerTray
    | .printing, .trayIn => s.startPrint
    | .printing, .start => s.startDone
    | .printing, .band => s.bandDone
    | .printing, .finish => s.printPassed
    | .discharge, .ejecting => s.waitPick
    | _, _ => s

/-- The printer's waiting request is sent when the outstanding one has ended (R168). -/
def State.sendWaitingPrint (s : State) : State :=
  match s.printer.waiting with
  | some req => (s.modPrinter (fun p => { p with waiting := none })).sendPrinter req
  | none => s

/-- The requester's action on an ending with no other request waiting. -/
def State.printActs (s : State) (req : PrinterRequest) (e : PrintEnding) : State :=
  match e with
  | .done present => s.printerDone present
  | .fault c => s.printerFailed (.fault req.kind c)
  | .timeout => s.printerFailed (.timeout req.kind)

/-- The outstanding request of the printer has ended (R168): a waiting request is sent in place of any action,
except at the SENSE of a link check. -/
def State.printEnded (s : State) (req : PrinterRequest) (e : PrintEnding) : State :=
  let t := s.modPrinter (·.ended req e)
  if t.printer.waiting.isSome ∧ t.printer.checkPhase ≠ .sensing then t.sendWaitingPrint else t.printActs req e

/-- A reply reaches the printer link (R168): it is taken when its number is that of the outstanding request. -/
def State.printReply (s : State) (n : Byte) (r : PrinterReply) : State :=
  match s.printer.outstanding with
  | some o => if o.number = n then (s.printEnded o.req (.ofReply r)).arbiter else s
  | none => s

/-- The timeout of the outstanding printer request expires (R168). -/
def State.printTimeout (s : State) : State :=
  match s.printer.outstanding with
  | some o => (s.printEnded o.req .timeout).arbiter
  | none => s

/-! ### Removal and Abort All -/

/-- A print in PRINTING ends because its record has been removed (R178). -/
def State.printRemoved (s : State) : State :=
  ((s.accountSerial (·.countVoided)).clearSnapshot).printerClose

/-- Disc Remove of the record at the printer (R178). -/
def State.printerRemoved (s : State) : State :=
  let t := s.modPrinter (fun p => { p with token := none })
  match s.printer.state with
  | .printing => t.printRemoved
  | .discharge => if 2 ≤ s.printer.faultRun then t.printerFaulted .repeatedFaults else t.printerClose
  | .faulted => if 2 ≤ s.printer.faultRun then t else t.printerClose
  | _ => t

/-- Abort All at the printer (R179). -/
def State.printAborted (s : State) : State :=
  if s.printer.state = .printing then s.printFault .abortAll false else s

end Sys2Proof.Machine
end

