-- ==== Sys2Proof/Machine/Answers.lean ====
section
/-! DEFINITION. The twelve answers of a Query (R199): the fields of R15, R44, R67 with R83 and R99, R118, R138,
R162, R180 and the FEED answer, in the order in which those rules list them, encoded by R192. -/

namespace Sys2Proof.Machine

/-- IMAGE (R15): the slot's fields, then the mode and the block in progress of each wave whose accumulator names it.
That these items are a counted list in the order W0 to W3 is the model's choice (log entry 13). -/
def State.answerImage (s : State) (i : SlotNo) : List Byte :=
  let x := s.image i
  enc32w x.tag ++ enc32 x.length ++ enc8 x.state.ctorIdx ++ encFin? x.fillingWave ++ enc32 x.blocksRecorded ++
    enc8 x.waveCount ++ enc8 x.verifyCount ++ enc8 x.orderCount ++
    encList (fun w => enc8 (s.acc w).mode.ctorIdx ++ enc32 (s.acc w).block)
      (allWaves.filter (fun w => decide ((s.acc w).slot = some i)))

/-- An in-flight run: first sector and count. -/
def InFlight.bytes (f : InFlight) : List Byte := enc32 f.first ++ enc8 f.count

/-- WAVE (R44). -/
def State.answerWave (s : State) (w : WaveNo) : List Byte :=
  let x := s.wave w
  enc8 x.state.ctorIdx ++ encFin? x.slot ++ encFlag x.checkFlag ++ enc32 x.capacity ++ enc32 x.occupied ++
    enc32 x.head ++ enc32 x.releasedTotal ++ enc32 x.lastCredited ++ enc8 x.starvationLimit ++
    encFlag x.timerRunning ++ enc8 x.endCause.ctorIdx ++
    encList (fun a : Attachment => encFin a.drive ++ enc32 a.cursor ++ encOpt 5 InFlight.bytes a.inFlight)
      x.attachments

/-- A staged entry as written (R83). -/
def StagedEntry.bytes (x : StagedEntry) : List Byte :=
  encFin x.order ++ enc8 x.start ++ enc8 x.floor ++ enc8 x.threshold ++ enc8 x.mode ++ enc8 x.stride ++
    enc16 x.tolerance

/-- An assignment in force (R83). -/
def Assignment.bytes (x : Assignment) : List Byte :=
  encFin x.order ++ encFin x.start ++ encFin x.floor ++ enc8 x.threshold ++ enc8 x.mode.ctorIdx ++ enc8 x.stride ++
    enc16 x.tolerance

/-- The code of a drive's transport entry: LOAD, UNLOAD, RETURN or PURGE as R49 lists them. -/
def EntryKind.driveCode : EntryKind → Nat
  | .load => 0
  | .unload => 1
  | .return => 2
  | .purge => 3
  | .clear => 255

/-- The wave and attachment of a drive in BURNING (R67). -/
def State.attachedTo (s : State) (d : Drive) : Option (WaveNo × Attachment) :=
  (s.waveOf d).bind (fun w => ((s.wave w).attachment d).map (fun a => (w, a)))

/-- What DRIVE gives of a drive in BURNING: its wave and cursor (R67), and its in-flight run when present (R99). -/
def attachedBytes (p : WaveNo × Attachment) : List Byte :=
  encFin p.1 ++ enc32 p.2.cursor ++ encOpt 5 InFlight.bytes p.2.inFlight

/-- DRIVE: the slot record of R67 with the in-flight run of R99, then the assignment fields of R83. -/
def State.answerDrive (s : State) (d : Drive) : List Byte :=
  let x := s.drive d
  enc8 x.state.ctorIdx ++ enc8 x.phase.ctorIdx ++ enc8 x.checkPhase.ctorIdx ++ encFlag x.resultsValid ++
    encOpt 1 (fun r : CheckResult => enc8 r.ctorIdx) x.checkResult ++ enc8 x.timeoutCount ++
    encOpt 2 (fun o : OutstandingRequest => enc8 o.req.kind.ctorIdx ++ [o.number]) x.outstanding ++
    encOpt 1 (fun r : DriveRequest => enc8 r.kind.ctorIdx) x.waiting ++ encOpt 2 Token.bytes x.trayRecord ++
    encOpt 1 (fun e : EntryKind => enc8 e.driveCode) x.entry ++ encOpt 2 DriveFailure.bytes x.lastFault ++
    enc8 (s.save d).sub.ctorIdx ++
    encOpt 10 attachedBytes (s.attachedTo d) ++
    x.staged.bytes ++ encOpt 8 Assignment.bytes x.active ++ encOpt 8 Assignment.bytes x.pendingCopy ++
    encFin x.rung ++ [s.code x.rung] ++ enc8 x.failCount ++ enc8 x.applyStatus.ctorIdx ++ s.ladder.toList

/-- The number of unpicked LOAD entries reserved for an order (R138). -/
def State.unpickedLoads (s : State) (o : OrderNo) : Nat :=
  (s.queue.filter (fun e => decide (e.kind = .load) && decide (e.order = some o) && e.token.isNone)).length

/-- The number of records in use that name an order (R138). -/
def State.recordsNaming (s : State) (o : OrderNo) : Nat :=
  (allRecords.filter (fun n => decide ((s.record n).use = .inUse) && decide ((s.record n).order = some o))).length

/-- The drives whose active assignment names an order. -/
def State.activeOn (s : State) (o : OrderNo) : List Drive :=
  allDrives.filter (fun d => (s.drive d).active.any (fun a => decide (a.order = o)))

/-- The drives whose pending copy names an order. -/
def State.pendingOn (s : State) (o : OrderNo) : List Drive :=
  allDrives.filter (fun d => (s.drive d).pendingCopy.any (fun a => decide (a.order = o)))

/-- ORDER (R138). -/
def State.answerOrder (s : State) (o : OrderNo) : List Byte :=
  let x := s.order o
  enc8 x.state.ctorIdx ++ encFin x.slot ++ enc8 x.mediaClass ++ enc16 x.quantity ++ encFin? x.template ++
    enc16 x.passed ++ enc16 x.failed ++ enc16 x.inProgress ++ enc16 x.remaining ++ enc8 (s.unpickedLoads o) ++
    enc8 (s.recordsNaming o) ++ encList encFin (s.activeOn o) ++ encList encFin (s.pendingOn o)

/-- RECORD (R138): every field of R129 and the verdict at dispatch for a record in use, the generation alone
otherwise. R138 lists the generation of each record and, for one in use, every field of R129, of which the generation is
the first; that the answer gives it once is the model's choice (log entry 13). -/
def State.answerRecord (s : State) (n : RecNo) : List Byte :=
  let r := s.record n
  enc8 r.use.ctorIdx ++ [r.gen] ++
    (if r.use = .inUse then
      [r.origin.code] ++ enc8 r.mediaClass ++ enc8 r.discCount ++ encFin? r.order ++ encFin? r.drive ++
        encFin? r.rung ++ encFin? r.slot ++ [r.location.code] ++ enc8 r.burn.ctorIdx ++ enc8 r.verify.ctorIdx ++
        enc8 r.print.ctorIdx ++ encOpt 1 (fun c : FailCause => enc8 c.ctorIdx) r.cause ++ enc16 r.errorBlocks ++
        enc32? r.serial ++ enc8 r.verdictAtDispatch.ctorIdx
    else [])

/-- STATION (R162): the entry with its count, state and capacity, and whether the map is VALID. That fields
that a station does not hold are absent is the model's choice (log entry 13). -/
def State.answerStation (s : State) (i : StationNo) : List Byte :=
  let x := s.station i
  let k := kindOfStation i
  enc8 x.kind.ctorIdx ++ enc16 x.lift ++ enc16 x.rotate ++
    (if k = .spindle then enc8 x.mediaClass else absentBytes 1) ++
    (if k = .spindle ∨ k = .bin then enc8 x.count else absentBytes 1) ++
    (if k = .spindle then enc8 (if x.loaded then 0 else 1) else absentBytes 1) ++
    (if k = .bin then enc8 x.capacity else absentBytes 1) ++ encFlag s.mapValid

/-- The byte of a queue entry's source: a station, a media class, or ARM (log entry 14). -/
def Entry.sourceByte (e : Entry) : List Byte :=
  match e.srcAt, e.source with
  | some i, _ => encFin i
  | none, .station i => encFin i
  | none, .mediaClass c => enc8 c
  | none, .arm => [Config.armSourceCode]

/-- The byte of a queue entry's destination: a station, or BY-VERDICT (log entry 14). -/
def Entry.destByte (e : Entry) : List Byte :=
  match e.dstAt, e.dest with
  | some i, _ => encFin i
  | none, .station i => encFin i
  | none, .byVerdict => [Config.byVerdictCode]

/-- One queue entry with all fields of R143 and whether it is eligible (R162). -/
def State.entryBytes (s : State) (e : Entry) : List Byte :=
  enc8 e.kind.ctorIdx ++ enc8 e.class ++ e.sourceByte ++ e.destByte ++ encOpt 2 Token.bytes e.token ++
    encFin? e.drive ++ encFin? e.order ++ enc8 e.passOver ++ encFlag e.current ++ encFlag (s.eligible e)

/-- The kind of an arm operation, as R148 lists them. -/
def ArmOp.code : ArmOp → Nat
  | .goto _ _ => 0
  | .pick => 1
  | .place => 2
  | .home => 3

/-- TRANSPORT (R162): the transport record of R155, then every queue entry, oldest first. -/
def State.answerTransport (s : State) : List Byte :=
  let t := s.transport
  enc8 t.mode.ctorIdx ++ enc8 t.phase.ctorIdx ++
    encOpt 1 (fun k : Nat => [Config.currentEntryCode k]) (s.queue.findIdx? (·.current)) ++ enc8 t.pickMisses ++
    encOpt 3 (fun o : OutstandingOp => enc8 o.op.code ++ [o.number] ++ encFlag o.abandoned) t.outstanding ++
    [t.nextNumber] ++ encFlag t.parkWaiting ++ encOpt 1 (fun c : HeldCause => enc8 c.ctorIdx) t.heldCause ++
    encFlag t.autoFeed ++ encFlag t.heldCopy ++ encList s.entryBytes s.queue

/-- Text with its length before it. -/
def encText (b : List Byte) : List Byte := enc8 b.length ++ b

/-- The printer's snapshot (R169). -/
def Snapshot.bytes (p : Snapshot) : List Byte :=
  encFin p.template ++ encFin p.art ++ enc32 p.length ++ encFlag p.serialEnabled ++ encText p.text ++ enc32? p.serial

/-- PRINTER (R180): the printer record of R169. The prefix of a snapshot varies in length; that an absent snapshot
takes 12 bytes of ones, its size with an empty prefix, is the model's choice (log entry 13). -/
def State.answerPrinter (s : State) : List Byte :=
  let p := s.printer
  enc8 p.state.ctorIdx ++ enc8 p.phase.ctorIdx ++ enc8 p.checkPhase.ctorIdx ++
    encOpt 1 (fun r : CheckResult => enc8 r.ctorIdx) p.checkResult ++
    encOpt 2 (fun o : OutstandingPrint => enc8 o.req.kind.ctorIdx ++ [o.number]) p.outstanding ++
    encOpt 1 (fun r : PrinterRequest => enc8 r.kind.ctorIdx) p.waiting ++ [p.nextNumber] ++
    encOpt 2 Token.bytes p.token ++ encOpt 12 Snapshot.bytes p.snapshot ++ enc8 p.bandsLeft ++ enc8 p.faultRun ++
    encOpt 2 PrinterFailure.bytes p.lastFault

/-- TEMPLATE (R180). -/
def State.answerTemplate (s : State) (l : TmplNo) : List Byte :=
  let x := s.template l
  encFin x.art ++ encFlag x.serialEnabled ++ encText x.text ++ enc32 x.nextSerial ++ enc32w x.issued ++
    enc32w x.printed ++ enc32w x.voided

/-- ARTWORK (R180). -/
def State.answerArtwork (s : State) (a : ArtNo) : List Byte :=
  let x := s.artwork a
  enc8 x.state.ctorIdx ++ enc32 x.length ++ enc32w x.check ++ enc32 x.fillPoint ++ encFlag x.inUse

/-- The context an ACTIVE drive holds, with its record. -/
def State.contextFor (s : State) (d : Drive) : Option (Fin 4 × Context) :=
  (s.contextOf d).bind (fun c => (s.context c).map (fun x => (c, x)))

/-- The progress fields that the VERIFY query gives (R118): those of the working copy for an ACTIVE drive. -/
def State.progressFor (s : State) (d : Drive) : Progress :=
  match s.contextFor d with
  | some p => p.2.work
  | none => (s.save d).progress

/-- VERIFY (R118). R192 gives FREE no code; that a FREE context shows as 0xFF, as a name that is absent, is the model's
choice (log entry 13). -/
def State.answerVerify (s : State) (d : Drive) : List Byte :=
  let v := s.save d
  let p := s.progressFor d
  enc8 v.sub.ctorIdx ++
    encOpt 7 (fun c : Fin 4 × Context => encFin c.1 ++ enc8 c.2.slice ++
      encOpt 5 (fun r : OutstandingRead => enc32 r.first ++ enc8 r.blocks) c.2.reading) (s.contextFor d) ++
    encOpt 1 enc8 (s.verifyQueue.findIdx? (fun x => decide (x = d))) ++ encFin? v.slot ++ enc32 v.length ++
    enc32 v.lastBlock ++ encOpt 1 (fun m : ListMode => enc8 m.ctorIdx) v.mode ++ encOpt 1 enc8 v.stride ++
    enc16 v.tolerance ++ enc32 p.next ++ enc32 p.compared ++ enc16 p.errors ++ enc32 p.readFaults ++
    enc8 p.consecutive ++ enc32? p.firstError ++ enc8 v.lastEnding.ctorIdx ++ encList encFin s.verifyQueue ++
    allContexts.flatMap (fun c => encFin? ((s.context c).map (·.drive)))

/-- FEED (R199): the counters, the last tag and the last status. -/
def State.answerFeed (s : State) : List Byte :=
  enc32 s.feed.accepted ++ s.feed.discards.toList.flatMap enc32 ++ encOpt 2 enc16w s.feed.lastTag ++
    encOpt 1 (fun st : Status => enc8 st.ctorIdx) s.feed.lastStatus

/-- The answer of a Query, or none for an index out of the selector's range (R199). -/
def State.answerFor (s : State) (sel : Selector) (index : Byte) : Option (List Byte) :=
  match sel with
  | .drive => (nameOf 16 index).map s.answerDrive
  | .wave => (nameOf 4 index).map s.answerWave
  | .image => (nameOf 4 index).map s.answerImage
  | .order => (nameOf 8 index).map s.answerOrder
  | .record => (nameOf 64 index).map s.answerRecord
  | .station => (nameOf 24 index).map s.answerStation
  | .transport => (nameOf 1 index).map (fun _ => s.answerTransport)
  | .printer => (nameOf 1 index).map (fun _ => s.answerPrinter)
  | .template => (nameOf 8 index).map s.answerTemplate
  | .artwork => (nameOf 8 index).map s.answerArtwork
  | .verify => (nameOf 16 index).map s.answerVerify
  | .feed => (nameOf 1 index).map (fun _ => s.answerFeed)

/-- The feed counters after they have been reported (R199). -/
def FeedPort.countersCleared (p : FeedPort) : FeedPort :=
  { p with accepted := 0, discards := Vector.replicate 7 0 }

end Sys2Proof.Machine
end

