-- ==== Sys2Proof/Machine/DiscCommands.lean ====
section
/-! DEFINITION. The commands over the disc path: Feed Enable, Transport Start, Park, Resume and Disc Remove (R156 to
R160), Spindle Refill and Bin Emptied (R141, R142), Port Check, Port Reset and Printer Reset (R52, R53, R171), and
Abort All (R194). -/

namespace Sys2Proof.Machine

/-! ### Transport -/

/-- Feed Enable at TC (R159): the flag, or its held copy in HELD. -/
def State.feedEnable (rt : ReplyTo) (setting : Fin 2) (s : State) : State :=
  let on := decide (setting = 1)
  let t := s.replyPlain rt .ok
  if s.transport.mode = .held then t.modTransport (fun x => { x with heldCopy := on })
  else
    let u := t.modTransport (fun x => { x with autoFeed := on })
    if on then (u.loadDecision).arbiter else u

/-- FEED_ENABLE, command 12. -/
def execFeedEnable (f : CmdFrame) (s : State) : Host.Outcome State Fault Refusal :=
  .next (s.answer (cmdReply f 12) f.resend (parseName 2 f.body) (State.feedEnable (cmdReply f 12)))

/-- The first reason to refuse Transport Start (R156). While a HOME is outstanding in HELD, or with the map INVALID, both
STATE and BUSY fit, and R156 gives no order; that STATE comes first is the model's choice (log entry 45). -/
def State.startCheck (s : State) : Option Status :=
  if s.transport.mode ≠ .parked then some .state
  else if s.mapValid = false then some .state
  else if s.transport.phase ≠ .idle then some .busy
  else none

/-- Transport Start at TC (R156). -/
def State.transportStart (rt : ReplyTo) (_ : Unit) (s : State) : State :=
  match s.startCheck with
  | some st => s.replyPlain rt st
  | none => (s.replyPlain rt .ok).askHome

/-- TRANSPORT_START, command 13. -/
def execTransportStart (f : CmdFrame) (s : State) : Host.Outcome State Fault Refusal :=
  .next (s.answer (cmdReply f 13) f.resend (parseNone f.body) (State.transportStart (cmdReply f 13)))

/-- Park at TC (R157). -/
def State.park (rt : ReplyTo) (_ : Unit) (s : State) : State :=
  if s.transport.mode = .running then
    let t := s.replyPlain rt .ok
    if s.transport.phase = .idle ∧ s.currentEntry = none then
      t.modTransport (fun x => { x with mode := .parked, parkWaiting := false })
    else t.modTransport (fun x => { x with parkWaiting := true })
  else s.replyPlain rt .state

/-- PARK, command 14. -/
def execPark (f : CmdFrame) (s : State) : Host.Outcome State Fault Refusal :=
  .next (s.answer (cmdReply f 14) f.resend (parseNone f.body) (State.park (cmdReply f 14)))

/-- Resume at TC (R158). -/
def State.resume (rt : ReplyTo) (_ : Unit) (s : State) : State :=
  if s.transport.mode ≠ .held then s.replyPlain rt .state
  else if s.transport.phase = .homing then s.replyPlain rt .busy
  else (s.replyPlain rt .ok).askHome

/-- RESUME, command 15. -/
def execResume (f : CmdFrame) (s : State) : Host.Outcome State Fault Refusal :=
  .next (s.answer (cmdReply f 15) f.resend (parseNone f.body) (State.resume (cmdReply f 15)))

/-! ### Disc Remove (R160) -/

/-- The queue entry that names a record is retired (R160 step 2); a picked LOAD is told to DPC (R144). -/
def State.retireNaming (s : State) (t : Token) : State :=
  match s.queue.find? (fun e => decide (e.token = some t)) with
  | some e => (s.retire e).tellLoad e
  | none => s

/-- DPC acts on the removal of its tray record by the drive's state (R63, R93, R115). -/
def State.driveRemoved (s : State) (d : Drive) : State :=
  let t := s.modDrive d (fun x => { x with trayRecord := none })
  match (s.drive d).state with
  | .burning => t.detachOne d (fun u => u.closeTray d)
  | .verifying => t.verifyRemoved d
  | .faulted => t
  | .absent => t
  | .empty => t
  | .loading => t.closeTray d
  | .ready => t.closeTray d
  | .closing => t.closeTray d
  | .unloading => t.closeTray d

/-- TC tells DPC when the record is the tray record of a drive (R160 step 3). -/
def State.tellDrive (s : State) (t : Token) : State :=
  match allDrives.find? (fun d => decide ((s.drive d).trayRecord = some t)) with
  | some d => s.driveRemoved d
  | none => s

/-- TC tells LPC when the record is the disc of the printer (R160 step 4). -/
def State.tellPrinter (s : State) (t : Token) : State :=
  if s.printer.token = some t then s.printerRemoved else s

/-- Disc Remove at TC (R160). -/
def State.discRemove (rt : ReplyTo) (t : Token) (s : State) : State :=
  if s.transport.mode = .running then s.replyPlain rt .state
  else if s.live t then
    (((((s.endRecord t (some .removed) (s.record t.num).location).retireNaming t).tellDrive t).tellPrinter
      t).replyPlain rt .ok).arbiter
  else s.replyPlain rt .state

/-- DISC_REMOVE, command 16. -/
def execDiscRemove (f : CmdFrame) (s : State) : Host.Outcome State Fault Refusal :=
  .next (s.answer (cmdReply f 16) f.resend (parseDiscRemove f.body) (State.discRemove (cmdReply f 16)))

/-! ### Spindles and bins -/

/-- Spindle Refill at TC (R141). A class that the spindle alone held and gives up is gone (log entry 29). -/
def State.spindleRefill (rt : ReplyTo) (a : Fin 4 × Nat × Nat) (s : State) : State :=
  if a.2.1 = 0 ∨ 15 < a.2.1 ∨ a.2.2 = 0 ∨ Config.spindleMax < a.2.2 then s.replyPlain rt .range
  else
    let t := (s.modStation (spindleStation a.1) (fun x => { x with
      mediaClass := a.2.1, count := a.2.2, loaded := true })).replyPlain rt .ok
    ((t.retireStranded (s.lostTo t)).loadDecision).arbiter

/-- SPINDLE_REFILL, command 17. -/
def execSpindleRefill (f : CmdFrame) (s : State) : Host.Outcome State Fault Refusal :=
  .next (s.answer (cmdReply f 17) f.resend (parseRefill f.body) (State.spindleRefill (cmdReply f 17)))

/-- The station of a bin name: B0 0, B1 1, BX 2 (R188). -/
def binStation (b : Fin 3) : StationNo := ⟨b.val + 21, by omega⟩

/-- Bin Emptied at TC (R142). -/
def State.binEmptied (rt : ReplyTo) (b : Fin 3) (s : State) : State :=
  ((s.modStation (binStation b) (fun x => { x with count := 0 })).replyPlain rt .ok).arbiter

/-- BIN_EMPTIED, command 18. -/
def execBinEmptied (f : CmdFrame) (s : State) : Host.Outcome State Fault Refusal :=
  .next (s.answer (cmdReply f 18) f.resend (parseName 3 f.body) (State.binEmptied (cmdReply f 18)))

/-! ### Ports -/

/-- Port Check is taken on a port (R52). -/
def DriveSlot.checkable (x : DriveSlot) : Bool :=
  (decide (x.state = .absent) || decide (x.state = .empty) || decide (x.state = .faulted)) &&
    decide (x.checkPhase = .idle)

/-- Port Check at DPC (R52). -/
def State.portCheck (rt : ReplyTo) (m : Word16) (s : State) : State :=
  ((maskDrives m).filter (fun d => (s.drive d).checkable)).foldl (fun t d => t.modDrive d (·.startCheck))
    (s.reply rt .ok (driveMask (fun d => m.getLsbD d.val && !(s.drive d).checkable)) 0)

/-- PORT_CHECK, command 19. -/
def execPortCheck (f : CmdFrame) (s : State) : Host.Outcome State Fault Refusal :=
  .next (s.answer (cmdReply f 19) f.resend (parseMask f.body) (State.portCheck (cmdReply f 19)))

/-- Port Reset is taken (R53). -/
def DriveSlot.resettable (x : DriveSlot) : Bool :=
  (decide (x.state = .faulted) || decide (x.state = .absent)) && decide (x.checkPhase = .idle)

/-- Port Reset at DPC (R53): the steps of the rule, the REPLY last. -/
def State.portReset (rt : ReplyTo) (d : Drive) (s : State) : State :=
  if (s.drive d).resettable then
    (((s.dropWaiting d).modDrive d (fun x => { x with outstanding := none, timeoutCount := 0 })).modDrive d
      (·.startCheck)).replyPlain rt .ok
  else s.replyPlain rt .busy

/-- PORT_RESET, command 20. -/
def execPortReset (f : CmdFrame) (s : State) : Host.Outcome State Fault Refusal :=
  .next (s.answer (cmdReply f 20) f.resend (parseName 16 f.body) (State.portReset (cmdReply f 20)))

/-- Printer Reset at LPC (R171). -/
def State.printerReset (rt : ReplyTo) (_ : Unit) (s : State) : State :=
  if (s.printer.state = .faulted ∨ s.printer.state = .offline) ∧ s.printer.checkPhase = .idle then
    (s.modPrinter (fun p => { p.startCheck with faultRun := 0, resetRunning := true })).replyPlain rt .ok
  else s.replyPlain rt .busy

/-- PRINTER_RESET, command 21. -/
def execPrinterReset (f : CmdFrame) (s : State) : Host.Outcome State Fault Refusal :=
  .next (s.answer (cmdReply f 21) f.resend (parseNone f.body) (State.printerReset (cmdReply f 21)))

/-! ### Abort All (R194) -/

/-- A record awaits print (R136). -/
def State.awaitsPrint (s : State) (n : RecNo) : Bool :=
  let r := s.record n
  decide (r.use = .inUse) && r.cause.isNone && decide (r.burn = .pass) &&
    (decide (r.verify = .pass) || decide (r.verify = .skipped)) && decide (r.print = .notYet) &&
    (match r.order with | some o => (s.order o).template.isSome | none => false)

/-- PU gives ABORT-ALL to every record that awaits print (R136). -/
def State.abortPrints (s : State) : State :=
  allRecords.foldl (fun t n => if s.awaitsPrint n then t.modRecord n (·.addCause .abortAll) else t) s

/-- DPC's part at one drive (R65, R97): a blank is withdrawn, a disc in CLOSING gets ABORT-ALL. -/
def State.abortDrive (s : State) (d : Drive) : State :=
  match (s.drive d).state with
  | .ready => s.withdraw d
  | .closing => s.giveCause (s.drive d).trayRecord .abortAll
  | .verifying => s.verifyAborted d
  | .loading =>
    match (s.drive d).phase with
    | .trayClosing => if (s.drive d).trayRecord.isSome then s.withdraw d else s
    | .speedSet => s.withdraw d
    | .mediaSense => s.withdraw d
    | _ => s
  | _ => s

/-- A LOAD that Abort All retires (R161): not picked, its PICK not sent. -/
def Entry.abortsUnpicked (e : Entry) : Bool :=
  decide (e.kind = .load) && e.token.isNone && !e.pickSent

/-- Every LOAD that has not been picked is retired (R161). -/
def State.abortLoads (s : State) : State :=
  s.queue.foldl (fun t e => if e.abortsUnpicked then t.retireLoad e else t) s

/-- An UNLOAD to PR whose pick is not done goes to BY-VERDICT; the current one is resolved at once (R161). -/
def State.divert (s : State) (e : Entry) : Entry :=
  if e.kind = .unload ∧ e.boundForPR ∧ s.picked e = false then
    let x := { e with dest := .byVerdict }
    if e.current then { x with dstAt := some (s.destOf x) } else x
  else e

/-- TC's part of Abort All (R161). -/
def State.abortTransport (s : State) : State :=
  let t := s.abortLoads
  (t.setQueue (t.queue.map t.divert)).printerTray

/-- Abort All (R194): auto-feed and its held copy are cleared, then SD and IS, DPC and VE, PU, TC and LPC act (log
entry 8). -/
def State.abortAll (rt : ReplyTo) (_ : Unit) (s : State) : State :=
  let a := (s.replyPlain rt .ok).modTransport (fun t => { t with autoFeed := false, heldCopy := false })
  let b := allWaves.foldl (fun t w => if (t.wave w).state = .idle then t else t.abortWave w .abortAll) a
  let c := allDrives.foldl State.abortDrive b
  (((c.abortPrints.abortTransport).printAborted).loadDecision).arbiter

/-- ABORT_ALL, command 26. -/
def execAbortAll (f : CmdFrame) (s : State) : Host.Outcome State Fault Refusal :=
  .next (s.answer (cmdReply f 26) f.resend (parseNone f.body) (State.abortAll (cmdReply f 26)))

end Sys2Proof.Machine
end

