-- ==== Sys2Proof/Machine/Events.lean ====
section
/-! DEFINITION. The rows that are no frames: what the drives, the arm, the printer and their timers send
(R45 to R51, R148, R154, R168, R170). A reply or an outcome is matched by its number alone, whatever row carries it
(log entry 4). One that is taken ends with an evaluation of the arbiter, since the state it reads may have changed. -/

namespace Sys2Proof.Machine

/-! ### Drive links -/

/-- The result of an exchange that ended with an answer (R50). -/
def checkResultOf : ExchangeResult → CheckResult
  | .good => .good
  | .linkErrors => .linkErrors
  | .wrongDevice => .wrongDevice

/-- PORT_CHECK_EXCHANGE_END: an end that finds no exchange running has no effect (log entry 3). -/
def execPortCheckExchangeEnd (d : Drive) (r : ExchangeResult) (s : State) : Host.Outcome State Fault Refusal :=
  .next (if (s.drive d).exchanging then (s.checkEnd d (checkResultOf r)).arbiter else s)

/-- PORT_CHECK_TIMEOUT. -/
def execPortCheckTimeout (d : Drive) (s : State) : Host.Outcome State Fault Refusal :=
  .next (if (s.drive d).exchanging then (s.checkEnd d .noResponse).arbiter else s)

/-- A reply reaches the port of drive `d` (R45): it is taken when its number is that of the outstanding
request. -/
def State.driveReply (s : State) (d : Drive) (n : Byte) (r : DriveReply) : State :=
  match (s.drive d).outstanding with
  | some o => if o.number = n then (s.requestEnded d o.req (o.req.ending r)).arbiter else s
  | none => s

/-- The timeout of the outstanding request of drive `d` expires (R47). -/
def State.driveTimeout (s : State) (d : Drive) : State :=
  match (s.drive d).outstanding with
  | some o => (s.requestEnded d o.req .timeout).arbiter
  | none => s

/-- TRAY_OPEN_REPLY. -/
def execTrayOpenReply (d : Drive) (n : Byte) (r : DriveReply) (s : State) : Host.Outcome State Fault Refusal :=
  .next (s.driveReply d n r)

/-- TRAY_CLOSE_REPLY. -/
def execTrayCloseReply (d : Drive) (n : Byte) (r : DriveReply) (s : State) : Host.Outcome State Fault Refusal :=
  .next (s.driveReply d n r)

/-- SPEED_REPLY. -/
def execSpeedReply (d : Drive) (n : Byte) (r : DriveReply) (s : State) : Host.Outcome State Fault Refusal :=
  .next (s.driveReply d n r)

/-- WRITE_REPLY. -/
def execWriteReply (d : Drive) (n : Byte) (r : DriveReply) (s : State) : Host.Outcome State Fault Refusal :=
  .next (s.driveReply d n r)

/-- CLOSE_REPLY. -/
def execCloseReply (d : Drive) (n : Byte) (r : DriveReply) (s : State) : Host.Outcome State Fault Refusal :=
  .next (s.driveReply d n r)

/-- READ_REPLY. -/
def execReadReply (d : Drive) (n : Byte) (r : DriveReply) (s : State) : Host.Outcome State Fault Refusal :=
  .next (s.driveReply d n r)

/-- SENSE_REPLY. -/
def execSenseReply (d : Drive) (n : Byte) (r : DriveReply) (s : State) : Host.Outcome State Fault Refusal :=
  .next (s.driveReply d n r)

/-- DRIVE_REQUEST_TIMEOUT. -/
def execDriveRequestTimeout (d : Drive) (s : State) : Host.Outcome State Fault Refusal :=
  .next (s.driveTimeout d)

/-! ### The arm port -/

/-- GOTO_OUTCOME. -/
def execGotoOutcome (n : Byte) (o : ArmOutcome) (s : State) : Host.Outcome State Fault Refusal :=
  .next (s.armOutcome n o)

/-- PICK_OUTCOME. -/
def execPickOutcome (n : Byte) (o : ArmOutcome) (s : State) : Host.Outcome State Fault Refusal :=
  .next (s.armOutcome n o)

/-- PLACE_OUTCOME. -/
def execPlaceOutcome (n : Byte) (o : ArmOutcome) (s : State) : Host.Outcome State Fault Refusal :=
  .next (s.armOutcome n o)

/-- HOME_OUTCOME. -/
def execHomeOutcome (n : Byte) (o : ArmOutcome) (s : State) : Host.Outcome State Fault Refusal :=
  .next (s.armOutcome n o)

/-- ARM_OPERATION_TIMEOUT. -/
def execArmOperationTimeout (s : State) : Host.Outcome State Fault Refusal := .next s.armTimeout

/-- TC takes DROPPED: in RUNNING, while the arm carries a disc to its destination or places it (R148, R154; log
entry 17). -/
def State.takesDropped (s : State) : Bool :=
  decide (s.transport.mode = .running) &&
    (decide (s.transport.phase = .travelDst) || decide (s.transport.phase = .place))

/-- DROPPED: discarded in any other phase. -/
def execDropped (s : State) : Host.Outcome State Fault Refusal :=
  .next (if s.takesDropped then s.enterHeld .dropped else s)

/-! ### The printer link -/

/-- PRINTER_CHECK_EXCHANGE_END. -/
def execPrinterCheckExchangeEnd (r : ExchangeResult) (s : State) : Host.Outcome State Fault Refusal :=
  .next (if s.printerChecking then (s.printerCheckEnd (checkResultOf r)).arbiter else s)

/-- PRINTER_CHECK_TIMEOUT. -/
def execPrinterCheckTimeout (s : State) : Host.Outcome State Fault Refusal :=
  .next (if s.printerChecking then (s.printerCheckEnd .noResponse).arbiter else s)

/-- PRINTER_SENSE_REPLY. -/
def execPrinterSenseReply (n : Byte) (r : PrinterReply) (s : State) : Host.Outcome State Fault Refusal :=
  .next (s.printReply n r)

/-- TRAY_OUT_REPLY. -/
def execTrayOutReply (n : Byte) (r : PrinterReply) (s : State) : Host.Outcome State Fault Refusal :=
  .next (s.printReply n r)

/-- TRAY_IN_REPLY. -/
def execTrayInReply (n : Byte) (r : PrinterReply) (s : State) : Host.Outcome State Fault Refusal :=
  .next (s.printReply n r)

/-- START_REPLY. -/
def execStartReply (n : Byte) (r : PrinterReply) (s : State) : Host.Outcome State Fault Refusal :=
  .next (s.printReply n r)

/-- BAND_REPLY. -/
def execBandReply (n : Byte) (r : PrinterReply) (s : State) : Host.Outcome State Fault Refusal :=
  .next (s.printReply n r)

/-- FINISH_REPLY. -/
def execFinishReply (n : Byte) (r : PrinterReply) (s : State) : Host.Outcome State Fault Refusal :=
  .next (s.printReply n r)

/-- PRINTER_REQUEST_TIMEOUT. -/
def execPrinterRequestTimeout (s : State) : Host.Outcome State Fault Refusal := .next s.printTimeout

end Sys2Proof.Machine
end

