-- ==== Sys2Proof/Machine/Tables.lean ====
section
/-! DEFINITION. The four table writes (R68, R70, R140, R167) and the settings memory behind two of the tables
(R200 to R202). -/

namespace Sys2Proof.Machine

/-! ### Speed ladder (R68) -/

/-- AU takes a ladder write in every state: the code is stored, and the load decision runs. -/
def State.ladderWrite (rt : ReplyTo) (a : Rung × Byte) (s : State) : State :=
  ((((s.setCode a.1 a.2).modSettings (fun x => { x with
    ladderWritten := x.ladderWritten.set a.1.val true a.1.isLt })).replyPlain rt .ok).loadDecision).arbiter

/-- SPEED_LADDER_WRITE. -/
def execSpeedLadderWrite (f : TableFrame) (s : State) : Host.Outcome State Fault Refusal :=
  .next (s.answer (tableReply f 1) f.resend (parseLadder f) (State.ladderWrite (tableReply f 1)))

/-! ### Station map (R140) -/

/-- Check 2 of R140. -/
def stationOk (i : StationNo) (a : StationArgs) : Bool :=
  decide (a.kind = kindOfStation i) && decide (a.lift.toNat ≤ Config.maxTarget) &&
    decide (a.rotate.toNat ≤ Config.maxTarget) &&
    (match kindOfStation i with
      | .spindle => decide (1 ≤ a.value.toNat) && decide (a.value.toNat ≤ 15)
      | .bin => decide (1 ≤ a.value.toNat) && decide (a.value.toNat ≤ Config.spindleMax)
      | _ => true)

/-- The values a map entry takes: kind and targets, the class of a spindle, the capacity of a bin. -/
def Station.takes (x : Station) (i : StationNo) (a : StationArgs) : Station :=
  { x with
    kind := a.kind
    lift := a.lift.toNat
    rotate := a.rotate.toNat
    mediaClass := if kindOfStation i = .spindle then a.value.toNat else x.mediaClass
    capacity := if kindOfStation i = .bin then a.value.toNat else x.capacity }

/-- A map entry after a taken write (R140): a bin's count is lowered to its capacity. -/
def Station.written (x : Station) (i : StationNo) (a : StationArgs) : Station :=
  let y := x.takes i a
  if kindOfStation i = .bin then { y with count := min y.count y.capacity } else y

/-- A bin that the write left full raises its bit in BIN-FULL (R140). -/
def State.fullAfterWrite (s : State) (i : StationNo) : State :=
  if kindOfStation i = .bin then s.raiseBinFull i else s

/-- A write that changed the class of a LOADED spindle (R140): each unpicked LOAD whose class has no LOADED spindle left
is retired by R141, and the load decision runs. -/
def State.classChanged (s : State) (changed : Bool) : State :=
  if changed then (s.retireStranded (fun c => (s.loadedSpindle c).isNone)).loadDecision else s

/-- TC takes or refuses a station map write (R140). -/
def State.stationWrite (rt : ReplyTo) (a : StationNo × StationArgs) (s : State) : State :=
  if s.transport.mode = .running then s.replyPlain rt .busy
  else if stationOk a.1 a.2 then
    let changed := decide (kindOfStation a.1 = .spindle) && (s.station a.1).loaded &&
      decide ((s.station a.1).mediaClass ≠ a.2.value.toNat)
    ((((((s.modStation a.1 (·.written a.1 a.2)).modSettings (fun x => { x with
      mapWritten := x.mapWritten.set a.1.val true a.1.isLt })).replyPlain rt .ok).fullAfterWrite a.1).classChanged
        changed).arbiter)
  else s.replyPlain rt .range

/-- STATION_MAP_WRITE. -/
def execStationMapWrite (f : TableFrame) (s : State) : Host.Outcome State Fault Refusal :=
  .next (s.answer (tableReply f 2) f.resend (parseStation f) (State.stationWrite (tableReply f 2)))

/-! ### Staged assignments (R70) -/

/-- AU takes a staged write in every state and stores the fields as written. -/
def State.stagedWrite (rt : ReplyTo) (a : Drive × StagedEntry) (s : State) : State :=
  (s.modDrive a.1 (fun x => { x with staged := a.2 })).replyPlain rt .ok

/-- STAGED_ASSIGNMENT_WRITE. -/
def execStagedAssignmentWrite (f : TableFrame) (s : State) : Host.Outcome State Fault Refusal :=
  .next (s.answer (tableReply f 3) f.resend (parseStaged f) (State.stagedWrite (tableReply f 3)))

/-! ### Templates (R167) -/

/-- The owner's checks of a template write (R167). -/
def templateOk (a : TemplateArgs) : Bool :=
  decide (a.textLength ≤ 16) &&
    (a.textBytes.take a.textLength).all (fun c => decide (0x20 ≤ c.toNat) && decide (c.toNat ≤ 0x7E)) &&
    decide (a.nextSerial ≤ Config.maxSerial)

/-- A template after a taken write: the four fields are stored, the counts stay. -/
def Template.written (x : Template) (a : TemplateArgs) : Template :=
  { x with art := a.art, serialEnabled := a.serialEnabled, text := a.textBytes.take a.textLength,
           nextSerial := a.nextSerial }

/-- LPC takes or refuses a template write (R167). -/
def State.templateWrite (rt : ReplyTo) (a : TmplNo × TemplateArgs) (s : State) : State :=
  if templateOk a.2 then ((s.modTemplate a.1 (·.written a.2)).replyPlain rt .ok).arbiter
  else s.replyPlain rt .range

/-- TEMPLATE_WRITE. -/
def execTemplateWrite (f : TableFrame) (s : State) : Host.Outcome State Fault Refusal :=
  .next (s.answer (tableReply f 4) f.resend (parseTemplate f) (State.templateWrite (tableReply f 4)))

/-! ### The settings memory (R200 to R202) -/

/-- The map entry of station `i` as the settings image holds it (R200): the class of a spindle or the capacity of a
bin, by the station's fixed kind. -/
def Station.stored (x : Station) (i : StationNo) : StoredStation :=
  { kind := x.kind, lift := BitVec.ofNat 16 x.lift, rotate := BitVec.ofNat 16 x.rotate,
    value := match kindOfStation i with
      | .spindle => BitVec.ofNat 8 x.mediaClass
      | .bin => BitVec.ofNat 8 x.capacity
      | _ => 0 }

/-- The copy of the ladder and the map that Store Settings takes (R202). -/
def State.settingsCopy (s : State) : SettingsValues :=
  { codes := s.ladder, stations := Vector.ofFn (fun (i : StationNo) => (s.station i).stored i) }

/-- The bytes of one stored map entry (log entry 10). -/
def storedBytes (x : StoredStation) : List Byte :=
  enc8 x.kind.ctorIdx ++ enc16w x.lift ++ enc16w x.rotate ++ [x.value]

/-- The bytes a settings image's CRC-32 is taken over (R200; log entry 10). -/
def settingsBytes (v : SettingsValues) : List Byte := v.codes.toList ++ v.stations.toList.flatMap storedBytes

/-- A settings image with its CRC-32 (R200). -/
def settingsImage (v : SettingsValues) : StoredImage := { values := v, crc := crc32 (settingsBytes v) }

/-- The CRC of an image matches (R201). -/
def imageGood (i : StoredImage) : Bool := decide (i.crc = crc32 (settingsBytes i.values))

/-- A stored map entry as the arguments of a write. -/
def storedArgs (x : StoredStation) : StationArgs :=
  { kind := x.kind, lift := x.lift, rotate := x.rotate, value := x.value }

/-- Each ladder entry whose written flag is clear takes its stored code (R201). -/
def State.loadCodes (s : State) (v : SettingsValues) : State :=
  (List.finRange 8).foldl (fun t (g : Rung) =>
    if s.settings.ladderWritten[g.val] then t else t.setCode g v.codes[g.val]) s

/-- Each map entry whose written flag is clear takes its stored values as they are (R201). -/
def State.loadStations (s : State) (v : SettingsValues) : State :=
  allStations.foldl (fun t i =>
    if s.settings.mapWritten[i.val] then t else t.modStation i (·.takes i (storedArgs v.stations[i.val]))) s

/-- The access becomes IDLE and SETTINGS is raised (R201, R202). -/
def State.settingsEnd (s : State) (r : SettingsResult) : State :=
  (s.modSettings (fun x => { x with access := .idle, storing := none })).raise .settings 0 (some (.settings r))

/-- The settings load ends with an image that was read (R201). That the load decision, which the taken ladder values
call for, is run once all stored values are taken and before SETTINGS is raised, so that its events come first, is the
model's choice (log entry 46). -/
def State.settingsRead (s : State) (i : StoredImage) : State :=
  if imageGood i then
    let t := (s.loadCodes i.values).loadStations i.values
    ((((t.retireStranded (s.lostTo t)).loadDecision).settingsEnd .loaded).arbiter)
  else s.settingsEnd .failed

/-- The settings read ends other than by its timeout (R201). -/
def State.settingsLoaded (s : State) (r : SpiRead) : State :=
  match r with
  | .contents => s.settingsRead s.settings.eeprom
  | .image i => (s.modSettings (fun x => { x with eeprom := i })).settingsRead i
  | .failed => s.settingsEnd .failed

/-- SETTINGS_LOAD_END: an end that finds no load in progress has no effect (log entry 3). -/
def execSettingsLoadEnd (r : SpiRead) (s : State) : Host.Outcome State Fault Refusal :=
  .next (if s.settings.access = .loading then s.settingsLoaded r else s)

/-- SETTINGS_LOAD_TIMEOUT. -/
def execSettingsLoadTimeout (s : State) : Host.Outcome State Fault Refusal :=
  .next (if s.settings.access = .loading then s.settingsEnd .failed else s)

/-- A partly written image: the bytes `i`, with a CRC that does not match (R202). -/
def badImage (i : StoredImage) : StoredImage := if imageGood i then { i with crc := ~~~i.crc } else i

/-- The EEPROM after a store that has failed (R202): how far it came, and the bytes of a partly written image, are
free values (log entry 11). -/
def Settings.afterFailure (x : Settings) : StoredImage :=
  match Config.storeReach x.failedStores, x.storing with
  | .partly, _ => badImage (Config.partialImage x.failedStores)
  | .whole, some v => settingsImage v
  | _, _ => x.eeprom

/-- The settings memory after a store that has failed (R202). -/
def Settings.storeCut (x : Settings) : Settings :=
  { x with eeprom := x.afterFailure, failedStores := x.failedStores + 1 }

/-- A store has failed (R202). -/
def State.storeFailed (s : State) : State := (s.modSettings (·.storeCut)).settingsEnd .failed

/-- The store is acknowledged (R202): the EEPROM holds the copy with its CRC-32. -/
def State.storeDone (s : State) : State :=
  match s.settings.storing with
  | some v => (s.modSettings (fun x => { x with eeprom := settingsImage v })).settingsEnd .done
  | none => s.settingsEnd .done

/-- SETTINGS_STORE_ACK. -/
def execSettingsStoreAck (ok : Bool) (s : State) : Host.Outcome State Fault Refusal :=
  .next (if s.settings.access = .storing then (if ok then s.storeDone else s.storeFailed) else s)

/-- SETTINGS_STORE_TIMEOUT. -/
def execSettingsStoreTimeout (s : State) : Host.Outcome State Fault Refusal :=
  .next (if s.settings.access = .storing then s.storeFailed else s)

/-- Store Settings is taken when the access is IDLE, and refused with BUSY otherwise (R202). -/
def State.storeSettings (rt : ReplyTo) (_ : Unit) (s : State) : State :=
  if s.settings.access = .idle then
    (s.modSettings (fun x => { x with access := .storing, storing := some s.settingsCopy })).replyPlain rt .ok
  else s.replyPlain rt .busy

/-- STORE_SETTINGS, command 25. -/
def execStoreSettings (f : CmdFrame) (s : State) : Host.Outcome State Fault Refusal :=
  .next (s.answer (cmdReply f 25) f.resend (parseNone f.body) (State.storeSettings (cmdReply f 25)))

end Sys2Proof.Machine
end

