-- ==== Sys2Proof/Machine/ImageCommands.lean ====
section
/-! DEFINITION. The rows of the image path: POWER_ON (R203), Image Define and Image Release (R2, R3), Wave Open and
Wave Abort (R20, R21, R41), the data frames SECTOR, RUN and ARTWORK (R22 to R24, R165, R166), the starvation expiry
(R35), and the artwork command Artwork Begin (R164). -/

namespace Sys2Proof.Machine

/-! ### POWER_ON -/

/-- The settings memory after power-on (R200): the EEPROM keeps its contents (log entry 1). What it holds when the
power-on cuts off a store is not given; that it is what a failed store leaves (R202), a free value, is the model's
choice (log entry 48). -/
def Settings.poweredOn (x : Settings) : Settings :=
  let y := if x.access = .storing then x.storeCut else x
  { Settings.reset with eeprom := y.eeprom, failedStores := y.failedStores }

/-- The machine after power-on (R203): every block at its starting values. The commands that wait are not part of the
machine (log entry 1). -/
def State.powerOn (s : State) : State :=
  { State.reset with pending := s.pending, settings := s.settings.poweredOn }

/-- POWER_ON. -/
def execPowerOn (s : State) : Host.Outcome State Fault Refusal := .next s.powerOn

/-! ### Images -/

/-- An image slot after a taken Image Define (R2). -/
def ImageSlot.defined (x : ImageSlot) (tag : Word32) (length : Nat) : ImageSlot :=
  { x with tag := tag, length := length, state := .defined, fillingWave := none, digests := [] }

/-- Image Define at IS (R2). -/
def State.imageDefine (rt : ReplyTo) (a : SlotNo × Word32 × Word32) (s : State) : State :=
  if (s.image a.1).state ≠ .undefined then s.replyPlain rt .state
  else if a.2.2.toNat = 0 ∨ Config.maxLength < a.2.2.toNat then s.replyPlain rt .range
  else
    ((s.modImage a.1 (·.defined a.2.1 a.2.2.toNat)).replyPlain rt .ok).raiseImage a.1 .defined .command

/-- IMAGE_DEFINE, command 1. -/
def execImageDefine (f : CmdFrame) (s : State) : Host.Outcome State Fault Refusal :=
  .next (s.answer (cmdReply f 1) f.resend (parseImageDefine f.body) (State.imageDefine (cmdReply f 1)))

/-- An image slot after a taken Image Release (R3). -/
def ImageSlot.released (x : ImageSlot) : ImageSlot :=
  { x with tag := 0, length := 0, state := .undefined, fillingWave := none, digests := [] }

/-- A reference count of the slot is above zero (R3). -/
def ImageSlot.referenced (x : ImageSlot) : Bool :=
  decide (0 < x.waveCount) || decide (0 < x.verifyCount) || decide (0 < x.orderCount)

/-- Image Release at IS (R3). -/
def State.imageRelease (rt : ReplyTo) (i : SlotNo) (s : State) : State :=
  if (s.image i).state = .undefined then s.replyPlain rt .state
  else if (s.image i).referenced then s.replyPlain rt .busy
  else ((s.modImage i (·.released)).replyPlain rt .ok).raiseImage i .undefined .command

/-- IMAGE_RELEASE, command 2. -/
def execImageRelease (f : CmdFrame) (s : State) : Host.Outcome State Fault Refusal :=
  .next (s.answer (cmdReply f 2) f.resend (parseName 4 f.body) (State.imageRelease (cmdReply f 2)))

/-! ### Waves -/

/-- The capacities of the non-IDLE waves other than `w` (R20 check 5). -/
def State.otherCapacity (s : State) (w : WaveNo) : Nat :=
  ((allWaves.filter (fun v => decide (v ≠ w) && decide ((s.wave v).state ≠ .idle))).map
    (fun v => (s.wave v).capacity)).sum

/-- The first check of Wave Open that fails (R20). -/
def State.waveOpenCheck (s : State) (a : WaveOpenArgs) : Option Status :=
  if (s.wave a.wave).state ≠ .idle then some .state
  else if a.capacity < Config.minCapacity ∨ Config.poolSlots < a.capacity ∨ 60 < a.limit then some .range
  else if (s.image a.slot).state = .undefined then some .state
  else if (s.image a.slot).state = .filling then some .busy
  else if Config.poolSlots - s.otherCapacity a.wave < a.capacity then some .noSpace
  else none

/-- A wave that a taken Wave Open has opened (R21 step 1). -/
def Wave.openedWith (a : WaveOpenArgs) (check : Bool) : Wave :=
  { state := .opened, slot := some a.slot, checkFlag := check, capacity := a.capacity, held := [], head := 0,
    releasedTotal := 0, lastCredited := 0,
    starvationLimit := if a.limit = 0 then Config.defaultStarvation else a.limit,
    timerRunning := false, attachments := [], endCause := .none }

/-- The accumulator at a taken Wave Open (R7). -/
def Accumulator.start (mode : AccMode) (slot : SlotNo) : Accumulator :=
  { mode := mode, slot := some slot, block := 0, taken := 0, crc := crcInit }

/-- IS acts on the slot at a taken Wave Open (R4, R6). -/
def State.openAtImage (s : State) (w : WaveNo) (i : SlotNo) : State :=
  if (s.image i).state = .defined then
    ((s.modImage i (fun x => { x with state := .filling, fillingWave := some w, digests := [],
                                      waveCount := x.waveCount + 1 })).modAcc w
      (fun _ => .start .fill i)).raiseImage i .filling .opened
  else
    (s.modImage i (fun x => { x with waveCount := x.waveCount + 1 })).modAcc w (fun _ => .start .check i)

/-- The drives in READY that wait for an image slot, from D0 upward (R27). -/
def State.waitingDrives (s : State) (i : SlotNo) : List Drive :=
  allDrives.filter (fun d => decide ((s.drive d).state = .ready) && decide (s.waitsFor d = some i))

/-- A taken Wave Open (R21). -/
def State.openTaken (rt : ReplyTo) (a : WaveOpenArgs) (s : State) : State :=
  let check := decide ((s.image a.slot).state ≠ .defined)
  let t := (((s.modWave a.wave (fun _ => .openedWith a check)).openAtImage a.wave a.slot).replyPlain rt .ok).emit
    (.credit a.wave 0 0)
  (t.waitingDrives a.slot).foldl (fun u d => u.attach a.wave d) (t.raiseWave a.wave .opened .command)

/-- Wave Open at SD (R20, R21). -/
def State.waveOpen (rt : ReplyTo) (a : WaveOpenArgs) (s : State) : State :=
  match s.waveOpenCheck a with
  | some st => s.replyPlain rt st
  | none => State.openTaken rt a s

/-- WAVE_OPEN, command 3. -/
def execWaveOpen (f : CmdFrame) (s : State) : Host.Outcome State Fault Refusal :=
  .next (s.answer (cmdReply f 3) f.resend (parseWaveOpen f.body) (State.waveOpen (cmdReply f 3)))

/-- Wave Abort at SD (R41). -/
def State.waveAbort (rt : ReplyTo) (w : WaveNo) (s : State) : State :=
  if (s.wave w).state = .idle then s.replyPlain rt .state
  else ((s.replyPlain rt .ok).abortWave w .waveAborted).arbiter

/-- WAVE_ABORT, command 4. -/
def execWaveAbort (f : CmdFrame) (s : State) : Host.Outcome State Fault Refusal :=
  .next (s.answer (cmdReply f 4) f.resend (parseName 4 f.body) (State.waveAbort (cmdReply f 4)))

/-! ### Sector data -/

/-- A SECTOR frame that FP has passed (R22, R23). -/
def State.sectorFrame (s : State) (w : WaveNo) (first : Nat) (sectors : List (List Byte)) : State :=
  match s.frameCause w first sectors.length sectors.length with
  | some c => s.discard c
  | none => (s.acceptFrame w (sectorEntries first sectors) sectors.length sectors).arbiter

/-- SECTOR: a frame that fails FP's checks of count and length is discarded with FORMAT (R184). -/
def execSector (w : WaveNo) (first : Word32) (sectors : List (List Byte)) (s : State) :
    Host.Outcome State Fault Refusal :=
  .next (if sectorsOk sectors then s.sectorFrame w first.toNat sectors else s.discard .format)

/-- A RUN frame that FP has passed (R22, R24): one slot for `rep + 1` sectors. -/
def State.runFrame (s : State) (w : WaveNo) (first rep : Nat) (payload : List Byte) : State :=
  match s.frameCause w first (rep + 1) 1 with
  | some c => s.discard c
  | none =>
    (s.acceptFrame w [{ first := first, last := first + rep, isRun := true, payload := payload }] (rep + 1)
      (List.replicate (rep + 1) payload)).arbiter

/-- RUN. -/
def execRun (w : WaveNo) (first : Word32) (rep : Word16) (payload : List Byte) (s : State) :
    Host.Outcome State Fault Refusal :=
  .next (if runOk rep payload then s.runFrame w first.toNat rep.toNat payload else s.discard .format)

/-! ### Starvation -/

/-- The drives whose cursor lies within the oldest held entry (R35). -/
def Wave.starving (x : Wave) : List Drive :=
  match x.held with
  | e :: _ => (x.attachments.filter (fun a => decide (e.first ≤ a.cursor) && decide (a.cursor ≤ e.last))).map (·.drive)
  | [] => []

/-- A running starvation timer expires (R35). -/
def State.starve (s : State) (w : WaveNo) : State :=
  let ds := (s.wave w).starving
  let a := (s.modWave w (fun x => { x with timerRunning := false })).detachAll w ds .detached
  let b := if ds.isEmpty then a else a.raiseDetach w (maskOf ds)
  if (b.wave w).attachments = [] then b.abortWave w .noDrives else (b.releaseRule w).drainedCheck w

/-- STARVATION_EXPIRY: an expiry that finds no timer running has no effect (log entry 3). -/
def execStarvationExpiry (w : WaveNo) (s : State) : Host.Outcome State Fault Refusal :=
  .next (if (s.wave w).timerRunning then (s.starve w).arbiter else s)

/-! ### Artwork -/

/-- Artwork Begin at LPC (R164). -/
def State.artworkBegin (rt : ReplyTo) (a : ArtNo × Nat × Word32) (s : State) : State :=
  if (s.artwork a.1).inUse then s.replyPlain rt .busy
  else if a.2.1 = 0 ∨ Config.maxArtwork < a.2.1 then s.replyPlain rt .range
  else
    ((s.modArtwork a.1 (fun x => { x with state := .filling, length := a.2.1, check := a.2.2, bytes := [],
                                          crc := crcInit })).replyPlain rt .ok).arbiter

/-- ARTWORK_BEGIN, command 22. -/
def execArtworkBegin (f : CmdFrame) (s : State) : Host.Outcome State Fault Refusal :=
  .next (s.answer (cmdReply f 22) f.resend (parseArtworkBegin f.body) (State.artworkBegin (cmdReply f 22)))

/-- The checks of R165, in order. -/
def State.artworkCause (s : State) (a : ArtNo) (offset n : Nat) : Option DiscardCause :=
  if (s.artwork a).state ≠ .filling then some .artwork
  else if offset ≠ (s.artwork a).fillPoint then some .sequence
  else if (s.artwork a).length < offset + n then some .length
  else none

/-- ARTWORK with the slot's bit and a result (R166). -/
def State.raiseArtwork (s : State) (a : ArtNo) (ready : Bool) : State :=
  s.raise .artwork (bitMask a.val) (some (.artwork ready))

/-- The fill point has reached the length (R166): READY, or EMPTY with the bytes discarded (log entry 22). -/
def State.artworkComplete (s : State) (a : ArtNo) : State :=
  if crcFinish (s.artwork a).crc = (s.artwork a).check then
    (s.modArtwork a (fun x => { x with state := .ready })).raiseArtwork a true
  else
    (s.modArtwork a (fun x => { x with state := .empty, length := 0, bytes := [], crc := crcInit })).raiseArtwork a
      false

/-- The bytes of a taken ARTWORK frame join the slot (R165). -/
def Artwork.append (x : Artwork) (data : List Byte) : Artwork :=
  { x with bytes := x.bytes ++ data, crc := crcRun x.crc data }

/-- An ARTWORK frame that FP has passed (R165). -/
def State.artworkTaken (s : State) (a : ArtNo) (offset : Nat) (data : List Byte) : State :=
  match s.artworkCause a offset data.length with
  | some c => s.discard c
  | none =>
    let t := (s.countAccepted).modArtwork a (·.append data)
    if (t.artwork a).fillPoint = (t.artwork a).length then (t.artworkComplete a).arbiter else t

/-- ARTWORK_FRAME. -/
def execArtworkFrame (a : ArtNo) (offset : Word32) (data : List Byte) (s : State) :
    Host.Outcome State Fault Refusal :=
  .next (if artworkBodyOk data then s.artworkTaken a offset.toNat data else s.discard .format)

end Sys2Proof.Machine
end

