-- ==== Sys2Proof/Machine/WorkCommands.lean ====
section
/-! DEFINITION. The commands over assignments and orders: Apply Now and Apply At Load (R73, R74, R77), Order Define,
Hold, Resume, Quantity and Cancel (R121 to R125). -/

namespace Sys2Proof.Machine

/-! ### Validation (R73) -/

/-- A rung of a staged entry that lies in range and whose ladder entry is defined. -/
def State.rungDefined (s : State) (n : Nat) : Bool :=
  if h : n < 8 then decide (s.code ⟨n, h⟩ ≠ 0) else false

/-- Check 2 of R73. -/
def State.rungsOk (s : State) (e : StagedEntry) : Bool :=
  decide (e.start ≤ 7) && decide (e.start ≤ e.floor) && decide (e.floor ≤ 7) && s.rungDefined e.start &&
    s.rungDefined e.floor && decide (e.threshold ≤ 7)

/-- Check 3 of R73. -/
def verifyOk (e : StagedEntry) : Bool :=
  decide (e.mode ≤ 2) && (decide (e.mode ≠ 2) || (decide (2 ≤ e.stride) && decide (e.stride ≤ 64))) &&
    decide (e.tolerance ≤ 1023)

/-- The apply status of the first check that fails (R73). -/
def State.validate (s : State) (e : StagedEntry) : Option ApplyStatus :=
  if (s.order e.order).state = .free then some .rejOrder
  else if s.rungsOk e = false then some .rejRung
  else if verifyOk e = false then some .rejVerify
  else none

/-- The threshold in force: a field of 0 selects 3 (R70, R71). -/
def thresholdInForce (n : Nat) : Nat := if n = 0 then 3 else n

/-- The verify mode of a staged code (R187). -/
def modeInForce (n : Nat) : VerifyMode :=
  match n with
  | 1 => .full
  | 2 => .sampled
  | _ => .none

/-- The assignment a validated staged entry gives (R70, R71). -/
def StagedEntry.inForce (e : StagedEntry) : Assignment :=
  { order := e.order, start := ⟨e.start % 8, by omega⟩, floor := ⟨e.floor % 8, by omega⟩,
    threshold := thresholdInForce e.threshold, mode := modeInForce e.mode, stride := e.stride,
    tolerance := e.tolerance }

/-- The apply status of drive `d` is set; no event is raised (R82). -/
def State.setApply (s : State) (d : Drive) (st : ApplyStatus) : State :=
  s.modDrive d (fun x => { x with applyStatus := st })

/-- A drive is ignored by an apply (R76). -/
def State.applyIgnored (s : State) (d : Drive) : Bool := decide ((s.drive d).applyStatus = .inProgress)

/-! ### Apply Now (R74) -/

/-- The drive's state lets Apply Now act on it. -/
def DriveSlot.applies (x : DriveSlot) : Bool :=
  decide (x.state = .absent) || decide (x.state = .empty) || decide (x.state = .faulted)

/-- Why Apply Now refuses a drive that it does not ignore (R74 steps 2 and 3). -/
def State.nowRefusal (s : State) (d : Drive) : Option ApplyStatus :=
  if (s.drive d).applies then s.validate (s.drive d).staged else some .rejBusy

/-- The staged entry of drive `d` is put in force at once (R74 steps 4 to 6). -/
def State.applyOk (s : State) (d : Drive) : State :=
  let a := (s.drive d).staged.inForce
  let t := s.modDrive d (·.putInForce a)
  if (s.drive d).state = .empty then
    (t.setApply d .inProgress).askDrive d (.speed (s.code a.start) a.start .apply)
  else t.endApply d .success

/-- Apply Now at one drive (R74). -/
def State.applyNowAt (s : State) (d : Drive) : State :=
  if s.applyIgnored d then s
  else
    match s.nowRefusal d with
    | some st => s.setApply d st
    | none => s.applyOk d

/-- A drive that an apply neither ignores nor refuses. -/
def State.applySucceeds (s : State) (refusal : State → Drive → Option ApplyStatus) (d : Drive) : Bool :=
  !s.applyIgnored d && (refusal s d).isNone

/-- The refused mask of an apply (R74, R77). -/
def State.applyRefused (s : State) (refusal : State → Drive → Option ApplyStatus) (m : Word16) : Word16 :=
  driveMask (fun d => m.getLsbD d.val && !s.applyIgnored d && (refusal s d).isSome)

/-- The ignored mask of an apply (R76). -/
def State.applyIgnoredMask (s : State) (m : Word16) : Word16 :=
  driveMask (fun d => m.getLsbD d.val && s.applyIgnored d)

/-- An apply over the drives of a mask, from D0 upward: the REPLY with its masks, the drives, and the load decision
when one of them took its entry. -/
def State.applyMask (rt : ReplyTo) (refusal : State → Drive → Option ApplyStatus) (act : State → Drive → State)
    (m : Word16) (s : State) : State :=
  let t := (maskDrives m).foldl act (s.reply rt .ok (s.applyRefused refusal m) (s.applyIgnoredMask m))
  if (maskDrives m).any (s.applySucceeds refusal) then (t.loadDecision).arbiter else t

/-- APPLY_NOW, command 5. -/
def execApplyNow (f : CmdFrame) (s : State) : Host.Outcome State Fault Refusal :=
  .next (s.answer (cmdReply f 5) f.resend (parseMask f.body)
    (State.applyMask (cmdReply f 5) State.nowRefusal State.applyNowAt))

/-! ### Apply At Load (R77) -/

/-- Why Apply At Load refuses a drive that it does not ignore: the drive's state is not checked. -/
def State.laterRefusal (s : State) (d : Drive) : Option ApplyStatus := s.validate (s.drive d).staged

/-- Apply At Load at one drive (R77). -/
def State.applyAtLoadAt (s : State) (d : Drive) : State :=
  if s.applyIgnored d then s
  else
    match s.laterRefusal d with
    | some st => s.setApply d st
    | none =>
      s.modDrive d (fun x => { x with pendingCopy := some x.staged.inForce, applyStatus := .pending })

/-- APPLY_AT_LOAD, command 6. -/
def execApplyAtLoad (f : CmdFrame) (s : State) : Host.Outcome State Fault Refusal :=
  .next (s.answer (cmdReply f 6) f.resend (parseMask f.body)
    (State.applyMask (cmdReply f 6) State.laterRefusal State.applyAtLoadAt))

/-! ### Orders -/

/-- Order `o` takes a state and ORDER-STATE is raised (R137). -/
def State.orderTo (s : State) (o : OrderNo) (st : OrderState) : State :=
  (s.modOrder o (fun x => { x with state := st })).raiseOrder o

/-- The first check of Order Define that fails (R121). -/
def State.orderDefineCheck (s : State) (a : OrderDefineArgs) : Option Status :=
  if (s.order a.order).state ≠ .free then some .state
  else if a.mediaClass = 0 ∨ 15 < a.mediaClass ∨ a.quantity = 0 then some .range
  else if (s.image a.slot).state = .undefined then some .state
  else none

/-- The order a taken Order Define stores (R121). -/
def OrderDefineArgs.stored (a : OrderDefineArgs) : Order :=
  { state := .opened, slot := a.slot, mediaClass := a.mediaClass, quantity := a.quantity, template := a.template,
    passed := 0, failed := 0, inProgress := 0 }

/-- Order Define at PU (R121). -/
def State.orderDefine (rt : ReplyTo) (a : OrderDefineArgs) (s : State) : State :=
  match s.orderDefineCheck a with
  | some st => s.replyPlain rt st
  | none =>
    ((((((s.modOrder a.order (fun _ => a.stored)).modImage a.slot (fun x => { x with
      orderCount := x.orderCount + 1 })).replyPlain rt .ok).raiseOrder a.order).loadDecision).arbiter)

/-- ORDER_DEFINE, command 7. -/
def execOrderDefine (f : CmdFrame) (s : State) : Host.Outcome State Fault Refusal :=
  .next (s.answer (cmdReply f 7) f.resend (parseOrderDefine f.body) (State.orderDefine (cmdReply f 7)))

/-- The drives in READY whose tray record names an order (R122). R122 gives no order among them; that they withdraw from
D0 upward, which shows in the order of their RETURN entries, is the model's choice (log entry 39). -/
def State.readyOn (s : State) (o : OrderNo) : List Drive :=
  allDrives.filter (fun d => decide ((s.drive d).state = .ready) && decide (s.orderOf (s.drive d).trayRecord = some o))

/-- Order Hold at PU (R122). -/
def State.orderHold (rt : ReplyTo) (o : OrderNo) (s : State) : State :=
  if (s.order o).state = .opened then
    ((s.readyOn o).foldl State.withdraw ((s.replyPlain rt .ok).orderTo o .held)).arbiter
  else s.replyPlain rt .state

/-- ORDER_HOLD, command 8. -/
def execOrderHold (f : CmdFrame) (s : State) : Host.Outcome State Fault Refusal :=
  .next (s.answer (cmdReply f 8) f.resend (parseName 8 f.body) (State.orderHold (cmdReply f 8)))

/-- Order Resume at PU (R123). -/
def State.orderResume (rt : ReplyTo) (o : OrderNo) (s : State) : State :=
  if (s.order o).state = .held then (((s.replyPlain rt .ok).orderTo o .opened).loadDecision).arbiter
  else s.replyPlain rt .state

/-- ORDER_RESUME, command 9. -/
def execOrderResume (f : CmdFrame) (s : State) : Host.Outcome State Fault Refusal :=
  .next (s.answer (cmdReply f 9) f.resend (parseName 8 f.body) (State.orderResume (cmdReply f 9)))

/-- The first check of Order Quantity that fails (R124). -/
def State.quantityCheck (s : State) (o : OrderNo) (q : Nat) : Option Status :=
  if (s.order o).state = .free then some .state
  else if q = 0 then some .range
  else if q < (s.order o).passed + (s.order o).inProgress then some .range
  else none

/-- The order's state follows from the new quantity (R124). -/
def State.quantityState (s : State) (o : OrderNo) (q : Nat) : State :=
  if (s.order o).state = .complete then (if (s.order o).passed < q then s.orderTo o .opened else s)
  else if q = (s.order o).passed then s.orderTo o .complete
  else s

/-- Order Quantity at PU (R124). -/
def State.orderQuantity (rt : ReplyTo) (a : OrderNo × Nat) (s : State) : State :=
  match s.quantityCheck a.1 a.2 with
  | some st => s.replyPlain rt st
  | none =>
    let t := ((s.modOrder a.1 (fun x => { x with quantity := a.2 })).replyPlain rt .ok).quantityState a.1 a.2
    if (s.order a.1).quantity < a.2 then (t.loadDecision).arbiter else t

/-- ORDER_QUANTITY, command 10. -/
def execOrderQuantity (f : CmdFrame) (s : State) : Host.Outcome State Fault Refusal :=
  .next (s.answer (cmdReply f 10) f.resend (parseOrderQuantity f.body) (State.orderQuantity (cmdReply f 10)))

/-- The first check of Order Cancel that fails (R125). -/
def State.cancelCheck (s : State) (o : OrderNo) : Option Status :=
  if (s.order o).state = .free then some .state
  else if (s.order o).inProgress ≠ 0 then some .busy
  else if s.activeOn o ≠ [] ∨ s.pendingOn o ≠ [] then some .busy
  else none

/-- Order Cancel at PU (R125). -/
def State.orderCancel (rt : ReplyTo) (o : OrderNo) (s : State) : State :=
  match s.cancelCheck o with
  | some st => s.replyPlain rt st
  | none =>
    (((s.modImage (s.order o).slot (fun x => { x with orderCount := x.orderCount - 1 })).replyPlain rt .ok).orderTo o
      .free)

/-- ORDER_CANCEL, command 11. -/
def execOrderCancel (f : CmdFrame) (s : State) : Host.Outcome State Fault Refusal :=
  .next (s.answer (cmdReply f 11) f.resend (parseName 8 f.body) (State.orderCancel (cmdReply f 11)))

end Sys2Proof.Machine
end

