-- ==== Sys2Proof/Machine/Feed.lean ====
section
/-! DEFINITION. The feed link's own rows: Event Enable and Query (R198, R199), UNKNOWN (R187, R188), a frame that
the checker may discard (R184, R185), and the sending of outbound frames (R191, R197). -/

namespace Sys2Proof.Machine

/-! ### Events and queries (EQU) -/

/-- Event Enable (R198): each class's flag takes its mask bit. That the frames of several classes join the list in class
order, 0 to 14, is the model's choice (log entry 47). -/
def State.eventEnable (rt : ReplyTo) (m : Word16) (s : State) : State :=
  allClasses.foldl (fun t c => t.enableClass c (m.getLsbD c.ctorIdx)) (s.replyPlain rt .ok)

/-- EVENT_ENABLE, command 23. -/
def execEventEnable (f : CmdFrame) (s : State) : Host.Outcome State Fault Refusal :=
  .next (s.answer (cmdReply f 23) f.resend (parseClassMask f.body) (State.eventEnable (cmdReply f 23)))

/-- A taken Query (R199): the QUERY-RESULT joins just after the REPLY, and a FEED query clears the counters. -/
def State.queryTaken (s : State) (tag : Word16) (sel : Selector) (index : Byte) (body : List Byte) : State :=
  let t := s.emit (.queryResult tag (BitVec.ofNat 8 sel.ctorIdx) index body)
  if sel = .feed then t.modFeed (·.countersCleared) else t

/-- Query (R199): the answer is taken after the REPLY has been counted; an index out of range is refused. -/
def State.query (rt : ReplyTo) (a : Selector × Byte) (s : State) : State :=
  match (s.replyPlain rt .ok).answerFor a.1 a.2 with
  | some body => (s.replyPlain rt .ok).queryTaken rt.tag a.1 a.2 body
  | none => s.replyPlain rt .range

/-- QUERY, command 24. -/
def execQuery (f : CmdFrame) (s : State) : Host.Outcome State Fault Refusal :=
  .next (s.answer (cmdReply f 24) f.resend (parseQuery f.body) (State.query (cmdReply f 24)))

/-! ### Frames by number -/

/-- The REPLY to a frame whose table or command number does not exist (R187, R188). -/
def State.answerUnknown (s : State) (rt : ReplyTo) (resend : Bool) : State :=
  s.answer rt resend (some ()) (fun _ t => t.replyPlain rt .unknown)

/-- A checked TABLE frame by its table number (R187). -/
def tableFrame (number : Byte) (f : TableFrame) (s : State) : Host.Outcome State Fault Refusal :=
  match number.toNat with
  | 1 => execSpeedLadderWrite f s
  | 2 => execStationMapWrite f s
  | 3 => execStagedAssignmentWrite f s
  | 4 => execTemplateWrite f s
  | _ => .next (s.answerUnknown (tableReply f number) f.resend)

/-- A checked COMMAND frame by its command number (R188). -/
def commandFrame (number : Byte) (f : CmdFrame) (s : State) : Host.Outcome State Fault Refusal :=
  match number.toNat with
  | 1 => execImageDefine f s
  | 2 => execImageRelease f s
  | 3 => execWaveOpen f s
  | 4 => execWaveAbort f s
  | 5 => execApplyNow f s
  | 6 => execApplyAtLoad f s
  | 7 => execOrderDefine f s
  | 8 => execOrderHold f s
  | 9 => execOrderResume f s
  | 10 => execOrderQuantity f s
  | 11 => execOrderCancel f s
  | 12 => execFeedEnable f s
  | 13 => execTransportStart f s
  | 14 => execPark f s
  | 15 => execResume f s
  | 16 => execDiscRemove f s
  | 17 => execSpindleRefill f s
  | 18 => execBinEmptied f s
  | 19 => execPortCheck f s
  | 20 => execPortReset f s
  | 21 => execPrinterReset f s
  | 22 => execArtworkBegin f s
  | 23 => execEventEnable f s
  | 24 => execQuery f s
  | 25 => execStoreSettings f s
  | 26 => execAbortAll f s
  | _ => .next (s.answerUnknown (cmdReply f number) f.resend)

/-- UNKNOWN: a frame whose number exists after all is handed on by its number (log entry 6). -/
def execUnknown (kind : AnsweredKind) (number : Byte) (f : TableFrame) (s : State) :
    Host.Outcome State Fault Refusal :=
  match kind with
  | .table => tableFrame number f s
  | .command => commandFrame number { tag := f.tag, resend := f.resend, body := f.body } s

/-! ### The frame checker -/

/-- A frame that passes R184 is handed to its owner (R186 to R188). -/
def handFrame (h : InFrame) (s : State) : Host.Outcome State Fault Refusal :=
  match h.kind.toNat with
  | 1 => execSector (Fin.ofNat 4 h.slot.toNat) h.offset (cutSectors h.count.toNat h.body) s
  | 2 => execRun (Fin.ofNat 4 h.slot.toNat) h.offset h.rep h.body s
  | 3 => execArtworkFrame (Fin.ofNat 8 h.slot.toNat) h.offset h.body s
  | 4 => tableFrame h.count { tag := h.tag, resend := h.resend, entry := h.slot, body := h.body } s
  | _ => commandFrame h.count { tag := h.tag, resend := h.resend, body := h.body } s

/-- INBOUND_FRAME_DISCARD: the frame as delivered is checked by R184 and discarded with its cause (R185); one that
passes every check is handed to its owner after all (log entry 5). -/
def execInboundFrameDiscard (b : List Byte) (s : State) : Host.Outcome State Fault Refusal :=
  match checkFrame b, readHeader (b.take (b.length - 4)) with
  | .discard c, _ => .next (s.discard c)
  | .pass _, some h => handFrame h s
  | .pass _, none => .next (s.discard .format)

/-! ### Sending -/

/-- OUTBOUND_FRAME_SEND: the first frame of the outbound list is sent (R191). An EVENT frame is sent by the next
row, which takes its contents; an empty list sends nothing. -/
def execOutboundFrameSend (s : State) : Host.Outcome State Fault Refusal :=
  .next (match s.headEvent with
    | some _ => s
    | none => s.sendHead)

/-- EVENT_FRAME_SEND: an EVENT frame at the head of the list is sent with its class record's contents, and the
record is cleared (R197). -/
def execEventFrameSend (s : State) : Host.Outcome State Fault Refusal :=
  .next (match s.headEvent with
    | some c => s.sendHead.modEvent c (·.cleared)
    | none => s)

end Sys2Proof.Machine
end

