-- ==== Sys2Proof/Machine/Dispatch.lean ====
section
/-! DEFINITION. One arm per command: each calls its meaning. -/

namespace Sys2Proof.Machine

/-- The effect of a command on everything but the queue of commands that wait. -/
def exec (i : Instr) (s : State) : Host.Outcome State Fault Refusal :=
  match i with
  | .powerOn => Sys2Proof.Machine.execPowerOn s
  | .sector w first sectors => Sys2Proof.Machine.execSector w first sectors s
  | .run w first rep payload => Sys2Proof.Machine.execRun w first rep payload s
  | .artworkFrame a offset data => Sys2Proof.Machine.execArtworkFrame a offset data s
  | .inboundFrameDiscard frame => Sys2Proof.Machine.execInboundFrameDiscard frame s
  | .unknown kind number f => Sys2Proof.Machine.execUnknown kind number f s
  | .speedLadderWrite f => Sys2Proof.Machine.execSpeedLadderWrite f s
  | .stationMapWrite f => Sys2Proof.Machine.execStationMapWrite f s
  | .stagedAssignmentWrite f => Sys2Proof.Machine.execStagedAssignmentWrite f s
  | .templateWrite f => Sys2Proof.Machine.execTemplateWrite f s
  | .imageDefine f => Sys2Proof.Machine.execImageDefine f s
  | .imageRelease f => Sys2Proof.Machine.execImageRelease f s
  | .waveOpen f => Sys2Proof.Machine.execWaveOpen f s
  | .waveAbort f => Sys2Proof.Machine.execWaveAbort f s
  | .applyNow f => Sys2Proof.Machine.execApplyNow f s
  | .applyAtLoad f => Sys2Proof.Machine.execApplyAtLoad f s
  | .orderDefine f => Sys2Proof.Machine.execOrderDefine f s
  | .orderHold f => Sys2Proof.Machine.execOrderHold f s
  | .orderResume f => Sys2Proof.Machine.execOrderResume f s
  | .orderQuantity f => Sys2Proof.Machine.execOrderQuantity f s
  | .orderCancel f => Sys2Proof.Machine.execOrderCancel f s
  | .feedEnable f => Sys2Proof.Machine.execFeedEnable f s
  | .transportStart f => Sys2Proof.Machine.execTransportStart f s
  | .park f => Sys2Proof.Machine.execPark f s
  | .resume f => Sys2Proof.Machine.execResume f s
  | .discRemove f => Sys2Proof.Machine.execDiscRemove f s
  | .spindleRefill f => Sys2Proof.Machine.execSpindleRefill f s
  | .binEmptied f => Sys2Proof.Machine.execBinEmptied f s
  | .portCheck f => Sys2Proof.Machine.execPortCheck f s
  | .portReset f => Sys2Proof.Machine.execPortReset f s
  | .printerReset f => Sys2Proof.Machine.execPrinterReset f s
  | .artworkBegin f => Sys2Proof.Machine.execArtworkBegin f s
  | .eventEnable f => Sys2Proof.Machine.execEventEnable f s
  | .query f => Sys2Proof.Machine.execQuery f s
  | .storeSettings f => Sys2Proof.Machine.execStoreSettings f s
  | .abortAll f => Sys2Proof.Machine.execAbortAll f s
  | .outboundFrameSend => Sys2Proof.Machine.execOutboundFrameSend s
  | .eventFrameSend => Sys2Proof.Machine.execEventFrameSend s
  | .portCheckExchangeEnd d r => Sys2Proof.Machine.execPortCheckExchangeEnd d r s
  | .portCheckTimeout d => Sys2Proof.Machine.execPortCheckTimeout d s
  | .trayOpenReply d n r => Sys2Proof.Machine.execTrayOpenReply d n r s
  | .trayCloseReply d n r => Sys2Proof.Machine.execTrayCloseReply d n r s
  | .speedReply d n r => Sys2Proof.Machine.execSpeedReply d n r s
  | .writeReply d n r => Sys2Proof.Machine.execWriteReply d n r s
  | .closeReply d n r => Sys2Proof.Machine.execCloseReply d n r s
  | .readReply d n r => Sys2Proof.Machine.execReadReply d n r s
  | .senseReply d n r => Sys2Proof.Machine.execSenseReply d n r s
  | .driveRequestTimeout d => Sys2Proof.Machine.execDriveRequestTimeout d s
  | .starvationExpiry w => Sys2Proof.Machine.execStarvationExpiry w s
  | .gotoOutcome n o => Sys2Proof.Machine.execGotoOutcome n o s
  | .pickOutcome n o => Sys2Proof.Machine.execPickOutcome n o s
  | .placeOutcome n o => Sys2Proof.Machine.execPlaceOutcome n o s
  | .homeOutcome n o => Sys2Proof.Machine.execHomeOutcome n o s
  | .armOperationTimeout => Sys2Proof.Machine.execArmOperationTimeout s
  | .dropped => Sys2Proof.Machine.execDropped s
  | .printerCheckExchangeEnd r => Sys2Proof.Machine.execPrinterCheckExchangeEnd r s
  | .printerCheckTimeout => Sys2Proof.Machine.execPrinterCheckTimeout s
  | .printerSenseReply n r => Sys2Proof.Machine.execPrinterSenseReply n r s
  | .trayOutReply n r => Sys2Proof.Machine.execTrayOutReply n r s
  | .trayInReply n r => Sys2Proof.Machine.execTrayInReply n r s
  | .startReply n r => Sys2Proof.Machine.execStartReply n r s
  | .bandReply n r => Sys2Proof.Machine.execBandReply n r s
  | .finishReply n r => Sys2Proof.Machine.execFinishReply n r s
  | .printerRequestTimeout => Sys2Proof.Machine.execPrinterRequestTimeout s
  | .settingsLoadEnd r => Sys2Proof.Machine.execSettingsLoadEnd r s
  | .settingsLoadTimeout => Sys2Proof.Machine.execSettingsLoadTimeout s
  | .settingsStoreAck ok => Sys2Proof.Machine.execSettingsStoreAck ok s
  | .settingsStoreTimeout => Sys2Proof.Machine.execSettingsStoreTimeout s

end Sys2Proof.Machine
end

