-- ==== Sys2Proof/Safety.lean ====
section
/-! DEFINITION. What is said of whole states: the parts of a state and what a command leaves unchanged; what a REPLY,
a discard and an event leave behind; which commands are answered frames; and the laws of the TD16's records. -/

namespace Sys2Proof.Machine

/-! ### Parts and frames -/

/-- The parts of a state, one for each field of `State`. -/
inductive Part where
  | images
  | accs
  | waves
  | drives
  | ladder
  | saves
  | verifyQueue
  | contexts
  | orders
  | records
  | stations
  | queue
  | transport
  | artworks
  | templates
  | printer
  | feed
  | outbound
  | events
  | settings
  | pending
  deriving DecidableEq, Repr

/-- Every part. -/
def Part.all : List Part :=
  [.images, .accs, .waves, .drives, .ladder, .saves, .verifyQueue, .contexts, .orders, .records, .stations, .queue,
   .transport, .artworks, .templates, .printer, .feed, .outbound, .events, .settings, .pending]

/-- The two states agree on a part. -/
def Part.same (s t : State) : Part → Prop
  | .images => t.images = s.images
  | .accs => t.accs = s.accs
  | .waves => t.waves = s.waves
  | .drives => t.drives = s.drives
  | .ladder => t.ladder = s.ladder
  | .saves => t.saves = s.saves
  | .verifyQueue => t.verifyQueue = s.verifyQueue
  | .contexts => t.contexts = s.contexts
  | .orders => t.orders = s.orders
  | .records => t.records = s.records
  | .stations => t.stations = s.stations
  | .queue => t.queue = s.queue
  | .transport => t.transport = s.transport
  | .artworks => t.artworks = s.artworks
  | .templates => t.templates = s.templates
  | .printer => t.printer = s.printer
  | .feed => t.feed = s.feed
  | .outbound => t.outbound = s.outbound
  | .events => t.events = s.events
  | .settings => t.settings = s.settings
  | .pending => t.pending = s.pending

/-- Nothing but the parts `ps` differs between `s` and `t`. -/
def Changes (ps : List Part) (s t : State) : Prop := ∀ p : Part, p ∉ ps → p.same s t

/-- The parts a row may change: its frame. No row changes the queue of waiting commands. UNKNOWN and
INBOUND_FRAME_DISCARD stand for any frame (log entries 5 and 6). -/
def commandParts : Instr → List Part
  | .powerOn | .inboundFrameDiscard _ | .unknown _ _ _ => Part.all.filter (fun p => decide (p ≠ .pending))
  | .sector _ _ _ | .run _ _ _ _ | .waveAbort _ =>
    [.images, .accs, .waves, .drives, .records, .queue, .transport, .printer, .feed, .outbound, .events]
  | .artworkFrame _ _ _ => [.records, .queue, .transport, .artworks, .feed, .outbound, .events]
  | .speedLadderWrite _ =>
    [.drives, .ladder, .orders, .records, .queue, .transport, .printer, .feed, .outbound, .events, .settings]
  | .stationMapWrite _ =>
    [.drives, .orders, .records, .stations, .queue, .transport, .printer, .feed, .outbound, .events, .settings]
  | .stagedAssignmentWrite _ | .portCheck _ => [.drives, .feed, .outbound]
  | .templateWrite _ => [.records, .queue, .transport, .templates, .feed, .outbound]
  | .imageDefine _ | .imageRelease _ => [.images, .feed, .outbound, .events]
  | .waveOpen _ => [.images, .accs, .waves, .drives, .feed, .outbound, .events]
  | .applyNow _ | .applyAtLoad _ | .orderHold _ | .orderResume _ | .orderQuantity _ | .feedEnable _ =>
    [.drives, .orders, .records, .queue, .transport, .printer, .feed, .outbound, .events]
  | .orderDefine _ =>
    [.images, .drives, .orders, .records, .queue, .transport, .printer, .feed, .outbound, .events]
  | .orderCancel _ => [.images, .orders, .feed, .outbound, .events]
  | .transportStart _ | .park _ | .resume _ => [.transport, .feed, .outbound]
  | .discRemove _ | .abortAll _ =>
    [.images, .accs, .waves, .drives, .saves, .verifyQueue, .contexts, .orders, .records, .queue, .transport,
     .artworks, .templates, .printer, .feed, .outbound, .events]
  | .spindleRefill _ =>
    [.drives, .orders, .records, .stations, .queue, .transport, .printer, .feed, .outbound, .events]
  | .binEmptied _ => [.records, .stations, .queue, .transport, .feed, .outbound]
  | .portReset _ => [.drives, .feed, .outbound, .events]
  | .printerReset _ => [.printer, .feed, .outbound]
  | .artworkBegin _ => [.records, .queue, .transport, .artworks, .feed, .outbound]
  | .storeSettings _ => [.feed, .outbound, .settings]
  | .eventEnable _ | .eventFrameSend => [.feed, .outbound, .events]
  | .query _ | .outboundFrameSend => [.feed, .outbound]
  | .portCheckExchangeEnd _ _ | .portCheckTimeout _ =>
    [.drives, .orders, .records, .queue, .transport, .printer, .outbound, .events]
  | .trayOpenReply _ _ _ | .trayCloseReply _ _ _ | .speedReply _ _ _ | .writeReply _ _ _ | .closeReply _ _ _
  | .readReply _ _ _ | .senseReply _ _ _ | .driveRequestTimeout _ =>
    [.images, .accs, .waves, .drives, .saves, .verifyQueue, .contexts, .orders, .records, .queue, .transport,
     .printer, .outbound, .events]
  | .starvationExpiry _ =>
    [.images, .accs, .waves, .drives, .records, .queue, .transport, .printer, .outbound, .events]
  | .gotoOutcome _ _ | .pickOutcome _ _ | .placeOutcome _ _ | .homeOutcome _ _ =>
    [.drives, .orders, .records, .stations, .queue, .transport, .printer, .outbound, .events]
  | .armOperationTimeout => [.records, .queue, .transport, .outbound, .events]
  | .dropped => [.transport, .outbound, .events]
  | .printerCheckExchangeEnd _ | .printerCheckTimeout =>
    [.records, .queue, .transport, .printer, .outbound, .events]
  | .printerSenseReply _ _ | .trayOutReply _ _ | .trayInReply _ _ | .startReply _ _ | .bandReply _ _
  | .finishReply _ _ | .printerRequestTimeout =>
    [.drives, .orders, .records, .queue, .transport, .artworks, .templates, .printer, .outbound, .events]
  | .settingsLoadEnd _ =>
    [.drives, .ladder, .orders, .records, .stations, .queue, .transport, .printer, .outbound, .events, .settings]
  | .settingsLoadTimeout | .settingsStoreAck _ | .settingsStoreTimeout => [.outbound, .events, .settings]

/-! ### REPLYs, discards and events -/

/-- A checked frame that R189 handles as new: not a resend of the last frame answered. -/
def State.handlesAsNew (s : State) (tag : Word16) (resend : Bool) : Prop :=
  ¬ (resend = true ∧ s.feed.lastTag = some tag)

/-- The REPLY frame with a status and no masks (R190). -/
def ReplyTo.frame (rt : ReplyTo) (st : Status) : OutFrame := .reply rt.tag rt.kind rt.number st none 0 0

/-- The outbound list has only grown: the frames `first` joined it at once, and others may have joined after them. -/
def Joined (first : List OutFrame) (s t : State) : Prop := ∃ later, t.outbound = s.outbound ++ first ++ later

/-- FP's record after it has sent a REPLY other than IGNORED (R185, R189, R190). -/
def Replied (tag : Word16) (st : Status) (s t : State) : Prop :=
  t.feed = { s.feed with accepted := countUp s.feed.accepted, lastTag := some tag, lastStatus := some st }

/-- A frame was answered by a REPLY and nothing else changed. -/
def RepliedOnly (rt : ReplyTo) (st : Status) (s t : State) : Prop :=
  Replied rt.tag st s t ∧ t.outbound = s.outbound ++ [rt.frame st] ∧ Changes [.feed, .outbound] s t

/-- The EVENT frame that a raise of class `c` in state `s` places (R197). -/
def State.placedBy (s : State) (c : EventClass) : List OutFrame :=
  if (s.event c).enabled ∧ (s.event c).pending = false then [.event c] else []

/-- A class record after a raise of it (R196, R197): merged, and placed when its class is enabled. -/
def EventRecord.raised (r : EventRecord) (c : EventClass) (mask : Word16) (value : Option EventValue) : EventRecord :=
  { r.merge (decide (c = .feedError)) mask value with placed := r.placed || (r.enabled && !r.pending) }

/-- Of the class records, `c` alone was raised, once. -/
def RaisedOnly (c : EventClass) (mask : Word16) (value : Option EventValue) (s t : State) : Prop :=
  t.event c = (s.event c).raised c mask value ∧ ∀ k, k ≠ c → t.event k = s.event k

/-- A frame was discarded whole with a cause (R22, R165, R185): its counter rose, FEED-ERROR was raised, and nothing
else changed. -/
def Discarded (c : DiscardCause) (s t : State) : Prop :=
  t.feed = { s.feed with discards := s.feed.discards.set c.idx.val (countUp s.feed.discards[c.idx.val]) c.idx.isLt } ∧
    RaisedOnly .feedError 0 (some (.feedError c)) s t ∧ t.outbound = s.outbound ++ s.placedBy .feedError ∧
    Changes [.feed, .events, .outbound] s t

/-- A REPLY frame. -/
def OutFrame.isReply : OutFrame → Bool
  | .reply .. => true
  | _ => false

/-- How many indexes a Query selector has (R199). -/
def Selector.indexes : Selector → Nat
  | .drive => 16
  | .wave => 4
  | .image => 4
  | .order => 8
  | .record => 64
  | .station => 24
  | .transport => 1
  | .printer => 1
  | .template => 8
  | .artwork => 8
  | .verify => 16
  | .feed => 1

/-! ### Waves and drives after a command -/

/-- The IDLE values of a wave (R18) with the end cause `c`. -/
def Wave.atIdle (x : Wave) (c : EndCause) : Prop :=
  x.state = .idle ∧ x.slot = none ∧ x.checkFlag = false ∧ x.capacity = 0 ∧ x.held = [] ∧ x.timerRunning = false ∧
    x.attachments = [] ∧ x.endCause = c

/-- The disc of drive `d` in state `s` has the burn outcome FAIL in `t`, and the fail cause it had before or else `c`
(R90, R132). -/
def BurnFailed (d : Drive) (c : FailCause) (s t : State) : Prop :=
  ∀ k, (s.drive d).trayRecord = some k → s.live k = true →
    (t.record k.num).burn = .fail ∧ (t.record k.num).cause = ((s.record k.num).cause <|> some c)

/-- Drive `d` has begun to unload with a transport entry of a kind (R61). -/
def DriveSlot.unloadingWith (x : DriveSlot) (kind : EntryKind) : Prop :=
  x.state = .unloading ∧ x.phase = .trayOpening ∧ x.entry = some kind

/-- Drive `d` has gone to FAULTED with a last fault (R64): no request is left, its transport entry is absent, its tray
record stays and has DRIVE-FAULT unless it had a cause before. -/
def FaultedWith (d : Drive) (f : DriveFailure) (s t : State) : Prop :=
  let x := t.drive d
  x.state = .faulted ∧ x.phase = .noPhase ∧ x.checkPhase = .idle ∧ x.outstanding = none ∧ x.waiting = none ∧
    x.entry = none ∧ x.lastFault = some f ∧ x.trayRecord = (s.drive d).trayRecord ∧
    ∀ k, (s.drive d).trayRecord = some k → s.live k = true →
      (t.record k.num).cause = ((s.record k.num).cause <|> some .driveFault)

/-- Drive `d` has spoiled its blank in loading (R58): its record has the fail cause it had before or else `c`, and it
unloads. -/
def LoadingFailed (d : Drive) (c : FailCause) (s t : State) : Prop :=
  (t.drive d).unloadingWith .unload ∧ ∀ k, (s.drive d).trayRecord = some k → s.live k = true →
    (t.record k.num).cause = ((s.record k.num).cause <|> some c)

/-- A request waits for its answer on the port of drive `d`, with nothing waiting behind it. -/
def State.awaits (s : State) (d : Drive) (req : DriveRequest) (n : Byte) : Prop :=
  (s.drive d).outstanding = some { req := req, number := n } ∧ (s.drive d).waiting = none

/-- The row of the reply to a request on a drive link (R45). -/
def DriveRequest.replyRow (req : DriveRequest) (d : Drive) (n : Byte) (r : DriveReply) : Instr :=
  match req with
  | .trayOpen => .trayOpenReply d n r
  | .trayClose => .trayCloseReply d n r
  | .speed _ _ _ => .speedReply d n r
  | .write _ _ _ => .writeReply d n r
  | .close => .closeReply d n r
  | .read _ _ => .readReply d n r
  | .sense => .senseReply d n r

/-- The request `q` that waited on the port of drive `d` has been sent at the end of the outstanding one, in place of
any follow-up of it (R46): that ending has left the timeout count `k` and the last fault `f`, if any, and the arbiter
is evaluated. -/
def WaitingSent (d : Drive) (q : DriveRequest) (k : Nat) (f : Option DriveFailure) (s t : State) : Prop :=
  let x := s.drive d
  ∃ u, t = u.arbiter ∧ (∀ e, e ≠ d → u.drive e = s.drive e) ∧ Changes [.drives] s u ∧
    u.drive d = { x with outstanding := some { req := q, number := x.nextNumber }, waiting := none,
                         nextNumber := x.nextNumber + 1, timeoutCount := k, lastFault := f <|> x.lastFault }

/-- An arm operation of a move in execution waits for its outcome. -/
def State.moves (s : State) (op : ArmOp) (n : Byte) (e : Entry) : Prop :=
  s.transport.mode = .running ∧ s.transport.outstanding = some { op := op, number := n, abandoned := false } ∧
    s.currentEntry = some e

/-- The transport has entered HELD with a cause (R155), and ARM-HELD has been raised. -/
def HeldWith (c : HeldCause) (s t : State) : Prop :=
  t.transport.mode = .held ∧ t.transport.heldCause = some c ∧ t.transport.heldCopy = s.transport.autoFeed ∧
    t.transport.autoFeed = false ∧ t.transport.parkWaiting = false ∧
    (∀ o, t.transport.outstanding = some o → o.abandoned = true) ∧
    t.event .armHeld = (s.event .armHeld).raised .armHeld 0 (some (.armHeld c))

/-- A request on the printer link waits for its answer, with nothing waiting behind it and no link check. -/
def State.printerAwaits (s : State) (req : PrinterRequest) (n : Byte) : Prop :=
  s.printer.outstanding = some { req := req, number := n } ∧ s.printer.waiting = none ∧ s.printer.checkPhase = .idle

/-- The row of the reply to a request on the printer link (R168). -/
def PrinterRequest.replyRow (req : PrinterRequest) (n : Byte) (r : PrinterReply) : Instr :=
  match req with
  | .trayOut => .trayOutReply n r
  | .trayIn => .trayInReply n r
  | .sense => .printerSenseReply n r
  | .start _ => .startReply n r
  | .band _ _ => .bandReply n r
  | .finish => .finishReply n r

/-- The request `q` that waited on the printer link has been sent at the end of the outstanding one, which has acted
on nothing but the last fault, where it is `f` (R168); the arbiter is evaluated. -/
def WaitingPrintSent (q : PrinterRequest) (f : Option PrinterFailure) (s t : State) : Prop :=
  let x := s.printer
  ∃ u, t = u.arbiter ∧ Changes [.printer] s u ∧
    u.printer = { x with outstanding := some { req := q, number := x.nextNumber }, waiting := none,
                         nextNumber := x.nextNumber + 1, lastFault := f <|> x.lastFault }

/-- WAVE-STATE has been raised for wave `w` with a state and a cause (R43): its class record after it. -/
def EventRecord.waveRaised (r : EventRecord) (w : WaveNo) (st : WaveState) (c : WaveCause) : EventRecord :=
  r.raised .waveState 0 (some (.wave w st c))

/-- DETACH has been raised once for wave `w` with the mask of the drives `ds`, or not at all where there is none
(R43). -/
def DetachRaised (w : WaveNo) (ds : List Drive) (s t : State) : Prop :=
  if ds = [] then t.event .detach = s.event .detach
  else ∃ mask : Word16, (∀ d : Drive, mask.getLsbD d.val = true ↔ d ∈ ds) ∧
    t.event .detach = (s.event .detach).raised .detach mask (some (.detach w))

/-- Step 6 of R23: of the drives attached to wave `w`, each with no request outstanding and a cursor below the new
head has sent its next WRITE (R85), and the others stand as they did. -/
def WritesSent (w : WaveNo) (s t : State) : Prop :=
  ∀ d : Drive,
    match (s.wave w).attachment d with
    | some a =>
      let n := min 32 ((t.wave w).head - a.cursor)
      let x := s.drive d
      if x.outstanding = none ∧ a.cursor < (t.wave w).head then
        t.drive d = { x with nextNumber := x.nextNumber + 1,
                             outstanding := some { req := .write a.cursor n (gather (t.wave w).held a.cursor n),
                                                   number := x.nextNumber } } ∧
          (t.wave w).attachment d = some { a with inFlight := some { first := a.cursor, count := n } }
      else t.drive d = x ∧ (t.wave w).attachment d = some a
    | none => t.drive d = s.drive d ∧ (t.wave w).attachment d = none

/-- Steps 1 to 6 of R23 and R25 as a wave, its drives, the events and FP show them: an accepted frame that brought
`entries`, which cover `count` sectors with the data `sectors`. A conflict is told by the accumulator (R11). -/
def FrameAccepted (w : WaveNo) (entries : List HeldEntry) (count : Nat) (sectors : List (List Byte))
    (s t : State) : Prop :=
  let x := s.wave w
  let y := t.wave w
  t.feed = { s.feed with accepted := countUp s.feed.accepted } ∧ y.head = x.head + count ∧
    (∀ v, v ≠ w → t.wave v = s.wave v) ∧
    if (s.takeSectors w sectors).2 = true then
      y.atIdle .conflict ∧ t.event .waveState = (s.event .waveState).waveRaised w .idle .conflict ∧
        DetachRaised w (x.attachments.map (·.drive)) s t
    else if x.head + count = s.waveLength w then
      if x.attachments = [] then
        y.atIdle .noDrives ∧ t.event .waveState =
          ((s.event .waveState).waveRaised w .draining .headAtLength).waveRaised w .idle .noDrives
      else
        y.state = .draining ∧ y.held = x.held ++ entries ∧ y.timerRunning = x.timerRunning ∧
          t.event .waveState = (s.event .waveState).waveRaised w .draining .headAtLength ∧ WritesSent w s t
    else
      y.state = x.state ∧ y.held = x.held ++ entries ∧ y.releasedTotal = x.releasedTotal ∧
        (y.timerRunning = true ↔ x.timerRunning = true ∨ x.held.length + entries.length = x.capacity) ∧
        t.event .waveState = s.event .waveState ∧ WritesSent w s t

/-! ### A verify after a READ -/

/-- The verify of drive `d` has ended (R109): the drive unloads, the save keeps the ending, the slot's verify count has
fallen, and the tray record has the outcome, the cause it had before or else the ending's, and the save's error
blocks. -/
def VerifyEnded (d : Drive) (e : LastEnding) (o : VerifyOutcome) (cause : Option FailCause) (s t : State) : Prop :=
  (t.drive d).unloadingWith .unload ∧ (t.save d).sub = .outside ∧ (t.save d).lastEnding = e ∧
    (∀ i, (s.save d).slot = some i → (t.image i).verifyCount = (s.image i).verifyCount - 1) ∧
    ∀ k, (s.drive d).trayRecord = some k → s.live k = true →
      (t.record k.num).verify = o ∧ (t.record k.num).cause = ((s.record k.num).cause <|> cause) ∧
        (t.record k.num).errorBlocks = (t.save d).progress.errors

/-- The verify of drive `d` in context `c` goes on from block `b` (R105, R110), its progress such that `P`: with the
next READ, or, after 8 READs and with drives waiting, at the tail of the queue, whose head has the context. -/
def VerifyGoesOn (d : Drive) (c : Fin 4) (y : Context) (b : Nat) (P : Progress → Prop) (s t : State) : Prop :=
  let v := s.save d
  (y.slice + 1 < 8 ∨ s.verifyQueue = [] →
    (∃ z, t.context c = some z ∧ z.drive = d ∧ z.work.next = b ∧ P z.work ∧
      z.slice = (if y.slice + 1 < 8 then y.slice + 1 else 0) ∧
      z.reading = some { first := b, blocks := v.readBlocks b }) ∧
    (t.drive d).outstanding = some { req := .read (16 * b) (v.readCount b), number := (s.drive d).nextNumber }) ∧
  (8 ≤ y.slice + 1 → ∀ q rest, s.verifyQueue = q :: rest → d ∉ s.verifyQueue → (∀ j, s.context j ≠ none) →
    (t.save d).sub = .queued ∧ (t.save d).progress.next = b ∧ P (t.save d).progress ∧ t.verifyQueue = rest ++ [d] ∧
      (t.context c).map (·.drive) = some q ∧ (t.drive d).outstanding = none)

/-- A READ of drive `d` in context `c` has failed (R107): its blocks are errors, and the ending checks of R108 decide
in their order whether the verify ends with VERIFY-ERRORS, with UNREADABLE or, at the end of its list, with PASS, or
goes on past the failed blocks. -/
def ReadFailed (d : Drive) (c : Fin 4) (y : Context) (rd : OutstandingRead) (s t : State) : Prop :=
  let v := s.save d
  let p := y.work
  let b := v.blockAfter (rd.first + rd.blocks - 1)
  let q : Progress := { next := b, compared := p.compared, errors := p.errors + rd.blocks,
                        readFaults := p.readFaults + 1, consecutive := p.consecutive + 1,
                        firstError := p.firstError <|> some rd.first }
  if v.tolerance < q.errors then
    VerifyEnded d .verifyErrors .fail (some .verifyErrors) s t ∧ (t.save d).progress = q
  else if 3 ≤ q.consecutive then VerifyEnded d .unreadable .fail (some .unreadable) s t ∧ (t.save d).progress = q
  else if b = v.lastBlock + 1 then VerifyEnded d .pass .pass none s t ∧ (t.save d).progress = q
  else VerifyGoesOn d c y b (fun z => z = q) s t

/-- The drive of an ACTIVE verify has gone to FAULTED at the ending of its READ (R112, R113): nothing is counted, the
working copy is saved, the record has FAIL, and the context is free or the queue's head has it. -/
def VerifyFaulted (d : Drive) (c : Fin 4) (y : Context) (f : DriveFailure) (s t : State) : Prop :=
  FaultedWith d f s t ∧ (t.save d).sub = .outside ∧ (t.save d).lastEnding = .driveFault ∧
    (t.save d).progress = y.work ∧
    (∀ i, (s.save d).slot = some i → (t.image i).verifyCount = (s.image i).verifyCount - 1) ∧
    (∀ k, (s.drive d).trayRecord = some k → s.live k = true →
      (t.record k.num).verify = .fail ∧ (t.record k.num).errorBlocks = y.work.errors) ∧
    (s.verifyQueue = [] → t.context c = none) ∧
    ∀ q rest, s.verifyQueue = q :: rest → d ∉ s.verifyQueue → (∀ j, s.context j ≠ none) →
      (t.context c).map (·.drive) = some q ∧ t.verifyQueue = rest

/-! ### Answered frames -/

/-- What a row that is a TABLE or COMMAND frame is answered by, and its RESEND flag (R190). -/
def answeredFrame : Instr → Option (ReplyTo × Bool)
  | .unknown .table number f => some (tableReply f number, f.resend)
  | .unknown .command number f => some ({ tag := f.tag, kind := .command, number := number }, f.resend)
  | .speedLadderWrite f => some (tableReply f 1, f.resend)
  | .stationMapWrite f => some (tableReply f 2, f.resend)
  | .stagedAssignmentWrite f => some (tableReply f 3, f.resend)
  | .templateWrite f => some (tableReply f 4, f.resend)
  | .imageDefine f => some (cmdReply f 1, f.resend)
  | .imageRelease f => some (cmdReply f 2, f.resend)
  | .waveOpen f => some (cmdReply f 3, f.resend)
  | .waveAbort f => some (cmdReply f 4, f.resend)
  | .applyNow f => some (cmdReply f 5, f.resend)
  | .applyAtLoad f => some (cmdReply f 6, f.resend)
  | .orderDefine f => some (cmdReply f 7, f.resend)
  | .orderHold f => some (cmdReply f 8, f.resend)
  | .orderResume f => some (cmdReply f 9, f.resend)
  | .orderQuantity f => some (cmdReply f 10, f.resend)
  | .orderCancel f => some (cmdReply f 11, f.resend)
  | .feedEnable f => some (cmdReply f 12, f.resend)
  | .transportStart f => some (cmdReply f 13, f.resend)
  | .park f => some (cmdReply f 14, f.resend)
  | .resume f => some (cmdReply f 15, f.resend)
  | .discRemove f => some (cmdReply f 16, f.resend)
  | .spindleRefill f => some (cmdReply f 17, f.resend)
  | .binEmptied f => some (cmdReply f 18, f.resend)
  | .portCheck f => some (cmdReply f 19, f.resend)
  | .portReset f => some (cmdReply f 20, f.resend)
  | .printerReset f => some (cmdReply f 21, f.resend)
  | .artworkBegin f => some (cmdReply f 22, f.resend)
  | .eventEnable f => some (cmdReply f 23, f.resend)
  | .query f => some (cmdReply f 24, f.resend)
  | .storeSettings f => some (cmdReply f 25, f.resend)
  | .abortAll f => some (cmdReply f 26, f.resend)
  | _ => none

/-- The body of a table write or of a command does not parse (R187 checks 2 to 4, R188 checks 2 and 3). -/
def malformed : Instr → Bool
  | .speedLadderWrite f => (parseLadder f).isNone
  | .stationMapWrite f => (parseStation f).isNone
  | .stagedAssignmentWrite f => (parseStaged f).isNone
  | .templateWrite f => (parseTemplate f).isNone
  | .imageDefine f => (parseImageDefine f.body).isNone
  | .imageRelease f => (parseName 4 f.body).isNone
  | .waveOpen f => (parseWaveOpen f.body).isNone
  | .waveAbort f => (parseName 4 f.body).isNone
  | .applyNow f => (parseMask f.body).isNone
  | .applyAtLoad f => (parseMask f.body).isNone
  | .orderDefine f => (parseOrderDefine f.body).isNone
  | .orderHold f => (parseName 8 f.body).isNone
  | .orderResume f => (parseName 8 f.body).isNone
  | .orderQuantity f => (parseOrderQuantity f.body).isNone
  | .orderCancel f => (parseName 8 f.body).isNone
  | .feedEnable f => (parseName 2 f.body).isNone
  | .transportStart f => (parseNone f.body).isNone
  | .park f => (parseNone f.body).isNone
  | .resume f => (parseNone f.body).isNone
  | .discRemove f => (parseDiscRemove f.body).isNone
  | .spindleRefill f => (parseRefill f.body).isNone
  | .binEmptied f => (parseName 3 f.body).isNone
  | .portCheck f => (parseMask f.body).isNone
  | .portReset f => (parseName 16 f.body).isNone
  | .printerReset f => (parseNone f.body).isNone
  | .artworkBegin f => (parseArtworkBegin f.body).isNone
  | .eventEnable f => (parseClassMask f.body).isNone
  | .query f => (parseQuery f.body).isNone
  | .storeSettings f => (parseNone f.body).isNone
  | .abortAll f => (parseNone f.body).isNone
  | _ => false

/-! ### The machine after power-on -/

/-- The starting values of every block (R203), field by field as R1, R7, R18, R49, R68, R70, R71, R100, R103, R120,
R129, R139, R143, R155, R163, R167, R169, R183, R195 and R200 give them. -/
def State.starting (t : State) : Prop :=
  (∀ i, t.image i = { tag := 0, length := 0, state := .undefined, fillingWave := none, digests := [], waveCount := 0,
                      verifyCount := 0, orderCount := 0 }) ∧
  (∀ w, (t.acc w).mode = .idle) ∧
  (∀ w, t.wave w = { state := .idle, slot := none, checkFlag := false, capacity := 0, held := [], head := 0,
                     releasedTotal := 0, lastCredited := 0, starvationLimit := 10, timerRunning := false,
                     attachments := [], endCause := .none }) ∧
  t.freeSlots = 65536 ∧
  (∀ d, t.drive d = { state := .absent, phase := .noPhase, checkPhase := .checking, resultsValid := false,
                      checkResult := none, timeoutCount := 0, outstanding := none, waiting := none, nextNumber := 0,
                      trayRecord := none, entry := none, lastFault := none,
                      staged := { order := 0, start := 0, floor := 0, threshold := 0, mode := 0, stride := 0,
                                  tolerance := 0 },
                      active := none, pendingCopy := none, rung := 0, failCount := 0, applyStatus := .idle }) ∧
  (∀ g, t.code g = 0) ∧
  (∀ d, t.save d = { sub := .outside, slot := none, length := 0, lastBlock := 0, mode := none, stride := none,
                     tolerance := 0,
                     progress := { next := 0, compared := 0, errors := 0, readFaults := 0, consecutive := 0,
                                   firstError := none },
                     lastEnding := .notYet }) ∧
  t.verifyQueue = [] ∧ (∀ c, t.context c = none) ∧
  (∀ o, t.order o = { state := .free, slot := 0, mediaClass := 0, quantity := 0, template := none, passed := 0,
                      failed := 0, inProgress := 0 }) ∧
  (∀ n, (t.record n).use = .free ∧ (t.record n).gen = 0) ∧
  (∀ i, t.station i = { kind := .noKind, lift := 0, rotate := 0, mediaClass := 0, count := 0, loaded := false,
                        capacity := 0 }) ∧
  t.queue = [] ∧
  t.transport = { mode := .parked, phase := .idle, pickMisses := 0, outstanding := none, nextNumber := 0,
                  parkWaiting := false, heldCause := none, autoFeed := false, heldCopy := false } ∧
  (∀ a, (t.artwork a).state = .empty ∧ (t.artwork a).length = 0 ∧ (t.artwork a).check = 0 ∧
    (t.artwork a).fillPoint = 0 ∧ (t.artwork a).crc = 0xFFFFFFFF#32 ∧ (t.artwork a).inUse = false) ∧
  (∀ l, t.template l = { art := 0, serialEnabled := false, text := [], nextSerial := 0, issued := 0, printed := 0,
                         voided := 0 }) ∧
  t.printer = { state := .offline, phase := .noPhase, checkPhase := .checking, checkResult := none,
                outstanding := none, waiting := none, nextNumber := 0, token := none, snapshot := none, bandsLeft := 0,
                faultRun := 0, lastFault := none, resetRunning := false } ∧
  t.feed.accepted = 0 ∧ (∀ c : DiscardCause, t.feed.discards[c.idx.val] = 0) ∧ t.feed.lastTag = none ∧
  t.feed.lastStatus = none ∧ t.feed.restartPending = true ∧ t.outbound = [] ∧
  (∀ c, t.event c = { enabled := true, pending := false, overwritten := false, placed := false, mask := 0,
                      value := none, count := 0 }) ∧
  t.settings.access = .loading ∧ (∀ g : Rung, t.settings.ladderWritten[g.val] = false) ∧
  (∀ i : StationNo, t.settings.mapWritten[i.val] = false)

/-! ### The laws of the records -/

/-- The two laws of R17 and R34 at one wave, with its IDLE values (R18). -/
def Wave.lawful (x : Wave) : Prop :=
  x.occupied ≤ x.capacity ∧
    (x.state = .idle → x.capacity = 0 ∧ x.slot = none ∧ x.checkFlag = false ∧ x.held = [] ∧ x.timerRunning = false ∧
      x.attachments = []) ∧
    (x.timerRunning = true → (x.state = .opened ∨ x.state = .streaming) ∧ x.occupied = x.capacity)

/-- The values an assignment in force may hold (R70, R71, R73). -/
def Assignment.legal (a : Assignment) : Prop :=
  a.start ≤ a.floor ∧ 1 ≤ a.threshold ∧ a.threshold ≤ 7 ∧
    (a.mode = .sampled → 2 ≤ a.stride ∧ a.stride ≤ 64) ∧ a.tolerance ≤ 1023

/-- R71 at one drive: the rung lies between start and floor, and the fail count below the threshold. -/
def DriveSlot.lawful (x : DriveSlot) : Prop :=
  (∀ a, x.active = some a → a.legal ∧ a.start ≤ x.rung ∧ x.rung ≤ a.floor ∧ x.failCount < a.threshold) ∧
    (∀ a, x.pendingCopy = some a → a.legal) ∧ x.failCount ≤ 6

/-- R163 and R166 at one artwork slot: the running CRC is that of the bytes received, a READY slot holds its whole
artwork with the CRC-32 that Artwork Begin gave, and a slot in use by a print is READY. -/
def Artwork.lawful (x : Artwork) : Prop :=
  x.crc = crcRun crcInit x.bytes ∧
    (match x.state with
      | .empty => x.length = 0 ∧ x.bytes = []
      | .filling => x.fillPoint < x.length ∧ x.length ≤ Config.maxArtwork
      | .ready => 1 ≤ x.length ∧ x.length ≤ Config.maxArtwork ∧ x.fillPoint = x.length ∧ crc32 x.bytes = x.check) ∧
    (x.inUse = true → x.state = .ready)

/-- R155 and R157 at the transport record. -/
def Transport.lawful (x : Transport) : Prop :=
  (x.mode = .held ↔ x.heldCause.isSome = true) ∧ (x.mode = .held → x.autoFeed = false) ∧
    (x.parkWaiting = true → x.mode = .running) ∧
    (x.phase = .idle → ∀ o, x.outstanding = some o → o.abandoned = true) ∧
    (x.mode = .parked → x.phase = .idle ∨
      (x.phase = .homing ∧ ∀ o, x.outstanding = some o → o.abandoned = true ∨ o.op = .home))

/-- R195 and R197 at one event class: a record that is not pending holds nothing, and an EVENT frame of the class
stands in the outbound list, once, exactly while the class is enabled and pending. -/
def State.eventLawful (s : State) (c : EventClass) : Prop :=
  (s.event c).placed = ((s.event c).enabled && (s.event c).pending) ∧
    s.outbound.count (.event c) = (if (s.event c).placed then 1 else 0) ∧
    ((s.event c).pending = false →
      (s.event c).mask = 0 ∧ (s.event c).value = none ∧ (s.event c).count = 0 ∧ (s.event c).overwritten = false)

end Sys2Proof.Machine
end

