-- ==== Sys2Proof/Certificates/Slice0/Obligations.lean ====
section
/-! DEFINITION. The statements for the provers, over exec, step and the shared operations. `expect` is holds for each;
OBLIGATIONS.json lists them with the rules of spec/ they come from. -/

open Sys2Proof Sys2Proof.Machine

/-! ### The machine as a whole -/

/-- A step takes the oldest waiting command and runs it on the queue's rest; with none waiting the block idles (log
entry 2). -/
def Obligations.StepRunsTheFrontCommand : Prop :=
  (∀ (c : Instr) (rest : List Instr) (s : State), step (s.withPending (c :: rest)) = exec c (s.withPending rest)) ∧
    ∀ s : State, s.pending = [] → step s = .next s

/-- Every command answers a next state in every state, and changes only the parts of the state in its row's frame. The
queue of waiting commands is in no frame, POWER_ON's among them: that queue stands outside the part, which is the
model's choice (log entries 1 and 2, DESIGN CHOICE). -/
def Obligations.EveryCommandKeepsItsFrame : Prop :=
  (∀ (c : Instr) (s : State), ∃ t, exec c s = .next t ∧ Changes (commandParts c) s t) ∧
    ∀ c : Instr, Part.pending ∉ commandParts c

/-- POWER_ON sets every block to its starting values whatever came before, and the state right after reset has them.
The EEPROM keeps its contents (log entry 1), unless a store is in progress: then it holds its earlier image, the copy, or
an image whose CRC does not match (log entry 48, DESIGN CHOICE). -/
def Obligations.PowerOnSetsStartingValues : Prop :=
  (∀ s : State, ∃ t, exec .powerOn s = .next t ∧ t.starting ∧
    (s.settings.access ≠ .storing → t.settings.eeprom = s.settings.eeprom) ∧
    (s.settings.access = .storing →
      t.settings.eeprom = s.settings.eeprom ∨
      (∃ v, s.settings.storing = some v ∧ t.settings.eeprom = { values := v, crc := crc32 (settingsBytes v) }) ∨
      t.settings.eeprom.crc ≠ crc32 (settingsBytes t.settings.eeprom.values))) ∧
    State.reset.starting ∧ State.reset.pending = []

/-! ### The feed link and events -/

/-- A frame with RESEND whose tag is the last tag is answered IGNORED with the last status, and acts on nothing. A
table or command number that does not exist is answered UNKNOWN, and a body that does not parse FORMAT; the frame
acts on nothing. A data frame with a count, a repeat or a body length that R184 does not allow is discarded with
FORMAT. A data frame whose operands FP does not allow is discarded with FORMAT (log entry 5). -/
def Obligations.FramesNotHandedOnChangeNothingElse : Prop :=
  (∀ (c : Instr) (r : ReplyTo) (s : State), answeredFrame c = some (r, true) → s.feed.lastTag = some r.tag →
    ∃ t, exec c s = .next t ∧ t.feed = { s.feed with accepted := countUp s.feed.accepted } ∧
      t.outbound = s.outbound ++ [.reply r.tag r.kind r.number .ignored s.feed.lastStatus 0 0] ∧
      Changes [.feed, .outbound] s t) ∧
  ((∀ (kind : AnsweredKind) (number : Byte) (f : TableFrame) (s : State), numberExists kind number = false →
    s.handlesAsNew f.tag f.resend →
    ∃ t, exec (.unknown kind number f) s = .next t ∧
      RepliedOnly { tag := f.tag, kind := kind, number := number } .unknown s t) ∧
    ∀ (c : Instr) (r : ReplyTo) (resend : Bool) (s : State), malformed c = true →
      answeredFrame c = some (r, resend) → s.handlesAsNew r.tag resend →
      ∃ t, exec c s = .next t ∧ RepliedOnly r .format s t) ∧
  (∀ (c : Instr) (s : State),
    ((∃ w n l, c = .sector w n l ∧ sectorsOk l = false) ∨ (∃ w n k p, c = .run w n k p ∧ runOk k p = false) ∨
      ∃ a o l, c = .artworkFrame a o l ∧ artworkBodyOk l = false) →
    ∃ t, exec c s = .next t ∧ Discarded .format s t)

/-- Each checked TABLE and COMMAND frame gets exactly one REPLY, with its tag, kind and number; its tag is then the
last tag. SECTOR, RUN and ARTWORK frames get none. -/
def Obligations.OneReplyPerAnsweredFrame : Prop :=
  (∀ (c : Instr) (r : ReplyTo) (resend : Bool) (s : State), answeredFrame c = some (r, resend) →
    ∃ t status original refused ignored, exec c s = .next t ∧ t.feed.lastTag = some r.tag ∧
      t.outbound.filter OutFrame.isReply =
        s.outbound.filter OutFrame.isReply ++ [.reply r.tag r.kind r.number status original refused ignored]) ∧
    ∀ (c : Instr) (s : State), (∃ w n l, c = .sector w n l) ∨ (∃ w n k p, c = .run w n k p) ∨
        (∃ a o l, c = .artworkFrame a o l) →
      ∃ t, exec c s = .next t ∧ t.outbound.filter OutFrame.isReply = s.outbound.filter OutFrame.isReply ∧
        t.feed.lastTag = s.feed.lastTag

/-- The frame checker, check by check on the bytes as delivered: fewer than 20 or more than 8,256 of them give FORMAT;
last four that are not the CRC-32 of the others BAD-CHECK; then FORMAT for a length field that is not the number of
bytes, for a kind that is not SECTOR, RUN, ARTWORK, TABLE or COMMAND, for a flag bit that the kind does not allow, for
a header field that holds no value of its kind, and for a body of the wrong length; a frame without such a fault
passes. A frame that fails a check is discarded whole with its cause; one that passes every check acts as the command
it stands for (log entry 5). -/
def Obligations.InboundFrameIsDiscardedOrHandedOn : Prop :=
  (∀ b : List Byte,
    let byte := fun i : Nat => (b[i]?.getD 0).toNat
    let kind := byte 0
    let flags := byte 1
    let slot := byte 8
    let count := byte 9
    let rep := 256 * byte 10 + byte 11
    let offset := (b.drop 12).take 4
    let body := b.length - 20
    let checked := b.drop (b.length - 4) = enc32w (crc32 (b.take (b.length - 4)))
    let badLength := (b.drop 4).take 4 ≠ enc32 b.length
    let badKind := kind < 1 ∨ 5 < kind
    let badFlags := 1 < flags ∨ (flags = 1 ∧ kind ≠ 4 ∧ kind ≠ 5)
    let badField := kind = 1 ∧ (3 < slot ∨ count < 1 ∨ 4 < count ∨ rep ≠ 0) ∨
      kind = 2 ∧ (3 < slot ∨ count ≠ 1 ∨ 4095 < rep) ∨ kind = 3 ∧ (7 < slot ∨ count ≠ 0 ∨ rep ≠ 0) ∨
      kind = 4 ∧ (rep ≠ 0 ∨ offset ≠ [0, 0, 0, 0]) ∨ kind = 5 ∧ (slot ≠ 0 ∨ rep ≠ 0 ∨ offset ≠ [0, 0, 0, 0])
    let badBody := (kind = 1 ∨ kind = 2) ∧ body ≠ 2048 * count ∨ kind = 3 ∧ (body < 1 ∨ 8236 < body)
    (b.length < 20 ∨ 8256 < b.length → checkFrame b = .discard .format) ∧
    (20 ≤ b.length → b.length ≤ 8256 →
      (¬ checked → checkFrame b = .discard .badCheck) ∧
      (checked →
        (badLength → checkFrame b = .discard .format) ∧ (badKind → checkFrame b = .discard .format) ∧
        (badFlags → checkFrame b = .discard .format) ∧ (badField → checkFrame b = .discard .format) ∧
        (badBody → checkFrame b = .discard .format) ∧
        (¬ badLength → ¬ badKind → ¬ badFlags → ¬ badField → ¬ badBody → ∃ c, checkFrame b = .pass c)))) ∧
  (∀ (b : List Byte) (s : State),
    (∀ cause, checkFrame b = .discard cause →
      ∃ t, exec (.inboundFrameDiscard b) s = .next t ∧ Discarded cause s t) ∧
    ∀ c, checkFrame b = .pass c → exec (.inboundFrameDiscard b) s = exec c s)

/-- Encoding a well-formed frame and checking its bytes gives the same command back, with every operand. The operands
of a command are typed fields (log entry 5, DESIGN CHOICE). -/
def Obligations.CheckedFrameIsTheEncodedCommand : Prop :=
  ∀ (c : Instr) (b : List Byte), c.wf = true → encodeFrame c = some b → checkFrame b = .pass c

/-- FP sends the frame at the head of the outbound list, with RESTART in its flags when restart pending is set. An
EVENT frame takes its contents from its class record, which is cleared. Each of the two rows leaves the other's
frame. The bytes sent are kept in a field of the model (log entry 28), and a frame without a tag of its own carries
tag 0 (log entry 9). -/
def Obligations.FirstFrameIsSent : Prop :=
  ∀ (s : State) (f : OutFrame) (rest : List OutFrame), s.outbound = f :: rest →
    (∀ c, f ≠ .event c) ∧ exec .eventFrameSend s = .next s ∧
      (∃ t, exec .outboundFrameSend s = .next t ∧ t.outbound = rest ∧
        t.feed = { s.feed with restartPending := false, sent := some (s.outBytes f) } ∧
        (s.outBytes f)[1]? = some (if s.feed.restartPending then 1#8 else 0#8) ∧ Changes [.feed, .outbound] s t) ∨
    ∃ c, f = .event c ∧ exec .outboundFrameSend s = .next s ∧
      ∃ t, exec .eventFrameSend s = .next t ∧ t.outbound = rest ∧
        t.feed = { s.feed with
          restartPending := false
          sent := some (frameBytes { kind := 0x82#8, tag := 0, slot := 0, count := BitVec.ofNat 8 c.ctorIdx, offset := 0 }
            s.feed.restartPending (encFlag (s.event c).overwritten ++ eventPayload c (s.event c))) } ∧
        t.event c = { s.event c with pending := false, overwritten := false, placed := false, mask := 0, value := none,
                                     count := 0 } ∧
        (∀ k, k ≠ c → t.event k = s.event k) ∧ Changes [.feed, .events, .outbound] s t

/-- Raising an event merges it into its class record at once, and places one EVENT frame when the class is enabled
and was not pending. -/
def Obligations.RaiseMergesAndPlaces : Prop :=
  ∀ (s : State) (c : EventClass) (mask : Word16) (value : Option EventValue),
    let r := s.event c
    let t := s.raise c mask value
    (t.event c).pending = true ∧ (t.event c).value = value ∧ (t.event c).enabled = r.enabled ∧
    (r.pending = false → (t.event c).mask = mask ∧ (t.event c).overwritten = r.overwritten ∧
      (t.event c).count = (if c = .feedError then 1 else 0) ∧
      (r.enabled = true → (t.event c).placed = true ∧ t.outbound = s.outbound ++ [.event c]) ∧
      (r.enabled = false → (t.event c).placed = r.placed ∧ t.outbound = s.outbound)) ∧
    (r.pending = true → (t.event c).mask = r.mask ||| mask ∧
      ((t.event c).overwritten = true ↔ r.overwritten = true ∨ r.value ≠ value) ∧
      (t.event c).count = (if c = .feedError then min 65535 (r.count + 1) else r.count) ∧
      (t.event c).placed = r.placed ∧ t.outbound = s.outbound) ∧
    (∀ k, k ≠ c → t.event k = s.event k) ∧ Changes [.events, .outbound] s t

/-- Event Enable: each class's flag takes its mask bit; a class enabled while pending has its frame placed, a class
disabled while its frame waits has it taken out, and no record loses what it holds. -/
def Obligations.EventEnableTakesTheMask : Prop :=
  ∀ (f : CmdFrame) (m : Word16) (s : State), parseClassMask f.body = some m → s.handlesAsNew f.tag f.resend →
    ∃ t, exec (.eventEnable f) s = .next t ∧ Replied f.tag .ok s t ∧ Changes [.feed, .events, .outbound] s t ∧
      t.outbound.filter OutFrame.isReply = s.outbound.filter OutFrame.isReply ++ [(cmdReply f 23).frame .ok] ∧
      ∀ c : EventClass,
        (t.event c).enabled = m.getLsbD c.ctorIdx ∧ (t.event c).pending = (s.event c).pending ∧
        (t.event c).mask = (s.event c).mask ∧ (t.event c).value = (s.event c).value ∧
        (t.event c).count = (s.event c).count ∧ (t.event c).overwritten = (s.event c).overwritten ∧
        ((s.event c).enabled = m.getLsbD c.ctorIdx → t.event c = s.event c ∧
          t.outbound.count (.event c) = s.outbound.count (.event c)) ∧
        ((s.event c).enabled = false → m.getLsbD c.ctorIdx = true → (s.event c).pending = true →
          (t.event c).placed = true ∧ .event c ∈ t.outbound) ∧
        ((s.event c).enabled = true → m.getLsbD c.ctorIdx = false → (s.event c).placed = true →
          (t.event c).placed = false ∧ .event c ∉ t.outbound)

/-- Query: an index in the selector's range is answered OK with the QUERY-RESULT just after the REPLY, and changes
nothing but FP's record; the answer is that of the selector's owner (its byte layout is log entry 13, DESIGN CHOICE);
the FEED answer shows the counters with this Query counted, and clears them. An index out of range is refused with
RANGE and gets no QUERY-RESULT. -/
def Obligations.QueryAnswersOrRefuses : Prop :=
  ∀ (f : CmdFrame) (sel : Selector) (index : Byte) (s : State), parseQuery f.body = some (sel, index) →
    s.handlesAsNew f.tag f.resend →
    ∃ t, exec (.query f) s = .next t ∧
      (sel.indexes ≤ index.toNat → RepliedOnly (cmdReply f 24) .range s t) ∧
      (index.toNat < sel.indexes → ∃ body,
        t.outbound = s.outbound ++ [(cmdReply f 24).frame .ok,
          .queryResult f.tag (BitVec.ofNat 8 sel.ctorIdx) index body] ∧ Changes [.feed, .outbound] s t ∧
        t.feed.lastTag = some f.tag ∧ t.feed.lastStatus = some .ok ∧ t.feed.restartPending = s.feed.restartPending ∧
        (sel ≠ .feed → Replied f.tag .ok s t ∧ s.answerFor sel index = some body) ∧
        (sel = .feed →
          body = enc32 (countUp s.feed.accepted) ++ s.feed.discards.toList.flatMap enc32 ++ enc16w f.tag ++ enc8 0 ∧
          t.feed.accepted = 0 ∧ ∀ c : DiscardCause, t.feed.discards[c.idx.val] = 0))

/-! ### Images and waves -/

/-- Image Define: refused with STATE for a slot that is not UNDEFINED, then with RANGE for a bad length; taken, the
slot is DEFINED with the tag and the length and holds no digest. Image Release: refused with STATE for an UNDEFINED
slot, then with BUSY while a reference count is above zero; taken, the slot is UNDEFINED and its digests are gone. -/
def Obligations.ImageDefineAndReleaseEffect : Prop :=
  (∀ (f : CmdFrame) (i : SlotNo) (tag length : Word32) (s : State),
    parseImageDefine f.body = some (i, tag, length) → s.handlesAsNew f.tag f.resend →
    ∃ t, exec (.imageDefine f) s = .next t ∧
      if (s.image i).state ≠ .undefined then RepliedOnly (cmdReply f 1) .state s t
      else if length.toNat = 0 ∨ 16777215 < length.toNat then RepliedOnly (cmdReply f 1) .range s t
      else
        t.image i = { s.image i with tag := tag, length := length.toNat, state := .defined, fillingWave := none,
                                     digests := [] } ∧
        (∀ j, j ≠ i → t.image j = s.image j) ∧ Replied f.tag .ok s t ∧
        RaisedOnly .imageState 0 (some (.image i .defined .command)) s t ∧
        t.outbound = s.outbound ++ [(cmdReply f 1).frame .ok] ++ s.placedBy .imageState ∧
        Changes [.images, .feed, .events, .outbound] s t) ∧
  (∀ (f : CmdFrame) (i : SlotNo) (s : State), parseName 4 f.body = some i → s.handlesAsNew f.tag f.resend →
    ∃ t, exec (.imageRelease f) s = .next t ∧
      if (s.image i).state = .undefined then RepliedOnly (cmdReply f 2) .state s t
      else if 0 < (s.image i).waveCount ∨ 0 < (s.image i).verifyCount ∨ 0 < (s.image i).orderCount then
        RepliedOnly (cmdReply f 2) .busy s t
      else
        t.image i = { s.image i with tag := 0, length := 0, state := .undefined, fillingWave := none, digests := [] } ∧
        (∀ j, j ≠ i → t.image j = s.image j) ∧ Replied f.tag .ok s t ∧
        RaisedOnly .imageState 0 (some (.image i .undefined .command)) s t ∧
        t.outbound = s.outbound ++ [(cmdReply f 2).frame .ok] ++ s.placedBy .imageState ∧
        Changes [.images, .feed, .events, .outbound] s t)

/-- Wave Open: the five checks in order; taken, the wave is OPEN and empty, the slot counts it and fills when it was
DEFINED, the accumulator starts, the REPLY and the first credit are sent, WAVE-STATE is raised with OPEN and COMMAND,
and every drive in READY that waits for the image is attached at cursor 0. -/
def Obligations.WaveOpenEffect : Prop :=
  ∀ (f : CmdFrame) (a : WaveOpenArgs) (s : State), parseWaveOpen f.body = some a → s.handlesAsNew f.tag f.resend →
    let r := cmdReply f 3
    let fills := decide ((s.image a.slot).state = .defined)
    ∃ t, exec (.waveOpen f) s = .next t ∧
      if (s.wave a.wave).state ≠ .idle then RepliedOnly r .state s t
      else if a.capacity < 64 ∨ 65536 < a.capacity ∨ 60 < a.limit then RepliedOnly r .range s t
      else if (s.image a.slot).state = .undefined then RepliedOnly r .state s t
      else if (s.image a.slot).state = .filling then RepliedOnly r .busy s t
      else if 65536 < a.capacity + s.otherCapacity a.wave then RepliedOnly r .noSpace s t
      else
        (let y := t.wave a.wave
         y.state = .opened ∧ y.slot = some a.slot ∧ y.checkFlag = !fills ∧ y.capacity = a.capacity ∧ y.held = [] ∧
           y.head = 0 ∧ y.releasedTotal = 0 ∧ y.lastCredited = 0 ∧ y.timerRunning = false ∧ y.endCause = .none ∧
           y.starvationLimit = (if a.limit = 0 then 10 else a.limit) ∧
           ∀ d, y.attachment d =
             if d ∈ s.waitingDrives a.slot then some { drive := d, cursor := 0, inFlight := none } else none) ∧
        (∀ d, if d ∈ s.waitingDrives a.slot then (t.drive d).state = .burning else t.drive d = s.drive d) ∧
        t.image a.slot =
          (if fills then { s.image a.slot with state := .filling, fillingWave := some a.wave, digests := [],
                                               waveCount := (s.image a.slot).waveCount + 1 }
           else { s.image a.slot with waveCount := (s.image a.slot).waveCount + 1 }) ∧
        t.acc a.wave = { mode := if fills then .fill else .check, slot := some a.slot, block := 0, taken := 0,
                         crc := 0xFFFFFFFF#32 } ∧
        (∀ v, v ≠ a.wave → t.wave v = s.wave v ∧ t.acc v = s.acc v) ∧ (∀ j, j ≠ a.slot → t.image j = s.image j) ∧
        t.event .waveState = (s.event .waveState).waveRaised a.wave .opened .command ∧
        Replied f.tag .ok s t ∧
        Joined ((if fills then s.placedBy .imageState else []) ++ [r.frame .ok, .credit a.wave 0 0]) s t ∧
        Changes [.images, .accs, .waves, .drives, .feed, .events, .outbound] s t

/-- Wave Abort: refused with STATE for an IDLE wave; taken, the wave has its IDLE values with the end cause
WAVE-ABORTED, its attached drives unload discs that have failed with that cause, and a slot it was filling is DEFINED
again. DETACH is raised once with the drives it had, WAVE-STATE with IDLE and WAVE-ABORTED, and IMAGE-STATE where the
slot goes back to DEFINED. -/
def Obligations.WaveAbortEffect : Prop :=
  ∀ (f : CmdFrame) (w : WaveNo) (s : State), parseName 4 f.body = some w → s.handlesAsNew f.tag f.resend →
    ∃ t, exec (.waveAbort f) s = .next t ∧
      if (s.wave w).state = .idle then RepliedOnly (cmdReply f 4) .state s t
      else
        (t.wave w).atIdle .waveAborted ∧ (t.wave w).head = (s.wave w).head ∧
        (t.wave w).releasedTotal = (s.wave w).releasedTotal ∧ (∀ v, v ≠ w → t.wave v = s.wave v) ∧
        (t.acc w).mode = .idle ∧
        (∀ d, if (s.wave w).attachment d ≠ none then
            (t.drive d).unloadingWith .unload ∧ BurnFailed d .waveAborted s t
          else t.drive d = s.drive d) ∧
        (∀ i, (s.wave w).slot = some i →
          t.image i =
            if (s.image i).state = .filling ∧ (s.image i).fillingWave = some w then
              { s.image i with state := .defined, fillingWave := none, digests := [],
                               waveCount := (s.image i).waveCount - 1 }
            else { s.image i with waveCount := (s.image i).waveCount - 1 }) ∧
        DetachRaised w ((s.wave w).attachments.map (·.drive)) s t ∧
        t.event .waveState = (s.event .waveState).waveRaised w .idle .waveAborted ∧
        (∀ i, (s.wave w).slot = some i →
          t.event .imageState =
            if (s.image i).state = .filling ∧ (s.image i).fillingWave = some w then
              (s.event .imageState).raised .imageState 0 (some (.image i .defined .waveAborted))
            else s.event .imageState) ∧
        Replied f.tag .ok s t ∧ Joined [(cmdReply f 4).frame .ok] s t ∧
        Changes [.images, .accs, .waves, .drives, .records, .queue, .transport, .printer, .feed, .events, .outbound] s t

/-- The checks of a data frame against its wave, in order: NO-WAVE, SEQUENCE, LENGTH, OVERRUN. A frame that fails one
is discarded whole with its cause; one that passes all is counted as accepted. -/
def Obligations.DataFrameChecks : Prop :=
  ∀ (c : Instr) (w : WaveNo) (first : Word32) (count slots : Nat) (s : State),
    ((∃ l, c = .sector w first l ∧ sectorsOk l = true ∧ count = l.length ∧ slots = l.length) ∨
      ∃ (k : Word16) (p : List Byte), c = .run w first k p ∧ runOk k p = true ∧ count = k.toNat + 1 ∧ slots = 1) →
    ∃ t, exec c s = .next t ∧
      if (s.wave w).state ≠ .opened ∧ (s.wave w).state ≠ .streaming then Discarded .noWave s t
      else if first.toNat ≠ (s.wave w).head then Discarded .sequence s t
      else if s.waveLength w < first.toNat + count then Discarded .length s t
      else if (s.wave w).capacity < (s.wave w).held.length + slots then Discarded .overrun s t
      else t.feed.accepted = countUp s.feed.accepted ∧ t.feed.discards = s.feed.discards

/-- A SECTOR or RUN frame that passes the checks of R22 is accepted whole: its slots join the held list, the head
advances, and the wave goes on, drains at the image length, or ends by a conflict or for want of drives; WAVE-STATE is
raised at each change of its state. While the wave runs, each attached drive with nothing outstanding and a cursor
below the new head sends its next WRITE. -/
def Obligations.DataFrameAccepted : Prop :=
  ∀ (w : WaveNo) (first : Word32) (s : State), ((s.wave w).state = .opened ∨ (s.wave w).state = .streaming) →
    first.toNat = (s.wave w).head →
    (∀ l, sectorsOk l = true → first.toNat + l.length ≤ s.waveLength w →
      (s.wave w).held.length + l.length ≤ (s.wave w).capacity →
      ∃ t, exec (.sector w first l) s = .next t ∧
        FrameAccepted w (sectorEntries first.toNat l) l.length l s t) ∧
    ∀ (k : Word16) (p : List Byte), runOk k p = true → first.toNat + (k.toNat + 1) ≤ s.waveLength w →
      (s.wave w).held.length + 1 ≤ (s.wave w).capacity →
      ∃ t, exec (.run w first k p) s = .next t ∧
        FrameAccepted w [{ first := first.toNat, last := first.toNat + k.toNat, isRun := true, payload := p }]
          (k.toNat + 1) (List.replicate (k.toNat + 1) p) s t

/-- Sectors taken in a block of which `before` has come already: short of the block's end they are only counted and run
through the CRC. At its end, in FILL mode, the CRC-32 of the whole block joins the digest table, and the last block
makes the slot COMPLETE and raises IMAGE-STATE with FILLED; in CHECK mode the CRC-32 is compared with the stored
digest, and a mismatch is a conflict, raises IMAGE-STATE and leaves the slot as it was. Sectors that cross a block's
end are taken as those before it and then, unless a conflict came, those after it. -/
def Obligations.BlockDigest : Prop :=
  (∀ (s : State) (w : WaveNo) (i : SlotNo) (before : List Byte) (ps : List (List Byte)),
    let a := s.acc w
    let size := min 16 ((s.image i).length - 16 * a.block)
    a.slot = some i → a.crc = crcRun crcInit before → a.taken < size →
    let t := (s.takeSectors w ps).1
    let conflict := (s.takeSectors w ps).2 = true
    let digest := crc32 (before ++ ps.flatten)
    let last := a.block + 1 = blocksOf (s.image i).length
    let next := { a with block := a.block + 1, taken := 0, crc := crcInit }
    (∀ v, v ≠ w → t.acc v = s.acc v) ∧ (∀ j, j ≠ i → t.image j = s.image j) ∧
    Changes [.images, .accs, .events, .outbound] s t ∧
    (a.taken + ps.length < size →
      ¬ conflict ∧ t.acc w = { a with taken := a.taken + ps.length, crc := crcRun crcInit (before ++ ps.flatten) } ∧
      Changes [.accs] s t) ∧
    (a.taken + ps.length = size →
      (a.mode = .fill →
        ¬ conflict ∧ (t.image i).digests = (s.image i).digests ++ [digest] ∧
        (last → (t.image i).state = .complete ∧ (t.image i).fillingWave = none ∧
          RaisedOnly .imageState 0 (some (.image i .complete .filled)) s t) ∧
        (¬ last → t.acc w = next ∧ t.image i = { s.image i with digests := (s.image i).digests ++ [digest] } ∧
          Changes [.images, .accs] s t)) ∧
      (a.mode = .check →
        (conflict ↔ (s.image i).digests[a.block]? ≠ some digest) ∧ t.image i = s.image i ∧
        (conflict → RaisedOnly .imageState 0 (some (.image i .complete .conflict)) s t) ∧
        (¬ conflict → Changes [.accs] s t ∧ (¬ last → t.acc w = next))))) ∧
  ∀ (s : State) (w : WaveNo) (ps qs : List (List Byte)),
    s.takeSectors w (ps ++ qs) =
      if (s.takeSectors w ps).2 = true then s.takeSectors w ps else (s.takeSectors w ps).1.takeSectors w qs

/-- The release rule: entries leave the front of the held list while every attached cursor is above their last
sector; the released total counts them, the timer stops, the first release closes the join gate, and one credit frame
is sent when 256 or more releases are uncredited or the wave is left empty. -/
def Obligations.ReleaseRule : Prop :=
  ∀ (s : State) (w : WaveNo),
    let x := s.wave w
    let t := s.releaseRule w
    let y := t.wave w
    ∃ n, n ≤ x.held.length ∧ y.held = x.held.drop n ∧ y.attachments = x.attachments ∧ y.head = x.head ∧
      (∀ e, e ∈ x.held.take n → x.attachments ≠ [] ∧ ∀ a ∈ x.attachments, e.last < a.cursor) ∧
      (∀ e, y.held.head? = some e → x.attachments = [] ∨ ∃ a ∈ x.attachments, a.cursor ≤ e.last) ∧
      y.releasedTotal = x.releasedTotal + n ∧ (n = 0 → t = s) ∧
      (0 < n → y.timerRunning = false ∧
        y.state = (if x.state = .opened then .streaming else x.state) ∧
        (if 256 ≤ y.releasedTotal - x.lastCredited ∨ (y.held = [] ∧ x.lastCredited < y.releasedTotal) then
            y.lastCredited = y.releasedTotal ∧
              t.outbound = s.outbound ++ (if x.state = .opened then s.placedBy .waveState else []) ++
                [.credit w y.releasedTotal x.head]
          else y.lastCredited = x.lastCredited ∧
            t.outbound = s.outbound ++ (if x.state = .opened then s.placedBy .waveState else []))) ∧
      (∀ v, v ≠ w → t.wave v = s.wave v) ∧ Changes [.waves, .events, .outbound] s t

/-- The starvation timer expires: every drive whose cursor lies within the oldest held entry is detached with
DETACHED, and DETACH is raised once with the mask of these drives; a wave left without drives is aborted with
NO-DRIVES; otherwise the release rule is applied, and it releases at least the oldest entry where every attached cursor
is at or above the entry's first sector (R26). An expiry that finds no timer running has no effect (log entry 3). -/
def Obligations.StarvationDetachesLaggards : Prop :=
  ∀ (w : WaveNo) (s : State),
    ((s.wave w).timerRunning = false → exec (.starvationExpiry w) s = .next s) ∧
    ((s.wave w).timerRunning = true →
      let x := s.wave w
      ∃ t, exec (.starvationExpiry w) s = .next t ∧
        let y := t.wave w
        y.timerRunning = false ∧ (∀ v, v ≠ w → t.wave v = s.wave v) ∧
        (∀ d, d ∈ x.starving → (t.drive d).unloadingWith .unload ∧ BurnFailed d .detached s t) ∧
        DetachRaised w x.starving s t ∧
        (if ∀ a ∈ x.attachments, a.drive ∈ x.starving then
          y.atIdle .noDrives ∧ t.event .waveState = (s.event .waveState).waveRaised w .idle .noDrives
        else
          (x.lawful → y.attachments = x.attachments.filter (fun a => decide (a.drive ∉ x.starving)) ∧
            (y.state = .opened ∨ y.state = .streaming)) ∧
          ∀ e rest, x.held = e :: rest → (∀ a ∈ x.attachments, e.first ≤ a.cursor) →
            ∃ n, 0 < n ∧ n ≤ x.held.length ∧ y.held = x.held.drop n ∧ y.releasedTotal = x.releasedTotal + n ∧
              (∀ f ∈ x.held.take n, ∀ a ∈ y.attachments, f.last < a.cursor) ∧
              (∀ f, y.held.head? = some f → ∃ a ∈ y.attachments, a.cursor ≤ f.last) ∧
              (x.state = .opened →
                y.state = .streaming ∧ t.event .waveState = (s.event .waveState).waveRaised w .streaming .gateClosed) ∧
              (x.state = .streaming → y.state = .streaming ∧ t.event .waveState = s.event .waveState) ∧
              (x.state = .opened ∨ x.state = .streaming →
                if 256 ≤ y.releasedTotal - x.lastCredited ∨ (y.held = [] ∧ x.lastCredited < y.releasedTotal) then
                  y.lastCredited = y.releasedTotal ∧ .credit w y.releasedTotal x.head ∈ t.outbound
                else y.lastCredited = x.lastCredited)) ∧
        Changes [.images, .accs, .waves, .drives, .records, .queue, .transport, .printer, .events, .outbound] s t)

/-- Artwork Begin: refused with BUSY while a print uses the slot, then with RANGE for a bad length; taken, the slot
is FILLING from offset 0 with the new length and check value. ARTWORK: the checks in order ARTWORK, SEQUENCE, LENGTH;
a frame that passes adds its bytes, and the one that brings the fill point to the length makes the slot READY when
the CRC-32 is the check value, and EMPTY otherwise. -/
def Obligations.ArtworkTransferEffect : Prop :=
  (∀ (f : CmdFrame) (a : ArtNo) (length : Nat) (check : Word32) (s : State),
    parseArtworkBegin f.body = some (a, length, check) → s.handlesAsNew f.tag f.resend →
    ∃ t, exec (.artworkBegin f) s = .next t ∧
      if (s.artwork a).inUse = true then RepliedOnly (cmdReply f 22) .busy s t
      else if length = 0 ∨ 8388608 < length then RepliedOnly (cmdReply f 22) .range s t
      else
        t.artwork a = { s.artwork a with state := .filling, length := length, check := check, bytes := [],
                                         crc := 0xFFFFFFFF#32 } ∧
        (∀ b, b ≠ a → t.artwork b = s.artwork b) ∧ Replied f.tag .ok s t ∧
        t.outbound = s.outbound ++ [(cmdReply f 22).frame .ok] ∧
        Changes [.records, .queue, .transport, .artworks, .feed, .outbound] s t) ∧
  (∀ (a : ArtNo) (offset : Word32) (data : List Byte) (s : State), artworkBodyOk data = true →
    let x := s.artwork a
    ∃ t, exec (.artworkFrame a offset data) s = .next t ∧
      if x.state ≠ .filling then Discarded .artwork s t
      else if offset.toNat ≠ x.fillPoint then Discarded .sequence s t
      else if x.length < offset.toNat + data.length then Discarded .length s t
      else
        t.feed = { s.feed with accepted := countUp s.feed.accepted } ∧
        (∀ b, b ≠ a → t.artwork b = s.artwork b) ∧
        (if x.fillPoint + data.length = x.length then
            RaisedOnly .artwork (bitMask a.val)
              (some (.artwork (decide (crcFinish (crcRun x.crc data) = x.check)))) s t ∧
            (if crcFinish (crcRun x.crc data) = x.check then
              t.artwork a = { x with state := .ready, bytes := x.bytes ++ data, crc := crcRun x.crc data }
             else (t.artwork a).state = .empty ∧ (t.artwork a).length = 0 ∧ (t.artwork a).bytes = []) ∧
            Changes [.records, .queue, .transport, .artworks, .feed, .events, .outbound] s t
          else t.artwork a = { x with bytes := x.bytes ++ data, crc := crcRun x.crc data } ∧
            Changes [.artworks, .feed] s t))

/-! ### Speeds and assignments -/

/-- A speed ladder write is taken in every state: the code is stored, the written flag is set, and the load decision
runs. A staged assignment write is taken in every state: the fields are stored as written, and nothing in force
changes. A template write: RANGE for a prefix longer than 16 or with a character outside 0x20 to 0x7E, or a next
serial above 999,999; taken, the four fields are stored, the counts stay, and the arbiter is evaluated. -/
def Obligations.LadderStagedAndTemplateWriteEffect : Prop :=
  (∀ (f : TableFrame) (g : Rung) (code : Byte) (s : State), f.entry.toNat = g.val → f.body = [code] →
    s.handlesAsNew f.tag f.resend →
    ∃ u, exec (.speedLadderWrite f) s = .next u.loadDecision.arbiter ∧ u.code g = code ∧
      (∀ h, h ≠ g → u.code h = s.code h) ∧
      u.settings = { s.settings with ladderWritten := s.settings.ladderWritten.set g.val true g.isLt } ∧
      Replied f.tag .ok s u ∧ u.outbound = s.outbound ++ [(tableReply f 1).frame .ok] ∧
      Changes [.ladder, .settings, .feed, .outbound] s u) ∧
  (∀ (f : TableFrame) (d : Drive) (order : OrderNo) (o rungs tm stride t1 t0 : Byte) (s : State),
    f.entry.toNat = d.val → f.body = [o, rungs, tm, stride, t1, t0] → o.toNat = order.val → tm.toNat < 64 →
    s.handlesAsNew f.tag f.resend →
    ∃ t, exec (.stagedAssignmentWrite f) s = .next t ∧
      t.drive d = { s.drive d with
        staged := { order := order, start := rungs.toNat % 16, floor := rungs.toNat / 16, threshold := tm.toNat % 16,
                    mode := tm.toNat / 16, stride := stride.toNat, tolerance := 256 * t1.toNat + t0.toNat } } ∧
      (∀ e, e ≠ d → t.drive e = s.drive e) ∧ Replied f.tag .ok s t ∧
      t.outbound = s.outbound ++ [(tableReply f 3).frame .ok] ∧ Changes [.drives, .feed, .outbound] s t) ∧
  (∀ (f : TableFrame) (l : TmplNo) (a : TemplateArgs) (s : State), parseTemplate f = some (l, a) →
    s.handlesAsNew f.tag f.resend →
    ∃ t, exec (.templateWrite f) s = .next t ∧
      ((a.textLength ≤ 16 ∧ (∀ c ∈ a.textBytes.take a.textLength, 0x20 ≤ c.toNat ∧ c.toNat ≤ 0x7E) ∧
          a.nextSerial ≤ 999999 → ∃ u, t = u.arbiter ∧
        u.template l = { s.template l with art := a.art, serialEnabled := a.serialEnabled,
                                           text := a.textBytes.take a.textLength, nextSerial := a.nextSerial } ∧
        (∀ k, k ≠ l → u.template k = s.template k) ∧ Replied f.tag .ok s u ∧
        u.outbound = s.outbound ++ [(tableReply f 4).frame .ok] ∧ Changes [.templates, .feed, .outbound] s u) ∧
      (16 < a.textLength ∨ (∃ c ∈ a.textBytes.take a.textLength, c.toNat < 0x20 ∨ 0x7E < c.toNat) ∨
          999999 < a.nextSerial → RepliedOnly (tableReply f 4) .range s t)))

/-- The three checks of an apply, in order; an entry that passes gives an assignment with its values, a threshold
field of 0 as 3. -/
def Obligations.ApplyChecksInOrder : Prop :=
  ∀ (s : State) (e : StagedEntry),
    s.validate e =
      (if (s.order e.order).state = .free then some .rejOrder
       else if ¬ (e.start ≤ 7 ∧ e.start ≤ e.floor ∧ e.floor ≤ 7 ∧
          (∀ g : Rung, g.val = e.start ∨ g.val = e.floor → s.code g ≠ 0) ∧ e.threshold ≤ 7) then some .rejRung
       else if ¬ (e.mode ≤ 2 ∧ (e.mode = 2 → 2 ≤ e.stride ∧ e.stride ≤ 64) ∧ e.tolerance ≤ 1023) then some .rejVerify
       else none) ∧
    (s.validate e = none →
      let a := e.inForce
      a.order = e.order ∧ a.start.val = e.start ∧ a.floor.val = e.floor ∧ a.mode.ctorIdx = e.mode ∧
        a.threshold = (if e.threshold = 0 then 3 else e.threshold) ∧ a.stride = e.stride ∧ a.tolerance = e.tolerance)

/-- Apply Now at each drive of the mask: ignored while IN-PROGRESS, REJ-BUSY in a state that works, the REJ status of
the check that fails; otherwise the staged entry is in force, an EMPTY drive is asked for a SPEED at the start rung
and is IN-PROGRESS, and an ABSENT or FAULTED one has SUCCESS. The REPLY carries the masks; the load decision runs
when a drive took its entry. -/
def Obligations.ApplyNowEffect : Prop :=
  ∀ (f : CmdFrame) (m : Word16) (s : State), parseMask f.body = some m → s.handlesAsNew f.tag f.resend →
    let ignores := fun d : Drive => m.getLsbD d.val = true ∧ (s.drive d).applyStatus = .inProgress
    let rejects := fun d : Drive => (if (s.drive d).state = .absent ∨ (s.drive d).state = .empty ∨
        (s.drive d).state = .faulted then s.validate (s.drive d).staged else some .rejBusy : Option ApplyStatus)
    let takes := fun d : Drive => m.getLsbD d.val = true ∧ ¬ ignores d ∧ rejects d = none
    ∃ u, exec (.applyNow f) s = .next (if ∃ d, takes d then u.loadDecision.arbiter else u) ∧
      Replied f.tag .ok s u ∧
      (∃ refused ignored : Word16, Joined [.reply f.tag .command 5 .ok none refused ignored] s u ∧
        ∀ d : Drive, (ignored.getLsbD d.val = true ↔ ignores d) ∧
          (refused.getLsbD d.val = true ↔ m.getLsbD d.val = true ∧ ¬ ignores d ∧ rejects d ≠ none)) ∧
      (∀ d : Drive,
        (m.getLsbD d.val = false ∨ ignores d → u.drive d = s.drive d) ∧
        (∀ st, m.getLsbD d.val = true → ¬ ignores d → rejects d = some st →
          u.drive d = { s.drive d with applyStatus := st }) ∧
        (takes d →
          let a := (s.drive d).staged.inForce
          let x := { s.drive d with active := some a, pendingCopy := none, rung := a.start, failCount := 0 }
          let speed := DriveRequest.speed (s.code a.start) a.start .apply
          ((s.drive d).state ≠ .empty → u.drive d = { x with applyStatus := .success } ∧
            (u.event .applyDone).pending = true ∧ (u.event .applyDone).mask.getLsbD d.val = true) ∧
          ((s.drive d).state = .empty → x.outstanding = none → x.checkPhase = .idle →
            u.drive d = { x with applyStatus := .inProgress, outstanding := some { req := speed, number := x.nextNumber },
                                 nextNumber := x.nextNumber + 1 }) ∧
          ((s.drive d).state = .empty → x.outstanding ≠ none ∨ x.checkPhase ≠ .idle → x.waiting = none →
            u.drive d = { x with applyStatus := .inProgress, waiting := some speed }))) ∧
      (∀ k, k ≠ .applyDone → u.event k = s.event k) ∧ Changes [.drives, .feed, .events, .outbound] s u

/-- Apply At Load at each drive of the mask: ignored while IN-PROGRESS, the REJ status of the check that fails, or
the staged entry becomes the pending copy and the status PENDING. -/
def Obligations.ApplyAtLoadEffect : Prop :=
  ∀ (f : CmdFrame) (m : Word16) (s : State), parseMask f.body = some m → s.handlesAsNew f.tag f.resend →
    let ignores := fun d : Drive => m.getLsbD d.val = true ∧ (s.drive d).applyStatus = .inProgress
    let rejects := fun d : Drive => s.validate (s.drive d).staged
    let takes := fun d : Drive => m.getLsbD d.val = true ∧ ¬ ignores d ∧ rejects d = none
    ∃ u, exec (.applyAtLoad f) s = .next (if ∃ d, takes d then u.loadDecision.arbiter else u) ∧
      Replied f.tag .ok s u ∧
      (∃ refused ignored : Word16, u.outbound = s.outbound ++ [.reply f.tag .command 6 .ok none refused ignored] ∧
        ∀ d : Drive, (ignored.getLsbD d.val = true ↔ ignores d) ∧
          (refused.getLsbD d.val = true ↔ m.getLsbD d.val = true ∧ ¬ ignores d ∧ rejects d ≠ none)) ∧
      (∀ d : Drive,
        (m.getLsbD d.val = false ∨ ignores d → u.drive d = s.drive d) ∧
        (∀ st, m.getLsbD d.val = true → ¬ ignores d → rejects d = some st →
          u.drive d = { s.drive d with applyStatus := st }) ∧
        (takes d → u.drive d = { s.drive d with pendingCopy := some (s.drive d).staged.inForce,
                                                applyStatus := .pending })) ∧
      Changes [.drives, .feed, .outbound] s u

/-- The load decision of one drive: its six steps in order. A pending copy is taken when step 1 passes, whatever
follows; a drive that passes all goes to LOADING, asks for TRAY-OPEN, reserves a disc of its order and has a LOAD
entry at the queue's tail. The load decision is that of every EMPTY drive, from D0 upward. -/
def Obligations.LoadDecisionOfOneDrive : Prop :=
  (∀ (s : State) (d : Drive),
    let x := s.drive d
    let t := s.decideDrive d
    let first := x.state = .empty ∧ x.checkPhase = .idle ∧ s.transport.autoFeed = true ∧ x.applyStatus ≠ .inProgress
    let y := match x.pendingCopy with
      | some a => { x with active := some a, pendingCopy := none, rung := a.start, failCount := 0,
                           applyStatus := .success }
      | none => x
    let passes := fun o : OrderNo => (s.order o).state = .opened ∧
      (s.order o).passed + (s.order o).inProgress < (s.order o).quantity ∧ s.code y.rung ≠ 0 ∧
      ∃ i : Fin 4, (s.station (spindleStation i)).loaded = true ∧
        (s.station (spindleStation i)).mediaClass = (s.order o).mediaClass
    (¬ first → t = s) ∧
    (first → (∀ e, e ≠ d → t.drive e = s.drive e) ∧
      ((∀ a, y.active = some a → ¬ passes a.order) → t.drive d = y ∧ Changes [.drives, .events, .outbound] s t) ∧
      (∀ a, y.active = some a → passes a.order →
        (t.drive d).state = .loading ∧ (t.drive d).phase = .trayOpening ∧ (t.drive d).entry = some .load ∧
        (t.drive d).active = some a ∧ (t.drive d).rung = y.rung ∧
        (x.outstanding = none → t.drive d = { y with
          state := .loading, phase := .trayOpening, entry := some .load, nextNumber := x.nextNumber + 1,
          outstanding := some { req := .trayOpen, number := x.nextNumber } }) ∧
        t.order a.order = { s.order a.order with inProgress := (s.order a.order).inProgress + 1 } ∧
        (∀ o, o ≠ a.order → t.order o = s.order o) ∧
        t.queue = s.queue ++ [{ kind := .load, source := .mediaClass (s.order a.order).mediaClass,
                                dest := .station (trayOf d), token := none, drive := some d, order := some a.order,
                                passOver := 0, current := false, srcAt := none, dstAt := none, setAside := none,
                                pickSent := false }] ∧
        (t.event .driveState).pending = true ∧
        Changes [.drives, .orders, .queue, .printer, .events, .outbound] s t))) ∧
  ∀ s : State, s.loadDecision = (List.finRange 16).foldl State.decideDrive s

/-! ### Orders -/

/-- Order Define: the three checks in order; taken, the order is OPEN with the fields and no counts, the slot's order
count rises, ORDER-STATE is raised and the load decision runs. -/
def Obligations.OrderDefineEffect : Prop :=
  ∀ (f : CmdFrame) (a : OrderDefineArgs) (s : State), parseOrderDefine f.body = some a →
    s.handlesAsNew f.tag f.resend →
    ∃ t, exec (.orderDefine f) s = .next t ∧
      if (s.order a.order).state ≠ .free then RepliedOnly (cmdReply f 7) .state s t
      else if a.mediaClass < 1 ∨ 15 < a.mediaClass ∨ a.quantity < 1 ∨ 65535 < a.quantity then
        RepliedOnly (cmdReply f 7) .range s t
      else if (s.image a.slot).state = .undefined then RepliedOnly (cmdReply f 7) .state s t
      else ∃ u, t = u.loadDecision.arbiter ∧
        u.order a.order = { state := .opened, slot := a.slot, mediaClass := a.mediaClass, quantity := a.quantity,
                            template := a.template, passed := 0, failed := 0, inProgress := 0 } ∧
        (∀ o, o ≠ a.order → u.order o = s.order o) ∧
        u.image a.slot = { s.image a.slot with orderCount := (s.image a.slot).orderCount + 1 } ∧
        (∀ j, j ≠ a.slot → u.image j = s.image j) ∧ Replied f.tag .ok s u ∧
        RaisedOnly .orderState (bitMask a.order.val) none s u ∧
        u.outbound = s.outbound ++ [(cmdReply f 7).frame .ok] ++ s.placedBy .orderState ∧
        Changes [.orders, .images, .feed, .events, .outbound] s u

/-- Order Hold is taken in OPEN: the order is HELD, and every drive in READY whose tray record names it withdraws its
blank. Order Resume is taken in HELD: the order is OPEN and the load decision runs. Both are refused with STATE
otherwise. -/
def Obligations.OrderHoldAndResumeEffect : Prop :=
  ∀ (f : CmdFrame) (o : OrderNo) (s : State), parseName 8 f.body = some o → s.handlesAsNew f.tag f.resend →
    (∃ t, exec (.orderHold f) s = .next t ∧
      if (s.order o).state = .opened then
        t.order o = { s.order o with state := .held } ∧ (∀ p, p ≠ o → t.order p = s.order p) ∧
        (∀ d, if (s.drive d).state = .ready ∧ s.orderOf (s.drive d).trayRecord = some o then
            (∀ r i, s.trayRecordOf d = some r → r.origin = .spindle i → (t.drive d).unloadingWith .return ∧
              ∃ e ∈ t.queue, e.kind = .return ∧ e.source = .station (trayOf d) ∧ e.dest = .station (spindleStation i) ∧
                e.token = (s.drive d).trayRecord ∧ e.drive = some d)
          else t.drive d = s.drive d) ∧
        (∀ k : RecNo, (t.record k).cause = (s.record k).cause) ∧
        t.event .orderState = (s.event .orderState).raised .orderState (bitMask o.val) none ∧
        Replied f.tag .ok s t ∧ Joined [(cmdReply f 8).frame .ok] s t ∧
        Changes [.orders, .drives, .records, .queue, .transport, .printer, .feed, .events, .outbound] s t
      else RepliedOnly (cmdReply f 8) .state s t) ∧
    ∃ t, exec (.orderResume f) s = .next t ∧
      if (s.order o).state = .held then ∃ u, t = u.loadDecision.arbiter ∧
        u.order o = { s.order o with state := .opened } ∧ (∀ p, p ≠ o → u.order p = s.order p) ∧
        RaisedOnly .orderState (bitMask o.val) none s u ∧ Replied f.tag .ok s u ∧
        u.outbound = s.outbound ++ [(cmdReply f 9).frame .ok] ++ s.placedBy .orderState ∧
        Changes [.orders, .feed, .events, .outbound] s u
      else RepliedOnly (cmdReply f 9) .state s t

/-- Order Quantity: its three checks in order; taken, the quantity is the new one and the order's state follows from
it; ORDER-STATE is raised when the state changes. Order Cancel: its three checks; taken, the order is FREE and the
slot's order count falls. -/
def Obligations.OrderQuantityAndCancelEffect : Prop :=
  (∀ (f : CmdFrame) (o : OrderNo) (q : Nat) (s : State), parseOrderQuantity f.body = some (o, q) →
    s.handlesAsNew f.tag f.resend →
    let x := s.order o
    ∃ t, exec (.orderQuantity f) s = .next t ∧
      if x.state = .free then RepliedOnly (cmdReply f 10) .state s t
      else if q < 1 ∨ 65535 < q then RepliedOnly (cmdReply f 10) .range s t
      else if q < x.passed + x.inProgress then RepliedOnly (cmdReply f 10) .range s t
      else
        let st : OrderState := if x.state = .complete then (if x.passed < q then .opened else .complete)
          else if q = x.passed then .complete else x.state
        ∃ u, t = (if x.quantity < q then u.loadDecision.arbiter else u) ∧
          u.order o = { x with quantity := q, state := st } ∧ (∀ p, p ≠ o → u.order p = s.order p) ∧
          Replied f.tag .ok s u ∧
          (if st = x.state then (∀ k, u.event k = s.event k) ∧
              u.outbound = s.outbound ++ [(cmdReply f 10).frame .ok]
            else RaisedOnly .orderState (bitMask o.val) none s u ∧
              u.outbound = s.outbound ++ [(cmdReply f 10).frame .ok] ++ s.placedBy .orderState) ∧
          Changes [.orders, .feed, .events, .outbound] s u) ∧
  ∀ (f : CmdFrame) (o : OrderNo) (s : State), parseName 8 f.body = some o → s.handlesAsNew f.tag f.resend →
    ∃ t, exec (.orderCancel f) s = .next t ∧
      if (s.order o).state = .free then RepliedOnly (cmdReply f 11) .state s t
      else if (s.order o).inProgress ≠ 0 then RepliedOnly (cmdReply f 11) .busy s t
      else if ∃ d, (s.drive d).active.map (·.order) = some o ∨ (s.drive d).pendingCopy.map (·.order) = some o then
        RepliedOnly (cmdReply f 11) .busy s t
      else
        t.order o = { s.order o with state := .free } ∧ (∀ p, p ≠ o → t.order p = s.order p) ∧
        t.image (s.order o).slot =
          { s.image (s.order o).slot with orderCount := (s.image (s.order o).slot).orderCount - 1 } ∧
        (∀ j, j ≠ (s.order o).slot → t.image j = s.image j) ∧ Replied f.tag .ok s t ∧
        RaisedOnly .orderState (bitMask o.val) none s t ∧
        t.outbound = s.outbound ++ [(cmdReply f 11).frame .ok] ++ s.placedBy .orderState ∧
        Changes [.orders, .images, .feed, .events, .outbound] s t

/-- The end of a disc record: the cause of the end joins unless the record has one, the verdict follows from its fields,
the DISC-DONE frame is sent first, the order's counts change and a passed count equal to the quantity completes it, and
the record is free with its generation. A notice of a record's end at the fail count of its drive: PASS clears it; a
counted failure raises it, and at the threshold the rung rises by 1 below the floor or stays, with DOWNSHIFT, and the
count is 0. Any other end leaves it. The end of a record that names an order runs the load decision once the record is
free and the counts have changed. That the freed record keeps its other fields is log entry 25 (DESIGN CHOICE), and
that the load decision runs in every state of the order log entry 42 (DEDUCED). -/
def Obligations.EndOfRecordAndDownshift : Prop :=
  (∀ (s : State) (k : Token) (cause : Option FailCause) (final : Place), s.live k = true →
    let c := (s.record k.num).cause <|> cause
    let r : DiscRecord := { s.record k.num with cause := c }
    let v : Verdict :=
      if c ≠ none then .fail
      else if ∃ i : Fin 4, final = .station (spindleStation i) then .returned
      else if r.burn = .pass ∧ (r.verify = .pass ∨ r.verify = .skipped) ∧
        (r.print = .pass ∨ r.print = .notRequired) then .pass
      else .fail
    let t := s.endRecord k cause final
    t.record k.num = { r with use := .free } ∧ (∀ n, n ≠ k.num → t.record n = s.record n) ∧
    Joined [.discDone k.num r final v] s t ∧
    (∀ o, r.order = some o →
      let x := s.order o
      (∃ u, t = u.loadDecision ∧ u.record k.num = { r with use := .free } ∧
        (u.order o).inProgress = x.inProgress - 1 ∧ Changes [.records, .drives, .orders, .events, .outbound] s u) ∧
      ((t.order o).state = if v = .pass ∧ x.passed + 1 = x.quantity then .complete else x.state) ∧
      (t.order o).passed = x.passed + (if v = .pass then 1 else 0) ∧
      (t.order o).failed = (if v = .fail then min 65535 (x.failed + 1) else x.failed) ∧
      (x.state ≠ .opened ∨ (v = .pass ∧ x.passed + 1 = x.quantity) →
        (t.order o).inProgress = x.inProgress - 1) ∧
      (v = .pass → x.passed + 1 = x.quantity →
        t.event .orderState = (s.event .orderState).raised .orderState (bitMask o.val) none)) ∧
    (r.order = none → Changes [.records, .drives, .events, .outbound] s t) ∧
    Changes [.records, .drives, .orders, .queue, .printer, .events, .outbound] s t) ∧
  (∀ (s : State) (d : Drive) (v : Verdict) (c : Option FailCause),
    let x := s.drive d
    let t := s.noticeEnd (some d) v c
    let counted := v = .fail ∧ (c = some .writeFault ∨ c = some .closeFault ∨ c = some .verifyErrors ∨
      c = some .unreadable)
    (v = .pass → t.drive d = { x with failCount := 0 } ∧ Changes [.drives] s t) ∧
    (v ≠ .pass → ¬ counted → t = s) ∧
    (counted → ∀ a, x.active = some a →
      (x.failCount + 1 < a.threshold → t.drive d = { x with failCount := x.failCount + 1 } ∧ Changes [.drives] s t) ∧
      (a.threshold ≤ x.failCount + 1 → x.rung < a.floor →
        ∃ g : Rung, g.val = x.rung.val + 1 ∧ t.drive d = { x with failCount := 0, rung := g } ∧
          RaisedOnly .downshift 0 (some (.downshift d (some g))) s t) ∧
      (a.threshold ≤ x.failCount + 1 → ¬ x.rung < a.floor →
        t.drive d = { x with failCount := 0 } ∧ RaisedOnly .downshift 0 (some (.downshift d none)) s t)) ∧
    (∀ e, e ≠ d → t.drive e = s.drive e) ∧ Changes [.drives, .events, .outbound] s t ∧
    s.noticeEnd none v c = s)

/-! ### Stations and the transport -/

/-- Station map write: BUSY in RUNNING, RANGE for a wrong kind, target, class or capacity; taken, the entry takes the
values, a bin's count is lowered to its capacity and a full bin is raised in BIN-FULL; a changed class of a LOADED
spindle retires each unpicked LOAD (its PICK not sent) whose class has no LOADED spindle left, and runs the load
decision. -/
def Obligations.StationMapWriteEffect : Prop :=
  ∀ (f : TableFrame) (i : StationNo) (a : StationArgs) (s : State), parseStation f = some (i, a) →
    s.handlesAsNew f.tag f.resend →
    let x := s.station i
    ∃ t, exec (.stationMapWrite f) s = .next t ∧
      if s.transport.mode = .running then RepliedOnly (tableReply f 2) .busy s t
      else if ¬ (a.kind = kindOfStation i ∧ a.lift.toNat ≤ 4095 ∧ a.rotate.toNat ≤ 4095 ∧
          (kindOfStation i = .spindle → 1 ≤ a.value.toNat ∧ a.value.toNat ≤ 15) ∧
          (kindOfStation i = .bin → 1 ≤ a.value.toNat ∧ a.value.toNat ≤ 150)) then
        RepliedOnly (tableReply f 2) .range s t
      else
        let y := { x with kind := a.kind, lift := a.lift.toNat, rotate := a.rotate.toNat }
        ∃ u, u.station i =
            (if kindOfStation i = .spindle then { y with mediaClass := a.value.toNat }
             else if kindOfStation i = .bin then
               { y with capacity := a.value.toNat, count := min x.count a.value.toNat }
             else y) ∧
          (∀ j, j ≠ i → u.station j = s.station j) ∧
          u.settings = { s.settings with mapWritten := s.settings.mapWritten.set i.val true i.isLt } ∧
          Replied f.tag .ok s u ∧ u.outbound = s.outbound ++ [(tableReply f 2).frame .ok] ∧
          Changes [.stations, .settings, .feed, .outbound] s u ∧
          t = (if kindOfStation i = .bin ∧ (u.station i).count = (u.station i).capacity then
                 u.raise .binFull (bitMask (i.val - 21)) none
               else if kindOfStation i = .spindle ∧ x.loaded = true ∧ x.mediaClass ≠ a.value.toNat then
                 (u.retireStranded (fun c => decide (¬ ∃ j : Fin 4, (u.station (spindleStation j)).loaded = true ∧
                   (u.station (spindleStation j)).mediaClass = c))).loadDecision
               else u).arbiter

/-- Spindle Refill: RANGE for a class outside 1 to 15 or a count outside 1 to 150; taken in every mode, the spindle has
the class and the count and is LOADED (a LOAD of a class that the new one took away is retired, log entry 29), and the
load decision runs. Bin Emptied: the bin's count is 0 and the arbiter is evaluated. A stranded LOAD (unpicked, its PICK
not sent, of a class that no LOADED spindle holds any more) is retired: none is left in the queue, and other entries
keep their order. A class is lost between two states when the LOADED spindles hold it in the first and not in the
second. -/
def Obligations.RefillBinEmptiedAndStranded : Prop :=
  ((∀ (f : CmdFrame) (i : Fin 4) (cls n : Nat) (s : State), parseRefill f.body = some (i, cls, n) →
    s.handlesAsNew f.tag f.resend →
    ∃ t, exec (.spindleRefill f) s = .next t ∧
      if cls < 1 ∨ 15 < cls ∨ n < 1 ∨ 150 < n then RepliedOnly (cmdReply f 17) .range s t
      else ∃ u, t = (u.retireStranded (s.lostTo u)).loadDecision.arbiter ∧
        u.station (spindleStation i) =
          { s.station (spindleStation i) with mediaClass := cls, count := n, loaded := true } ∧
        (∀ j, j ≠ spindleStation i → u.station j = s.station j) ∧ Replied f.tag .ok s u ∧
        u.outbound = s.outbound ++ [(cmdReply f 17).frame .ok] ∧ Changes [.stations, .feed, .outbound] s u) ∧
  ∀ (f : CmdFrame) (b : Fin 3) (s : State), parseName 3 f.body = some b → s.handlesAsNew f.tag f.resend →
    ∃ u, exec (.binEmptied f) s = .next u.arbiter ∧
      (∀ i : StationNo, u.station i = if i.val = 21 + b.val then { s.station i with count := 0 } else s.station i) ∧
      Replied f.tag .ok s u ∧ u.outbound = s.outbound ++ [(cmdReply f 18).frame .ok] ∧
      Changes [.stations, .feed, .outbound] s u) ∧
  (∀ (s : State) (lost : Nat → Bool),
    let strands := fun e : Entry => e.kind = .load ∧ e.token = none ∧ e.pickSent = false ∧
      ∃ c, e.source = .mediaClass c ∧ lost c = true
    let t := s.retireStranded lost
    t.queue.Sublist s.queue ∧ (∀ e, e ∈ t.queue ↔ e ∈ s.queue ∧ ¬ strands e) ∧
    Changes [.drives, .orders, .records, .queue, .transport, .printer, .events, .outbound] s t) ∧
  ∀ (s u : State) (c : Nat),
    let holds := fun v : State => ∃ i : Fin 4, (v.station (spindleStation i)).loaded = true ∧
      (v.station (spindleStation i)).mediaClass = c
    s.lostTo u c = true ↔ holds s ∧ ¬ holds u

/-- Feed Enable is taken in every mode: in HELD it sets or clears the held copy alone; otherwise the flag, and
setting it runs the load decision. Transport Start, Park and Resume: when each is refused and with which status, and
what each does when taken: HOMING with a HOME sent once nothing is outstanding, or PARKED at once, or park waiting. That
STATE comes before BUSY where both fit a Transport Start is log entry 45 (DESIGN CHOICE). -/
def Obligations.TransportCommandsEffect : Prop :=
  (∀ (f : CmdFrame) (v : Fin 2) (s : State), parseName 2 f.body = some v → s.handlesAsNew f.tag f.resend →
    ∃ u, exec (.feedEnable f) s =
        .next (if s.transport.mode ≠ .held ∧ v = 1 then u.loadDecision.arbiter else u) ∧
      u.transport = (if s.transport.mode = .held then { s.transport with heldCopy := decide (v = 1) }
        else { s.transport with autoFeed := decide (v = 1) }) ∧
      Replied f.tag .ok s u ∧ u.outbound = s.outbound ++ [(cmdReply f 12).frame .ok] ∧
      Changes [.transport, .feed, .outbound] s u) ∧
  (∀ (f : CmdFrame) (s : State), f.body = [] → s.handlesAsNew f.tag f.resend →
    let x := s.transport
    let homing := if x.outstanding = none then
        { x with phase := .homing, outstanding := some { op := .home, number := x.nextNumber, abandoned := false },
                 nextNumber := x.nextNumber + 1 }
      else { x with phase := .homing }
    let taken := fun (n : Byte) (y : Transport) (t : State) => t.transport = y ∧ Replied f.tag .ok s t ∧
      t.outbound = s.outbound ++ [(cmdReply f n).frame .ok] ∧ Changes [.transport, .feed, .outbound] s t
    (∃ t, exec (.transportStart f) s = .next t ∧
      if x.mode ≠ .parked ∨ ∃ i, (s.station i).kind ≠ kindOfStation i then RepliedOnly (cmdReply f 13) .state s t
      else if x.phase ≠ .idle then RepliedOnly (cmdReply f 13) .busy s t
      else taken 13 homing t) ∧
    (∃ t, exec (.park f) s = .next t ∧
      if x.mode ≠ .running then RepliedOnly (cmdReply f 14) .state s t
      else if x.phase = .idle ∧ ∀ e ∈ s.queue, e.current = false then
        taken 14 { x with mode := .parked, parkWaiting := false } t
      else taken 14 { x with parkWaiting := true } t) ∧
    ∃ t, exec (.resume f) s = .next t ∧
      if x.mode ≠ .held then RepliedOnly (cmdReply f 15) .state s t
      else if x.phase = .homing then RepliedOnly (cmdReply f 15) .busy s t
      else taken 15 homing t)

/-- Disc Remove: refused with STATE in RUNNING and for a token that names no record in use; taken, the record ends
with REMOVED at its location and is free, its DISC-DONE frame comes first and the REPLY last, the queue no longer
names it, and the drive or the printer that held it lets it go by its state: a print ends with its serial voided, its
artwork slot free and its fault run as it was, and the tray is drawn in (the TRAY-IN waits for a request that is
outstanding, and during a link check, log entry 35); in DISCHARGE and FAULTED the tray is drawn in with a fault run
below 2, and with one of 2 the printer is FAULTED; in OFFLINE it stays. -/
def Obligations.DiscRemoveEffect : Prop :=
  ∀ (f : CmdFrame) (k : Token) (s : State), parseDiscRemove f.body = some k → s.handlesAsNew f.tag f.resend →
    let r := s.record k.num
    ∃ t, exec (.discRemove f) s = .next t ∧
      if s.transport.mode = .running ∨ r.use ≠ .inUse ∨ r.gen ≠ k.gen then RepliedOnly (cmdReply f 16) .state s t
      else
        (t.record k.num).use = .free ∧ (t.record k.num).gen = r.gen ∧ t.transport.mode = s.transport.mode ∧
        (∃ later, t.outbound = s.outbound ++
          [.discDone k.num { r with cause := r.cause <|> some .removed } r.location .fail] ++ later ++
          [(cmdReply f 16).frame .ok]) ∧
        Replied f.tag .ok s t ∧
        ((s.queue.filter (fun e => decide (e.token = some k))).length ≤ 1 → ∀ e ∈ t.queue, e.token ≠ some k) ∧
        (∀ d, (s.drive d).trayRecord = some k → (∀ e, (s.drive e).trayRecord = some k → e = d) →
          (t.drive d).trayRecord = none ∧
          ((s.drive d).state = .faulted ∨ (s.drive d).state = .absent → (t.drive d).state = (s.drive d).state) ∧
          ((s.drive d).state ≠ .faulted → (s.drive d).state ≠ .absent → (s.drive d).state ≠ .empty →
            (t.drive d).state = .unloading ∧ (t.drive d).phase = .trayClosing ∧ (t.drive d).entry = none)) ∧
        (s.printer.token = some k →
          let x := s.printer
          let y := { x with token := none }
          let closing := fun (z : Printer) => if x.outstanding = none ∧ x.checkPhase = .idle then
              { z with state := .idle, phase := .closing, outstanding := some { req := .trayIn, number := x.nextNumber },
                       nextNumber := x.nextNumber + 1 }
            else { z with state := .idle, phase := .closing, waiting := some .trayIn }
          t.printer.token = none ∧
          (x.state = .printing → t.printer = closing { y with snapshot := none } ∧ ∀ p, x.snapshot = some p →
            (t.artwork p.art).inUse = false ∧ t.template p.template = { s.template p.template with
              voided := (s.template p.template).voided + (if p.serial.isSome then 1 else 0) }) ∧
          (x.state = .discharge ∨ x.state = .faulted → x.faultRun < 2 → t.printer = closing y) ∧
          (x.state = .discharge → 2 ≤ x.faultRun →
            t.printer = { y with state := .faulted, phase := .noPhase, waiting := none, checkPhase := .idle,
                                 resetRunning := false } ∧
            t.event .printer = (s.event .printer).raised .printer 0 (some (.printer .faulted .repeatedFaults))) ∧
          (x.state = .faulted → 2 ≤ x.faultRun → t.printer = y) ∧ (x.state = .offline → t.printer = y)) ∧
        Changes (Part.all.filter (fun p =>
          decide (p ≠ .pending ∧ p ≠ .settings ∧ p ≠ .stations ∧ p ≠ .ladder))) s t

/-- The arbiter hands the arm to one eligible entry when the transport is RUNNING, the arm is IDLE with nothing
outstanding and no entry is current: the oldest passed over 8 times, or else the oldest of the lowest class. The
entry becomes current at its place with its stations resolved, the other eligible ones are passed over once more, and
a GOTO goes out. -/
def Obligations.ArbiterChoice : Prop :=
  ∀ s : State,
    let free := s.transport.mode = .running ∧ s.transport.phase = .idle ∧ s.transport.outstanding = none ∧
      ∀ e ∈ s.queue, e.current = false
    let t := s.arbiter
    (¬ free → t = s) ∧ ((∀ e ∈ s.queue, s.eligible e = false) → t = s) ∧
    Changes [.records, .queue, .transport] s t ∧
    (free → ∀ (k : Nat) (e : Entry), s.queue[k]? = some e → s.eligible e = true →
      (if 8 ≤ e.passOver then ∀ j x, j < k → s.queue[j]? = some x → s.eligible x = true → x.passOver < 8
       else ∀ j x, s.queue[j]? = some x → s.eligible x = true →
         x.passOver < 8 ∧ (e.class < x.class ∨ (e.class = x.class ∧ k ≤ j))) →
      t.queue.length = s.queue.length ∧
      (∀ j x, s.queue[j]? = some x → j ≠ k →
        t.queue[j]? = some (if s.eligible x = true then { x with passOver := min 255 (x.passOver + 1) } else x)) ∧
      ∃ y, t.queue[k]? = some y ∧ y.current = true ∧ y.kind = e.kind ∧ y.passOver = e.passOver ∧
        (∀ i, e.source = .station i → y.srcAt = some i) ∧
        (∀ c, e.source = .mediaClass c → ∃ i : Fin 4, y.srcAt = some (spindleStation i) ∧
          (s.station (spindleStation i)).loaded = true ∧ (s.station (spindleStation i)).mediaClass = c ∧
          ∀ j : Fin 4, j < i → ¬ ((s.station (spindleStation j)).loaded = true ∧
            (s.station (spindleStation j)).mediaClass = c)) ∧
        (∀ i, e.dest = .station i → y.dstAt = some i) ∧
        (e.dest = .byVerdict → ∀ tok r, e.token = some tok → s.live tok = true → r = s.record tok.num →
          y.dstAt = some (if r.verdictAtDispatch = .pass then
            (if (s.station stationB0).count < (s.station stationB0).capacity then stationB0 else stationB1)
            else stationBX)) ∧
        (e.kind = .load → ∀ n, s.freeRecord = some n → y.setAside = some n ∧ (t.record n).use = .setAside) ∧
        (e.kind ≠ .load → t.records = s.records) ∧
        t.transport.pickMisses = 0 ∧
        (∀ i, y.srcAt = some i → t.transport.phase = .travelSrc ∧
          t.transport.outstanding = some { op := .goto (s.station i).lift (s.station i).rotate,
                                           number := s.transport.nextNumber, abandoned := false }) ∧
        (∀ i, e.source = .arm → y.dstAt = some i → t.transport.phase = .travelDst ∧
          t.transport.outstanding = some { op := .goto (s.station i).lift (s.station i).rotate,
                                           number := s.transport.nextNumber, abandoned := false }))

/-! ### Drive ports -/

/-- Port Check starts a check on each port of the mask whose drive is ABSENT, EMPTY or FAULTED with no check, and
refuses the others. Port Reset is taken in FAULTED or ABSENT with no check: the requests are forgotten (a waiting
SPEED of Apply Now ends SPEED-FAILED), a check starts, the tray record stays, and the REPLY comes last; it is refused
with BUSY otherwise. -/
def Obligations.PortCheckAndReset : Prop :=
  (∀ (f : CmdFrame) (m : Word16) (s : State), parseMask f.body = some m → s.handlesAsNew f.tag f.resend →
    let checkable := fun d : Drive => ((s.drive d).state = .absent ∨ (s.drive d).state = .empty ∨
      (s.drive d).state = .faulted) ∧ (s.drive d).checkPhase = .idle
    ∃ t refused, exec (.portCheck f) s = .next t ∧ Replied f.tag .ok s t ∧
      t.outbound = s.outbound ++ [.reply f.tag .command 19 .ok none refused 0] ∧
      (∀ d : Drive, refused.getLsbD d.val = true ↔ m.getLsbD d.val = true ∧ ¬ checkable d) ∧
      (∀ d : Drive, t.drive d = if m.getLsbD d.val = true ∧ checkable d then
          { s.drive d with checkPhase := .checking, resultsValid := false, timeoutCount := 0 } else s.drive d) ∧
      Changes [.drives, .feed, .outbound] s t) ∧
  ∀ (f : CmdFrame) (d : Drive) (s : State), parseName 16 f.body = some d → s.handlesAsNew f.tag f.resend →
    let x := s.drive d
    let speedWaits := ∃ c g, x.waiting = some (.speed c g .apply)
    ∃ t, exec (.portReset f) s = .next t ∧
      if (x.state = .faulted ∨ x.state = .absent) ∧ x.checkPhase = .idle then
        (∃ st, t.drive d = { x with outstanding := none, waiting := none, timeoutCount := 0, checkPhase := .checking,
                                    resultsValid := false, applyStatus := st } ∧
          (speedWaits → st = .speedFailed) ∧ (¬ speedWaits → st = x.applyStatus)) ∧
        (∀ e, e ≠ d → t.drive e = s.drive e) ∧ Replied f.tag .ok s t ∧
        (¬ speedWaits → t.events = s.events ∧ t.outbound = s.outbound ++ [(cmdReply f 20).frame .ok]) ∧
        (speedWaits → RaisedOnly .applyDone (bitMask d.val) none s t ∧
          t.outbound = s.outbound ++ s.placedBy .applyDone ++ [(cmdReply f 20).frame .ok]) ∧
        Changes [.drives, .feed, .events, .outbound] s t
      else RepliedOnly (cmdReply f 20) .busy s t

/-- A running port check ends with a result, by the end of its exchange or its timeout: the result is stored and the
port's bit raised; GOOD sends SENSE and keeps the state, any other result leaves the drive ABSENT with its tray
record. -/
def Obligations.PortCheckEnds : Prop :=
  ∀ (d : Drive) (s : State), (s.drive d).checkPhase = .checking → (s.drive d).outstanding = none →
    let x := s.drive d
    let ends := fun (res : CheckResult) (t : State) =>
      t.event .portCheck = (s.event .portCheck).raised .portCheck (bitMask d.val) none ∧
      (if res = .good then
        t.drive d = { x with checkResult := some .good, resultsValid := true, checkPhase := .sensing,
                             outstanding := some { req := .sense, number := x.nextNumber },
                             nextNumber := x.nextNumber + 1 } ∧
          ∀ e, e ≠ d → t.drive e = s.drive e
      else
        (t.drive d).checkResult = some res ∧ (t.drive d).resultsValid = true ∧ (t.drive d).checkPhase = .idle ∧
          (t.drive d).state = .absent ∧ (t.drive d).phase = .noPhase ∧ (t.drive d).waiting = none ∧
          (t.drive d).trayRecord = x.trayRecord ∧
          (∀ e, e ≠ d → (s.drive e).state ≠ .empty → t.drive e = s.drive e) ∧
          (x.state ≠ .absent → (t.event .driveState).pending = true)) ∧
      Changes [.drives, .orders, .records, .queue, .transport, .printer, .events, .outbound] s t
    (∀ r, ∃ t, exec (.portCheckExchangeEnd d r) s = .next t ∧
      ends (match r with | .good => .good | .linkErrors => .linkErrors | .wrongDevice => .wrongDevice) t) ∧
    ∃ t, exec (.portCheckTimeout d) s = .next t ∧ ends .noResponse t

/-- The SENSE after a GOOD check settles the drive: EMPTY without a disc, the record LOST if there was one; UNLOADING
with a disc, as an orphan with a PURGE to BX if the tray had no record; FAULTED with NO-RECORD when no record is free,
and on a fault other than NO-DISC. A SPEED of an Apply Now that waits through the check is sent when the drive is EMPTY
after it, and is dropped with SPEED-FAILED otherwise. -/
def Obligations.CheckSenseSettles : Prop :=
  (∀ (d : Drive) (n : Byte) (s : State), s.awaits d .sense n → (s.drive d).checkPhase = .sensing →
    let x := s.drive d
    (∀ r, r = .fault .noDisc ∨ (∃ cls, r = .done false cls) → ∃ t, exec (.senseReply d n r) s = .next t ∧
      (t.drive d).trayRecord = none ∧ (t.drive d).checkPhase = .idle ∧
      ((t.drive d).state = .empty ∨ (t.drive d).state = .loading ∧ s.transport.autoFeed = true) ∧
      ∀ k, x.trayRecord = some k → s.live k = true →
        Joined [.discDone k.num { s.record k.num with cause := (s.record k.num).cause <|> some .lost }
          (.station (trayOf d)) .fail] s t) ∧
    (∀ cls k, x.trayRecord = some k → ∃ t, exec (.senseReply d n (.done true cls)) s = .next t ∧
      (t.drive d).unloadingWith .unload ∧ (t.drive d).trayRecord = some k ∧ (t.drive d).checkPhase = .idle ∧
      (t.drive d).outstanding = some { req := .trayOpen, number := x.nextNumber }) ∧
    (∀ (cls : Fin 16) i, x.trayRecord = none → s.freeRecord = some i →
      ∃ t, exec (.senseReply d n (.done true cls)) s = .next t ∧
        (t.drive d).unloadingWith .purge ∧ (t.drive d).trayRecord = some { num := i, gen := (s.record i).gen + 1 } ∧
        t.record i = { use := .inUse, gen := (s.record i).gen + 1, origin := .orphan, mediaClass := cls.val,
                       discCount := 1, order := none, drive := some d, rung := none, slot := none,
                       location := .station (trayOf d), burn := .notYet, verify := .notYet, print := .notRequired,
                       cause := some .orphan, errorBlocks := 0, serial := none } ∧
        ∃ e ∈ t.queue, e.kind = .purge ∧ e.source = .station (trayOf d) ∧ e.dest = .station stationBX ∧
          e.token = some { num := i, gen := (s.record i).gen + 1 } ∧ e.drive = some d) ∧
    (∀ cls, x.trayRecord = none → s.freeRecord = none →
      ∃ t, exec (.senseReply d n (.done true cls)) s = .next t ∧ FaultedWith d .noRecord s t) ∧
    ∀ c, c ≠ .noDisc → ∃ t, exec (.senseReply d n (.fault c)) s = .next t ∧ FaultedWith d (.fault .sense c) s t) ∧
  ∀ (d : Drive) (n code : Byte) (g : Rung) (s : State),
    let x := s.drive d
    let speed : DriveRequest := .speed code g .apply
    let dropped := fun (t : State) => (t.drive d).waiting = none ∧ (t.drive d).applyStatus = .speedFailed ∧
      (t.event .applyDone).pending = true
    x.outstanding = some { req := .sense, number := n } → x.waiting = some speed → x.checkPhase = .sensing →
    x.applyStatus = .inProgress →
    (∀ r, r = .fault .noDisc ∨ (∃ cls, r = .done false cls) → ∃ t, exec (.senseReply d n r) s = .next t ∧
      (t.drive d).state = .empty ∧ (t.drive d).trayRecord = none ∧ (t.drive d).waiting = none ∧
      (t.drive d).outstanding = some { req := speed, number := x.nextNumber } ∧
      (t.drive d).applyStatus = .inProgress) ∧
    (∀ cls, x.trayRecord ≠ none ∨ s.freeRecord ≠ none → ∃ t, exec (.senseReply d n (.done true cls)) s = .next t ∧
      (t.drive d).unloadingWith (if x.trayRecord = none then .purge else .unload) ∧ dropped t) ∧
    ∀ c, c ≠ .noDisc → ∃ t, exec (.senseReply d n (.fault c)) s = .next t ∧
      FaultedWith d (.fault .sense c) s t ∧ dropped t

/-- Answers that find nothing to answer leave the machine as it is: a reply or an outcome whose number is not that of
the outstanding request or operation, an expiry or an end with nothing running (log entries 3 and 4), and DROPPED
outside the phases in which it is taken (log entry 17). The answer or the expiry of a request that another request
waits behind acts on the port alone, and the waiting one is sent in place of any follow-up, a repeat among them (log
entry 21, DEDUCED); one that takes the drive to FAULTED drops the waiting request. A request waits so behind any but
the SPEED of an Apply Now, and the SENSE of a check acts by its own rule (CheckSenseSettles, PrinterResetAndCheck). -/
def Obligations.StaleAnswersChangeNothing : Prop :=
  (∀ s : State,
    (∀ d n r, (∀ o, (s.drive d).outstanding = some o → o.number ≠ n) →
      exec (.trayOpenReply d n r) s = .next s ∧ exec (.trayCloseReply d n r) s = .next s ∧
      exec (.speedReply d n r) s = .next s ∧ exec (.writeReply d n r) s = .next s ∧
      exec (.closeReply d n r) s = .next s ∧ exec (.readReply d n r) s = .next s ∧
      exec (.senseReply d n r) s = .next s) ∧
    (∀ d, (s.drive d).outstanding = none → exec (.driveRequestTimeout d) s = .next s) ∧
    (∀ d, (s.drive d).checkPhase ≠ .checking ∨ (s.drive d).outstanding ≠ none →
      exec (.portCheckTimeout d) s = .next s ∧ ∀ r, exec (.portCheckExchangeEnd d r) s = .next s) ∧
    (∀ n o, (∀ p, s.transport.outstanding = some p → p.number ≠ n) →
      exec (.gotoOutcome n o) s = .next s ∧ exec (.pickOutcome n o) s = .next s ∧
      exec (.placeOutcome n o) s = .next s ∧ exec (.homeOutcome n o) s = .next s) ∧
    (s.transport.outstanding = none → exec .armOperationTimeout s = .next s) ∧
    (s.transport.mode ≠ .running ∨ (s.transport.phase ≠ .travelDst ∧ s.transport.phase ≠ .place) →
      exec .dropped s = .next s) ∧
    (∀ n r, (∀ o, s.printer.outstanding = some o → o.number ≠ n) →
      exec (.printerSenseReply n r) s = .next s ∧ exec (.trayOutReply n r) s = .next s ∧
      exec (.trayInReply n r) s = .next s ∧ exec (.startReply n r) s = .next s ∧
      exec (.bandReply n r) s = .next s ∧ exec (.finishReply n r) s = .next s) ∧
    (s.printer.outstanding = none → exec .printerRequestTimeout s = .next s) ∧
    (s.printer.checkPhase ≠ .checking →
      exec .printerCheckTimeout s = .next s ∧ ∀ r, exec (.printerCheckExchangeEnd r) s = .next s) ∧
    (s.settings.access ≠ .loading →
      exec .settingsLoadTimeout s = .next s ∧ ∀ r, exec (.settingsLoadEnd r) s = .next s) ∧
    (s.settings.access ≠ .storing →
      exec .settingsStoreTimeout s = .next s ∧ ∀ ok, exec (.settingsStoreAck ok) s = .next s)) ∧
  (∀ (d : Drive) (req q : DriveRequest) (n : Byte) (s : State),
    let x := s.drive d
    x.outstanding = some { req := req, number := n } → x.waiting = some q → (∀ c g, req ≠ .speed c g .apply) →
    (req = .sense → x.checkPhase ≠ .sensing) →
    (∃ t, exec (.driveRequestTimeout d) s = .next t ∧
      if x.timeoutCount = 0 then WaitingSent d q 1 (some (.timeout req.kind)) s t
      else FaultedWith d (.timeout req.kind) s t) ∧
    ((∀ first count, req ≠ .read first count) → ∀ p cls, ∃ t, exec (req.replyRow d n (.done p cls)) s = .next t ∧
      WaitingSent d q 0 none s t) ∧
    (∀ first count data, req = .read first count → data.length = 2048 * count →
      ∃ t, exec (req.replyRow d n (.data data)) s = .next t ∧ WaitingSent d q 0 none s t) ∧
    ∀ c, ∃ t, exec (req.replyRow d n (.fault c)) s = .next t ∧
      if c = .tray ∨ req = .trayOpen ∨ req = .trayClose then FaultedWith d (.fault req.kind c) s t
      else WaitingSent d q 0 (some (.fault req.kind c)) s t) ∧
  ∀ (req q : PrinterRequest) (n : Byte) (s : State),
    s.printer.outstanding = some { req := req, number := n } → s.printer.waiting = some q →
    s.printer.checkPhase ≠ .sensing →
    (∃ t, exec .printerRequestTimeout s = .next t ∧ WaitingPrintSent q (some (.timeout req.kind)) s t) ∧
    (∀ p, ∃ t, exec (req.replyRow n (.done p)) s = .next t ∧ WaitingPrintSent q none s t) ∧
    ∀ c, ∃ t, exec (req.replyRow n (.fault c)) s = .next t ∧ WaitingPrintSent q (some (.fault req.kind c)) s t

/-- Replies to the tray requests of loading and unloading: TRAY-OPEN done opens the way for the arm; TRAY-CLOSE done
goes on to SPEED with the code of the current rung, or withdraws the blank when that rung is undefined, or leaves the
drive EMPTY without a record; any fault puts the drive in FAULTED. -/
def Obligations.TrayRepliesEffect : Prop :=
  ∀ (d : Drive) (n : Byte) (s : State),
    let x := s.drive d
    let y := { x with outstanding := none, timeoutCount := 0 }
    (∀ p cls, s.awaits d .trayOpen n → x.phase = .trayOpening → (x.state = .loading ∨ x.state = .unloading) →
      ∃ t, exec (.trayOpenReply d n (.done p cls)) s = .next t ∧
        t.drive d = { y with phase := if x.state = .loading then .waitDisc else .waitPick } ∧
        (∀ e, e ≠ d → t.drive e = s.drive e) ∧ Changes [.drives, .records, .queue, .transport] s t) ∧
    (∀ p cls k, s.awaits d .trayClose n → x.state = .loading → x.phase = .trayClosing → x.checkPhase = .idle →
      x.trayRecord = some k →
      ∃ t, exec (.trayCloseReply d n (.done p cls)) s = .next t ∧
        (s.code x.rung ≠ 0 →
          t.drive d = { y with
            phase := .speedSet, nextNumber := x.nextNumber + 1,
            outstanding := some { req := .speed (s.code x.rung) x.rung .loading, number := x.nextNumber } }) ∧
        (s.code x.rung = 0 → ∀ i, s.live k = true → (s.record k.num).origin = .spindle i →
          (t.drive d).unloadingWith .return ∧ (t.record k.num).cause = (s.record k.num).cause) ∧
        ∀ e, e ≠ d → t.drive e = s.drive e) ∧
    (∀ p cls, s.awaits d .trayClose n → x.phase = .trayClosing → x.state = .unloading ∨ x.trayRecord = none →
      (x.state = .loading ∨ x.state = .unloading) → s.transport.autoFeed = false →
      ∃ t, exec (.trayCloseReply d n (.done p cls)) s = .next t ∧
        t.drive d = { y with state := .empty, phase := .noPhase } ∧ (∀ e, e ≠ d → t.drive e = s.drive e) ∧
        t.event .driveState = (s.event .driveState).raised .driveState (bitMask d.val) none) ∧
    ∀ c, (s.awaits d .trayOpen n →
        ∃ t, exec (.trayOpenReply d n (.fault c)) s = .next t ∧ FaultedWith d (.fault .trayOpen c) s t) ∧
      (s.awaits d .trayClose n →
        ∃ t, exec (.trayCloseReply d n (.fault c)) s = .next t ∧ FaultedWith d (.fault .trayClose c) s t)

/-- Replies to SPEED. In loading: DONE writes the rung used into the record and sends SENSE; a fault other than TRAY
spoils the blank with MEDIA-MISMATCH. Of an Apply Now: SUCCESS or SPEED-FAILED, with APPLY-DONE, the drive still
EMPTY. TRAY puts the drive in FAULTED. -/
def Obligations.SpeedReplyEffect : Prop :=
  ∀ (d : Drive) (n : Byte) (code : Byte) (g : Rung) (s : State),
    let x := s.drive d
    let y := { x with outstanding := none, timeoutCount := 0 }
    (s.awaits d (.speed code g .loading) n → x.state = .loading → x.phase = .speedSet → x.checkPhase = .idle →
      (∀ p cls, ∃ t, exec (.speedReply d n (.done p cls)) s = .next t ∧
        t.drive d = { y with phase := .mediaSense, nextNumber := x.nextNumber + 1,
                             outstanding := some { req := .sense, number := x.nextNumber } } ∧
        (∀ k, x.trayRecord = some k → s.live k = true → (t.record k.num).rung = some g) ∧
        (∀ e, e ≠ d → t.drive e = s.drive e) ∧ Changes [.drives, .records, .queue, .transport, .events, .outbound] s t) ∧
      (∀ c, c ≠ .tray → ∃ t, exec (.speedReply d n (.fault c)) s = .next t ∧ LoadingFailed d .mediaMismatch s t)) ∧
    (s.awaits d (.speed code g .apply) n → x.state = .empty → s.transport.autoFeed = false →
      (∀ p cls, ∃ t, exec (.speedReply d n (.done p cls)) s = .next t ∧ t.drive d = { y with applyStatus := .success } ∧
        RaisedOnly .applyDone (bitMask d.val) none s t ∧ ∀ e, e ≠ d → t.drive e = s.drive e) ∧
      (∀ c, c ≠ .tray → ∃ t, exec (.speedReply d n (.fault c)) s = .next t ∧
        t.drive d = { y with applyStatus := .speedFailed, lastFault := some (.fault .speed c) } ∧
        RaisedOnly .applyDone (bitMask d.val) none s t ∧ ∀ e, e ≠ d → t.drive e = s.drive e)) ∧
    ∀ who, s.awaits d (.speed code g who) n → ∃ t, exec (.speedReply d n (.fault .tray)) s = .next t ∧
      FaultedWith d (.fault .speed .tray) s t ∧ (who = .apply → (t.drive d).applyStatus = .speedFailed)

/-- The SENSE of MEDIA-SENSE: a disc of the record's class takes the drive to READY, where it joins the lowest OPEN
wave of its image, withdraws when its order is HELD, and waits otherwise; any other answer spoils the blank with
MEDIA-MISMATCH. -/
def Obligations.MediaSenseEffect : Prop :=
  ∀ (d : Drive) (n : Byte) (k : Token) (s : State), s.awaits d .sense n → (s.drive d).state = .loading →
    (s.drive d).phase = .mediaSense → (s.drive d).checkPhase = .idle → (s.drive d).trayRecord = some k →
    s.live k = true →
    let x := s.drive d
    let r := s.record k.num
    let y := { x with outstanding := none, timeoutCount := 0 }
    (∀ cls : Fin 16, cls.val ≠ 0 → r.mediaClass = cls.val → ∀ o, r.order = some o →
      ∃ t, exec (.senseReply d n (.done true cls)) s = .next t ∧
        ((s.order o).state = .held → ∀ i, r.origin = .spindle i → (t.drive d).unloadingWith .return) ∧
        ((s.order o).state ≠ .held →
          (∀ w : WaveNo, ((s.wave w).state = .opened ∧ (s.wave w).slot = some (s.order o).slot ∧
              ∀ v : WaveNo, v < w → ¬ ((s.wave v).state = .opened ∧ (s.wave v).slot = some (s.order o).slot)) →
            (t.drive d).state = .burning ∧ ∃ a ∈ (t.wave w).attachments, a.drive = d ∧ a.cursor = 0) ∧
          ((∀ w : WaveNo, ¬ ((s.wave w).state = .opened ∧ (s.wave w).slot = some (s.order o).slot)) →
            t.drive d = { y with state := .ready, phase := .noPhase } ∧ t.waves = s.waves)) ∧
        (∀ e, e ≠ d → t.drive e = s.drive e) ∧ (∀ i, (t.record i).cause = (s.record i).cause) ∧
        (t.event .driveState).pending = true) ∧
    (∀ present (cls : Fin 16), present = false ∨ cls.val = 0 ∨ r.mediaClass ≠ cls.val →
      ∃ t, exec (.senseReply d n (.done present cls)) s = .next t ∧ LoadingFailed d .mediaMismatch s t) ∧
    ∀ c, c ≠ .tray → ∃ t, exec (.senseReply d n (.fault c)) s = .next t ∧ LoadingFailed d .mediaMismatch s t

/-- Replies to the WRITE of an attached drive. DONE: the cursor advances by the WRITE's sectors; below the image length
the next WRITE is sent while the cursor is below the head, and at the length the drive leaves the wave for CLOSING and
CLOSE is sent. A fault other than TRAY detaches it with WRITE-FAULT, and TRAY through FAULTED with DRIVE-FAULT; a wave
in STREAMING or DRAINING that the detach leaves without drives is aborted with NO-DRIVES, and one in OPEN stays OPEN. -/
def Obligations.WriteReplyEffect : Prop :=
  ∀ (d : Drive) (n : Byte) (w : WaveNo) (a : Attachment) (first count : Nat) (data : List Byte) (s : State),
    s.awaits d (.write first count data) n → s.waveOf d = some w → (s.wave w).attachment d = some a →
    a.inFlight = some { first := first, count := count } → (s.drive d).checkPhase = .idle →
    (s.drive d).state = .burning →
    let x := s.drive d
    let y := { x with outstanding := none, timeoutCount := 0 }
    let c := a.cursor + count
    (∀ p cls, ∃ t, exec (.writeReply d n (.done p cls)) s = .next t ∧ (∀ e, e ≠ d → t.drive e = s.drive e) ∧
      (c ≠ s.waveLength w → ∃ b, (t.wave w).attachment d = some b ∧ b.cursor = c ∧ (t.wave w).head = (s.wave w).head ∧
        (c < (s.wave w).head →
          let k := min 32 ((s.wave w).head - c)
          b.inFlight = some { first := c, count := k } ∧
          t.drive d = { y with nextNumber := x.nextNumber + 1,
                               outstanding := some { req := .write c k (gather (t.wave w).held c k),
                                                     number := x.nextNumber } }) ∧
        (¬ c < (s.wave w).head → b.inFlight = none ∧ t.drive d = y)) ∧
      (c = s.waveLength w →
        t.drive d = { y with state := .closing, phase := .noPhase, nextNumber := x.nextNumber + 1,
                             outstanding := some { req := .close, number := x.nextNumber } } ∧
        (t.wave w).attachment d = none ∧
        t.event .driveState = (s.event .driveState).raised .driveState (bitMask d.val) none ∧
        ((s.wave w).state = .draining →
          (t.wave w).state = .idle ∧ (t.wave w).endCause = .drained ∨
            (t.wave w).state = .draining ∧ (t.wave w).held ≠ []))) ∧
    (∀ r : FaultCause, ∃ t, exec (.writeReply d n (.fault r)) s = .next t ∧ (t.wave w).attachment d = none ∧
      (r ≠ .tray → (t.drive d).unloadingWith .unload ∧ BurnFailed d .writeFault s t) ∧
      (r = .tray → FaultedWith d (.fault .write .tray) s t ∧ BurnFailed d .driveFault s t) ∧
      t.event .detach = (s.event .detach).raised .detach (bitMask d.val) (some (.detach w)) ∧
      ((∀ b ∈ (s.wave w).attachments, b.drive = d) →
        ((s.wave w).state = .streaming ∨ ((s.wave w).state = .draining ∧ (s.wave w).held ≠ []) →
          (t.wave w).atIdle .noDrives ∧
            t.event .waveState = (s.event .waveState).waveRaised w .idle .noDrives) ∧
        ((s.wave w).state = .opened → (t.wave w).state = .opened ∧ (t.wave w).attachments = [])))

/-- Replies to CLOSE. DONE: burn PASS; with mode NONE verify is SKIPPED and the drive unloads, to PR when its order
names a template; with FULL or SAMPLED the drive enters VERIFYING with a fresh save and no progress, and sends its first
READ from the lowest FREE context, or waits at the tail of the queue when every context is BUSY; a record with a cause
goes BY-VERDICT. A fault other than TRAY is CLOSE-FAULT; TRAY puts the drive in FAULTED, with burn FAIL. -/
def Obligations.CloseReplyEffect : Prop :=
  ∀ (d : Drive) (n : Byte) (k : Token) (a : Assignment) (s : State), s.awaits d .close n →
    (s.drive d).state = .closing → (s.drive d).checkPhase = .idle → (s.drive d).trayRecord = some k →
    s.live k = true → (s.drive d).active = some a →
    let x := s.drive d
    let r := s.record k.num
    (∀ p cls, ∃ t, exec (.closeReply d n (.done p cls)) s = .next t ∧ (t.record k.num).burn = .pass ∧
      (t.record k.num).cause = r.cause ∧ (t.event .driveState).pending = true ∧
      (r.cause ≠ none → (t.drive d).unloadingWith .unload ∧ (t.record k.num).verify = r.verify ∧
        ∃ e ∈ t.queue, e.kind = .unload ∧ e.token = some k ∧ e.dest = .byVerdict) ∧
      (r.cause = none → a.mode = .none → (t.drive d).unloadingWith .unload ∧ (t.record k.num).verify = .skipped ∧
        ∃ e ∈ t.queue, e.kind = .unload ∧ e.token = some k ∧
          e.dest = if (r.order.bind (fun o => (s.order o).template)).isSome then .station stationPR else .byVerdict) ∧
      (r.cause = none → a.mode ≠ .none → ∀ i, r.slot = some i →
        let v := t.save d
        let zero : Progress := { next := 0, compared := 0, errors := 0, readFaults := 0, consecutive := 0,
                                 firstError := none }
        (t.drive d).state = .verifying ∧ (t.image i).verifyCount = (s.image i).verifyCount + 1 ∧
        v.slot = some i ∧ v.length = (s.image i).length ∧ v.lastBlock = ((s.image i).length + 15) / 16 - 1 ∧
        v.mode = some (if a.mode = .sampled then .sampled else .full) ∧
        v.stride = (if a.mode = .sampled then some a.stride else none) ∧ v.tolerance = a.tolerance ∧
        v.progress = zero ∧ v.lastEnding = .notYet ∧
        ((∀ c, s.context c ≠ none) →
          v.sub = .queued ∧ t.verifyQueue = s.verifyQueue ++ [d] ∧ t.contexts = s.contexts ∧
            (t.drive d).outstanding = none) ∧
        (∀ c, s.verifyQueue = [] → s.context c = none → (∀ b, b < c → s.context b ≠ none) →
          v.sub = .active ∧ t.verifyQueue = [] ∧
          t.context c = some { drive := d, work := zero, slice := 0,
                               reading := some { first := 0,
                                                 blocks := if a.mode = .sampled then 1 else min 4 (v.lastBlock + 1) } } ∧
          (∀ b, b ≠ c → t.context b = s.context b) ∧
          (t.drive d).outstanding = some {
            req := .read 0 (if a.mode = .sampled then min 16 (s.image i).length else min 64 (s.image i).length),
            number := x.nextNumber }))) ∧
    ∀ c, ∃ t, exec (.closeReply d n (.fault c)) s = .next t ∧
      (c ≠ .tray → (t.drive d).unloadingWith .unload ∧ BurnFailed d .closeFault s t) ∧
      (c = .tray → FaultedWith d (.fault .close .tray) s t ∧ BurnFailed d .driveFault s t)

/-- Replies to the READ of a verify. Each block whose CRC-32 is not the stored digest is an error, and so is each
block of a READ that fails. Errors above the tolerance end the verify with VERIFY-ERRORS, a third read fault in a row
with UNREADABLE, and the end of the list with PASS; otherwise the next READ is sent, or after 8 READs the drive makes
way for the queue's head. A fault TRAY counts nothing: the drive goes to FAULTED and its verify ends with DRIVE-FAULT. -/
def Obligations.ReadReplyEffect : Prop :=
  ∀ (d : Drive) (n : Byte) (c : Fin 4) (y : Context) (rd : OutstandingRead) (first count : Nat) (s : State),
    s.awaits d (.read first count) n → s.contextOf d = some c → s.context c = some y → y.drive = d →
    y.reading = some rd → (s.drive d).checkPhase = .idle → (s.drive d).state = .verifying →
    let v := s.save d
    let p := y.work
    let next := v.blockAfter (rd.first + rd.blocks - 1)
    let bad := fun (data : List Byte) =>
      ((List.range rd.blocks).filter (fun j => decide ((s.digestsFor d)[rd.first + j]? ≠
        some (crc32 ((data.drop (32768 * j)).take 32768))))).length
    (∀ data, data.length = 2048 * count →
      ∃ t, exec (.readReply d n (.data data)) s = .next t ∧ (t.drive d).timeoutCount = 0 ∧
        (v.tolerance < p.errors + bad data → 0 < bad data →
          VerifyEnded d .verifyErrors .fail (some .verifyErrors) s t ∧
          (t.save d).progress.errors = max v.tolerance p.errors + 1) ∧
        (p.errors + bad data ≤ v.tolerance → next = v.lastBlock + 1 → VerifyEnded d .pass .pass none s t ∧
          (t.save d).progress.errors = p.errors + bad data ∧
          (t.save d).progress.compared = p.compared + rd.blocks) ∧
        (p.errors + bad data ≤ v.tolerance → next ≠ v.lastBlock + 1 →
          VerifyGoesOn d c y next (fun q => q.errors = p.errors + bad data ∧ q.compared = p.compared + rd.blocks ∧
            q.readFaults = p.readFaults ∧ q.consecutive = 0) s t)) ∧
    (∀ r, r ≠ .tray → ∃ t, exec (.readReply d n (.fault r)) s = .next t ∧ (t.drive d).timeoutCount = 0 ∧
      ReadFailed d c y rd s t) ∧
    ∃ t, exec (.readReply d n (.fault .tray)) s = .next t ∧ VerifyFaulted d c y (.fault .read .tray) s t

/-- A drive request times out: a second timeout in a row puts the drive in FAULTED; a first one sends a TRAY-OPEN,
TRAY-CLOSE or SENSE again, detaches a burning drive with TIMEOUT, fails a CLOSE or a loading SPEED with TIMEOUT, is a
failed READ of a verify, and ends an Apply Now SPEED with SPEED-FAILED, the drive as it was (unless a load decision
acts on it in the same event). A second timeout of a READ counts nothing and ends the verify with DRIVE-FAULT. -/
def Obligations.DriveTimeoutEffect : Prop :=
  ∀ (d : Drive) (req : DriveRequest) (n : Byte) (s : State), s.awaits d req n →
    let x := s.drive d
    ∃ t, exec (.driveRequestTimeout d) s = .next t ∧ (t.drive d).timeoutCount = x.timeoutCount + 1 ∧
      (t.drive d).lastFault = some (.timeout req.kind) ∧
      (1 ≤ x.timeoutCount → FaultedWith d (.timeout req.kind) s t ∧
        ∀ f k c y, req = .read f k → s.contextOf d = some c → s.context c = some y → y.drive = d →
          x.state = .verifying → VerifyFaulted d c y (.timeout .read) s t) ∧
      (x.timeoutCount = 0 →
        ((req = .trayOpen ∨ req = .trayClose) ∧ x.checkPhase = .idle ∨ req = .sense ∧ x.checkPhase ≠ .checking →
          t.drive d = { x with outstanding := some { req := req, number := x.nextNumber },
                               nextNumber := x.nextNumber + 1, timeoutCount := 1,
                               lastFault := some (.timeout req.kind) }) ∧
        (∀ f k b w, req = .write f k b → s.waveOf d = some w →
          (t.wave w).attachment d = none ∧ (t.drive d).unloadingWith .unload ∧ BurnFailed d .timeout s t) ∧
        (req = .close → x.state = .closing → (t.drive d).unloadingWith .unload ∧ BurnFailed d .timeout s t) ∧
        (∀ c g, req = .speed c g .loading → x.state = .loading → x.phase = .speedSet → LoadingFailed d .timeout s t) ∧
        (∀ f k c y rd, req = .read f k → s.contextOf d = some c → s.context c = some y → y.drive = d →
          y.reading = some rd → x.checkPhase = .idle → x.state = .verifying → ReadFailed d c y rd s t) ∧
        (∀ c g, req = .speed c g .apply → x.state ≠ .empty ∨ s.transport.autoFeed = false →
          (t.drive d).applyStatus = .speedFailed ∧ (t.drive d).state = x.state))

/-! ### The arm -/

/-- When a source can give and a station can take, and when an entry is eligible. -/
def Obligations.EligibilityTable : Prop :=
  ∀ (s : State) (e : Entry),
    (∀ i : Fin 4, s.canTake e (spindleStation i) = true ↔ (s.station (spindleStation i)).count < 150) ∧
    (∀ d : Drive, s.canTake e (trayOf d) = true ↔
      (s.drive d).state = .loading ∧ (s.drive d).phase = .waitDisc ∧ (s.drive d).trayRecord = none) ∧
    (s.canTake e stationPR = true ↔ s.printer.state = .opened ∧ ∃ k o l, e.token = some k ∧ s.live k = true ∧
      (s.record k.num).order = some o ∧ (s.order o).template = some l ∧
      (s.artwork (s.template l).art).state = .ready) ∧
    (∀ i : StationNo, 21 ≤ i.val → (s.canTake e i = true ↔ (s.station i).count < (s.station i).capacity)) ∧
    (∀ c, e.source = .mediaClass c → (s.canGive e = true ↔
      (∃ i : Fin 4, (s.station (spindleStation i)).loaded = true ∧ (s.station (spindleStation i)).mediaClass = c) ∧
        ∃ n, (s.record n).use = .free)) ∧
    (∀ d : Drive, e.source = .station (trayOf d) → (s.canGive e = true ↔
      (s.drive d).state = .unloading ∧ (s.drive d).phase = .waitPick)) ∧
    (e.source = .station stationPR → (s.canGive e = true ↔ s.printer.state = .discharge)) ∧
    (e.source = .arm → s.canGive e = true) ∧
    (s.eligible e = true ↔ s.canGive e = true ∧ s.canTake e (s.destOf e) = true ∧
      (e.source = .arm ∨ ∀ f ∈ s.queue, f.source ≠ .arm))

/-- AT-TARGET: at the source the PICK is sent; at the destination the PLACE is sent when the station can take, and
otherwise the transport enters HELD with REFUSED, its entry still current. TIMEOUT of an operation, STUCK and DROPPED
enter HELD with their causes; the end of an abandoned operation, by its timeout or by any outcome with its number,
clears it alone, but for a HOME that waits for it, and the arbiter is evaluated. -/
def Obligations.ArmAdvancesOrHolds : Prop :=
  ∀ (n : Byte) (op : ArmOp) (e : Entry) (s : State), s.moves op n e →
    let x := s.transport
    let sends := fun (o : ArmOp) (p : ArmPhase) => { x with
      phase := p, outstanding := some { op := o, number := x.nextNumber, abandoned := false },
      nextNumber := x.nextNumber + 1 }
    let stops := fun (c : HeldCause) (t : State) => HeldWith c s t ∧ t.transport.phase = x.phase ∧
      t.queue = s.queue ∧ Changes [.transport, .events, .outbound] s t
    (∀ l r, op = .goto l r →
      (x.phase = .travelSrc → ∃ t, exec (.gotoOutcome n .atTarget) s = .next t ∧ t.transport = sends .pick .pick ∧
        t.queue = s.queue.map (fun f => if f.current = true then { f with pickSent := true } else f) ∧
        Changes [.queue, .transport] s t) ∧
      (∀ i, x.phase = .travelDst → e.dstAt = some i → ∃ t, exec (.gotoOutcome n .atTarget) s = .next t ∧
        if s.canTake e i = true then t.transport = sends .place .place ∧ Changes [.transport] s t
        else stops .refused t)) ∧
    (op = .place → ∃ t, exec (.placeOutcome n .stuck) s = .next t ∧ stops .stuck t) ∧
    (op ≠ .home → x.phase ≠ .idle → ∃ t, exec .armOperationTimeout s = .next t ∧ stops .timeout t) ∧
    (x.phase = .travelDst ∨ x.phase = .place → ∃ t, exec .dropped s = .next t ∧ stops .dropped t) ∧
    ∀ (u : State) (o : OutstandingOp), u.transport.outstanding = some o → o.abandoned = true →
      ∃ t, Changes [.transport] u t ∧ (u.transport.mode ≠ .running → t.arbiter = t) ∧
        t.transport = (if u.transport.phase = .homing then { u.transport with
            outstanding := some { op := .home, number := u.transport.nextNumber, abandoned := false },
            nextNumber := u.transport.nextNumber + 1 }
          else { u.transport with outstanding := none }) ∧
        exec .armOperationTimeout u = .next t.arbiter ∧
        ∀ r, exec (.gotoOutcome o.number r) u = .next t.arbiter ∧ exec (.pickOutcome o.number r) u = .next t.arbiter ∧
          exec (.placeOutcome o.number r) u = .next t.arbiter ∧ exec (.homeOutcome o.number r) u = .next t.arbiter

/-- A PICK answered at a spindle. GRIPPED: the set-aside record is in use with the fields of a pick, the count falls by
1 and EMPTY at 0 is raised, and the arm goes on to the destination. DOUBLE: a record of two discs with DOUBLE-PICK goes
to BX as a PURGE, the count falls by 2, and only then a new LOAD joins at the tail, so that it waits there, its drive as
it was, even when the class has lost its last LOADED spindle (the other LOADs of that class, log entry 29). MISS: once
more, then the spindle is EMPTY and another one of the class is tried, or the LOADs of the class are retired. That the
PICK counts as not sent while the arm travels to the other spindle is log entry 18 (DEDUCED). -/
def Obligations.SpindlePickOutcome : Prop :=
  ∀ (n : Byte) (e : Entry) (k : Fin 4) (m : RecNo) (c : Nat) (o : OrderNo) (j : StationNo) (s : State),
    let i := spindleStation k
    s.moves .pick n e → e.kind = .load → e.srcAt = some i → e.source = .mediaClass c → e.order = some o →
    e.token = none → e.setAside = some m → e.dstAt = some j →
    let x := s.transport
    let goes := fun (p : ArmPhase) (a : StationNo) => { x with
      pickMisses := 0, phase := p, nextNumber := x.nextNumber + 1,
      outstanding := some { op := .goto (s.station a).lift (s.station a).rotate, number := x.nextNumber,
                            abandoned := false } }
    let token : Token := { num := m, gen := (s.record m).gen + 1 }
    let left := fun (q : Nat) (t : State) => (t.station i).count = (s.station i).count - q ∧
      ((t.station i).loaded = true ↔ (s.station i).loaded = true ∧ q < (s.station i).count) ∧
      ((s.station i).loaded = true → (s.station i).count ≤ q →
        t.event .spindleEmpty = (s.event .spindleEmpty).raised .spindleEmpty (bitMask i.val) none)
    (∃ t, exec (.pickOutcome n .gripped) s = .next t ∧ t.transport = goes .travelDst j ∧ left 1 t ∧
      t.record m = { use := .inUse, gen := token.gen, origin := .spindle k, mediaClass := c, discCount := 1,
                     order := some o, drive := none, rung := none, slot := some (s.order o).slot, location := .onArm,
                     burn := .notYet, verify := .notYet,
                     print := if (s.order o).template.isSome then .notYet else .notRequired, cause := none,
                     errorBlocks := 0, serial := none } ∧
      t.currentEntry = some { e with token := some token, setAside := none }) ∧
    (∃ t, exec (.pickOutcome n .double) s = .next t ∧ t.transport = goes .travelDst stationBX ∧ left 2 t ∧
      t.record m = { use := .inUse, gen := token.gen, origin := .spindle k,
                     mediaClass := (s.station i).mediaClass, discCount := 2, order := none, drive := none,
                     rung := none, slot := none, location := .onArm, burn := .notYet, verify := .notYet,
                     print := .notRequired, cause := some .doublePick, errorBlocks := 0, serial := none } ∧
      (∃ y, t.currentEntry = some y ∧ y.kind = .purge ∧ y.token = some token ∧ y.dest = .station stationBX ∧
        y.drive = none ∧ y.order = none) ∧
      (∃ front, t.queue = front ++
          [{ kind := .load, source := e.source, dest := e.dest, token := none, drive := e.drive, order := e.order,
             passOver := 0, current := false, srcAt := none, dstAt := none, setAside := none, pickSent := false }] ∧
        ((s.station i).loaded = false ∨ 2 < (s.station i).count →
          front.length = s.queue.length ∧ t.orders = s.orders) ∧
        ((s.station i).loaded = true → (s.station i).count ≤ 2 →
          (∀ a : Fin 4, a ≠ k → ¬ ((s.station (spindleStation a)).loaded = true ∧
            (s.station (spindleStation a)).mediaClass = (s.station i).mediaClass)) →
          ∀ f ∈ front, f.kind = .load → f.token = none → f.source = .mediaClass (s.station i).mediaClass →
            f.pickSent = true)) ∧
      ∀ d, e.drive = some d → (s.drive d).state = .loading → (∀ f ∈ s.queue, f.current = false → f.drive ≠ some d) →
        t.drive d = s.drive d) ∧
    (x.pickMisses = 0 → ∃ t, exec (.pickOutcome n .miss) s = .next t ∧ t.transport = { x with
        pickMisses := 1, phase := .pick, nextNumber := x.nextNumber + 1,
        outstanding := some { op := .pick, number := x.nextNumber, abandoned := false } } ∧
      Changes [.queue, .transport] s t) ∧
    (x.pickMisses ≠ 0 → ∃ t, exec (.pickOutcome n .miss) s = .next t ∧
      (t.station i).count = 0 ∧ (t.station i).loaded = false ∧
      t.event .spindleEmpty = (s.event .spindleEmpty).raised .spindleEmpty (bitMask i.val) none ∧
      (∀ a : Fin 4, a ≠ k → (s.station (spindleStation a)).loaded = true →
        (s.station (spindleStation a)).mediaClass = c →
        (∀ b : Fin 4, b < a → b ≠ k → ¬ ((s.station (spindleStation b)).loaded = true ∧
          (s.station (spindleStation b)).mediaClass = c)) →
        t.transport = goes .travelSrc (spindleStation a) ∧
        t.currentEntry = some { e with srcAt := some (spindleStation a), pickSent := false }) ∧
      ((∀ a : Fin 4, a ≠ k → ¬ ((s.station (spindleStation a)).loaded = true ∧
          (s.station (spindleStation a)).mediaClass = c)) →
        ∃ u : State, t = u.loadDecision.arbiter ∧ u.queue.length < s.queue.length ∧
          u.transport = { x with outstanding := none, pickMisses := 0, phase := .idle, parkWaiting := false,
                                 mode := if x.parkWaiting = true then .parked else .running } ∧
          ((s.record m).use = .setAside → (u.record m).use = .free) ∧
          (∀ f ∈ u.queue, f.kind = .load → f.token = none → f.source = .mediaClass c → f.pickSent = true) ∧
          ∀ d, e.drive = some d → (s.drive d).state = .loading → (s.drive d).entry = some .load →
            (u.drive d).phase = .trayClosing ∧ (u.drive d).entry = none))

/-- A PICK answered at a tray or at PR: GRIPPED and DOUBLE put the record ON-ARM, the drive closes its tray without a
record, the printer lets its disc go by its fault run, and the arm goes on; MISS puts the record at UNKNOWN, retires the
entry and enters HELD with MISS; that the drive's own transport entry field keeps its kind then is log entry 38 (DESIGN
CHOICE). -/
def Obligations.StationPickOutcome : Prop :=
  ∀ (n : Byte) (e : Entry) (i j : StationNo) (k : Token) (s : State), s.moves .pick n e → e.srcAt = some i →
    4 ≤ i.val → i.val ≤ 20 → e.token = some k → s.live k = true → e.dstAt = some j →
    let x := s.transport
    (∀ o, o = .gripped ∨ o = .double → ∃ t, exec (.pickOutcome n o) s = .next t ∧
      t.transport = { x with
        pickMisses := 0, phase := .travelDst, nextNumber := x.nextNumber + 1,
        outstanding := some { op := .goto (s.station j).lift (s.station j).rotate, number := x.nextNumber,
                              abandoned := false } } ∧
      t.record k.num = { s.record k.num with location := .onArm } ∧ (∀ m, m ≠ k.num → t.record m = s.record m) ∧
      t.queue = s.queue ∧
      (∀ d, i = trayOf d → (t.drive d).trayRecord = none ∧ (t.drive d).entry = none ∧
        (t.drive d).state = .unloading ∧ (t.drive d).phase = .trayClosing ∧ (∀ f, f ≠ d → t.drive f = s.drive f) ∧
        ((s.drive d).outstanding = none → (s.drive d).checkPhase = .idle →
          (t.drive d).outstanding = some { req := .trayClose, number := (s.drive d).nextNumber }) ∧
        t.printer = s.printer) ∧
      (i = stationPR → t.printer.token = none ∧ t.drives = s.drives ∧
        (2 ≤ s.printer.faultRun → t.printer.state = .faulted ∧ t.event .printer =
          (s.event .printer).raised .printer 0 (some (.printer .faulted .repeatedFaults))) ∧
        (s.printer.faultRun < 2 → (∃ f ∈ s.queue, f.dest = .station stationPR) →
          t.printer = { s.printer with token := none, state := .opened, phase := .noPhase }) ∧
        (s.printer.faultRun < 2 → (∀ f ∈ s.queue, f.dest ≠ .station stationPR) →
          t.printer.state = .idle ∧ t.printer.phase = .closing ∧
          (s.printer.outstanding = none → s.printer.checkPhase = .idle →
            t.printer.outstanding = some { req := .trayIn, number := s.printer.nextNumber })))) ∧
    ∃ t, exec (.pickOutcome n .miss) s = .next t ∧ HeldWith .miss s t ∧ t.transport.phase = .idle ∧
      t.queue = s.queue.erase e ∧ (t.record k.num).location = .unknown ∧ (t.record k.num).use = .inUse ∧
      t.drives = s.drives

/-- A PLACE answered RELEASED: at a tray the drive has the record and closes the tray; at PR the printer has it and
draws it in, or sends it out at once when it has a cause; in a bin the count rises and at a spindle it rises and the
spindle is LOADED, and there the record ends with its verdict. The entry leaves the queue, the arm is IDLE, and a
waiting Park takes the transport to PARKED. That a spindle's count of 150 rises to 151 is log entry 43 (DESIGN
CHOICE). -/
def Obligations.PlaceOutcomeEffect : Prop :=
  ∀ (n : Byte) (e : Entry) (i : StationNo) (k : Token) (s : State), s.moves .place n e → e.dstAt = some i →
    e.token = some k → s.live k = true →
    let x := s.transport
    let r := s.record k.num
    ∃ t u, exec (.placeOutcome n .released) s = .next t ∧ t = u.arbiter ∧
      u.transport = { x with outstanding := none, phase := .idle, parkWaiting := false,
                             mode := if x.parkWaiting = true then .parked else .running } ∧
      (∃ added, u.queue = s.queue.erase e ++ added) ∧
      (∀ d, i = trayOf d → u.record k.num = { r with location := .station i, drive := some d } ∧
        (u.drive d).trayRecord = some k ∧ (u.drive d).entry = none ∧ (u.drive d).phase = .trayClosing ∧
        ((s.drive d).outstanding = none → (s.drive d).checkPhase = .idle →
          (u.drive d).outstanding = some { req := .trayClose, number := (s.drive d).nextNumber })) ∧
      (i = stationPR → u.record k.num = { r with location := .station stationPR } ∧ u.printer.token = some k ∧
        (r.cause = none → u.printer.state = .printing ∧ u.printer.phase = .trayIn ∧
          (s.printer.outstanding = none → s.printer.checkPhase = .idle →
            u.printer.outstanding = some { req := .trayIn, number := s.printer.nextNumber })) ∧
        (r.cause ≠ none → u.printer.state = .discharge ∧ u.printer.phase = .waitPick ∧
          ∃ f ∈ u.queue, f.source = .station stationPR ∧ f.token = some k)) ∧
      (21 ≤ i.val → (u.station i).count = (s.station i).count + 1 ∧ (u.record k.num).use = .free ∧
        Joined [.discDone k.num r (.station i) (r.verdictAtEnd (.station i))] s u ∧
        ((s.station i).count + 1 = (s.station i).capacity →
          u.event .binFull = (s.event .binFull).raised .binFull (bitMask (i.val - 21)) none)) ∧
      ∀ a : Fin 4, i = spindleStation a → (u.station i).count = (s.station i).count + 1 ∧
        (u.station i).loaded = true ∧ (u.record k.num).use = .free ∧
        Joined [.discDone k.num r (.station i) (if r.cause = none then .returned else .fail)] s u

/-- The end of a HOME. Of a Transport Start: RUNNING with an empty gripper; with a disc in it an orphan record and a
PURGE from the arm to BX; HELD with NO-RECORD or TIMEOUT otherwise. Of a Resume: RUNNING with the flag restored from its
held copy; a disc lost from the arm ends LOST, a disc still held goes on, also one whose pick had not been answered
(from a spindle, a tray or PR, whose owner is told as at a pick), an entry not picked waits its turn again; a TIMEOUT,
or a disc with no entry and no free record, leaves HELD. That TIMEOUT keeps the held copy and leaves the arm IDLE is
R158; NO-RECORD kept alike is log entry 16 (DEDUCED), and an orphan made also where a PURGE with source ARM waits
already is log entry 41 (DESIGN CHOICE). -/
def Obligations.HomeOutcomeEffect : Prop :=
  ∀ (n : Byte) (s : State), s.transport.outstanding = some { op := .home, number := n, abandoned := false } →
    let x := s.transport
    let orphan := fun (m : RecNo) (t : State) => t.record m =
        { use := .inUse, gen := (s.record m).gen + 1, origin := .orphan, mediaClass := 0, discCount := 1,
          order := none, drive := none, rung := none, slot := none, location := .onArm, burn := .notYet,
          verify := .notYet, print := .notRequired, cause := some .orphan, errorBlocks := 0, serial := none } ∧
      ∃ f ∈ t.queue, f.kind = .purge ∧ f.source = .arm ∧ f.dest = .station stationBX ∧
        f.token = some { num := m, gen := (s.record m).gen + 1 }
    let runs := fun (p : ArmPhase) => { x with mode := .running, phase := p, outstanding := none,
                                               autoFeed := x.heldCopy, heldCause := none }
    (x.mode ≠ .held →
      (∃ u, exec (.homeOutcome n (.homed false)) s = .next u.arbiter ∧
        u.transport = { x with mode := .running, phase := .idle, outstanding := none } ∧ Changes [.transport] s u) ∧
      (∀ m, s.freeRecord = some m → ∃ u, exec (.homeOutcome n (.homed true)) s = .next u.arbiter ∧ orphan m u ∧
        u.transport = { x with mode := .running, phase := .idle, outstanding := none } ∧
        Changes [.records, .queue, .transport, .printer] s u) ∧
      (s.freeRecord = none → ∃ t, exec (.homeOutcome n (.homed true)) s = .next t ∧ HeldWith .noRecord s t ∧
        t.transport.phase = .idle ∧ Changes [.transport, .events, .outbound] s t) ∧
      ∃ t, exec .armOperationTimeout s = .next t ∧ HeldWith .timeout s t ∧ t.transport.phase = .idle ∧
        Changes [.transport, .events, .outbound] s t) ∧
    (x.mode = .held →
      (s.currentEntry = none → ∃ u, exec (.homeOutcome n (.homed false)) s =
          .next (if x.heldCopy = true then u.loadDecision.arbiter else u.arbiter) ∧ u.transport = runs .idle ∧
        Changes [.transport] s u) ∧
      (∀ m, s.currentEntry = none → s.freeRecord = some m → ∃ u, exec (.homeOutcome n (.homed true)) s =
          .next (if x.heldCopy = true then u.loadDecision.arbiter else u.arbiter) ∧ u.transport = runs .idle ∧
        orphan m u ∧ Changes [.records, .queue, .transport, .printer] s u) ∧
      (s.currentEntry = none → s.freeRecord = none → ∃ t, exec (.homeOutcome n (.homed true)) s = .next t ∧
        t.transport = { x with outstanding := none, phase := .idle, heldCause := some .noRecord } ∧
        RaisedOnly .armHeld 0 (some (.armHeld .noRecord)) s t ∧ Changes [.transport, .events, .outbound] s t) ∧
      (∀ e k i j, s.currentEntry = some e → e.token = some k → s.live k = true →
        (s.record k.num).location ≠ .onArm → e.srcAt = some i → 4 ≤ i.val → i.val ≤ 20 → e.dstAt = some j →
        ∃ t, exec (.homeOutcome n (.homed true)) s = .next t ∧
          t.transport = { runs .travelDst with
            pickMisses := 0, nextNumber := x.nextNumber + 1,
            outstanding := some { op := .goto (s.station j).lift (s.station j).rotate, number := x.nextNumber,
                                  abandoned := false } } ∧
          t.record k.num = { s.record k.num with location := .onArm } ∧
          (∀ d, i = trayOf d → (t.drive d).trayRecord = none ∧ (t.drive d).entry = none ∧
            (t.drive d).state = .unloading ∧ (t.drive d).phase = .trayClosing ∧
            ((s.drive d).outstanding = none → (s.drive d).checkPhase = .idle →
              (t.drive d).outstanding = some { req := .trayClose, number := (s.drive d).nextNumber })) ∧
          (i = stationPR → t.printer.token = none ∧
            (2 ≤ s.printer.faultRun → t.printer.state = .faulted ∧ t.event .printer =
              (s.event .printer).raised .printer 0 (some (.printer .faulted .repeatedFaults))) ∧
            (s.printer.faultRun < 2 → (∃ f ∈ s.queue, f.dest = .station stationPR) →
              t.printer = { s.printer with token := none, state := .opened, phase := .noPhase }) ∧
            (s.printer.faultRun < 2 → (∀ f ∈ s.queue, f.dest ≠ .station stationPR) →
              t.printer.state = .idle ∧ t.printer.phase = .closing ∧
              (s.printer.outstanding = none → s.printer.checkPhase = .idle →
                t.printer.outstanding = some { req := .trayIn, number := s.printer.nextNumber })))) ∧
      (∀ e k, s.currentEntry = some e → e.token = some k → s.live k = true → (s.record k.num).location = .onArm →
        (∀ j, s.destOf e = j → ∃ t, exec (.homeOutcome n (.homed true)) s = .next t ∧
          t.transport = { runs .travelDst with
            outstanding := some { op := .goto (s.station j).lift (s.station j).rotate, number := x.nextNumber,
                                  abandoned := false },
            nextNumber := x.nextNumber + 1 }) ∧
        ∃ u : State, exec (.homeOutcome n (.homed false)) s =
            .next (if x.heldCopy = true then u.loadDecision.arbiter else u.arbiter) ∧
          (u.record k.num).use = .free ∧ u.transport = runs .idle ∧
          Joined [.discDone k.num { s.record k.num with cause := (s.record k.num).cause <|> some .lost } .onArm
            .fail] s u) ∧
      (∀ e (i : Fin 4) m j, s.currentEntry = some e → e.token = none → e.srcAt = some (spindleStation i) →
        e.setAside = some m → e.dstAt = some j → ∃ t, exec (.homeOutcome n (.homed true)) s = .next t ∧
          (t.record m).use = .inUse ∧ (t.record m).location = .onArm ∧
          (t.station (spindleStation i)).count = (s.station (spindleStation i)).count - 1 ∧
          t.transport = { runs .travelDst with
            pickMisses := 0, nextNumber := x.nextNumber + 1,
            outstanding := some { op := .goto (s.station j).lift (s.station j).rotate, number := x.nextNumber,
                                  abandoned := false } }) ∧
      (∀ e, s.currentEntry = some e → s.picked e = false → ∃ u : State, exec (.homeOutcome n (.homed false)) s =
          .next (if x.heldCopy = true then u.loadDecision.arbiter else u.arbiter) ∧ u.transport = runs .idle ∧
        u.currentEntry = none ∧ u.queue.length = s.queue.length ∧
        (∀ m, e.setAside = some m → (s.record m).use = .setAside → (u.record m).use = .free)) ∧
      ∃ t, exec .armOperationTimeout s = .next t ∧
        t.transport = { x with outstanding := none, phase := .idle, heldCause := some .timeout } ∧
        RaisedOnly .armHeld 0 (some (.armHeld .timeout)) s t ∧ Changes [.transport, .events, .outbound] s t)

/-! ### The printer -/

/-- Printer Reset and the link check: taken in FAULTED or OFFLINE without a check, it clears the fault run and starts
a check; a result other than GOOD leaves the printer OFFLINE with PRINTER raised, GOOD sends SENSE, and the SENSE
settles the printer by the disc it finds and the token it holds. The SENSE of a link check acts even with a request
waiting (log entry 35, DESIGN CHOICE), and the reset is kept in a flag of the model (log entry 20). -/
def Obligations.PrinterResetAndCheck : Prop :=
  (∀ (f : CmdFrame) (s : State), f.body = [] → s.handlesAsNew f.tag f.resend →
    ∃ t, exec (.printerReset f) s = .next t ∧
      if (s.printer.state = .faulted ∨ s.printer.state = .offline) ∧ s.printer.checkPhase = .idle then
        t.printer = { s.printer with checkPhase := .checking, outstanding := none, waiting := none, faultRun := 0,
                                     resetRunning := true } ∧ Replied f.tag .ok s t ∧
        t.outbound = s.outbound ++ [(cmdReply f 21).frame .ok] ∧ Changes [.printer, .feed, .outbound] s t
      else RepliedOnly (cmdReply f 21) .busy s t) ∧
  (∀ s : State, s.printer.checkPhase = .checking →
    let offline := fun (r : CheckResult) (t : State) =>
      t.printer = { s.printer with checkResult := some r, checkPhase := .idle, state := .offline, phase := .noPhase,
                                   waiting := none, resetRunning := false } ∧
      RaisedOnly .printer 0 (some (.printer .offline (.check r))) s t ∧
      Changes [.printer, .records, .queue, .transport, .events, .outbound] s t
    (∃ t, exec (.printerCheckExchangeEnd .good) s = .next t ∧
      t.printer = { s.printer with checkResult := some .good, checkPhase := .sensing,
                                   outstanding := some { req := .sense, number := s.printer.nextNumber },
                                   nextNumber := s.printer.nextNumber + 1 } ∧
      Changes [.printer, .records, .queue, .transport] s t) ∧
    (∃ t, exec (.printerCheckExchangeEnd .linkErrors) s = .next t ∧ offline .linkErrors t) ∧
    (∃ t, exec (.printerCheckExchangeEnd .wrongDevice) s = .next t ∧ offline .wrongDevice t) ∧
    ∃ t, exec .printerCheckTimeout s = .next t ∧ offline .noResponse t) ∧
  ∀ (n : Byte) (s : State), s.printer.checkPhase = .sensing →
    s.printer.outstanding = some { req := .sense, number := n } →
    (s.printer.state = .faulted ∨ s.printer.state = .offline) →
    let sends := fun (q : PrinterRequest) (t : State) => t.printer.checkPhase = .idle ∧
      t.printer.outstanding = some { req := q, number := s.printer.nextNumber }
    (∃ t, exec (.printerSenseReply n (.done false)) s = .next t ∧ sends .trayIn t ∧ t.printer.state = .idle ∧
      t.printer.phase = .closing ∧ t.printer.token = none ∧
      ∀ k, s.printer.token = some k → s.live k = true →
        Joined [.discDone k.num { s.record k.num with cause := (s.record k.num).cause <|> some .lost }
          (.station stationPR) .fail] s t) ∧
    (∀ k, s.printer.token = some k → ∃ t, exec (.printerSenseReply n (.done true)) s = .next t ∧ sends .trayOut t ∧
      t.printer.state = .discharge ∧ t.printer.phase = .ejecting ∧ t.printer.token = some k) ∧
    (∀ m, s.printer.token = none → s.freeRecord = some m →
      ∃ t, exec (.printerSenseReply n (.done true)) s = .next t ∧ sends .trayOut t ∧
        t.printer.state = .discharge ∧ t.printer.phase = .ejecting ∧
        t.printer.token = some { num := m, gen := (s.record m).gen + 1 } ∧
        t.record m = { use := .inUse, gen := (s.record m).gen + 1, origin := .orphan, mediaClass := 0, discCount := 1,
                       order := none, drive := none, rung := none, slot := none, location := .station stationPR,
                       burn := .notYet, verify := .notYet, print := .notRequired, cause := some .orphan,
                       errorBlocks := 0, serial := none }) ∧
    (s.printer.token = none → s.freeRecord = none →
      ∃ t, exec (.printerSenseReply n (.done true)) s = .next t ∧ t.printer.state = .faulted ∧
        t.printer.lastFault = some .noRecord ∧
        RaisedOnly .printer 0 (some (.printer .faulted (.failure .noRecord))) s t) ∧
    let stops := fun (fl : PrinterFailure) (t : State) => t.printer.state = .faulted ∧ t.printer.checkPhase = .idle ∧
      t.printer.lastFault = some fl ∧ RaisedOnly .printer 0 (some (.printer .faulted (.failure fl))) s t
    (∀ c, ∃ t, exec (.printerSenseReply n (.fault c)) s = .next t ∧ stops (.fault .sense c) t) ∧
      ∃ t, exec .printerRequestTimeout s = .next t ∧ stops (.timeout .sense) t

/-- The printer's tray and the print cycle, DONE by DONE: TRAY-OUT to OPEN, and back to IDLE through a TRAY-IN when no
entry is bound for PR any more, or to WAIT-PICK with an entry for the disc; TRAY-IN to IDLE or to the START with a
snapshot and a serial, or, when the artwork slot is not READY, to a print that fails with ARTWORK-NOT-READY, its fault
run as it was; START, each BAND in descending index and FINISH; then the print is PASS and the disc goes out. The tray
opens when an entry bound for PR joins the queue in IDLE, and closes when the last one leaves it in OPEN. An orphan is
told by its origin (log entry 19, DEDUCED), and the end of a reset by a flag of the model (log entry 20). -/
def Obligations.PrintCycle : Prop :=
  ∀ (n : Byte) (s : State),
    let x := s.printer
    let y := { x with outstanding := none }
    let bound := ∃ f ∈ s.queue, f.dest = .station stationPR
    let sent := fun (z : Printer) (q : PrinterRequest) => { z with
      outstanding := some { req := q, number := x.nextNumber }, nextNumber := x.nextNumber + 1 }
    let asked := fun (z : Printer) (q : PrinterRequest) =>
      if x.outstanding = none ∧ x.checkPhase = .idle then sent z q else { z with waiting := some q }
    (∀ e : Entry, let t := s.enqueue e
      t.queue = s.queue ++ [e] ∧ Changes [.queue, .printer] s t ∧
      (x.state = .idle → x.phase = .noPhase → e.dest = .station stationPR →
        t.printer = asked { x with phase := .opening } .trayOut) ∧
      ((x.state ≠ .idle ∨ x.phase ≠ .noPhase) → (x.state = .opened → bound ∨ e.dest = .station stationPR) →
        t.printer = x)) ∧
    (∀ e : Entry, let t := s.retire e
      t.queue = s.queue.erase e ∧ Changes [.queue, .printer, .records, .transport] s t ∧
      (x.state = .opened → (∀ f ∈ s.queue.erase e, f.dest ≠ .station stationPR) →
        t.printer = asked { x with state := .idle, phase := .closing } .trayIn) ∧
      (x.state = .opened → (∃ f ∈ s.queue.erase e, f.dest = .station stationPR) → t.printer = x)) ∧
    (∀ p, s.printerAwaits .trayOut n → x.state = .idle → x.phase = .opening → ¬ bound →
      ∃ t, exec (.trayOutReply n (.done p)) s = .next t ∧
        t.printer = sent { y with state := .idle, phase := .closing } .trayIn ∧
        Changes [.printer, .records, .queue, .transport] s t) ∧
    (∀ p k o l, s.printerAwaits .trayIn n → x.state = .printing → x.phase = .trayIn → x.token = some k →
      s.live k = true → (s.record k.num).order = some o → (s.order o).template = some l →
      (s.artwork (s.template l).art).state ≠ .ready →
      ∃ t, exec (.trayInReply n (.done p)) s = .next t ∧
        t.printer = sent { y with state := .discharge, phase := .ejecting, snapshot := none } .trayOut ∧
        (t.record k.num).print = .fail ∧
        (t.record k.num).cause = ((s.record k.num).cause <|> some .printFault) ∧
        (t.record k.num).serial = (s.record k.num).serial ∧ (t.artwork (s.template l).art).inUse = false ∧
        RaisedOnly .printer 0 (some (.printer .discharge .artworkNotReady)) s t ∧
        Changes [.printer, .artworks, .records, .queue, .transport, .events, .outbound] s t) ∧
    (∀ p, s.printerAwaits .trayOut n → x.state = .idle → x.phase = .opening → bound →
      ∃ t, exec (.trayOutReply n (.done p)) s = .next t ∧ t.printer = { y with state := .opened, phase := .noPhase } ∧
        Changes [.printer, .records, .queue, .transport] s t) ∧
    (∀ p k, s.printerAwaits .trayOut n → x.state = .discharge → x.phase = .ejecting → x.token = some k →
      s.live k = true → ∃ t u, exec (.trayOutReply n (.done p)) s = .next t ∧ t = u.arbiter ∧
        u.printer = { y with phase := .waitPick, resetRunning := false } ∧
        (if (s.record k.num).origin = .orphan then ∃ f, u.queue = s.queue ++ [f] ∧ f.kind = .purge ∧
            f.source = .station stationPR ∧ f.dest = .station stationBX ∧ f.token = some k
          else ∃ f, u.queue = s.queue ++ [f] ∧ f.kind = .clear ∧ f.source = .station stationPR ∧
            f.dest = .byVerdict ∧ f.token = some k) ∧
        (if x.resetRunning = true then RaisedOnly .printer 0 (some (.printer .discharge .reset)) s u
          else u.events = s.events) ∧ Changes [.printer, .queue, .events, .outbound] s u) ∧
    (∀ p, s.printerAwaits .trayIn n → x.state = .idle → x.phase = .closing →
      ∃ t, exec (.trayInReply n (.done p)) s = .next t ∧
        (bound → t.printer = sent { y with phase := .opening, resetRunning := false } .trayOut) ∧
        (¬ bound → t.printer = { y with phase := .noPhase, resetRunning := false }) ∧
        (if x.resetRunning = true then RaisedOnly .printer 0 (some (.printer .idle .reset)) s t
          else t.events = s.events) ∧ Changes [.printer, .records, .queue, .transport, .events, .outbound] s t) ∧
    (∀ p k o l, s.printerAwaits .trayIn n → x.state = .printing → x.phase = .trayIn → x.token = some k →
      s.live k = true → (s.record k.num).order = some o → (s.order o).template = some l →
      (s.artwork (s.template l).art).state = .ready →
      let m := s.template l
      let a := s.artwork m.art
      let serial := if m.serialEnabled = true then some m.nextSerial else none
      let snap : Snapshot := { template := l, art := m.art, length := a.length, serialEnabled := m.serialEnabled,
                               text := m.text, serial := serial }
      ∃ t, exec (.trayInReply n (.done p)) s = .next t ∧
        t.printer = sent { y with snapshot := some snap, bandsLeft := (a.length + 65535) / 65536, phase := .start }
          (.start (serial.map (fun q => m.text ++ serialDigits q))) ∧
        t.artwork m.art = { a with inUse := true } ∧ (∀ b, b ≠ m.art → t.artwork b = s.artwork b) ∧
        t.template l = (if m.serialEnabled = true then { m with
            nextSerial := if m.nextSerial = 999999 then 0 else m.nextSerial + 1, issued := m.issued + 1 } else m) ∧
        (∀ b, b ≠ l → t.template b = s.template b) ∧
        (t.record k.num).serial = (if m.serialEnabled = true then serial else (s.record k.num).serial) ∧
        Changes [.printer, .artworks, .templates, .records, .queue, .transport] s t) ∧
    (∀ p q, s.printerAwaits (.start q) n → x.state = .printing → x.phase = .start → ∀ snap, x.snapshot = some snap →
      ∃ t, exec (.startReply n (.done p)) s = .next t ∧
        t.printer = sent { y with phase := .band } (.band (x.bandsLeft - 1) (((s.artwork snap.art).bytes.drop
          (65536 * ((snap.length + 65535) / 65536 - 1 - (x.bandsLeft - 1)))).take 65536)) ∧
        Changes [.printer, .records, .queue, .transport] s t) ∧
    (∀ p b bytes, s.printerAwaits (.band b bytes) n → x.state = .printing → x.phase = .band →
      ∀ snap, x.snapshot = some snap →
      ∃ t, exec (.bandReply n (.done p)) s = .next t ∧ Changes [.printer, .records, .queue, .transport] s t ∧
        t.printer = if x.bandsLeft ≤ 1 then sent { y with bandsLeft := 0, phase := .finish } .finish
          else sent { y with bandsLeft := x.bandsLeft - 1 } (.band (x.bandsLeft - 2)
            (((s.artwork snap.art).bytes.drop (65536 * ((snap.length + 65535) / 65536 - 1 - (x.bandsLeft - 2)))).take
              65536))) ∧
    ∀ p k snap, s.printerAwaits .finish n → x.state = .printing → x.phase = .finish → x.token = some k →
      s.live k = true → x.snapshot = some snap →
      ∃ t, exec (.finishReply n (.done p)) s = .next t ∧ (t.record k.num).print = .pass ∧
        t.printer = sent { y with state := .discharge, phase := .ejecting, snapshot := none, faultRun := 0 } .trayOut ∧
        t.template snap.template = (if snap.serial.isSome = true then
          { s.template snap.template with printed := (s.template snap.template).printed + 1 }
          else s.template snap.template) ∧
        (t.artwork snap.art).inUse = false ∧
        Changes [.printer, .artworks, .templates, .records, .queue, .transport] s t

/-- A request of the printer that fails. In PRINTING the print ends with FAIL: PRINT-FAULT unless there was a cause,
the serial voided, the slot and the snapshot let go, the fault run one more, PRINTER raised and the disc sent out. In
any other state at work the printer goes to FAULTED. The fault run stops at 2 (log entry 33, DEDUCED). -/
def Obligations.PrintFaults : Prop :=
  ∀ (n : Byte) (req : PrinterRequest) (s : State), s.printerAwaits req n →
    let x := s.printer
    let prints := fun (fl : PrinterFailure) (t : State) =>
      t.printer.state = .discharge ∧ t.printer.phase = .ejecting ∧ t.printer.snapshot = none ∧
      t.printer.lastFault = some fl ∧ t.printer.faultRun = min 2 (x.faultRun + 1) ∧ t.printer.token = x.token ∧
      t.printer.outstanding = some { req := .trayOut, number := x.nextNumber } ∧
      (∀ k, x.token = some k → s.live k = true → (t.record k.num).print = .fail ∧
        (t.record k.num).cause = ((s.record k.num).cause <|> some .printFault)) ∧
      (∀ p, x.snapshot = some p → (t.artwork p.art).inUse = false ∧
        (t.template p.template).voided = (s.template p.template).voided + (if p.serial.isSome then 1 else 0)) ∧
      RaisedOnly .printer 0 (some (.printer .discharge (.failure fl))) s t
    let stops := fun (fl : PrinterFailure) (t : State) => t.printer.state = .faulted ∧ t.printer.phase = .noPhase ∧
      t.printer.lastFault = some fl ∧ t.printer.token = x.token ∧ t.printer.outstanding = none ∧
      RaisedOnly .printer 0 (some (.printer .faulted (.failure fl))) s t
    let acts := fun (fl : PrinterFailure) (t : State) =>
      (x.state = .printing → prints fl t) ∧ (x.state ≠ .printing → x.state ≠ .faulted → stops fl t)
    (∃ t, exec .printerRequestTimeout s = .next t ∧ acts (.timeout req.kind) t) ∧
    ∀ c, (req = .trayOut → ∃ t, exec (.trayOutReply n (.fault c)) s = .next t ∧ acts (.fault .trayOut c) t) ∧
      (req = .trayIn → ∃ t, exec (.trayInReply n (.fault c)) s = .next t ∧ acts (.fault .trayIn c) t) ∧
      (∀ q, req = .start q → ∃ t, exec (.startReply n (.fault c)) s = .next t ∧ acts (.fault .start c) t) ∧
      (∀ b d, req = .band b d → ∃ t, exec (.bandReply n (.fault c)) s = .next t ∧ acts (.fault .band c) t) ∧
      (req = .finish → ∃ t, exec (.finishReply n (.fault c)) s = .next t ∧ acts (.fault .finish c) t)

/-! ### Settings and Abort All -/

/-- Store Settings copies the ladder and the map when the access is IDLE and is BUSY otherwise; an acknowledged store
leaves the copy with its CRC-32 in the EEPROM and raises SETTINGS with DONE; a failed one raises FAILED, and the EEPROM
then holds its earlier image, the copy, or an image whose CRC does not match (which of them, and its bytes, are free
values, log entry 11), in which last case a load after the next power-on takes nothing. A load that ends well gives each
entry not written since power-on its stored values; one that does not takes none. In every ending the access is IDLE.
The bytes under the CRC-32 are laid out as log entry 10 chooses (DESIGN CHOICE). -/
def Obligations.SettingsLoadAndStore : Prop :=
  (∀ (f : CmdFrame) (s : State), f.body = [] → s.handlesAsNew f.tag f.resend →
    ∃ t, exec (.storeSettings f) s = .next t ∧
      if s.settings.access = .idle then
        (∃ v, t.settings = { s.settings with access := .storing, storing := some v } ∧ v.codes = s.ladder ∧
          ∀ i : StationNo, v.stations[i.val].kind = (s.station i).kind ∧
            v.stations[i.val].lift = BitVec.ofNat 16 (s.station i).lift ∧
            v.stations[i.val].rotate = BitVec.ofNat 16 (s.station i).rotate ∧
            (i.val < 4 → v.stations[i.val].value = BitVec.ofNat 8 (s.station i).mediaClass) ∧
            (21 ≤ i.val → v.stations[i.val].value = BitVec.ofNat 8 (s.station i).capacity)) ∧
        Replied f.tag .ok s t ∧ t.outbound = s.outbound ++ [(cmdReply f 25).frame .ok] ∧
        Changes [.settings, .feed, .outbound] s t
      else RepliedOnly (cmdReply f 25) .busy s t) ∧
  (∀ s : State, s.settings.access = .storing →
    let failed := fun (t : State) => t.settings.access = .idle ∧ t.settings.storing = none ∧
      t.settings.ladderWritten = s.settings.ladderWritten ∧ t.settings.mapWritten = s.settings.mapWritten ∧
      (t.settings.eeprom = s.settings.eeprom ∨
        (∃ v, s.settings.storing = some v ∧
          t.settings.eeprom = { values := v, crc := crc32 (settingsBytes v) }) ∨
        (t.settings.eeprom.crc ≠ crc32 (settingsBytes t.settings.eeprom.values) ∧
          ∃ u w, exec .powerOn t = .next u ∧ exec (.settingsLoadEnd .contents) u = .next w ∧
            w.settings.access = .idle ∧ RaisedOnly .settings 0 (some (.settings .failed)) u w ∧
            Changes [.settings, .events, .outbound] u w)) ∧
      RaisedOnly .settings 0 (some (.settings .failed)) s t ∧ Changes [.settings, .events, .outbound] s t
    (∀ v, s.settings.storing = some v → ∃ t, exec (.settingsStoreAck true) s = .next t ∧
      t.settings = { s.settings with access := .idle, storing := none,
                                     eeprom := { values := v, crc := crc32 (settingsBytes v) } } ∧
      RaisedOnly .settings 0 (some (.settings .done)) s t ∧ Changes [.settings, .events, .outbound] s t) ∧
    (∃ t, exec (.settingsStoreAck false) s = .next t ∧ failed t) ∧
    ∃ t, exec .settingsStoreTimeout s = .next t ∧ failed t) ∧
  ∀ s : State, s.settings.access = .loading →
    let failed := fun (t : State) => t.settings.access = .idle ∧
      RaisedOnly .settings 0 (some (.settings .failed)) s t ∧ Changes [.settings, .events, .outbound] s t
    (∃ t, exec .settingsLoadTimeout s = .next t ∧ failed t) ∧
    (∃ t, exec (.settingsLoadEnd .failed) s = .next t ∧ failed t) ∧
    ∀ (r : SpiRead) (i : StoredImage), r = .image i ∨ (r = .contents ∧ s.settings.eeprom = i) →
      ∃ t, exec (.settingsLoadEnd r) s = .next t ∧ t.settings.access = .idle ∧
        (i.crc ≠ crc32 (settingsBytes i.values) → failed t) ∧
        (i.crc = crc32 (settingsBytes i.values) →
          (∀ g : Rung, t.code g = if s.settings.ladderWritten[g.val] = true then s.code g
            else i.values.codes[g.val]) ∧
          (∀ k : StationNo, if s.settings.mapWritten[k.val] = true then t.station k = s.station k
            else
              let v := i.values.stations[k.val]
              (t.station k).kind = v.kind ∧ (t.station k).lift = v.lift.toNat ∧
                (t.station k).rotate = v.rotate.toNat ∧ (t.station k).count = (s.station k).count ∧
                (t.station k).loaded = (s.station k).loaded ∧
                (k.val < 4 → (t.station k).mediaClass = v.value.toNat) ∧
                (21 ≤ k.val → (t.station k).capacity = v.value.toNat)) ∧
          t.event .settings = (s.event .settings).raised .settings 0 (some (.settings .loaded)))

/-- Abort All: the REPLY first; every wave that is not IDLE ends with ABORT-ALL and its drives unload failed discs; a
drive in READY withdraws its blank, one in CLOSING has ABORT-ALL, one in VERIFYING unloads a failed disc; one in LOADING
withdraws a blank that is at its tray, closes its tray when its LOAD is retired, and otherwise goes on; unpicked LOADs
whose PICK has not been sent are gone, each reservation with them, and discs not yet picked no longer go to PR; a print
fails; auto-feed and its held copy are clear. The order of the blocks is log entry 8 (DESIGN CHOICE). -/
def Obligations.AbortAllEffect : Prop :=
  ∀ (f : CmdFrame) (s : State), f.body = [] → s.handlesAsNew f.tag f.resend →
    ∃ t u, exec (.abortAll f) s = .next t ∧ t = u.arbiter ∧ Replied f.tag .ok s u ∧
      Joined [(cmdReply f 26).frame .ok] s u ∧
      (s.transport.parkWaiting = false → u.transport.mode = s.transport.mode) ∧
      u.transport.autoFeed = false ∧ u.transport.heldCopy = false ∧
      (∀ w, if (s.wave w).state = .idle then u.wave w = s.wave w else (u.wave w).atIdle .abortAll) ∧
      (∀ i, (s.image i).state = .filling → (∃ w, (s.image i).fillingWave = some w ∧ (s.wave w).state ≠ .idle ∧
        (s.wave w).slot = some i) → (u.image i).state = .defined) ∧
      let aborted := fun e : Entry => decide (e.kind = .load) && e.token.isNone && !e.pickSent
      (∀ o, (u.order o).inProgress =
        (s.order o).inProgress - (s.queue.filter (fun e => aborted e && decide (e.order = some o))).length) ∧
      (∀ d,
        let attached := ∃ w, (s.wave w).state ≠ .idle ∧ (s.wave w).attachment d ≠ none
        let placed := (s.drive d).phase = .speedSet ∨ (s.drive d).phase = .mediaSense ∨
          ((s.drive d).phase = .trayClosing ∧ (s.drive d).trayRecord ≠ none)
        (¬ attached → (s.drive d).state = .loading → placed → ∀ r i, s.trayRecordOf d = some r →
          r.origin = .spindle i → (u.drive d).unloadingWith .return) ∧
        (¬ attached → (s.drive d).state = .loading → ¬ placed →
          ((s.drive d).entry = some .load → (∃ e ∈ s.queue, aborted e = true ∧ e.drive = some d) →
            (u.drive d).state = .loading ∧ (u.drive d).phase = .trayClosing ∧ (u.drive d).entry = none ∧
            ((s.drive d).outstanding = none → (s.drive d).checkPhase = .idle →
              (u.drive d).outstanding = some { req := .trayClose, number := (s.drive d).nextNumber }) ∧
            ((s.drive d).outstanding ≠ none → (u.drive d).outstanding = (s.drive d).outstanding ∧
              (u.drive d).waiting = some .trayClose)) ∧
          ((s.drive d).entry ≠ some .load ∨ (∀ e ∈ s.queue, aborted e = true → e.drive ≠ some d) →
            u.drive d = s.drive d)) ∧
        (attached → (u.drive d).unloadingWith .unload ∧ BurnFailed d .abortAll s u) ∧
        (¬ attached → ((s.drive d).state = .absent ∨ (s.drive d).state = .empty ∨ (s.drive d).state = .faulted ∨
          (s.drive d).state = .unloading) → u.drive d = s.drive d) ∧
        (¬ attached → (s.drive d).state = .closing → u.drive d = s.drive d ∧
          ∀ k, (s.drive d).trayRecord = some k → s.live k = true →
            (u.record k.num).cause = ((s.record k.num).cause <|> some .abortAll)) ∧
        (¬ attached → (s.drive d).state = .ready → ∀ r i, s.trayRecordOf d = some r → r.origin = .spindle i →
          (u.drive d).unloadingWith .return) ∧
        (¬ attached → (s.drive d).state = .verifying → (u.drive d).unloadingWith .unload ∧
          (u.save d).sub = .outside ∧ (u.save d).lastEnding = .abortAll ∧
          ∀ k, (s.drive d).trayRecord = some k → s.live k = true → (u.record k.num).verify = .fail ∧
            (u.record k.num).cause = ((s.record k.num).cause <|> some .abortAll))) ∧
      (∀ m, s.awaitsPrint m = true → (u.record m).cause = some .abortAll) ∧
      (∀ e ∈ u.queue, e.kind = .load → e.token ≠ none ∨ e.pickSent = true) ∧
      (∀ e ∈ u.queue, e.kind = .unload → e.dest = .station stationPR → u.picked e = true) ∧
      (if s.printer.state = .printing then u.printer.state = .discharge ∧ u.printer.phase = .ejecting ∧
          u.printer.snapshot = none ∧ u.printer.faultRun = s.printer.faultRun ∧ ∀ p, s.printer.snapshot = some p →
            (u.template p.template).voided =
              (s.template p.template).voided + (if p.serial.isSome then 1 else 0)
        else u.templates = s.templates) ∧
      Changes (Part.all.filter (fun p => decide (p ≠ .pending ∧ p ≠ .settings ∧ p ≠ .stations ∧ p ≠ .ladder))) s u

/-! ### Laws that every step keeps -/

/-- The laws of an event class (R195, R197): a record that is not pending holds nothing, and one EVENT frame of the
class stands in the outbound list exactly while the class is enabled and pending. Every step keeps them. -/
def Obligations.EventsStayLawful : Prop :=
  ∀ s t : State, (∀ c, s.eventLawful c) → step s = .next t → ∀ c, t.eventLawful c

/-- The laws of the window pool and the waves (R17, R18, R34): no wave holds more than its window, the windows
together never exceed the pool, an IDLE wave has its IDLE values, and a timer runs only for a full window. Every step
keeps them. -/
def Obligations.WavesStayLawful : Prop :=
  ∀ s t : State, (∀ w, (s.wave w).lawful) ∧ s.capacitySum ≤ 65536 → step s = .next t →
    (∀ w, (t.wave w).lawful) ∧ t.capacitySum ≤ 65536

/-- The laws of the assignments (R71), the artwork slots (R163, R166) and the transport record (R155, R157), each
kept by every step. -/
def Obligations.RecordsStayLawful : Prop :=
  ∀ s t : State, step s = .next t →
    ((∀ d, (s.drive d).lawful) → ∀ d, (t.drive d).lawful) ∧
    ((∀ a, (s.artwork a).lawful) → ∀ a, (t.artwork a).lawful) ∧
    (s.transport.lawful → t.transport.lawful)

/-- The state right after reset has the laws that every step keeps. -/
def Obligations.ResetIsLawful : Prop :=
  (∀ c, State.reset.eventLawful c) ∧ (∀ w, (State.reset.wave w).lawful) ∧ State.reset.capacitySum ≤ 65536 ∧
    (∀ d, (State.reset.drive d).lawful) ∧ (∀ a, (State.reset.artwork a).lawful) ∧ State.reset.transport.lawful
end

