-- ==== Sys2Proof/Laws/State.lean ====
section
/-! SUPPORT. One lemma per field and update of `State`, each true by definition. -/

namespace Sys2Proof.Machine.State

@[simp] theorem modImage_images (s : State) (i : SlotNo) (f : ImageSlot → ImageSlot) : (s.modImage i f).images = s.images.set i.val (f (s.image i)) i.isLt := rfl
@[simp] theorem modImage_accs (s : State) (i : SlotNo) (f : ImageSlot → ImageSlot) : (s.modImage i f).accs = s.accs := rfl
@[simp] theorem modImage_waves (s : State) (i : SlotNo) (f : ImageSlot → ImageSlot) : (s.modImage i f).waves = s.waves := rfl
@[simp] theorem modImage_drives (s : State) (i : SlotNo) (f : ImageSlot → ImageSlot) : (s.modImage i f).drives = s.drives := rfl
@[simp] theorem modImage_ladder (s : State) (i : SlotNo) (f : ImageSlot → ImageSlot) : (s.modImage i f).ladder = s.ladder := rfl
@[simp] theorem modImage_saves (s : State) (i : SlotNo) (f : ImageSlot → ImageSlot) : (s.modImage i f).saves = s.saves := rfl
@[simp] theorem modImage_verifyQueue (s : State) (i : SlotNo) (f : ImageSlot → ImageSlot) : (s.modImage i f).verifyQueue = s.verifyQueue := rfl
@[simp] theorem modImage_contexts (s : State) (i : SlotNo) (f : ImageSlot → ImageSlot) : (s.modImage i f).contexts = s.contexts := rfl
@[simp] theorem modImage_orders (s : State) (i : SlotNo) (f : ImageSlot → ImageSlot) : (s.modImage i f).orders = s.orders := rfl
@[simp] theorem modImage_records (s : State) (i : SlotNo) (f : ImageSlot → ImageSlot) : (s.modImage i f).records = s.records := rfl
@[simp] theorem modImage_stations (s : State) (i : SlotNo) (f : ImageSlot → ImageSlot) : (s.modImage i f).stations = s.stations := rfl
@[simp] theorem modImage_queue (s : State) (i : SlotNo) (f : ImageSlot → ImageSlot) : (s.modImage i f).queue = s.queue := rfl
@[simp] theorem modImage_transport (s : State) (i : SlotNo) (f : ImageSlot → ImageSlot) : (s.modImage i f).transport = s.transport := rfl
@[simp] theorem modImage_artworks (s : State) (i : SlotNo) (f : ImageSlot → ImageSlot) : (s.modImage i f).artworks = s.artworks := rfl
@[simp] theorem modImage_templates (s : State) (i : SlotNo) (f : ImageSlot → ImageSlot) : (s.modImage i f).templates = s.templates := rfl
@[simp] theorem modImage_printer (s : State) (i : SlotNo) (f : ImageSlot → ImageSlot) : (s.modImage i f).printer = s.printer := rfl
@[simp] theorem modImage_feed (s : State) (i : SlotNo) (f : ImageSlot → ImageSlot) : (s.modImage i f).feed = s.feed := rfl
@[simp] theorem modImage_outbound (s : State) (i : SlotNo) (f : ImageSlot → ImageSlot) : (s.modImage i f).outbound = s.outbound := rfl
@[simp] theorem modImage_events (s : State) (i : SlotNo) (f : ImageSlot → ImageSlot) : (s.modImage i f).events = s.events := rfl
@[simp] theorem modImage_settings (s : State) (i : SlotNo) (f : ImageSlot → ImageSlot) : (s.modImage i f).settings = s.settings := rfl
@[simp] theorem modImage_pending (s : State) (i : SlotNo) (f : ImageSlot → ImageSlot) : (s.modImage i f).pending = s.pending := rfl

@[simp] theorem modAcc_images (s : State) (w : WaveNo) (f : Accumulator → Accumulator) : (s.modAcc w f).images = s.images := rfl
@[simp] theorem modAcc_accs (s : State) (w : WaveNo) (f : Accumulator → Accumulator) : (s.modAcc w f).accs = s.accs.set w.val (f (s.acc w)) w.isLt := rfl
@[simp] theorem modAcc_waves (s : State) (w : WaveNo) (f : Accumulator → Accumulator) : (s.modAcc w f).waves = s.waves := rfl
@[simp] theorem modAcc_drives (s : State) (w : WaveNo) (f : Accumulator → Accumulator) : (s.modAcc w f).drives = s.drives := rfl
@[simp] theorem modAcc_ladder (s : State) (w : WaveNo) (f : Accumulator → Accumulator) : (s.modAcc w f).ladder = s.ladder := rfl
@[simp] theorem modAcc_saves (s : State) (w : WaveNo) (f : Accumulator → Accumulator) : (s.modAcc w f).saves = s.saves := rfl
@[simp] theorem modAcc_verifyQueue (s : State) (w : WaveNo) (f : Accumulator → Accumulator) : (s.modAcc w f).verifyQueue = s.verifyQueue := rfl
@[simp] theorem modAcc_contexts (s : State) (w : WaveNo) (f : Accumulator → Accumulator) : (s.modAcc w f).contexts = s.contexts := rfl
@[simp] theorem modAcc_orders (s : State) (w : WaveNo) (f : Accumulator → Accumulator) : (s.modAcc w f).orders = s.orders := rfl
@[simp] theorem modAcc_records (s : State) (w : WaveNo) (f : Accumulator → Accumulator) : (s.modAcc w f).records = s.records := rfl
@[simp] theorem modAcc_stations (s : State) (w : WaveNo) (f : Accumulator → Accumulator) : (s.modAcc w f).stations = s.stations := rfl
@[simp] theorem modAcc_queue (s : State) (w : WaveNo) (f : Accumulator → Accumulator) : (s.modAcc w f).queue = s.queue := rfl
@[simp] theorem modAcc_transport (s : State) (w : WaveNo) (f : Accumulator → Accumulator) : (s.modAcc w f).transport = s.transport := rfl
@[simp] theorem modAcc_artworks (s : State) (w : WaveNo) (f : Accumulator → Accumulator) : (s.modAcc w f).artworks = s.artworks := rfl
@[simp] theorem modAcc_templates (s : State) (w : WaveNo) (f : Accumulator → Accumulator) : (s.modAcc w f).templates = s.templates := rfl
@[simp] theorem modAcc_printer (s : State) (w : WaveNo) (f : Accumulator → Accumulator) : (s.modAcc w f).printer = s.printer := rfl
@[simp] theorem modAcc_feed (s : State) (w : WaveNo) (f : Accumulator → Accumulator) : (s.modAcc w f).feed = s.feed := rfl
@[simp] theorem modAcc_outbound (s : State) (w : WaveNo) (f : Accumulator → Accumulator) : (s.modAcc w f).outbound = s.outbound := rfl
@[simp] theorem modAcc_events (s : State) (w : WaveNo) (f : Accumulator → Accumulator) : (s.modAcc w f).events = s.events := rfl
@[simp] theorem modAcc_settings (s : State) (w : WaveNo) (f : Accumulator → Accumulator) : (s.modAcc w f).settings = s.settings := rfl
@[simp] theorem modAcc_pending (s : State) (w : WaveNo) (f : Accumulator → Accumulator) : (s.modAcc w f).pending = s.pending := rfl

@[simp] theorem modWave_images (s : State) (w : WaveNo) (f : Wave → Wave) : (s.modWave w f).images = s.images := rfl
@[simp] theorem modWave_accs (s : State) (w : WaveNo) (f : Wave → Wave) : (s.modWave w f).accs = s.accs := rfl
@[simp] theorem modWave_waves (s : State) (w : WaveNo) (f : Wave → Wave) : (s.modWave w f).waves = s.waves.set w.val (f (s.wave w)) w.isLt := rfl
@[simp] theorem modWave_drives (s : State) (w : WaveNo) (f : Wave → Wave) : (s.modWave w f).drives = s.drives := rfl
@[simp] theorem modWave_ladder (s : State) (w : WaveNo) (f : Wave → Wave) : (s.modWave w f).ladder = s.ladder := rfl
@[simp] theorem modWave_saves (s : State) (w : WaveNo) (f : Wave → Wave) : (s.modWave w f).saves = s.saves := rfl
@[simp] theorem modWave_verifyQueue (s : State) (w : WaveNo) (f : Wave → Wave) : (s.modWave w f).verifyQueue = s.verifyQueue := rfl
@[simp] theorem modWave_contexts (s : State) (w : WaveNo) (f : Wave → Wave) : (s.modWave w f).contexts = s.contexts := rfl
@[simp] theorem modWave_orders (s : State) (w : WaveNo) (f : Wave → Wave) : (s.modWave w f).orders = s.orders := rfl
@[simp] theorem modWave_records (s : State) (w : WaveNo) (f : Wave → Wave) : (s.modWave w f).records = s.records := rfl
@[simp] theorem modWave_stations (s : State) (w : WaveNo) (f : Wave → Wave) : (s.modWave w f).stations = s.stations := rfl
@[simp] theorem modWave_queue (s : State) (w : WaveNo) (f : Wave → Wave) : (s.modWave w f).queue = s.queue := rfl
@[simp] theorem modWave_transport (s : State) (w : WaveNo) (f : Wave → Wave) : (s.modWave w f).transport = s.transport := rfl
@[simp] theorem modWave_artworks (s : State) (w : WaveNo) (f : Wave → Wave) : (s.modWave w f).artworks = s.artworks := rfl
@[simp] theorem modWave_templates (s : State) (w : WaveNo) (f : Wave → Wave) : (s.modWave w f).templates = s.templates := rfl
@[simp] theorem modWave_printer (s : State) (w : WaveNo) (f : Wave → Wave) : (s.modWave w f).printer = s.printer := rfl
@[simp] theorem modWave_feed (s : State) (w : WaveNo) (f : Wave → Wave) : (s.modWave w f).feed = s.feed := rfl
@[simp] theorem modWave_outbound (s : State) (w : WaveNo) (f : Wave → Wave) : (s.modWave w f).outbound = s.outbound := rfl
@[simp] theorem modWave_events (s : State) (w : WaveNo) (f : Wave → Wave) : (s.modWave w f).events = s.events := rfl
@[simp] theorem modWave_settings (s : State) (w : WaveNo) (f : Wave → Wave) : (s.modWave w f).settings = s.settings := rfl
@[simp] theorem modWave_pending (s : State) (w : WaveNo) (f : Wave → Wave) : (s.modWave w f).pending = s.pending := rfl

@[simp] theorem modDrive_images (s : State) (d : Drive) (f : DriveSlot → DriveSlot) : (s.modDrive d f).images = s.images := rfl
@[simp] theorem modDrive_accs (s : State) (d : Drive) (f : DriveSlot → DriveSlot) : (s.modDrive d f).accs = s.accs := rfl
@[simp] theorem modDrive_waves (s : State) (d : Drive) (f : DriveSlot → DriveSlot) : (s.modDrive d f).waves = s.waves := rfl
@[simp] theorem modDrive_drives (s : State) (d : Drive) (f : DriveSlot → DriveSlot) : (s.modDrive d f).drives = s.drives.set d.val (f (s.drive d)) d.isLt := rfl
@[simp] theorem modDrive_ladder (s : State) (d : Drive) (f : DriveSlot → DriveSlot) : (s.modDrive d f).ladder = s.ladder := rfl
@[simp] theorem modDrive_saves (s : State) (d : Drive) (f : DriveSlot → DriveSlot) : (s.modDrive d f).saves = s.saves := rfl
@[simp] theorem modDrive_verifyQueue (s : State) (d : Drive) (f : DriveSlot → DriveSlot) : (s.modDrive d f).verifyQueue = s.verifyQueue := rfl
@[simp] theorem modDrive_contexts (s : State) (d : Drive) (f : DriveSlot → DriveSlot) : (s.modDrive d f).contexts = s.contexts := rfl
@[simp] theorem modDrive_orders (s : State) (d : Drive) (f : DriveSlot → DriveSlot) : (s.modDrive d f).orders = s.orders := rfl
@[simp] theorem modDrive_records (s : State) (d : Drive) (f : DriveSlot → DriveSlot) : (s.modDrive d f).records = s.records := rfl
@[simp] theorem modDrive_stations (s : State) (d : Drive) (f : DriveSlot → DriveSlot) : (s.modDrive d f).stations = s.stations := rfl
@[simp] theorem modDrive_queue (s : State) (d : Drive) (f : DriveSlot → DriveSlot) : (s.modDrive d f).queue = s.queue := rfl
@[simp] theorem modDrive_transport (s : State) (d : Drive) (f : DriveSlot → DriveSlot) : (s.modDrive d f).transport = s.transport := rfl
@[simp] theorem modDrive_artworks (s : State) (d : Drive) (f : DriveSlot → DriveSlot) : (s.modDrive d f).artworks = s.artworks := rfl
@[simp] theorem modDrive_templates (s : State) (d : Drive) (f : DriveSlot → DriveSlot) : (s.modDrive d f).templates = s.templates := rfl
@[simp] theorem modDrive_printer (s : State) (d : Drive) (f : DriveSlot → DriveSlot) : (s.modDrive d f).printer = s.printer := rfl
@[simp] theorem modDrive_feed (s : State) (d : Drive) (f : DriveSlot → DriveSlot) : (s.modDrive d f).feed = s.feed := rfl
@[simp] theorem modDrive_outbound (s : State) (d : Drive) (f : DriveSlot → DriveSlot) : (s.modDrive d f).outbound = s.outbound := rfl
@[simp] theorem modDrive_events (s : State) (d : Drive) (f : DriveSlot → DriveSlot) : (s.modDrive d f).events = s.events := rfl
@[simp] theorem modDrive_settings (s : State) (d : Drive) (f : DriveSlot → DriveSlot) : (s.modDrive d f).settings = s.settings := rfl
@[simp] theorem modDrive_pending (s : State) (d : Drive) (f : DriveSlot → DriveSlot) : (s.modDrive d f).pending = s.pending := rfl

@[simp] theorem setCode_images (s : State) (r : Rung) (code : Byte) : (s.setCode r code).images = s.images := rfl
@[simp] theorem setCode_accs (s : State) (r : Rung) (code : Byte) : (s.setCode r code).accs = s.accs := rfl
@[simp] theorem setCode_waves (s : State) (r : Rung) (code : Byte) : (s.setCode r code).waves = s.waves := rfl
@[simp] theorem setCode_drives (s : State) (r : Rung) (code : Byte) : (s.setCode r code).drives = s.drives := rfl
@[simp] theorem setCode_ladder (s : State) (r : Rung) (code : Byte) : (s.setCode r code).ladder = s.ladder.set r.val code r.isLt := rfl
@[simp] theorem setCode_saves (s : State) (r : Rung) (code : Byte) : (s.setCode r code).saves = s.saves := rfl
@[simp] theorem setCode_verifyQueue (s : State) (r : Rung) (code : Byte) : (s.setCode r code).verifyQueue = s.verifyQueue := rfl
@[simp] theorem setCode_contexts (s : State) (r : Rung) (code : Byte) : (s.setCode r code).contexts = s.contexts := rfl
@[simp] theorem setCode_orders (s : State) (r : Rung) (code : Byte) : (s.setCode r code).orders = s.orders := rfl
@[simp] theorem setCode_records (s : State) (r : Rung) (code : Byte) : (s.setCode r code).records = s.records := rfl
@[simp] theorem setCode_stations (s : State) (r : Rung) (code : Byte) : (s.setCode r code).stations = s.stations := rfl
@[simp] theorem setCode_queue (s : State) (r : Rung) (code : Byte) : (s.setCode r code).queue = s.queue := rfl
@[simp] theorem setCode_transport (s : State) (r : Rung) (code : Byte) : (s.setCode r code).transport = s.transport := rfl
@[simp] theorem setCode_artworks (s : State) (r : Rung) (code : Byte) : (s.setCode r code).artworks = s.artworks := rfl
@[simp] theorem setCode_templates (s : State) (r : Rung) (code : Byte) : (s.setCode r code).templates = s.templates := rfl
@[simp] theorem setCode_printer (s : State) (r : Rung) (code : Byte) : (s.setCode r code).printer = s.printer := rfl
@[simp] theorem setCode_feed (s : State) (r : Rung) (code : Byte) : (s.setCode r code).feed = s.feed := rfl
@[simp] theorem setCode_outbound (s : State) (r : Rung) (code : Byte) : (s.setCode r code).outbound = s.outbound := rfl
@[simp] theorem setCode_events (s : State) (r : Rung) (code : Byte) : (s.setCode r code).events = s.events := rfl
@[simp] theorem setCode_settings (s : State) (r : Rung) (code : Byte) : (s.setCode r code).settings = s.settings := rfl
@[simp] theorem setCode_pending (s : State) (r : Rung) (code : Byte) : (s.setCode r code).pending = s.pending := rfl

@[simp] theorem modSave_images (s : State) (d : Drive) (f : VerifySave → VerifySave) : (s.modSave d f).images = s.images := rfl
@[simp] theorem modSave_accs (s : State) (d : Drive) (f : VerifySave → VerifySave) : (s.modSave d f).accs = s.accs := rfl
@[simp] theorem modSave_waves (s : State) (d : Drive) (f : VerifySave → VerifySave) : (s.modSave d f).waves = s.waves := rfl
@[simp] theorem modSave_drives (s : State) (d : Drive) (f : VerifySave → VerifySave) : (s.modSave d f).drives = s.drives := rfl
@[simp] theorem modSave_ladder (s : State) (d : Drive) (f : VerifySave → VerifySave) : (s.modSave d f).ladder = s.ladder := rfl
@[simp] theorem modSave_saves (s : State) (d : Drive) (f : VerifySave → VerifySave) : (s.modSave d f).saves = s.saves.set d.val (f (s.save d)) d.isLt := rfl
@[simp] theorem modSave_verifyQueue (s : State) (d : Drive) (f : VerifySave → VerifySave) : (s.modSave d f).verifyQueue = s.verifyQueue := rfl
@[simp] theorem modSave_contexts (s : State) (d : Drive) (f : VerifySave → VerifySave) : (s.modSave d f).contexts = s.contexts := rfl
@[simp] theorem modSave_orders (s : State) (d : Drive) (f : VerifySave → VerifySave) : (s.modSave d f).orders = s.orders := rfl
@[simp] theorem modSave_records (s : State) (d : Drive) (f : VerifySave → VerifySave) : (s.modSave d f).records = s.records := rfl
@[simp] theorem modSave_stations (s : State) (d : Drive) (f : VerifySave → VerifySave) : (s.modSave d f).stations = s.stations := rfl
@[simp] theorem modSave_queue (s : State) (d : Drive) (f : VerifySave → VerifySave) : (s.modSave d f).queue = s.queue := rfl
@[simp] theorem modSave_transport (s : State) (d : Drive) (f : VerifySave → VerifySave) : (s.modSave d f).transport = s.transport := rfl
@[simp] theorem modSave_artworks (s : State) (d : Drive) (f : VerifySave → VerifySave) : (s.modSave d f).artworks = s.artworks := rfl
@[simp] theorem modSave_templates (s : State) (d : Drive) (f : VerifySave → VerifySave) : (s.modSave d f).templates = s.templates := rfl
@[simp] theorem modSave_printer (s : State) (d : Drive) (f : VerifySave → VerifySave) : (s.modSave d f).printer = s.printer := rfl
@[simp] theorem modSave_feed (s : State) (d : Drive) (f : VerifySave → VerifySave) : (s.modSave d f).feed = s.feed := rfl
@[simp] theorem modSave_outbound (s : State) (d : Drive) (f : VerifySave → VerifySave) : (s.modSave d f).outbound = s.outbound := rfl
@[simp] theorem modSave_events (s : State) (d : Drive) (f : VerifySave → VerifySave) : (s.modSave d f).events = s.events := rfl
@[simp] theorem modSave_settings (s : State) (d : Drive) (f : VerifySave → VerifySave) : (s.modSave d f).settings = s.settings := rfl
@[simp] theorem modSave_pending (s : State) (d : Drive) (f : VerifySave → VerifySave) : (s.modSave d f).pending = s.pending := rfl

@[simp] theorem setVerifyQueue_images (s : State) (q : List Drive) : (s.setVerifyQueue q).images = s.images := rfl
@[simp] theorem setVerifyQueue_accs (s : State) (q : List Drive) : (s.setVerifyQueue q).accs = s.accs := rfl
@[simp] theorem setVerifyQueue_waves (s : State) (q : List Drive) : (s.setVerifyQueue q).waves = s.waves := rfl
@[simp] theorem setVerifyQueue_drives (s : State) (q : List Drive) : (s.setVerifyQueue q).drives = s.drives := rfl
@[simp] theorem setVerifyQueue_ladder (s : State) (q : List Drive) : (s.setVerifyQueue q).ladder = s.ladder := rfl
@[simp] theorem setVerifyQueue_saves (s : State) (q : List Drive) : (s.setVerifyQueue q).saves = s.saves := rfl
@[simp] theorem setVerifyQueue_verifyQueue (s : State) (q : List Drive) : (s.setVerifyQueue q).verifyQueue = q := rfl
@[simp] theorem setVerifyQueue_contexts (s : State) (q : List Drive) : (s.setVerifyQueue q).contexts = s.contexts := rfl
@[simp] theorem setVerifyQueue_orders (s : State) (q : List Drive) : (s.setVerifyQueue q).orders = s.orders := rfl
@[simp] theorem setVerifyQueue_records (s : State) (q : List Drive) : (s.setVerifyQueue q).records = s.records := rfl
@[simp] theorem setVerifyQueue_stations (s : State) (q : List Drive) : (s.setVerifyQueue q).stations = s.stations := rfl
@[simp] theorem setVerifyQueue_queue (s : State) (q : List Drive) : (s.setVerifyQueue q).queue = s.queue := rfl
@[simp] theorem setVerifyQueue_transport (s : State) (q : List Drive) : (s.setVerifyQueue q).transport = s.transport := rfl
@[simp] theorem setVerifyQueue_artworks (s : State) (q : List Drive) : (s.setVerifyQueue q).artworks = s.artworks := rfl
@[simp] theorem setVerifyQueue_templates (s : State) (q : List Drive) : (s.setVerifyQueue q).templates = s.templates := rfl
@[simp] theorem setVerifyQueue_printer (s : State) (q : List Drive) : (s.setVerifyQueue q).printer = s.printer := rfl
@[simp] theorem setVerifyQueue_feed (s : State) (q : List Drive) : (s.setVerifyQueue q).feed = s.feed := rfl
@[simp] theorem setVerifyQueue_outbound (s : State) (q : List Drive) : (s.setVerifyQueue q).outbound = s.outbound := rfl
@[simp] theorem setVerifyQueue_events (s : State) (q : List Drive) : (s.setVerifyQueue q).events = s.events := rfl
@[simp] theorem setVerifyQueue_settings (s : State) (q : List Drive) : (s.setVerifyQueue q).settings = s.settings := rfl
@[simp] theorem setVerifyQueue_pending (s : State) (q : List Drive) : (s.setVerifyQueue q).pending = s.pending := rfl

@[simp] theorem setContext_images (s : State) (c : Fin 4) (x : Option Context) : (s.setContext c x).images = s.images := rfl
@[simp] theorem setContext_accs (s : State) (c : Fin 4) (x : Option Context) : (s.setContext c x).accs = s.accs := rfl
@[simp] theorem setContext_waves (s : State) (c : Fin 4) (x : Option Context) : (s.setContext c x).waves = s.waves := rfl
@[simp] theorem setContext_drives (s : State) (c : Fin 4) (x : Option Context) : (s.setContext c x).drives = s.drives := rfl
@[simp] theorem setContext_ladder (s : State) (c : Fin 4) (x : Option Context) : (s.setContext c x).ladder = s.ladder := rfl
@[simp] theorem setContext_saves (s : State) (c : Fin 4) (x : Option Context) : (s.setContext c x).saves = s.saves := rfl
@[simp] theorem setContext_verifyQueue (s : State) (c : Fin 4) (x : Option Context) : (s.setContext c x).verifyQueue = s.verifyQueue := rfl
@[simp] theorem setContext_contexts (s : State) (c : Fin 4) (x : Option Context) : (s.setContext c x).contexts = s.contexts.set c.val x c.isLt := rfl
@[simp] theorem setContext_orders (s : State) (c : Fin 4) (x : Option Context) : (s.setContext c x).orders = s.orders := rfl
@[simp] theorem setContext_records (s : State) (c : Fin 4) (x : Option Context) : (s.setContext c x).records = s.records := rfl
@[simp] theorem setContext_stations (s : State) (c : Fin 4) (x : Option Context) : (s.setContext c x).stations = s.stations := rfl
@[simp] theorem setContext_queue (s : State) (c : Fin 4) (x : Option Context) : (s.setContext c x).queue = s.queue := rfl
@[simp] theorem setContext_transport (s : State) (c : Fin 4) (x : Option Context) : (s.setContext c x).transport = s.transport := rfl
@[simp] theorem setContext_artworks (s : State) (c : Fin 4) (x : Option Context) : (s.setContext c x).artworks = s.artworks := rfl
@[simp] theorem setContext_templates (s : State) (c : Fin 4) (x : Option Context) : (s.setContext c x).templates = s.templates := rfl
@[simp] theorem setContext_printer (s : State) (c : Fin 4) (x : Option Context) : (s.setContext c x).printer = s.printer := rfl
@[simp] theorem setContext_feed (s : State) (c : Fin 4) (x : Option Context) : (s.setContext c x).feed = s.feed := rfl
@[simp] theorem setContext_outbound (s : State) (c : Fin 4) (x : Option Context) : (s.setContext c x).outbound = s.outbound := rfl
@[simp] theorem setContext_events (s : State) (c : Fin 4) (x : Option Context) : (s.setContext c x).events = s.events := rfl
@[simp] theorem setContext_settings (s : State) (c : Fin 4) (x : Option Context) : (s.setContext c x).settings = s.settings := rfl
@[simp] theorem setContext_pending (s : State) (c : Fin 4) (x : Option Context) : (s.setContext c x).pending = s.pending := rfl

@[simp] theorem modOrder_images (s : State) (o : OrderNo) (f : Order → Order) : (s.modOrder o f).images = s.images := rfl
@[simp] theorem modOrder_accs (s : State) (o : OrderNo) (f : Order → Order) : (s.modOrder o f).accs = s.accs := rfl
@[simp] theorem modOrder_waves (s : State) (o : OrderNo) (f : Order → Order) : (s.modOrder o f).waves = s.waves := rfl
@[simp] theorem modOrder_drives (s : State) (o : OrderNo) (f : Order → Order) : (s.modOrder o f).drives = s.drives := rfl
@[simp] theorem modOrder_ladder (s : State) (o : OrderNo) (f : Order → Order) : (s.modOrder o f).ladder = s.ladder := rfl
@[simp] theorem modOrder_saves (s : State) (o : OrderNo) (f : Order → Order) : (s.modOrder o f).saves = s.saves := rfl
@[simp] theorem modOrder_verifyQueue (s : State) (o : OrderNo) (f : Order → Order) : (s.modOrder o f).verifyQueue = s.verifyQueue := rfl
@[simp] theorem modOrder_contexts (s : State) (o : OrderNo) (f : Order → Order) : (s.modOrder o f).contexts = s.contexts := rfl
@[simp] theorem modOrder_orders (s : State) (o : OrderNo) (f : Order → Order) : (s.modOrder o f).orders = s.orders.set o.val (f (s.order o)) o.isLt := rfl
@[simp] theorem modOrder_records (s : State) (o : OrderNo) (f : Order → Order) : (s.modOrder o f).records = s.records := rfl
@[simp] theorem modOrder_stations (s : State) (o : OrderNo) (f : Order → Order) : (s.modOrder o f).stations = s.stations := rfl
@[simp] theorem modOrder_queue (s : State) (o : OrderNo) (f : Order → Order) : (s.modOrder o f).queue = s.queue := rfl
@[simp] theorem modOrder_transport (s : State) (o : OrderNo) (f : Order → Order) : (s.modOrder o f).transport = s.transport := rfl
@[simp] theorem modOrder_artworks (s : State) (o : OrderNo) (f : Order → Order) : (s.modOrder o f).artworks = s.artworks := rfl
@[simp] theorem modOrder_templates (s : State) (o : OrderNo) (f : Order → Order) : (s.modOrder o f).templates = s.templates := rfl
@[simp] theorem modOrder_printer (s : State) (o : OrderNo) (f : Order → Order) : (s.modOrder o f).printer = s.printer := rfl
@[simp] theorem modOrder_feed (s : State) (o : OrderNo) (f : Order → Order) : (s.modOrder o f).feed = s.feed := rfl
@[simp] theorem modOrder_outbound (s : State) (o : OrderNo) (f : Order → Order) : (s.modOrder o f).outbound = s.outbound := rfl
@[simp] theorem modOrder_events (s : State) (o : OrderNo) (f : Order → Order) : (s.modOrder o f).events = s.events := rfl
@[simp] theorem modOrder_settings (s : State) (o : OrderNo) (f : Order → Order) : (s.modOrder o f).settings = s.settings := rfl
@[simp] theorem modOrder_pending (s : State) (o : OrderNo) (f : Order → Order) : (s.modOrder o f).pending = s.pending := rfl

@[simp] theorem modRecord_images (s : State) (n : RecNo) (f : DiscRecord → DiscRecord) : (s.modRecord n f).images = s.images := rfl
@[simp] theorem modRecord_accs (s : State) (n : RecNo) (f : DiscRecord → DiscRecord) : (s.modRecord n f).accs = s.accs := rfl
@[simp] theorem modRecord_waves (s : State) (n : RecNo) (f : DiscRecord → DiscRecord) : (s.modRecord n f).waves = s.waves := rfl
@[simp] theorem modRecord_drives (s : State) (n : RecNo) (f : DiscRecord → DiscRecord) : (s.modRecord n f).drives = s.drives := rfl
@[simp] theorem modRecord_ladder (s : State) (n : RecNo) (f : DiscRecord → DiscRecord) : (s.modRecord n f).ladder = s.ladder := rfl
@[simp] theorem modRecord_saves (s : State) (n : RecNo) (f : DiscRecord → DiscRecord) : (s.modRecord n f).saves = s.saves := rfl
@[simp] theorem modRecord_verifyQueue (s : State) (n : RecNo) (f : DiscRecord → DiscRecord) : (s.modRecord n f).verifyQueue = s.verifyQueue := rfl
@[simp] theorem modRecord_contexts (s : State) (n : RecNo) (f : DiscRecord → DiscRecord) : (s.modRecord n f).contexts = s.contexts := rfl
@[simp] theorem modRecord_orders (s : State) (n : RecNo) (f : DiscRecord → DiscRecord) : (s.modRecord n f).orders = s.orders := rfl
@[simp] theorem modRecord_records (s : State) (n : RecNo) (f : DiscRecord → DiscRecord) : (s.modRecord n f).records = s.records.set n.val (f (s.record n)) n.isLt := rfl
@[simp] theorem modRecord_stations (s : State) (n : RecNo) (f : DiscRecord → DiscRecord) : (s.modRecord n f).stations = s.stations := rfl
@[simp] theorem modRecord_queue (s : State) (n : RecNo) (f : DiscRecord → DiscRecord) : (s.modRecord n f).queue = s.queue := rfl
@[simp] theorem modRecord_transport (s : State) (n : RecNo) (f : DiscRecord → DiscRecord) : (s.modRecord n f).transport = s.transport := rfl
@[simp] theorem modRecord_artworks (s : State) (n : RecNo) (f : DiscRecord → DiscRecord) : (s.modRecord n f).artworks = s.artworks := rfl
@[simp] theorem modRecord_templates (s : State) (n : RecNo) (f : DiscRecord → DiscRecord) : (s.modRecord n f).templates = s.templates := rfl
@[simp] theorem modRecord_printer (s : State) (n : RecNo) (f : DiscRecord → DiscRecord) : (s.modRecord n f).printer = s.printer := rfl
@[simp] theorem modRecord_feed (s : State) (n : RecNo) (f : DiscRecord → DiscRecord) : (s.modRecord n f).feed = s.feed := rfl
@[simp] theorem modRecord_outbound (s : State) (n : RecNo) (f : DiscRecord → DiscRecord) : (s.modRecord n f).outbound = s.outbound := rfl
@[simp] theorem modRecord_events (s : State) (n : RecNo) (f : DiscRecord → DiscRecord) : (s.modRecord n f).events = s.events := rfl
@[simp] theorem modRecord_settings (s : State) (n : RecNo) (f : DiscRecord → DiscRecord) : (s.modRecord n f).settings = s.settings := rfl
@[simp] theorem modRecord_pending (s : State) (n : RecNo) (f : DiscRecord → DiscRecord) : (s.modRecord n f).pending = s.pending := rfl

@[simp] theorem modStation_images (s : State) (i : StationNo) (f : Station → Station) : (s.modStation i f).images = s.images := rfl
@[simp] theorem modStation_accs (s : State) (i : StationNo) (f : Station → Station) : (s.modStation i f).accs = s.accs := rfl
@[simp] theorem modStation_waves (s : State) (i : StationNo) (f : Station → Station) : (s.modStation i f).waves = s.waves := rfl
@[simp] theorem modStation_drives (s : State) (i : StationNo) (f : Station → Station) : (s.modStation i f).drives = s.drives := rfl
@[simp] theorem modStation_ladder (s : State) (i : StationNo) (f : Station → Station) : (s.modStation i f).ladder = s.ladder := rfl
@[simp] theorem modStation_saves (s : State) (i : StationNo) (f : Station → Station) : (s.modStation i f).saves = s.saves := rfl
@[simp] theorem modStation_verifyQueue (s : State) (i : StationNo) (f : Station → Station) : (s.modStation i f).verifyQueue = s.verifyQueue := rfl
@[simp] theorem modStation_contexts (s : State) (i : StationNo) (f : Station → Station) : (s.modStation i f).contexts = s.contexts := rfl
@[simp] theorem modStation_orders (s : State) (i : StationNo) (f : Station → Station) : (s.modStation i f).orders = s.orders := rfl
@[simp] theorem modStation_records (s : State) (i : StationNo) (f : Station → Station) : (s.modStation i f).records = s.records := rfl
@[simp] theorem modStation_stations (s : State) (i : StationNo) (f : Station → Station) : (s.modStation i f).stations = s.stations.set i.val (f (s.station i)) i.isLt := rfl
@[simp] theorem modStation_queue (s : State) (i : StationNo) (f : Station → Station) : (s.modStation i f).queue = s.queue := rfl
@[simp] theorem modStation_transport (s : State) (i : StationNo) (f : Station → Station) : (s.modStation i f).transport = s.transport := rfl
@[simp] theorem modStation_artworks (s : State) (i : StationNo) (f : Station → Station) : (s.modStation i f).artworks = s.artworks := rfl
@[simp] theorem modStation_templates (s : State) (i : StationNo) (f : Station → Station) : (s.modStation i f).templates = s.templates := rfl
@[simp] theorem modStation_printer (s : State) (i : StationNo) (f : Station → Station) : (s.modStation i f).printer = s.printer := rfl
@[simp] theorem modStation_feed (s : State) (i : StationNo) (f : Station → Station) : (s.modStation i f).feed = s.feed := rfl
@[simp] theorem modStation_outbound (s : State) (i : StationNo) (f : Station → Station) : (s.modStation i f).outbound = s.outbound := rfl
@[simp] theorem modStation_events (s : State) (i : StationNo) (f : Station → Station) : (s.modStation i f).events = s.events := rfl
@[simp] theorem modStation_settings (s : State) (i : StationNo) (f : Station → Station) : (s.modStation i f).settings = s.settings := rfl
@[simp] theorem modStation_pending (s : State) (i : StationNo) (f : Station → Station) : (s.modStation i f).pending = s.pending := rfl

@[simp] theorem setQueue_images (s : State) (q : List Entry) : (s.setQueue q).images = s.images := rfl
@[simp] theorem setQueue_accs (s : State) (q : List Entry) : (s.setQueue q).accs = s.accs := rfl
@[simp] theorem setQueue_waves (s : State) (q : List Entry) : (s.setQueue q).waves = s.waves := rfl
@[simp] theorem setQueue_drives (s : State) (q : List Entry) : (s.setQueue q).drives = s.drives := rfl
@[simp] theorem setQueue_ladder (s : State) (q : List Entry) : (s.setQueue q).ladder = s.ladder := rfl
@[simp] theorem setQueue_saves (s : State) (q : List Entry) : (s.setQueue q).saves = s.saves := rfl
@[simp] theorem setQueue_verifyQueue (s : State) (q : List Entry) : (s.setQueue q).verifyQueue = s.verifyQueue := rfl
@[simp] theorem setQueue_contexts (s : State) (q : List Entry) : (s.setQueue q).contexts = s.contexts := rfl
@[simp] theorem setQueue_orders (s : State) (q : List Entry) : (s.setQueue q).orders = s.orders := rfl
@[simp] theorem setQueue_records (s : State) (q : List Entry) : (s.setQueue q).records = s.records := rfl
@[simp] theorem setQueue_stations (s : State) (q : List Entry) : (s.setQueue q).stations = s.stations := rfl
@[simp] theorem setQueue_queue (s : State) (q : List Entry) : (s.setQueue q).queue = q := rfl
@[simp] theorem setQueue_transport (s : State) (q : List Entry) : (s.setQueue q).transport = s.transport := rfl
@[simp] theorem setQueue_artworks (s : State) (q : List Entry) : (s.setQueue q).artworks = s.artworks := rfl
@[simp] theorem setQueue_templates (s : State) (q : List Entry) : (s.setQueue q).templates = s.templates := rfl
@[simp] theorem setQueue_printer (s : State) (q : List Entry) : (s.setQueue q).printer = s.printer := rfl
@[simp] theorem setQueue_feed (s : State) (q : List Entry) : (s.setQueue q).feed = s.feed := rfl
@[simp] theorem setQueue_outbound (s : State) (q : List Entry) : (s.setQueue q).outbound = s.outbound := rfl
@[simp] theorem setQueue_events (s : State) (q : List Entry) : (s.setQueue q).events = s.events := rfl
@[simp] theorem setQueue_settings (s : State) (q : List Entry) : (s.setQueue q).settings = s.settings := rfl
@[simp] theorem setQueue_pending (s : State) (q : List Entry) : (s.setQueue q).pending = s.pending := rfl

@[simp] theorem modTransport_images (s : State) (f : Transport → Transport) : (s.modTransport f).images = s.images := rfl
@[simp] theorem modTransport_accs (s : State) (f : Transport → Transport) : (s.modTransport f).accs = s.accs := rfl
@[simp] theorem modTransport_waves (s : State) (f : Transport → Transport) : (s.modTransport f).waves = s.waves := rfl
@[simp] theorem modTransport_drives (s : State) (f : Transport → Transport) : (s.modTransport f).drives = s.drives := rfl
@[simp] theorem modTransport_ladder (s : State) (f : Transport → Transport) : (s.modTransport f).ladder = s.ladder := rfl
@[simp] theorem modTransport_saves (s : State) (f : Transport → Transport) : (s.modTransport f).saves = s.saves := rfl
@[simp] theorem modTransport_verifyQueue (s : State) (f : Transport → Transport) : (s.modTransport f).verifyQueue = s.verifyQueue := rfl
@[simp] theorem modTransport_contexts (s : State) (f : Transport → Transport) : (s.modTransport f).contexts = s.contexts := rfl
@[simp] theorem modTransport_orders (s : State) (f : Transport → Transport) : (s.modTransport f).orders = s.orders := rfl
@[simp] theorem modTransport_records (s : State) (f : Transport → Transport) : (s.modTransport f).records = s.records := rfl
@[simp] theorem modTransport_stations (s : State) (f : Transport → Transport) : (s.modTransport f).stations = s.stations := rfl
@[simp] theorem modTransport_queue (s : State) (f : Transport → Transport) : (s.modTransport f).queue = s.queue := rfl
@[simp] theorem modTransport_transport (s : State) (f : Transport → Transport) : (s.modTransport f).transport = f s.transport := rfl
@[simp] theorem modTransport_artworks (s : State) (f : Transport → Transport) : (s.modTransport f).artworks = s.artworks := rfl
@[simp] theorem modTransport_templates (s : State) (f : Transport → Transport) : (s.modTransport f).templates = s.templates := rfl
@[simp] theorem modTransport_printer (s : State) (f : Transport → Transport) : (s.modTransport f).printer = s.printer := rfl
@[simp] theorem modTransport_feed (s : State) (f : Transport → Transport) : (s.modTransport f).feed = s.feed := rfl
@[simp] theorem modTransport_outbound (s : State) (f : Transport → Transport) : (s.modTransport f).outbound = s.outbound := rfl
@[simp] theorem modTransport_events (s : State) (f : Transport → Transport) : (s.modTransport f).events = s.events := rfl
@[simp] theorem modTransport_settings (s : State) (f : Transport → Transport) : (s.modTransport f).settings = s.settings := rfl
@[simp] theorem modTransport_pending (s : State) (f : Transport → Transport) : (s.modTransport f).pending = s.pending := rfl

@[simp] theorem modArtwork_images (s : State) (a : ArtNo) (f : Artwork → Artwork) : (s.modArtwork a f).images = s.images := rfl
@[simp] theorem modArtwork_accs (s : State) (a : ArtNo) (f : Artwork → Artwork) : (s.modArtwork a f).accs = s.accs := rfl
@[simp] theorem modArtwork_waves (s : State) (a : ArtNo) (f : Artwork → Artwork) : (s.modArtwork a f).waves = s.waves := rfl
@[simp] theorem modArtwork_drives (s : State) (a : ArtNo) (f : Artwork → Artwork) : (s.modArtwork a f).drives = s.drives := rfl
@[simp] theorem modArtwork_ladder (s : State) (a : ArtNo) (f : Artwork → Artwork) : (s.modArtwork a f).ladder = s.ladder := rfl
@[simp] theorem modArtwork_saves (s : State) (a : ArtNo) (f : Artwork → Artwork) : (s.modArtwork a f).saves = s.saves := rfl
@[simp] theorem modArtwork_verifyQueue (s : State) (a : ArtNo) (f : Artwork → Artwork) : (s.modArtwork a f).verifyQueue = s.verifyQueue := rfl
@[simp] theorem modArtwork_contexts (s : State) (a : ArtNo) (f : Artwork → Artwork) : (s.modArtwork a f).contexts = s.contexts := rfl
@[simp] theorem modArtwork_orders (s : State) (a : ArtNo) (f : Artwork → Artwork) : (s.modArtwork a f).orders = s.orders := rfl
@[simp] theorem modArtwork_records (s : State) (a : ArtNo) (f : Artwork → Artwork) : (s.modArtwork a f).records = s.records := rfl
@[simp] theorem modArtwork_stations (s : State) (a : ArtNo) (f : Artwork → Artwork) : (s.modArtwork a f).stations = s.stations := rfl
@[simp] theorem modArtwork_queue (s : State) (a : ArtNo) (f : Artwork → Artwork) : (s.modArtwork a f).queue = s.queue := rfl
@[simp] theorem modArtwork_transport (s : State) (a : ArtNo) (f : Artwork → Artwork) : (s.modArtwork a f).transport = s.transport := rfl
@[simp] theorem modArtwork_artworks (s : State) (a : ArtNo) (f : Artwork → Artwork) : (s.modArtwork a f).artworks = s.artworks.set a.val (f (s.artwork a)) a.isLt := rfl
@[simp] theorem modArtwork_templates (s : State) (a : ArtNo) (f : Artwork → Artwork) : (s.modArtwork a f).templates = s.templates := rfl
@[simp] theorem modArtwork_printer (s : State) (a : ArtNo) (f : Artwork → Artwork) : (s.modArtwork a f).printer = s.printer := rfl
@[simp] theorem modArtwork_feed (s : State) (a : ArtNo) (f : Artwork → Artwork) : (s.modArtwork a f).feed = s.feed := rfl
@[simp] theorem modArtwork_outbound (s : State) (a : ArtNo) (f : Artwork → Artwork) : (s.modArtwork a f).outbound = s.outbound := rfl
@[simp] theorem modArtwork_events (s : State) (a : ArtNo) (f : Artwork → Artwork) : (s.modArtwork a f).events = s.events := rfl
@[simp] theorem modArtwork_settings (s : State) (a : ArtNo) (f : Artwork → Artwork) : (s.modArtwork a f).settings = s.settings := rfl
@[simp] theorem modArtwork_pending (s : State) (a : ArtNo) (f : Artwork → Artwork) : (s.modArtwork a f).pending = s.pending := rfl

@[simp] theorem modTemplate_images (s : State) (l : TmplNo) (f : Template → Template) : (s.modTemplate l f).images = s.images := rfl
@[simp] theorem modTemplate_accs (s : State) (l : TmplNo) (f : Template → Template) : (s.modTemplate l f).accs = s.accs := rfl
@[simp] theorem modTemplate_waves (s : State) (l : TmplNo) (f : Template → Template) : (s.modTemplate l f).waves = s.waves := rfl
@[simp] theorem modTemplate_drives (s : State) (l : TmplNo) (f : Template → Template) : (s.modTemplate l f).drives = s.drives := rfl
@[simp] theorem modTemplate_ladder (s : State) (l : TmplNo) (f : Template → Template) : (s.modTemplate l f).ladder = s.ladder := rfl
@[simp] theorem modTemplate_saves (s : State) (l : TmplNo) (f : Template → Template) : (s.modTemplate l f).saves = s.saves := rfl
@[simp] theorem modTemplate_verifyQueue (s : State) (l : TmplNo) (f : Template → Template) : (s.modTemplate l f).verifyQueue = s.verifyQueue := rfl
@[simp] theorem modTemplate_contexts (s : State) (l : TmplNo) (f : Template → Template) : (s.modTemplate l f).contexts = s.contexts := rfl
@[simp] theorem modTemplate_orders (s : State) (l : TmplNo) (f : Template → Template) : (s.modTemplate l f).orders = s.orders := rfl
@[simp] theorem modTemplate_records (s : State) (l : TmplNo) (f : Template → Template) : (s.modTemplate l f).records = s.records := rfl
@[simp] theorem modTemplate_stations (s : State) (l : TmplNo) (f : Template → Template) : (s.modTemplate l f).stations = s.stations := rfl
@[simp] theorem modTemplate_queue (s : State) (l : TmplNo) (f : Template → Template) : (s.modTemplate l f).queue = s.queue := rfl
@[simp] theorem modTemplate_transport (s : State) (l : TmplNo) (f : Template → Template) : (s.modTemplate l f).transport = s.transport := rfl
@[simp] theorem modTemplate_artworks (s : State) (l : TmplNo) (f : Template → Template) : (s.modTemplate l f).artworks = s.artworks := rfl
@[simp] theorem modTemplate_templates (s : State) (l : TmplNo) (f : Template → Template) : (s.modTemplate l f).templates = s.templates.set l.val (f (s.template l)) l.isLt := rfl
@[simp] theorem modTemplate_printer (s : State) (l : TmplNo) (f : Template → Template) : (s.modTemplate l f).printer = s.printer := rfl
@[simp] theorem modTemplate_feed (s : State) (l : TmplNo) (f : Template → Template) : (s.modTemplate l f).feed = s.feed := rfl
@[simp] theorem modTemplate_outbound (s : State) (l : TmplNo) (f : Template → Template) : (s.modTemplate l f).outbound = s.outbound := rfl
@[simp] theorem modTemplate_events (s : State) (l : TmplNo) (f : Template → Template) : (s.modTemplate l f).events = s.events := rfl
@[simp] theorem modTemplate_settings (s : State) (l : TmplNo) (f : Template → Template) : (s.modTemplate l f).settings = s.settings := rfl
@[simp] theorem modTemplate_pending (s : State) (l : TmplNo) (f : Template → Template) : (s.modTemplate l f).pending = s.pending := rfl

@[simp] theorem modPrinter_images (s : State) (f : Printer → Printer) : (s.modPrinter f).images = s.images := rfl
@[simp] theorem modPrinter_accs (s : State) (f : Printer → Printer) : (s.modPrinter f).accs = s.accs := rfl
@[simp] theorem modPrinter_waves (s : State) (f : Printer → Printer) : (s.modPrinter f).waves = s.waves := rfl
@[simp] theorem modPrinter_drives (s : State) (f : Printer → Printer) : (s.modPrinter f).drives = s.drives := rfl
@[simp] theorem modPrinter_ladder (s : State) (f : Printer → Printer) : (s.modPrinter f).ladder = s.ladder := rfl
@[simp] theorem modPrinter_saves (s : State) (f : Printer → Printer) : (s.modPrinter f).saves = s.saves := rfl
@[simp] theorem modPrinter_verifyQueue (s : State) (f : Printer → Printer) : (s.modPrinter f).verifyQueue = s.verifyQueue := rfl
@[simp] theorem modPrinter_contexts (s : State) (f : Printer → Printer) : (s.modPrinter f).contexts = s.contexts := rfl
@[simp] theorem modPrinter_orders (s : State) (f : Printer → Printer) : (s.modPrinter f).orders = s.orders := rfl
@[simp] theorem modPrinter_records (s : State) (f : Printer → Printer) : (s.modPrinter f).records = s.records := rfl
@[simp] theorem modPrinter_stations (s : State) (f : Printer → Printer) : (s.modPrinter f).stations = s.stations := rfl
@[simp] theorem modPrinter_queue (s : State) (f : Printer → Printer) : (s.modPrinter f).queue = s.queue := rfl
@[simp] theorem modPrinter_transport (s : State) (f : Printer → Printer) : (s.modPrinter f).transport = s.transport := rfl
@[simp] theorem modPrinter_artworks (s : State) (f : Printer → Printer) : (s.modPrinter f).artworks = s.artworks := rfl
@[simp] theorem modPrinter_templates (s : State) (f : Printer → Printer) : (s.modPrinter f).templates = s.templates := rfl
@[simp] theorem modPrinter_printer (s : State) (f : Printer → Printer) : (s.modPrinter f).printer = f s.printer := rfl
@[simp] theorem modPrinter_feed (s : State) (f : Printer → Printer) : (s.modPrinter f).feed = s.feed := rfl
@[simp] theorem modPrinter_outbound (s : State) (f : Printer → Printer) : (s.modPrinter f).outbound = s.outbound := rfl
@[simp] theorem modPrinter_events (s : State) (f : Printer → Printer) : (s.modPrinter f).events = s.events := rfl
@[simp] theorem modPrinter_settings (s : State) (f : Printer → Printer) : (s.modPrinter f).settings = s.settings := rfl
@[simp] theorem modPrinter_pending (s : State) (f : Printer → Printer) : (s.modPrinter f).pending = s.pending := rfl

@[simp] theorem modFeed_images (s : State) (f : FeedPort → FeedPort) : (s.modFeed f).images = s.images := rfl
@[simp] theorem modFeed_accs (s : State) (f : FeedPort → FeedPort) : (s.modFeed f).accs = s.accs := rfl
@[simp] theorem modFeed_waves (s : State) (f : FeedPort → FeedPort) : (s.modFeed f).waves = s.waves := rfl
@[simp] theorem modFeed_drives (s : State) (f : FeedPort → FeedPort) : (s.modFeed f).drives = s.drives := rfl
@[simp] theorem modFeed_ladder (s : State) (f : FeedPort → FeedPort) : (s.modFeed f).ladder = s.ladder := rfl
@[simp] theorem modFeed_saves (s : State) (f : FeedPort → FeedPort) : (s.modFeed f).saves = s.saves := rfl
@[simp] theorem modFeed_verifyQueue (s : State) (f : FeedPort → FeedPort) : (s.modFeed f).verifyQueue = s.verifyQueue := rfl
@[simp] theorem modFeed_contexts (s : State) (f : FeedPort → FeedPort) : (s.modFeed f).contexts = s.contexts := rfl
@[simp] theorem modFeed_orders (s : State) (f : FeedPort → FeedPort) : (s.modFeed f).orders = s.orders := rfl
@[simp] theorem modFeed_records (s : State) (f : FeedPort → FeedPort) : (s.modFeed f).records = s.records := rfl
@[simp] theorem modFeed_stations (s : State) (f : FeedPort → FeedPort) : (s.modFeed f).stations = s.stations := rfl
@[simp] theorem modFeed_queue (s : State) (f : FeedPort → FeedPort) : (s.modFeed f).queue = s.queue := rfl
@[simp] theorem modFeed_transport (s : State) (f : FeedPort → FeedPort) : (s.modFeed f).transport = s.transport := rfl
@[simp] theorem modFeed_artworks (s : State) (f : FeedPort → FeedPort) : (s.modFeed f).artworks = s.artworks := rfl
@[simp] theorem modFeed_templates (s : State) (f : FeedPort → FeedPort) : (s.modFeed f).templates = s.templates := rfl
@[simp] theorem modFeed_printer (s : State) (f : FeedPort → FeedPort) : (s.modFeed f).printer = s.printer := rfl
@[simp] theorem modFeed_feed (s : State) (f : FeedPort → FeedPort) : (s.modFeed f).feed = f s.feed := rfl
@[simp] theorem modFeed_outbound (s : State) (f : FeedPort → FeedPort) : (s.modFeed f).outbound = s.outbound := rfl
@[simp] theorem modFeed_events (s : State) (f : FeedPort → FeedPort) : (s.modFeed f).events = s.events := rfl
@[simp] theorem modFeed_settings (s : State) (f : FeedPort → FeedPort) : (s.modFeed f).settings = s.settings := rfl
@[simp] theorem modFeed_pending (s : State) (f : FeedPort → FeedPort) : (s.modFeed f).pending = s.pending := rfl

@[simp] theorem setOutbound_images (s : State) (l : List OutFrame) : (s.setOutbound l).images = s.images := rfl
@[simp] theorem setOutbound_accs (s : State) (l : List OutFrame) : (s.setOutbound l).accs = s.accs := rfl
@[simp] theorem setOutbound_waves (s : State) (l : List OutFrame) : (s.setOutbound l).waves = s.waves := rfl
@[simp] theorem setOutbound_drives (s : State) (l : List OutFrame) : (s.setOutbound l).drives = s.drives := rfl
@[simp] theorem setOutbound_ladder (s : State) (l : List OutFrame) : (s.setOutbound l).ladder = s.ladder := rfl
@[simp] theorem setOutbound_saves (s : State) (l : List OutFrame) : (s.setOutbound l).saves = s.saves := rfl
@[simp] theorem setOutbound_verifyQueue (s : State) (l : List OutFrame) : (s.setOutbound l).verifyQueue = s.verifyQueue := rfl
@[simp] theorem setOutbound_contexts (s : State) (l : List OutFrame) : (s.setOutbound l).contexts = s.contexts := rfl
@[simp] theorem setOutbound_orders (s : State) (l : List OutFrame) : (s.setOutbound l).orders = s.orders := rfl
@[simp] theorem setOutbound_records (s : State) (l : List OutFrame) : (s.setOutbound l).records = s.records := rfl
@[simp] theorem setOutbound_stations (s : State) (l : List OutFrame) : (s.setOutbound l).stations = s.stations := rfl
@[simp] theorem setOutbound_queue (s : State) (l : List OutFrame) : (s.setOutbound l).queue = s.queue := rfl
@[simp] theorem setOutbound_transport (s : State) (l : List OutFrame) : (s.setOutbound l).transport = s.transport := rfl
@[simp] theorem setOutbound_artworks (s : State) (l : List OutFrame) : (s.setOutbound l).artworks = s.artworks := rfl
@[simp] theorem setOutbound_templates (s : State) (l : List OutFrame) : (s.setOutbound l).templates = s.templates := rfl
@[simp] theorem setOutbound_printer (s : State) (l : List OutFrame) : (s.setOutbound l).printer = s.printer := rfl
@[simp] theorem setOutbound_feed (s : State) (l : List OutFrame) : (s.setOutbound l).feed = s.feed := rfl
@[simp] theorem setOutbound_outbound (s : State) (l : List OutFrame) : (s.setOutbound l).outbound = l := rfl
@[simp] theorem setOutbound_events (s : State) (l : List OutFrame) : (s.setOutbound l).events = s.events := rfl
@[simp] theorem setOutbound_settings (s : State) (l : List OutFrame) : (s.setOutbound l).settings = s.settings := rfl
@[simp] theorem setOutbound_pending (s : State) (l : List OutFrame) : (s.setOutbound l).pending = s.pending := rfl

@[simp] theorem modEvent_images (s : State) (c : EventClass) (f : EventRecord → EventRecord) : (s.modEvent c f).images = s.images := rfl
@[simp] theorem modEvent_accs (s : State) (c : EventClass) (f : EventRecord → EventRecord) : (s.modEvent c f).accs = s.accs := rfl
@[simp] theorem modEvent_waves (s : State) (c : EventClass) (f : EventRecord → EventRecord) : (s.modEvent c f).waves = s.waves := rfl
@[simp] theorem modEvent_drives (s : State) (c : EventClass) (f : EventRecord → EventRecord) : (s.modEvent c f).drives = s.drives := rfl
@[simp] theorem modEvent_ladder (s : State) (c : EventClass) (f : EventRecord → EventRecord) : (s.modEvent c f).ladder = s.ladder := rfl
@[simp] theorem modEvent_saves (s : State) (c : EventClass) (f : EventRecord → EventRecord) : (s.modEvent c f).saves = s.saves := rfl
@[simp] theorem modEvent_verifyQueue (s : State) (c : EventClass) (f : EventRecord → EventRecord) : (s.modEvent c f).verifyQueue = s.verifyQueue := rfl
@[simp] theorem modEvent_contexts (s : State) (c : EventClass) (f : EventRecord → EventRecord) : (s.modEvent c f).contexts = s.contexts := rfl
@[simp] theorem modEvent_orders (s : State) (c : EventClass) (f : EventRecord → EventRecord) : (s.modEvent c f).orders = s.orders := rfl
@[simp] theorem modEvent_records (s : State) (c : EventClass) (f : EventRecord → EventRecord) : (s.modEvent c f).records = s.records := rfl
@[simp] theorem modEvent_stations (s : State) (c : EventClass) (f : EventRecord → EventRecord) : (s.modEvent c f).stations = s.stations := rfl
@[simp] theorem modEvent_queue (s : State) (c : EventClass) (f : EventRecord → EventRecord) : (s.modEvent c f).queue = s.queue := rfl
@[simp] theorem modEvent_transport (s : State) (c : EventClass) (f : EventRecord → EventRecord) : (s.modEvent c f).transport = s.transport := rfl
@[simp] theorem modEvent_artworks (s : State) (c : EventClass) (f : EventRecord → EventRecord) : (s.modEvent c f).artworks = s.artworks := rfl
@[simp] theorem modEvent_templates (s : State) (c : EventClass) (f : EventRecord → EventRecord) : (s.modEvent c f).templates = s.templates := rfl
@[simp] theorem modEvent_printer (s : State) (c : EventClass) (f : EventRecord → EventRecord) : (s.modEvent c f).printer = s.printer := rfl
@[simp] theorem modEvent_feed (s : State) (c : EventClass) (f : EventRecord → EventRecord) : (s.modEvent c f).feed = s.feed := rfl
@[simp] theorem modEvent_outbound (s : State) (c : EventClass) (f : EventRecord → EventRecord) : (s.modEvent c f).outbound = s.outbound := rfl
@[simp] theorem modEvent_events (s : State) (c : EventClass) (f : EventRecord → EventRecord) : (s.modEvent c f).events = s.events.set c.idx.val (f (s.event c)) c.idx.isLt := rfl
@[simp] theorem modEvent_settings (s : State) (c : EventClass) (f : EventRecord → EventRecord) : (s.modEvent c f).settings = s.settings := rfl
@[simp] theorem modEvent_pending (s : State) (c : EventClass) (f : EventRecord → EventRecord) : (s.modEvent c f).pending = s.pending := rfl

@[simp] theorem modSettings_images (s : State) (f : Settings → Settings) : (s.modSettings f).images = s.images := rfl
@[simp] theorem modSettings_accs (s : State) (f : Settings → Settings) : (s.modSettings f).accs = s.accs := rfl
@[simp] theorem modSettings_waves (s : State) (f : Settings → Settings) : (s.modSettings f).waves = s.waves := rfl
@[simp] theorem modSettings_drives (s : State) (f : Settings → Settings) : (s.modSettings f).drives = s.drives := rfl
@[simp] theorem modSettings_ladder (s : State) (f : Settings → Settings) : (s.modSettings f).ladder = s.ladder := rfl
@[simp] theorem modSettings_saves (s : State) (f : Settings → Settings) : (s.modSettings f).saves = s.saves := rfl
@[simp] theorem modSettings_verifyQueue (s : State) (f : Settings → Settings) : (s.modSettings f).verifyQueue = s.verifyQueue := rfl
@[simp] theorem modSettings_contexts (s : State) (f : Settings → Settings) : (s.modSettings f).contexts = s.contexts := rfl
@[simp] theorem modSettings_orders (s : State) (f : Settings → Settings) : (s.modSettings f).orders = s.orders := rfl
@[simp] theorem modSettings_records (s : State) (f : Settings → Settings) : (s.modSettings f).records = s.records := rfl
@[simp] theorem modSettings_stations (s : State) (f : Settings → Settings) : (s.modSettings f).stations = s.stations := rfl
@[simp] theorem modSettings_queue (s : State) (f : Settings → Settings) : (s.modSettings f).queue = s.queue := rfl
@[simp] theorem modSettings_transport (s : State) (f : Settings → Settings) : (s.modSettings f).transport = s.transport := rfl
@[simp] theorem modSettings_artworks (s : State) (f : Settings → Settings) : (s.modSettings f).artworks = s.artworks := rfl
@[simp] theorem modSettings_templates (s : State) (f : Settings → Settings) : (s.modSettings f).templates = s.templates := rfl
@[simp] theorem modSettings_printer (s : State) (f : Settings → Settings) : (s.modSettings f).printer = s.printer := rfl
@[simp] theorem modSettings_feed (s : State) (f : Settings → Settings) : (s.modSettings f).feed = s.feed := rfl
@[simp] theorem modSettings_outbound (s : State) (f : Settings → Settings) : (s.modSettings f).outbound = s.outbound := rfl
@[simp] theorem modSettings_events (s : State) (f : Settings → Settings) : (s.modSettings f).events = s.events := rfl
@[simp] theorem modSettings_settings (s : State) (f : Settings → Settings) : (s.modSettings f).settings = f s.settings := rfl
@[simp] theorem modSettings_pending (s : State) (f : Settings → Settings) : (s.modSettings f).pending = s.pending := rfl

@[simp] theorem withPending_images (s : State) (q : List Instr) : (s.withPending q).images = s.images := rfl
@[simp] theorem withPending_accs (s : State) (q : List Instr) : (s.withPending q).accs = s.accs := rfl
@[simp] theorem withPending_waves (s : State) (q : List Instr) : (s.withPending q).waves = s.waves := rfl
@[simp] theorem withPending_drives (s : State) (q : List Instr) : (s.withPending q).drives = s.drives := rfl
@[simp] theorem withPending_ladder (s : State) (q : List Instr) : (s.withPending q).ladder = s.ladder := rfl
@[simp] theorem withPending_saves (s : State) (q : List Instr) : (s.withPending q).saves = s.saves := rfl
@[simp] theorem withPending_verifyQueue (s : State) (q : List Instr) : (s.withPending q).verifyQueue = s.verifyQueue := rfl
@[simp] theorem withPending_contexts (s : State) (q : List Instr) : (s.withPending q).contexts = s.contexts := rfl
@[simp] theorem withPending_orders (s : State) (q : List Instr) : (s.withPending q).orders = s.orders := rfl
@[simp] theorem withPending_records (s : State) (q : List Instr) : (s.withPending q).records = s.records := rfl
@[simp] theorem withPending_stations (s : State) (q : List Instr) : (s.withPending q).stations = s.stations := rfl
@[simp] theorem withPending_queue (s : State) (q : List Instr) : (s.withPending q).queue = s.queue := rfl
@[simp] theorem withPending_transport (s : State) (q : List Instr) : (s.withPending q).transport = s.transport := rfl
@[simp] theorem withPending_artworks (s : State) (q : List Instr) : (s.withPending q).artworks = s.artworks := rfl
@[simp] theorem withPending_templates (s : State) (q : List Instr) : (s.withPending q).templates = s.templates := rfl
@[simp] theorem withPending_printer (s : State) (q : List Instr) : (s.withPending q).printer = s.printer := rfl
@[simp] theorem withPending_feed (s : State) (q : List Instr) : (s.withPending q).feed = s.feed := rfl
@[simp] theorem withPending_outbound (s : State) (q : List Instr) : (s.withPending q).outbound = s.outbound := rfl
@[simp] theorem withPending_events (s : State) (q : List Instr) : (s.withPending q).events = s.events := rfl
@[simp] theorem withPending_settings (s : State) (q : List Instr) : (s.withPending q).settings = s.settings := rfl
@[simp] theorem withPending_pending (s : State) (q : List Instr) : (s.withPending q).pending = q := rfl

/-- A read of table `image` after an update of one entry. -/
theorem image_modImage (s : State) (i j : SlotNo) (f : ImageSlot → ImageSlot) :
    (s.modImage i f).image j = if i = j then f (s.image i) else s.image j := by
  simp only [image, modImage, Vector.getElem_set, Fin.ext_iff]

@[simp] theorem image_modImage_self (s : State) (i : SlotNo) (f : ImageSlot → ImageSlot) : (s.modImage i f).image i = f (s.image i) := by
  simp [image_modImage]

theorem image_modImage_of_ne (s : State) (i j : SlotNo) (f : ImageSlot → ImageSlot) (h : i ≠ j) : (s.modImage i f).image j = s.image j := by
  simp [image_modImage, h]

/-- A read of table `acc` after an update of one entry. -/
theorem acc_modAcc (s : State) (i j : WaveNo) (f : Accumulator → Accumulator) :
    (s.modAcc i f).acc j = if i = j then f (s.acc i) else s.acc j := by
  simp only [acc, modAcc, Vector.getElem_set, Fin.ext_iff]

@[simp] theorem acc_modAcc_self (s : State) (i : WaveNo) (f : Accumulator → Accumulator) : (s.modAcc i f).acc i = f (s.acc i) := by
  simp [acc_modAcc]

theorem acc_modAcc_of_ne (s : State) (i j : WaveNo) (f : Accumulator → Accumulator) (h : i ≠ j) : (s.modAcc i f).acc j = s.acc j := by
  simp [acc_modAcc, h]

/-- A read of table `wave` after an update of one entry. -/
theorem wave_modWave (s : State) (i j : WaveNo) (f : Wave → Wave) :
    (s.modWave i f).wave j = if i = j then f (s.wave i) else s.wave j := by
  simp only [wave, modWave, Vector.getElem_set, Fin.ext_iff]

@[simp] theorem wave_modWave_self (s : State) (i : WaveNo) (f : Wave → Wave) : (s.modWave i f).wave i = f (s.wave i) := by
  simp [wave_modWave]

theorem wave_modWave_of_ne (s : State) (i j : WaveNo) (f : Wave → Wave) (h : i ≠ j) : (s.modWave i f).wave j = s.wave j := by
  simp [wave_modWave, h]

/-- A read of table `drive` after an update of one entry. -/
theorem drive_modDrive (s : State) (i j : Drive) (f : DriveSlot → DriveSlot) :
    (s.modDrive i f).drive j = if i = j then f (s.drive i) else s.drive j := by
  simp only [drive, modDrive, Vector.getElem_set, Fin.ext_iff]

@[simp] theorem drive_modDrive_self (s : State) (i : Drive) (f : DriveSlot → DriveSlot) : (s.modDrive i f).drive i = f (s.drive i) := by
  simp [drive_modDrive]

theorem drive_modDrive_of_ne (s : State) (i j : Drive) (f : DriveSlot → DriveSlot) (h : i ≠ j) : (s.modDrive i f).drive j = s.drive j := by
  simp [drive_modDrive, h]

/-- A read of table `save` after an update of one entry. -/
theorem save_modSave (s : State) (i j : Drive) (f : VerifySave → VerifySave) :
    (s.modSave i f).save j = if i = j then f (s.save i) else s.save j := by
  simp only [save, modSave, Vector.getElem_set, Fin.ext_iff]

@[simp] theorem save_modSave_self (s : State) (i : Drive) (f : VerifySave → VerifySave) : (s.modSave i f).save i = f (s.save i) := by
  simp [save_modSave]

theorem save_modSave_of_ne (s : State) (i j : Drive) (f : VerifySave → VerifySave) (h : i ≠ j) : (s.modSave i f).save j = s.save j := by
  simp [save_modSave, h]

/-- A read of table `order` after an update of one entry. -/
theorem order_modOrder (s : State) (i j : OrderNo) (f : Order → Order) :
    (s.modOrder i f).order j = if i = j then f (s.order i) else s.order j := by
  simp only [order, modOrder, Vector.getElem_set, Fin.ext_iff]

@[simp] theorem order_modOrder_self (s : State) (i : OrderNo) (f : Order → Order) : (s.modOrder i f).order i = f (s.order i) := by
  simp [order_modOrder]

theorem order_modOrder_of_ne (s : State) (i j : OrderNo) (f : Order → Order) (h : i ≠ j) : (s.modOrder i f).order j = s.order j := by
  simp [order_modOrder, h]

/-- A read of table `record` after an update of one entry. -/
theorem record_modRecord (s : State) (i j : RecNo) (f : DiscRecord → DiscRecord) :
    (s.modRecord i f).record j = if i = j then f (s.record i) else s.record j := by
  simp only [record, modRecord, Vector.getElem_set, Fin.ext_iff]

@[simp] theorem record_modRecord_self (s : State) (i : RecNo) (f : DiscRecord → DiscRecord) : (s.modRecord i f).record i = f (s.record i) := by
  simp [record_modRecord]

theorem record_modRecord_of_ne (s : State) (i j : RecNo) (f : DiscRecord → DiscRecord) (h : i ≠ j) : (s.modRecord i f).record j = s.record j := by
  simp [record_modRecord, h]

/-- A read of table `station` after an update of one entry. -/
theorem station_modStation (s : State) (i j : StationNo) (f : Station → Station) :
    (s.modStation i f).station j = if i = j then f (s.station i) else s.station j := by
  simp only [station, modStation, Vector.getElem_set, Fin.ext_iff]

@[simp] theorem station_modStation_self (s : State) (i : StationNo) (f : Station → Station) : (s.modStation i f).station i = f (s.station i) := by
  simp [station_modStation]

theorem station_modStation_of_ne (s : State) (i j : StationNo) (f : Station → Station) (h : i ≠ j) : (s.modStation i f).station j = s.station j := by
  simp [station_modStation, h]

/-- A read of table `artwork` after an update of one entry. -/
theorem artwork_modArtwork (s : State) (i j : ArtNo) (f : Artwork → Artwork) :
    (s.modArtwork i f).artwork j = if i = j then f (s.artwork i) else s.artwork j := by
  simp only [artwork, modArtwork, Vector.getElem_set, Fin.ext_iff]

@[simp] theorem artwork_modArtwork_self (s : State) (i : ArtNo) (f : Artwork → Artwork) : (s.modArtwork i f).artwork i = f (s.artwork i) := by
  simp [artwork_modArtwork]

theorem artwork_modArtwork_of_ne (s : State) (i j : ArtNo) (f : Artwork → Artwork) (h : i ≠ j) : (s.modArtwork i f).artwork j = s.artwork j := by
  simp [artwork_modArtwork, h]

/-- A read of table `template` after an update of one entry. -/
theorem template_modTemplate (s : State) (i j : TmplNo) (f : Template → Template) :
    (s.modTemplate i f).template j = if i = j then f (s.template i) else s.template j := by
  simp only [template, modTemplate, Vector.getElem_set, Fin.ext_iff]

@[simp] theorem template_modTemplate_self (s : State) (i : TmplNo) (f : Template → Template) : (s.modTemplate i f).template i = f (s.template i) := by
  simp [template_modTemplate]

theorem template_modTemplate_of_ne (s : State) (i j : TmplNo) (f : Template → Template) (h : i ≠ j) : (s.modTemplate i f).template j = s.template j := by
  simp [template_modTemplate, h]

/-- A read of the ladder after a write of one code. -/
theorem code_setCode (s : State) (r g : Rung) (c : Byte) : (s.setCode r c).code g = if r = g then c else s.code g := by
  simp only [code, setCode, Vector.getElem_set, Fin.ext_iff]

/-- A read of the contexts after one is replaced. -/
theorem context_setContext (s : State) (c k : Fin 4) (x : Option Context) :
    (s.setContext c x).context k = if c = k then x else s.context k := by
  simp only [context, setContext, Vector.getElem_set, Fin.ext_iff]

/-- Different classes have different records. -/
theorem idx_inj (c k : EventClass) : c.idx = k.idx ↔ c = k := by
  constructor
  · intro h
    revert h
    cases c <;> cases k <;> decide
  · rintro rfl
    rfl

/-- A read of the event records after an update of one. -/
theorem event_modEvent (s : State) (c k : EventClass) (f : EventRecord → EventRecord) :
    (s.modEvent c f).event k = if c = k then f (s.event c) else s.event k := by
  simp only [event, modEvent, Vector.getElem_set, ← idx_inj c k, Fin.ext_iff]

@[simp] theorem event_modEvent_self (s : State) (c : EventClass) (f : EventRecord → EventRecord) :
    (s.modEvent c f).event c = f (s.event c) := by
  simp [event_modEvent]

theorem image_congr {s t : State} (h : t.images = s.images) (i : SlotNo) : t.image i = s.image i := by
  simp only [image, h]

theorem acc_congr {s t : State} (h : t.accs = s.accs) (w : WaveNo) : t.acc w = s.acc w := by
  simp only [acc, h]

theorem wave_congr {s t : State} (h : t.waves = s.waves) (w : WaveNo) : t.wave w = s.wave w := by
  simp only [wave, h]

theorem drive_congr {s t : State} (h : t.drives = s.drives) (d : Drive) : t.drive d = s.drive d := by
  simp only [drive, h]

theorem code_congr {s t : State} (h : t.ladder = s.ladder) (r : Rung) : t.code r = s.code r := by
  simp only [code, h]

theorem save_congr {s t : State} (h : t.saves = s.saves) (d : Drive) : t.save d = s.save d := by
  simp only [save, h]

theorem context_congr {s t : State} (h : t.contexts = s.contexts) (c : Fin 4) : t.context c = s.context c := by
  simp only [context, h]

theorem order_congr {s t : State} (h : t.orders = s.orders) (o : OrderNo) : t.order o = s.order o := by
  simp only [order, h]

theorem record_congr {s t : State} (h : t.records = s.records) (n : RecNo) : t.record n = s.record n := by
  simp only [record, h]

theorem station_congr {s t : State} (h : t.stations = s.stations) (i : StationNo) : t.station i = s.station i := by
  simp only [station, h]

theorem artwork_congr {s t : State} (h : t.artworks = s.artworks) (a : ArtNo) : t.artwork a = s.artwork a := by
  simp only [artwork, h]

theorem template_congr {s t : State} (h : t.templates = s.templates) (l : TmplNo) : t.template l = s.template l := by
  simp only [template, h]

theorem event_congr {s t : State} (h : t.events = s.events) (c : EventClass) : t.event c = s.event c := by
  simp only [event, h]

@[simp] theorem acc_modImage' (s : State) (i : SlotNo) (f : ImageSlot → ImageSlot) (k : WaveNo) : (s.modImage i f).acc k = s.acc k := rfl
@[simp] theorem wave_modImage' (s : State) (i : SlotNo) (f : ImageSlot → ImageSlot) (k : WaveNo) : (s.modImage i f).wave k = s.wave k := rfl
@[simp] theorem drive_modImage' (s : State) (i : SlotNo) (f : ImageSlot → ImageSlot) (k : Drive) : (s.modImage i f).drive k = s.drive k := rfl
@[simp] theorem code_modImage' (s : State) (i : SlotNo) (f : ImageSlot → ImageSlot) (k : Rung) : (s.modImage i f).code k = s.code k := rfl
@[simp] theorem save_modImage' (s : State) (i : SlotNo) (f : ImageSlot → ImageSlot) (k : Drive) : (s.modImage i f).save k = s.save k := rfl
@[simp] theorem context_modImage' (s : State) (i : SlotNo) (f : ImageSlot → ImageSlot) (k : Fin 4) : (s.modImage i f).context k = s.context k := rfl
@[simp] theorem order_modImage' (s : State) (i : SlotNo) (f : ImageSlot → ImageSlot) (k : OrderNo) : (s.modImage i f).order k = s.order k := rfl
@[simp] theorem record_modImage' (s : State) (i : SlotNo) (f : ImageSlot → ImageSlot) (k : RecNo) : (s.modImage i f).record k = s.record k := rfl
@[simp] theorem station_modImage' (s : State) (i : SlotNo) (f : ImageSlot → ImageSlot) (k : StationNo) : (s.modImage i f).station k = s.station k := rfl
@[simp] theorem artwork_modImage' (s : State) (i : SlotNo) (f : ImageSlot → ImageSlot) (k : ArtNo) : (s.modImage i f).artwork k = s.artwork k := rfl
@[simp] theorem template_modImage' (s : State) (i : SlotNo) (f : ImageSlot → ImageSlot) (k : TmplNo) : (s.modImage i f).template k = s.template k := rfl
@[simp] theorem event_modImage' (s : State) (i : SlotNo) (f : ImageSlot → ImageSlot) (k : EventClass) : (s.modImage i f).event k = s.event k := rfl

@[simp] theorem image_modAcc' (s : State) (w : WaveNo) (f : Accumulator → Accumulator) (k : SlotNo) : (s.modAcc w f).image k = s.image k := rfl
@[simp] theorem wave_modAcc' (s : State) (w : WaveNo) (f : Accumulator → Accumulator) (k : WaveNo) : (s.modAcc w f).wave k = s.wave k := rfl
@[simp] theorem drive_modAcc' (s : State) (w : WaveNo) (f : Accumulator → Accumulator) (k : Drive) : (s.modAcc w f).drive k = s.drive k := rfl
@[simp] theorem code_modAcc' (s : State) (w : WaveNo) (f : Accumulator → Accumulator) (k : Rung) : (s.modAcc w f).code k = s.code k := rfl
@[simp] theorem save_modAcc' (s : State) (w : WaveNo) (f : Accumulator → Accumulator) (k : Drive) : (s.modAcc w f).save k = s.save k := rfl
@[simp] theorem context_modAcc' (s : State) (w : WaveNo) (f : Accumulator → Accumulator) (k : Fin 4) : (s.modAcc w f).context k = s.context k := rfl
@[simp] theorem order_modAcc' (s : State) (w : WaveNo) (f : Accumulator → Accumulator) (k : OrderNo) : (s.modAcc w f).order k = s.order k := rfl
@[simp] theorem record_modAcc' (s : State) (w : WaveNo) (f : Accumulator → Accumulator) (k : RecNo) : (s.modAcc w f).record k = s.record k := rfl
@[simp] theorem station_modAcc' (s : State) (w : WaveNo) (f : Accumulator → Accumulator) (k : StationNo) : (s.modAcc w f).station k = s.station k := rfl
@[simp] theorem artwork_modAcc' (s : State) (w : WaveNo) (f : Accumulator → Accumulator) (k : ArtNo) : (s.modAcc w f).artwork k = s.artwork k := rfl
@[simp] theorem template_modAcc' (s : State) (w : WaveNo) (f : Accumulator → Accumulator) (k : TmplNo) : (s.modAcc w f).template k = s.template k := rfl
@[simp] theorem event_modAcc' (s : State) (w : WaveNo) (f : Accumulator → Accumulator) (k : EventClass) : (s.modAcc w f).event k = s.event k := rfl

@[simp] theorem image_modWave' (s : State) (w : WaveNo) (f : Wave → Wave) (k : SlotNo) : (s.modWave w f).image k = s.image k := rfl
@[simp] theorem acc_modWave' (s : State) (w : WaveNo) (f : Wave → Wave) (k : WaveNo) : (s.modWave w f).acc k = s.acc k := rfl
@[simp] theorem drive_modWave' (s : State) (w : WaveNo) (f : Wave → Wave) (k : Drive) : (s.modWave w f).drive k = s.drive k := rfl
@[simp] theorem code_modWave' (s : State) (w : WaveNo) (f : Wave → Wave) (k : Rung) : (s.modWave w f).code k = s.code k := rfl
@[simp] theorem save_modWave' (s : State) (w : WaveNo) (f : Wave → Wave) (k : Drive) : (s.modWave w f).save k = s.save k := rfl
@[simp] theorem context_modWave' (s : State) (w : WaveNo) (f : Wave → Wave) (k : Fin 4) : (s.modWave w f).context k = s.context k := rfl
@[simp] theorem order_modWave' (s : State) (w : WaveNo) (f : Wave → Wave) (k : OrderNo) : (s.modWave w f).order k = s.order k := rfl
@[simp] theorem record_modWave' (s : State) (w : WaveNo) (f : Wave → Wave) (k : RecNo) : (s.modWave w f).record k = s.record k := rfl
@[simp] theorem station_modWave' (s : State) (w : WaveNo) (f : Wave → Wave) (k : StationNo) : (s.modWave w f).station k = s.station k := rfl
@[simp] theorem artwork_modWave' (s : State) (w : WaveNo) (f : Wave → Wave) (k : ArtNo) : (s.modWave w f).artwork k = s.artwork k := rfl
@[simp] theorem template_modWave' (s : State) (w : WaveNo) (f : Wave → Wave) (k : TmplNo) : (s.modWave w f).template k = s.template k := rfl
@[simp] theorem event_modWave' (s : State) (w : WaveNo) (f : Wave → Wave) (k : EventClass) : (s.modWave w f).event k = s.event k := rfl

@[simp] theorem image_modDrive' (s : State) (d : Drive) (f : DriveSlot → DriveSlot) (k : SlotNo) : (s.modDrive d f).image k = s.image k := rfl
@[simp] theorem acc_modDrive' (s : State) (d : Drive) (f : DriveSlot → DriveSlot) (k : WaveNo) : (s.modDrive d f).acc k = s.acc k := rfl
@[simp] theorem wave_modDrive' (s : State) (d : Drive) (f : DriveSlot → DriveSlot) (k : WaveNo) : (s.modDrive d f).wave k = s.wave k := rfl
@[simp] theorem code_modDrive' (s : State) (d : Drive) (f : DriveSlot → DriveSlot) (k : Rung) : (s.modDrive d f).code k = s.code k := rfl
@[simp] theorem save_modDrive' (s : State) (d : Drive) (f : DriveSlot → DriveSlot) (k : Drive) : (s.modDrive d f).save k = s.save k := rfl
@[simp] theorem context_modDrive' (s : State) (d : Drive) (f : DriveSlot → DriveSlot) (k : Fin 4) : (s.modDrive d f).context k = s.context k := rfl
@[simp] theorem order_modDrive' (s : State) (d : Drive) (f : DriveSlot → DriveSlot) (k : OrderNo) : (s.modDrive d f).order k = s.order k := rfl
@[simp] theorem record_modDrive' (s : State) (d : Drive) (f : DriveSlot → DriveSlot) (k : RecNo) : (s.modDrive d f).record k = s.record k := rfl
@[simp] theorem station_modDrive' (s : State) (d : Drive) (f : DriveSlot → DriveSlot) (k : StationNo) : (s.modDrive d f).station k = s.station k := rfl
@[simp] theorem artwork_modDrive' (s : State) (d : Drive) (f : DriveSlot → DriveSlot) (k : ArtNo) : (s.modDrive d f).artwork k = s.artwork k := rfl
@[simp] theorem template_modDrive' (s : State) (d : Drive) (f : DriveSlot → DriveSlot) (k : TmplNo) : (s.modDrive d f).template k = s.template k := rfl
@[simp] theorem event_modDrive' (s : State) (d : Drive) (f : DriveSlot → DriveSlot) (k : EventClass) : (s.modDrive d f).event k = s.event k := rfl

@[simp] theorem image_setCode' (s : State) (r : Rung) (code : Byte) (k : SlotNo) : (s.setCode r code).image k = s.image k := rfl
@[simp] theorem acc_setCode' (s : State) (r : Rung) (code : Byte) (k : WaveNo) : (s.setCode r code).acc k = s.acc k := rfl
@[simp] theorem wave_setCode' (s : State) (r : Rung) (code : Byte) (k : WaveNo) : (s.setCode r code).wave k = s.wave k := rfl
@[simp] theorem drive_setCode' (s : State) (r : Rung) (code : Byte) (k : Drive) : (s.setCode r code).drive k = s.drive k := rfl
@[simp] theorem save_setCode' (s : State) (r : Rung) (code : Byte) (k : Drive) : (s.setCode r code).save k = s.save k := rfl
@[simp] theorem context_setCode' (s : State) (r : Rung) (code : Byte) (k : Fin 4) : (s.setCode r code).context k = s.context k := rfl
@[simp] theorem order_setCode' (s : State) (r : Rung) (code : Byte) (k : OrderNo) : (s.setCode r code).order k = s.order k := rfl
@[simp] theorem record_setCode' (s : State) (r : Rung) (code : Byte) (k : RecNo) : (s.setCode r code).record k = s.record k := rfl
@[simp] theorem station_setCode' (s : State) (r : Rung) (code : Byte) (k : StationNo) : (s.setCode r code).station k = s.station k := rfl
@[simp] theorem artwork_setCode' (s : State) (r : Rung) (code : Byte) (k : ArtNo) : (s.setCode r code).artwork k = s.artwork k := rfl
@[simp] theorem template_setCode' (s : State) (r : Rung) (code : Byte) (k : TmplNo) : (s.setCode r code).template k = s.template k := rfl
@[simp] theorem event_setCode' (s : State) (r : Rung) (code : Byte) (k : EventClass) : (s.setCode r code).event k = s.event k := rfl

@[simp] theorem image_modSave' (s : State) (d : Drive) (f : VerifySave → VerifySave) (k : SlotNo) : (s.modSave d f).image k = s.image k := rfl
@[simp] theorem acc_modSave' (s : State) (d : Drive) (f : VerifySave → VerifySave) (k : WaveNo) : (s.modSave d f).acc k = s.acc k := rfl
@[simp] theorem wave_modSave' (s : State) (d : Drive) (f : VerifySave → VerifySave) (k : WaveNo) : (s.modSave d f).wave k = s.wave k := rfl
@[simp] theorem drive_modSave' (s : State) (d : Drive) (f : VerifySave → VerifySave) (k : Drive) : (s.modSave d f).drive k = s.drive k := rfl
@[simp] theorem code_modSave' (s : State) (d : Drive) (f : VerifySave → VerifySave) (k : Rung) : (s.modSave d f).code k = s.code k := rfl
@[simp] theorem context_modSave' (s : State) (d : Drive) (f : VerifySave → VerifySave) (k : Fin 4) : (s.modSave d f).context k = s.context k := rfl
@[simp] theorem order_modSave' (s : State) (d : Drive) (f : VerifySave → VerifySave) (k : OrderNo) : (s.modSave d f).order k = s.order k := rfl
@[simp] theorem record_modSave' (s : State) (d : Drive) (f : VerifySave → VerifySave) (k : RecNo) : (s.modSave d f).record k = s.record k := rfl
@[simp] theorem station_modSave' (s : State) (d : Drive) (f : VerifySave → VerifySave) (k : StationNo) : (s.modSave d f).station k = s.station k := rfl
@[simp] theorem artwork_modSave' (s : State) (d : Drive) (f : VerifySave → VerifySave) (k : ArtNo) : (s.modSave d f).artwork k = s.artwork k := rfl
@[simp] theorem template_modSave' (s : State) (d : Drive) (f : VerifySave → VerifySave) (k : TmplNo) : (s.modSave d f).template k = s.template k := rfl
@[simp] theorem event_modSave' (s : State) (d : Drive) (f : VerifySave → VerifySave) (k : EventClass) : (s.modSave d f).event k = s.event k := rfl

@[simp] theorem image_setVerifyQueue' (s : State) (q : List Drive) (k : SlotNo) : (s.setVerifyQueue q).image k = s.image k := rfl
@[simp] theorem acc_setVerifyQueue' (s : State) (q : List Drive) (k : WaveNo) : (s.setVerifyQueue q).acc k = s.acc k := rfl
@[simp] theorem wave_setVerifyQueue' (s : State) (q : List Drive) (k : WaveNo) : (s.setVerifyQueue q).wave k = s.wave k := rfl
@[simp] theorem drive_setVerifyQueue' (s : State) (q : List Drive) (k : Drive) : (s.setVerifyQueue q).drive k = s.drive k := rfl
@[simp] theorem code_setVerifyQueue' (s : State) (q : List Drive) (k : Rung) : (s.setVerifyQueue q).code k = s.code k := rfl
@[simp] theorem save_setVerifyQueue' (s : State) (q : List Drive) (k : Drive) : (s.setVerifyQueue q).save k = s.save k := rfl
@[simp] theorem context_setVerifyQueue' (s : State) (q : List Drive) (k : Fin 4) : (s.setVerifyQueue q).context k = s.context k := rfl
@[simp] theorem order_setVerifyQueue' (s : State) (q : List Drive) (k : OrderNo) : (s.setVerifyQueue q).order k = s.order k := rfl
@[simp] theorem record_setVerifyQueue' (s : State) (q : List Drive) (k : RecNo) : (s.setVerifyQueue q).record k = s.record k := rfl
@[simp] theorem station_setVerifyQueue' (s : State) (q : List Drive) (k : StationNo) : (s.setVerifyQueue q).station k = s.station k := rfl
@[simp] theorem artwork_setVerifyQueue' (s : State) (q : List Drive) (k : ArtNo) : (s.setVerifyQueue q).artwork k = s.artwork k := rfl
@[simp] theorem template_setVerifyQueue' (s : State) (q : List Drive) (k : TmplNo) : (s.setVerifyQueue q).template k = s.template k := rfl
@[simp] theorem event_setVerifyQueue' (s : State) (q : List Drive) (k : EventClass) : (s.setVerifyQueue q).event k = s.event k := rfl

@[simp] theorem image_setContext' (s : State) (c : Fin 4) (x : Option Context) (k : SlotNo) : (s.setContext c x).image k = s.image k := rfl
@[simp] theorem acc_setContext' (s : State) (c : Fin 4) (x : Option Context) (k : WaveNo) : (s.setContext c x).acc k = s.acc k := rfl
@[simp] theorem wave_setContext' (s : State) (c : Fin 4) (x : Option Context) (k : WaveNo) : (s.setContext c x).wave k = s.wave k := rfl
@[simp] theorem drive_setContext' (s : State) (c : Fin 4) (x : Option Context) (k : Drive) : (s.setContext c x).drive k = s.drive k := rfl
@[simp] theorem code_setContext' (s : State) (c : Fin 4) (x : Option Context) (k : Rung) : (s.setContext c x).code k = s.code k := rfl
@[simp] theorem save_setContext' (s : State) (c : Fin 4) (x : Option Context) (k : Drive) : (s.setContext c x).save k = s.save k := rfl
@[simp] theorem order_setContext' (s : State) (c : Fin 4) (x : Option Context) (k : OrderNo) : (s.setContext c x).order k = s.order k := rfl
@[simp] theorem record_setContext' (s : State) (c : Fin 4) (x : Option Context) (k : RecNo) : (s.setContext c x).record k = s.record k := rfl
@[simp] theorem station_setContext' (s : State) (c : Fin 4) (x : Option Context) (k : StationNo) : (s.setContext c x).station k = s.station k := rfl
@[simp] theorem artwork_setContext' (s : State) (c : Fin 4) (x : Option Context) (k : ArtNo) : (s.setContext c x).artwork k = s.artwork k := rfl
@[simp] theorem template_setContext' (s : State) (c : Fin 4) (x : Option Context) (k : TmplNo) : (s.setContext c x).template k = s.template k := rfl
@[simp] theorem event_setContext' (s : State) (c : Fin 4) (x : Option Context) (k : EventClass) : (s.setContext c x).event k = s.event k := rfl

@[simp] theorem image_modOrder' (s : State) (o : OrderNo) (f : Order → Order) (k : SlotNo) : (s.modOrder o f).image k = s.image k := rfl
@[simp] theorem acc_modOrder' (s : State) (o : OrderNo) (f : Order → Order) (k : WaveNo) : (s.modOrder o f).acc k = s.acc k := rfl
@[simp] theorem wave_modOrder' (s : State) (o : OrderNo) (f : Order → Order) (k : WaveNo) : (s.modOrder o f).wave k = s.wave k := rfl
@[simp] theorem drive_modOrder' (s : State) (o : OrderNo) (f : Order → Order) (k : Drive) : (s.modOrder o f).drive k = s.drive k := rfl
@[simp] theorem code_modOrder' (s : State) (o : OrderNo) (f : Order → Order) (k : Rung) : (s.modOrder o f).code k = s.code k := rfl
@[simp] theorem save_modOrder' (s : State) (o : OrderNo) (f : Order → Order) (k : Drive) : (s.modOrder o f).save k = s.save k := rfl
@[simp] theorem context_modOrder' (s : State) (o : OrderNo) (f : Order → Order) (k : Fin 4) : (s.modOrder o f).context k = s.context k := rfl
@[simp] theorem record_modOrder' (s : State) (o : OrderNo) (f : Order → Order) (k : RecNo) : (s.modOrder o f).record k = s.record k := rfl
@[simp] theorem station_modOrder' (s : State) (o : OrderNo) (f : Order → Order) (k : StationNo) : (s.modOrder o f).station k = s.station k := rfl
@[simp] theorem artwork_modOrder' (s : State) (o : OrderNo) (f : Order → Order) (k : ArtNo) : (s.modOrder o f).artwork k = s.artwork k := rfl
@[simp] theorem template_modOrder' (s : State) (o : OrderNo) (f : Order → Order) (k : TmplNo) : (s.modOrder o f).template k = s.template k := rfl
@[simp] theorem event_modOrder' (s : State) (o : OrderNo) (f : Order → Order) (k : EventClass) : (s.modOrder o f).event k = s.event k := rfl

@[simp] theorem image_modRecord' (s : State) (n : RecNo) (f : DiscRecord → DiscRecord) (k : SlotNo) : (s.modRecord n f).image k = s.image k := rfl
@[simp] theorem acc_modRecord' (s : State) (n : RecNo) (f : DiscRecord → DiscRecord) (k : WaveNo) : (s.modRecord n f).acc k = s.acc k := rfl
@[simp] theorem wave_modRecord' (s : State) (n : RecNo) (f : DiscRecord → DiscRecord) (k : WaveNo) : (s.modRecord n f).wave k = s.wave k := rfl
@[simp] theorem drive_modRecord' (s : State) (n : RecNo) (f : DiscRecord → DiscRecord) (k : Drive) : (s.modRecord n f).drive k = s.drive k := rfl
@[simp] theorem code_modRecord' (s : State) (n : RecNo) (f : DiscRecord → DiscRecord) (k : Rung) : (s.modRecord n f).code k = s.code k := rfl
@[simp] theorem save_modRecord' (s : State) (n : RecNo) (f : DiscRecord → DiscRecord) (k : Drive) : (s.modRecord n f).save k = s.save k := rfl
@[simp] theorem context_modRecord' (s : State) (n : RecNo) (f : DiscRecord → DiscRecord) (k : Fin 4) : (s.modRecord n f).context k = s.context k := rfl
@[simp] theorem order_modRecord' (s : State) (n : RecNo) (f : DiscRecord → DiscRecord) (k : OrderNo) : (s.modRecord n f).order k = s.order k := rfl
@[simp] theorem station_modRecord' (s : State) (n : RecNo) (f : DiscRecord → DiscRecord) (k : StationNo) : (s.modRecord n f).station k = s.station k := rfl
@[simp] theorem artwork_modRecord' (s : State) (n : RecNo) (f : DiscRecord → DiscRecord) (k : ArtNo) : (s.modRecord n f).artwork k = s.artwork k := rfl
@[simp] theorem template_modRecord' (s : State) (n : RecNo) (f : DiscRecord → DiscRecord) (k : TmplNo) : (s.modRecord n f).template k = s.template k := rfl
@[simp] theorem event_modRecord' (s : State) (n : RecNo) (f : DiscRecord → DiscRecord) (k : EventClass) : (s.modRecord n f).event k = s.event k := rfl

@[simp] theorem image_modStation' (s : State) (i : StationNo) (f : Station → Station) (k : SlotNo) : (s.modStation i f).image k = s.image k := rfl
@[simp] theorem acc_modStation' (s : State) (i : StationNo) (f : Station → Station) (k : WaveNo) : (s.modStation i f).acc k = s.acc k := rfl
@[simp] theorem wave_modStation' (s : State) (i : StationNo) (f : Station → Station) (k : WaveNo) : (s.modStation i f).wave k = s.wave k := rfl
@[simp] theorem drive_modStation' (s : State) (i : StationNo) (f : Station → Station) (k : Drive) : (s.modStation i f).drive k = s.drive k := rfl
@[simp] theorem code_modStation' (s : State) (i : StationNo) (f : Station → Station) (k : Rung) : (s.modStation i f).code k = s.code k := rfl
@[simp] theorem save_modStation' (s : State) (i : StationNo) (f : Station → Station) (k : Drive) : (s.modStation i f).save k = s.save k := rfl
@[simp] theorem context_modStation' (s : State) (i : StationNo) (f : Station → Station) (k : Fin 4) : (s.modStation i f).context k = s.context k := rfl
@[simp] theorem order_modStation' (s : State) (i : StationNo) (f : Station → Station) (k : OrderNo) : (s.modStation i f).order k = s.order k := rfl
@[simp] theorem record_modStation' (s : State) (i : StationNo) (f : Station → Station) (k : RecNo) : (s.modStation i f).record k = s.record k := rfl
@[simp] theorem artwork_modStation' (s : State) (i : StationNo) (f : Station → Station) (k : ArtNo) : (s.modStation i f).artwork k = s.artwork k := rfl
@[simp] theorem template_modStation' (s : State) (i : StationNo) (f : Station → Station) (k : TmplNo) : (s.modStation i f).template k = s.template k := rfl
@[simp] theorem event_modStation' (s : State) (i : StationNo) (f : Station → Station) (k : EventClass) : (s.modStation i f).event k = s.event k := rfl

@[simp] theorem image_setQueue' (s : State) (q : List Entry) (k : SlotNo) : (s.setQueue q).image k = s.image k := rfl
@[simp] theorem acc_setQueue' (s : State) (q : List Entry) (k : WaveNo) : (s.setQueue q).acc k = s.acc k := rfl
@[simp] theorem wave_setQueue' (s : State) (q : List Entry) (k : WaveNo) : (s.setQueue q).wave k = s.wave k := rfl
@[simp] theorem drive_setQueue' (s : State) (q : List Entry) (k : Drive) : (s.setQueue q).drive k = s.drive k := rfl
@[simp] theorem code_setQueue' (s : State) (q : List Entry) (k : Rung) : (s.setQueue q).code k = s.code k := rfl
@[simp] theorem save_setQueue' (s : State) (q : List Entry) (k : Drive) : (s.setQueue q).save k = s.save k := rfl
@[simp] theorem context_setQueue' (s : State) (q : List Entry) (k : Fin 4) : (s.setQueue q).context k = s.context k := rfl
@[simp] theorem order_setQueue' (s : State) (q : List Entry) (k : OrderNo) : (s.setQueue q).order k = s.order k := rfl
@[simp] theorem record_setQueue' (s : State) (q : List Entry) (k : RecNo) : (s.setQueue q).record k = s.record k := rfl
@[simp] theorem station_setQueue' (s : State) (q : List Entry) (k : StationNo) : (s.setQueue q).station k = s.station k := rfl
@[simp] theorem artwork_setQueue' (s : State) (q : List Entry) (k : ArtNo) : (s.setQueue q).artwork k = s.artwork k := rfl
@[simp] theorem template_setQueue' (s : State) (q : List Entry) (k : TmplNo) : (s.setQueue q).template k = s.template k := rfl
@[simp] theorem event_setQueue' (s : State) (q : List Entry) (k : EventClass) : (s.setQueue q).event k = s.event k := rfl

@[simp] theorem image_modTransport' (s : State) (f : Transport → Transport) (k : SlotNo) : (s.modTransport f).image k = s.image k := rfl
@[simp] theorem acc_modTransport' (s : State) (f : Transport → Transport) (k : WaveNo) : (s.modTransport f).acc k = s.acc k := rfl
@[simp] theorem wave_modTransport' (s : State) (f : Transport → Transport) (k : WaveNo) : (s.modTransport f).wave k = s.wave k := rfl
@[simp] theorem drive_modTransport' (s : State) (f : Transport → Transport) (k : Drive) : (s.modTransport f).drive k = s.drive k := rfl
@[simp] theorem code_modTransport' (s : State) (f : Transport → Transport) (k : Rung) : (s.modTransport f).code k = s.code k := rfl
@[simp] theorem save_modTransport' (s : State) (f : Transport → Transport) (k : Drive) : (s.modTransport f).save k = s.save k := rfl
@[simp] theorem context_modTransport' (s : State) (f : Transport → Transport) (k : Fin 4) : (s.modTransport f).context k = s.context k := rfl
@[simp] theorem order_modTransport' (s : State) (f : Transport → Transport) (k : OrderNo) : (s.modTransport f).order k = s.order k := rfl
@[simp] theorem record_modTransport' (s : State) (f : Transport → Transport) (k : RecNo) : (s.modTransport f).record k = s.record k := rfl
@[simp] theorem station_modTransport' (s : State) (f : Transport → Transport) (k : StationNo) : (s.modTransport f).station k = s.station k := rfl
@[simp] theorem artwork_modTransport' (s : State) (f : Transport → Transport) (k : ArtNo) : (s.modTransport f).artwork k = s.artwork k := rfl
@[simp] theorem template_modTransport' (s : State) (f : Transport → Transport) (k : TmplNo) : (s.modTransport f).template k = s.template k := rfl
@[simp] theorem event_modTransport' (s : State) (f : Transport → Transport) (k : EventClass) : (s.modTransport f).event k = s.event k := rfl

@[simp] theorem image_modArtwork' (s : State) (a : ArtNo) (f : Artwork → Artwork) (k : SlotNo) : (s.modArtwork a f).image k = s.image k := rfl
@[simp] theorem acc_modArtwork' (s : State) (a : ArtNo) (f : Artwork → Artwork) (k : WaveNo) : (s.modArtwork a f).acc k = s.acc k := rfl
@[simp] theorem wave_modArtwork' (s : State) (a : ArtNo) (f : Artwork → Artwork) (k : WaveNo) : (s.modArtwork a f).wave k = s.wave k := rfl
@[simp] theorem drive_modArtwork' (s : State) (a : ArtNo) (f : Artwork → Artwork) (k : Drive) : (s.modArtwork a f).drive k = s.drive k := rfl
@[simp] theorem code_modArtwork' (s : State) (a : ArtNo) (f : Artwork → Artwork) (k : Rung) : (s.modArtwork a f).code k = s.code k := rfl
@[simp] theorem save_modArtwork' (s : State) (a : ArtNo) (f : Artwork → Artwork) (k : Drive) : (s.modArtwork a f).save k = s.save k := rfl
@[simp] theorem context_modArtwork' (s : State) (a : ArtNo) (f : Artwork → Artwork) (k : Fin 4) : (s.modArtwork a f).context k = s.context k := rfl
@[simp] theorem order_modArtwork' (s : State) (a : ArtNo) (f : Artwork → Artwork) (k : OrderNo) : (s.modArtwork a f).order k = s.order k := rfl
@[simp] theorem record_modArtwork' (s : State) (a : ArtNo) (f : Artwork → Artwork) (k : RecNo) : (s.modArtwork a f).record k = s.record k := rfl
@[simp] theorem station_modArtwork' (s : State) (a : ArtNo) (f : Artwork → Artwork) (k : StationNo) : (s.modArtwork a f).station k = s.station k := rfl
@[simp] theorem template_modArtwork' (s : State) (a : ArtNo) (f : Artwork → Artwork) (k : TmplNo) : (s.modArtwork a f).template k = s.template k := rfl
@[simp] theorem event_modArtwork' (s : State) (a : ArtNo) (f : Artwork → Artwork) (k : EventClass) : (s.modArtwork a f).event k = s.event k := rfl

@[simp] theorem image_modTemplate' (s : State) (l : TmplNo) (f : Template → Template) (k : SlotNo) : (s.modTemplate l f).image k = s.image k := rfl
@[simp] theorem acc_modTemplate' (s : State) (l : TmplNo) (f : Template → Template) (k : WaveNo) : (s.modTemplate l f).acc k = s.acc k := rfl
@[simp] theorem wave_modTemplate' (s : State) (l : TmplNo) (f : Template → Template) (k : WaveNo) : (s.modTemplate l f).wave k = s.wave k := rfl
@[simp] theorem drive_modTemplate' (s : State) (l : TmplNo) (f : Template → Template) (k : Drive) : (s.modTemplate l f).drive k = s.drive k := rfl
@[simp] theorem code_modTemplate' (s : State) (l : TmplNo) (f : Template → Template) (k : Rung) : (s.modTemplate l f).code k = s.code k := rfl
@[simp] theorem save_modTemplate' (s : State) (l : TmplNo) (f : Template → Template) (k : Drive) : (s.modTemplate l f).save k = s.save k := rfl
@[simp] theorem context_modTemplate' (s : State) (l : TmplNo) (f : Template → Template) (k : Fin 4) : (s.modTemplate l f).context k = s.context k := rfl
@[simp] theorem order_modTemplate' (s : State) (l : TmplNo) (f : Template → Template) (k : OrderNo) : (s.modTemplate l f).order k = s.order k := rfl
@[simp] theorem record_modTemplate' (s : State) (l : TmplNo) (f : Template → Template) (k : RecNo) : (s.modTemplate l f).record k = s.record k := rfl
@[simp] theorem station_modTemplate' (s : State) (l : TmplNo) (f : Template → Template) (k : StationNo) : (s.modTemplate l f).station k = s.station k := rfl
@[simp] theorem artwork_modTemplate' (s : State) (l : TmplNo) (f : Template → Template) (k : ArtNo) : (s.modTemplate l f).artwork k = s.artwork k := rfl
@[simp] theorem event_modTemplate' (s : State) (l : TmplNo) (f : Template → Template) (k : EventClass) : (s.modTemplate l f).event k = s.event k := rfl

@[simp] theorem image_modPrinter' (s : State) (f : Printer → Printer) (k : SlotNo) : (s.modPrinter f).image k = s.image k := rfl
@[simp] theorem acc_modPrinter' (s : State) (f : Printer → Printer) (k : WaveNo) : (s.modPrinter f).acc k = s.acc k := rfl
@[simp] theorem wave_modPrinter' (s : State) (f : Printer → Printer) (k : WaveNo) : (s.modPrinter f).wave k = s.wave k := rfl
@[simp] theorem drive_modPrinter' (s : State) (f : Printer → Printer) (k : Drive) : (s.modPrinter f).drive k = s.drive k := rfl
@[simp] theorem code_modPrinter' (s : State) (f : Printer → Printer) (k : Rung) : (s.modPrinter f).code k = s.code k := rfl
@[simp] theorem save_modPrinter' (s : State) (f : Printer → Printer) (k : Drive) : (s.modPrinter f).save k = s.save k := rfl
@[simp] theorem context_modPrinter' (s : State) (f : Printer → Printer) (k : Fin 4) : (s.modPrinter f).context k = s.context k := rfl
@[simp] theorem order_modPrinter' (s : State) (f : Printer → Printer) (k : OrderNo) : (s.modPrinter f).order k = s.order k := rfl
@[simp] theorem record_modPrinter' (s : State) (f : Printer → Printer) (k : RecNo) : (s.modPrinter f).record k = s.record k := rfl
@[simp] theorem station_modPrinter' (s : State) (f : Printer → Printer) (k : StationNo) : (s.modPrinter f).station k = s.station k := rfl
@[simp] theorem artwork_modPrinter' (s : State) (f : Printer → Printer) (k : ArtNo) : (s.modPrinter f).artwork k = s.artwork k := rfl
@[simp] theorem template_modPrinter' (s : State) (f : Printer → Printer) (k : TmplNo) : (s.modPrinter f).template k = s.template k := rfl
@[simp] theorem event_modPrinter' (s : State) (f : Printer → Printer) (k : EventClass) : (s.modPrinter f).event k = s.event k := rfl

@[simp] theorem image_modFeed' (s : State) (f : FeedPort → FeedPort) (k : SlotNo) : (s.modFeed f).image k = s.image k := rfl
@[simp] theorem acc_modFeed' (s : State) (f : FeedPort → FeedPort) (k : WaveNo) : (s.modFeed f).acc k = s.acc k := rfl
@[simp] theorem wave_modFeed' (s : State) (f : FeedPort → FeedPort) (k : WaveNo) : (s.modFeed f).wave k = s.wave k := rfl
@[simp] theorem drive_modFeed' (s : State) (f : FeedPort → FeedPort) (k : Drive) : (s.modFeed f).drive k = s.drive k := rfl
@[simp] theorem code_modFeed' (s : State) (f : FeedPort → FeedPort) (k : Rung) : (s.modFeed f).code k = s.code k := rfl
@[simp] theorem save_modFeed' (s : State) (f : FeedPort → FeedPort) (k : Drive) : (s.modFeed f).save k = s.save k := rfl
@[simp] theorem context_modFeed' (s : State) (f : FeedPort → FeedPort) (k : Fin 4) : (s.modFeed f).context k = s.context k := rfl
@[simp] theorem order_modFeed' (s : State) (f : FeedPort → FeedPort) (k : OrderNo) : (s.modFeed f).order k = s.order k := rfl
@[simp] theorem record_modFeed' (s : State) (f : FeedPort → FeedPort) (k : RecNo) : (s.modFeed f).record k = s.record k := rfl
@[simp] theorem station_modFeed' (s : State) (f : FeedPort → FeedPort) (k : StationNo) : (s.modFeed f).station k = s.station k := rfl
@[simp] theorem artwork_modFeed' (s : State) (f : FeedPort → FeedPort) (k : ArtNo) : (s.modFeed f).artwork k = s.artwork k := rfl
@[simp] theorem template_modFeed' (s : State) (f : FeedPort → FeedPort) (k : TmplNo) : (s.modFeed f).template k = s.template k := rfl
@[simp] theorem event_modFeed' (s : State) (f : FeedPort → FeedPort) (k : EventClass) : (s.modFeed f).event k = s.event k := rfl

@[simp] theorem image_setOutbound' (s : State) (l : List OutFrame) (k : SlotNo) : (s.setOutbound l).image k = s.image k := rfl
@[simp] theorem acc_setOutbound' (s : State) (l : List OutFrame) (k : WaveNo) : (s.setOutbound l).acc k = s.acc k := rfl
@[simp] theorem wave_setOutbound' (s : State) (l : List OutFrame) (k : WaveNo) : (s.setOutbound l).wave k = s.wave k := rfl
@[simp] theorem drive_setOutbound' (s : State) (l : List OutFrame) (k : Drive) : (s.setOutbound l).drive k = s.drive k := rfl
@[simp] theorem code_setOutbound' (s : State) (l : List OutFrame) (k : Rung) : (s.setOutbound l).code k = s.code k := rfl
@[simp] theorem save_setOutbound' (s : State) (l : List OutFrame) (k : Drive) : (s.setOutbound l).save k = s.save k := rfl
@[simp] theorem context_setOutbound' (s : State) (l : List OutFrame) (k : Fin 4) : (s.setOutbound l).context k = s.context k := rfl
@[simp] theorem order_setOutbound' (s : State) (l : List OutFrame) (k : OrderNo) : (s.setOutbound l).order k = s.order k := rfl
@[simp] theorem record_setOutbound' (s : State) (l : List OutFrame) (k : RecNo) : (s.setOutbound l).record k = s.record k := rfl
@[simp] theorem station_setOutbound' (s : State) (l : List OutFrame) (k : StationNo) : (s.setOutbound l).station k = s.station k := rfl
@[simp] theorem artwork_setOutbound' (s : State) (l : List OutFrame) (k : ArtNo) : (s.setOutbound l).artwork k = s.artwork k := rfl
@[simp] theorem template_setOutbound' (s : State) (l : List OutFrame) (k : TmplNo) : (s.setOutbound l).template k = s.template k := rfl
@[simp] theorem event_setOutbound' (s : State) (l : List OutFrame) (k : EventClass) : (s.setOutbound l).event k = s.event k := rfl

@[simp] theorem image_modEvent' (s : State) (c : EventClass) (f : EventRecord → EventRecord) (k : SlotNo) : (s.modEvent c f).image k = s.image k := rfl
@[simp] theorem acc_modEvent' (s : State) (c : EventClass) (f : EventRecord → EventRecord) (k : WaveNo) : (s.modEvent c f).acc k = s.acc k := rfl
@[simp] theorem wave_modEvent' (s : State) (c : EventClass) (f : EventRecord → EventRecord) (k : WaveNo) : (s.modEvent c f).wave k = s.wave k := rfl
@[simp] theorem drive_modEvent' (s : State) (c : EventClass) (f : EventRecord → EventRecord) (k : Drive) : (s.modEvent c f).drive k = s.drive k := rfl
@[simp] theorem code_modEvent' (s : State) (c : EventClass) (f : EventRecord → EventRecord) (k : Rung) : (s.modEvent c f).code k = s.code k := rfl
@[simp] theorem save_modEvent' (s : State) (c : EventClass) (f : EventRecord → EventRecord) (k : Drive) : (s.modEvent c f).save k = s.save k := rfl
@[simp] theorem context_modEvent' (s : State) (c : EventClass) (f : EventRecord → EventRecord) (k : Fin 4) : (s.modEvent c f).context k = s.context k := rfl
@[simp] theorem order_modEvent' (s : State) (c : EventClass) (f : EventRecord → EventRecord) (k : OrderNo) : (s.modEvent c f).order k = s.order k := rfl
@[simp] theorem record_modEvent' (s : State) (c : EventClass) (f : EventRecord → EventRecord) (k : RecNo) : (s.modEvent c f).record k = s.record k := rfl
@[simp] theorem station_modEvent' (s : State) (c : EventClass) (f : EventRecord → EventRecord) (k : StationNo) : (s.modEvent c f).station k = s.station k := rfl
@[simp] theorem artwork_modEvent' (s : State) (c : EventClass) (f : EventRecord → EventRecord) (k : ArtNo) : (s.modEvent c f).artwork k = s.artwork k := rfl
@[simp] theorem template_modEvent' (s : State) (c : EventClass) (f : EventRecord → EventRecord) (k : TmplNo) : (s.modEvent c f).template k = s.template k := rfl

@[simp] theorem image_modSettings' (s : State) (f : Settings → Settings) (k : SlotNo) : (s.modSettings f).image k = s.image k := rfl
@[simp] theorem acc_modSettings' (s : State) (f : Settings → Settings) (k : WaveNo) : (s.modSettings f).acc k = s.acc k := rfl
@[simp] theorem wave_modSettings' (s : State) (f : Settings → Settings) (k : WaveNo) : (s.modSettings f).wave k = s.wave k := rfl
@[simp] theorem drive_modSettings' (s : State) (f : Settings → Settings) (k : Drive) : (s.modSettings f).drive k = s.drive k := rfl
@[simp] theorem code_modSettings' (s : State) (f : Settings → Settings) (k : Rung) : (s.modSettings f).code k = s.code k := rfl
@[simp] theorem save_modSettings' (s : State) (f : Settings → Settings) (k : Drive) : (s.modSettings f).save k = s.save k := rfl
@[simp] theorem context_modSettings' (s : State) (f : Settings → Settings) (k : Fin 4) : (s.modSettings f).context k = s.context k := rfl
@[simp] theorem order_modSettings' (s : State) (f : Settings → Settings) (k : OrderNo) : (s.modSettings f).order k = s.order k := rfl
@[simp] theorem record_modSettings' (s : State) (f : Settings → Settings) (k : RecNo) : (s.modSettings f).record k = s.record k := rfl
@[simp] theorem station_modSettings' (s : State) (f : Settings → Settings) (k : StationNo) : (s.modSettings f).station k = s.station k := rfl
@[simp] theorem artwork_modSettings' (s : State) (f : Settings → Settings) (k : ArtNo) : (s.modSettings f).artwork k = s.artwork k := rfl
@[simp] theorem template_modSettings' (s : State) (f : Settings → Settings) (k : TmplNo) : (s.modSettings f).template k = s.template k := rfl
@[simp] theorem event_modSettings' (s : State) (f : Settings → Settings) (k : EventClass) : (s.modSettings f).event k = s.event k := rfl

@[simp] theorem image_withPending' (s : State) (q : List Instr) (k : SlotNo) : (s.withPending q).image k = s.image k := rfl
@[simp] theorem acc_withPending' (s : State) (q : List Instr) (k : WaveNo) : (s.withPending q).acc k = s.acc k := rfl
@[simp] theorem wave_withPending' (s : State) (q : List Instr) (k : WaveNo) : (s.withPending q).wave k = s.wave k := rfl
@[simp] theorem drive_withPending' (s : State) (q : List Instr) (k : Drive) : (s.withPending q).drive k = s.drive k := rfl
@[simp] theorem code_withPending' (s : State) (q : List Instr) (k : Rung) : (s.withPending q).code k = s.code k := rfl
@[simp] theorem save_withPending' (s : State) (q : List Instr) (k : Drive) : (s.withPending q).save k = s.save k := rfl
@[simp] theorem context_withPending' (s : State) (q : List Instr) (k : Fin 4) : (s.withPending q).context k = s.context k := rfl
@[simp] theorem order_withPending' (s : State) (q : List Instr) (k : OrderNo) : (s.withPending q).order k = s.order k := rfl
@[simp] theorem record_withPending' (s : State) (q : List Instr) (k : RecNo) : (s.withPending q).record k = s.record k := rfl
@[simp] theorem station_withPending' (s : State) (q : List Instr) (k : StationNo) : (s.withPending q).station k = s.station k := rfl
@[simp] theorem artwork_withPending' (s : State) (q : List Instr) (k : ArtNo) : (s.withPending q).artwork k = s.artwork k := rfl
@[simp] theorem template_withPending' (s : State) (q : List Instr) (k : TmplNo) : (s.withPending q).template k = s.template k := rfl
@[simp] theorem event_withPending' (s : State) (q : List Instr) (k : EventClass) : (s.withPending q).event k = s.event k := rfl

end Sys2Proof.Machine.State
end

