-- ==== Sys2Proof/Laws/Closure.lean ====
section
/-! SUPPORT. What the operations can do, said once: `Closed free ps P` says that P survives every basic update of the
parts `ps`, of waves, drives, artwork slots and the transport record only the updates that keep the record's law
(unless `free` lets them off), and for every operation `closed_<operation>` says that P then survives the operation.
Footprints, laws and the growth of the outbound list are instances. -/

set_option linter.unusedTactic false
set_option linter.unreachableTactic false

namespace Sys2Proof.Machine

/-- Which records may be updated against their laws. -/
structure Freed where
  waves : Prop
  drives : Prop
  artworks : Prop
  transport : Prop

/-- An update of the transport record keeps its law, and a transport in HELD stays in HELD. -/
def Transport.calm (x y : Transport) : Prop := (x.lawful → y.lawful) ∧ (x.mode = .held → y.mode = .held)

/-- P survives every basic update of the parts `ps`. -/
structure Closed (free : Freed) (ps : List Part) (P : State → Prop) : Prop where
  images : .images ∈ ps → ∀ s i f, P s → P (State.modImage s i f)
  accs : .accs ∈ ps → ∀ s w f, P s → P (State.modAcc s w f)
  waves : .waves ∈ ps → ∀ s w f, (free.waves ∨ ((State.wave s w).lawful → (f (State.wave s w)).lawful) ∧
    (f (State.wave s w)).capacity ≤ (State.wave s w).capacity) → P s → P (State.modWave s w f)
  drives : .drives ∈ ps → ∀ s d f, (free.drives ∨ ((State.drive s d).lawful → (f (State.drive s d)).lawful)) →
    P s → P (State.modDrive s d f)
  ladder : .ladder ∈ ps → ∀ s g c, P s → P (State.setCode s g c)
  saves : .saves ∈ ps → ∀ s d f, P s → P (State.modSave s d f)
  verifyQueue : .verifyQueue ∈ ps → ∀ s q, P s → P (State.setVerifyQueue s q)
  contexts : .contexts ∈ ps → ∀ s c x, P s → P (State.setContext s c x)
  orders : .orders ∈ ps → ∀ s o f, P s → P (State.modOrder s o f)
  records : .records ∈ ps → ∀ s n f, P s → P (State.modRecord s n f)
  stations : .stations ∈ ps → ∀ s i f, P s → P (State.modStation s i f)
  queue : .queue ∈ ps → ∀ s q, P s → P (State.setQueue s q)
  transport : .transport ∈ ps → ∀ s f, (free.transport ∨ (State.transport s).calm (f (State.transport s))) →
    P s → P (State.modTransport s f)
  artworks : .artworks ∈ ps → ∀ s a f, (free.artworks ∨ ((State.artwork s a).lawful → (f (State.artwork s a)).lawful)) →
    P s → P (State.modArtwork s a f)
  templates : .templates ∈ ps → ∀ s l f, P s → P (State.modTemplate s l f)
  printer : .printer ∈ ps → ∀ s f, P s → P (State.modPrinter s f)
  feed : .feed ∈ ps → ∀ s f, P s → P (State.modFeed s f)
  settings : .settings ∈ ps → ∀ s f, P s → P (State.modSettings s f)
  raise : .events ∈ ps → .outbound ∈ ps → ∀ s c m v, P s → P (State.raise s c m v)
  credit : .outbound ∈ ps → ∀ s w n k, P s → P (State.emit s (.credit w n k))
  discDone : .outbound ∈ ps → ∀ s n r p v, P s → P (State.emit s (.discDone n r p v))
  reply : .feed ∈ ps → .outbound ∈ ps → ∀ s r st m n, P s → P (State.reply s r st m n)
  ignored : .feed ∈ ps → .outbound ∈ ps → ∀ s r, P s → P (State.replyIgnored s r)
  queryResult : .feed ∈ ps → .outbound ∈ ps → ∀ s t k i b, P s → P (State.emit s (.queryResult t k i b))

/-! ### The updates keep the laws -/

theorem Wave.lawful_timerOff {x : Wave} (h : x.lawful) : ({ x with timerRunning := false } : Wave).lawful := by
  unfold Wave.lawful Wave.occupied at *; simp_all

theorem Wave.lawful_timerOn {x : Wave} (hx : (x.state = .opened ∨ x.state = .streaming) ∧ x.occupied = x.capacity)
    : x.lawful → ({ x with timerRunning := true } : Wave).lawful := by
  unfold Wave.lawful Wave.occupied at *; rcases hx.1 with h1 | h1 <;> simp_all

theorem Wave.lawful_ended {x : Wave} {c : EndCause} : (x.ended c).lawful := by
  simp [Wave.lawful, Wave.ended, Wave.occupied]

theorem Wave.lawful_modAttachment {x : Wave} {d : Drive} {f : Attachment → Attachment} (h : x.lawful) :
    (x.modAttachment d f).lawful := by
  unfold Wave.lawful Wave.occupied Wave.modAttachment at *; simp_all

theorem Wave.lawful_unattach {x : Wave} {d : Drive} (h : x.lawful) : (x.unattach d).lawful := by
  unfold Wave.lawful Wave.occupied Wave.unattach at *; simp_all

/-- A wave that is not IDLE may take an attachment. -/
theorem Wave.lawful_attached {x : Wave} {l : List Attachment} (hx : x.state ≠ .idle) (h : x.lawful) :
    ({ x with attachments := l } : Wave).lawful := by
  unfold Wave.lawful Wave.occupied at *; simp_all

/-- The wave that a drive joins is OPEN (R27). -/
theorem State.openWave_opened {s : State} {i : SlotNo} {w : WaveNo} (h : s.openWave i = some w) :
    (s.wave w).state = .opened := by
  have := List.find?_some h
  simp at this; exact this.1

theorem Wave.lawful_released {x : Wave} {n : Nat} (h : x.lawful) : (x.released n).lawful := by
  unfold Wave.lawful Wave.occupied Wave.released at *; simp_all; omega

theorem Wave.lawful_streaming {x : Wave} (hx : x.state = .opened) (h : x.lawful) :
    ({ x with state := .streaming } : Wave).lawful := by
  unfold Wave.lawful Wave.occupied at *; simp_all

theorem DriveSlot.lawful_putInForce {x : DriveSlot} {a : Assignment} (hx : x.pendingCopy = some a) (h : x.lawful) :
    (x.putInForce a).lawful := by
  have hl := h.2.1 a hx
  refine ⟨fun b hb => ?_, by simp [DriveSlot.putInForce], Nat.zero_le _⟩
  have hab : b = a := by simpa [DriveSlot.putInForce] using hb.symm
  subst hab
  exact ⟨hl, le_refl _, hl.1, hl.2.1⟩

theorem DriveSlot.lawful_failZero {x : DriveSlot} (h : x.lawful) :
    ({ x with failCount := 0 } : DriveSlot).lawful := by
  refine ⟨fun a ha => ⟨(h.1 a ha).1, (h.1 a ha).2.1, (h.1 a ha).2.2.1, ?_⟩, h.2.1, Nat.zero_le _⟩
  have := (h.1 a ha).1.2.1
  simp only []; omega

theorem DriveSlot.lawful_downshift {x : DriveSlot} {a : Assignment} {k : Nat} {hk : k < 8}
    (ha : x.active = some a) (hg : x.rung.val < a.floor.val ∧ k = x.rung.val + 1) (h : x.lawful) :
    ({ x with failCount := 0, rung := ⟨k, hk⟩ } : DriveSlot).lawful := by
  refine ⟨fun b hb => ?_, h.2.1, Nat.zero_le _⟩
  have hab : b = a := by simpa [ha] using hb.symm
  subst hab
  have h1 := h.1 b ha
  refine ⟨h1.1, ?_, ?_, by have := h1.1.2.1; simp only []; omega⟩
  · have := h1.2.1; simp only [Fin.le_def] at *; omega
  · simp only [Fin.le_def]; omega

theorem DriveSlot.lawful_failCount {x : DriveSlot} {a : Assignment} {n : Nat} (ha : x.active = some a)
    (hn : n < a.threshold) (h : x.lawful) : ({ x with failCount := n } : DriveSlot).lawful := by
  refine ⟨fun b hb => ?_, h.2.1, ?_⟩
  · have hab : b = a := by simpa [ha] using hb.symm
    subst hab
    exact ⟨(h.1 b ha).1, (h.1 b ha).2.1, (h.1 b ha).2.2.1, hn⟩
  · have := (h.1 a ha).1.2.2.1; simp only []; omega

theorem DriveSlot.lawful_failNone {x : DriveSlot} {n : Nat} (ha : x.active = none) (h : x.lawful) :
    ({ x with failCount := min 6 n } : DriveSlot).lawful := by
  refine ⟨fun b hb => ?_, h.2.1, Nat.min_le_left _ _⟩
  simp [ha] at hb

theorem Artwork.lawful_unused {x : Artwork} (h : x.lawful) : ({ x with inUse := false } : Artwork).lawful :=
  ⟨h.1, h.2.1, by simp⟩

theorem Artwork.lawful_used {x : Artwork} (hx : x.state = .ready) (h : x.lawful) :
    ({ x with inUse := true } : Artwork).lawful :=
  ⟨h.1, h.2.1, fun _ => hx⟩

theorem Artwork.lawful_begun {x : Artwork} {n : Nat} {k : Word32} (hu : ¬ x.inUse = true)
    (hn : ¬ (n = 0 ∨ Config.maxArtwork < n)) :
    x.lawful → ({ x with state := .filling, length := n, check := k, bytes := [], crc := crcInit } : Artwork).lawful :=
  fun _ => ⟨rfl, by simp [Artwork.fillPoint]; omega, by simp [hu]⟩

theorem Transport.lawful_afterRetirement {x : Transport} (h : x.lawful) : x.afterRetirement.lawful := by
  unfold Transport.afterRetirement Transport.abandon Transport.lawful at *
  rcases ho : x.outstanding with _ | o <;> split <;> simp_all

theorem Transport.afterRetirement_held {x : Transport} (h : x.mode = .held) : x.afterRetirement.mode = .held := by
  unfold Transport.afterRetirement Transport.abandon
  split <;> simp_all

theorem Transport.park_held {x : Transport} (hm : x.mode = .running) :
    x.mode = .held → ({ x with mode := .parked, parkWaiting := false } : Transport).mode = .held := by
  simp [hm]

theorem Transport.lawful_held {x : Transport} (c : HeldCause) : x.lawful → (x.held c).lawful := by
  intro h
  unfold Transport.held Transport.abandon Transport.lawful at *
  rcases ho : x.outstanding with _ | o <;> simp_all

theorem Transport.lawful_clearOp {x : Transport} (h : x.lawful) :
    ({ x with outstanding := none } : Transport).lawful := by
  unfold Transport.lawful at *
  refine ⟨h.1, h.2.1, h.2.2.1, by simp, fun hm => ?_⟩
  rcases h.2.2.2.2 hm with h5 | h5
  · exact Or.inl h5
  · exact Or.inr ⟨h5.1, by simp⟩

theorem Transport.lawful_resumed {x : Transport} (h : x.lawful) : x.resumed.lawful := by
  unfold Transport.resumed Transport.lawful at *; simp_all

theorem Transport.lawful_autoFeed {x : Transport} {b : Bool} (hm : ¬ x.mode = .held) (h : x.lawful) :
    ({ x with autoFeed := b } : Transport).lawful := by
  unfold Transport.lawful at *; simp_all

theorem Transport.lawful_noFeed {x : Transport} (h : x.lawful) :
    ({ x with autoFeed := false, heldCopy := false } : Transport).lawful := by
  unfold Transport.lawful at *; simp_all

theorem Transport.lawful_park {x : Transport} (hm : x.mode = .running) (hi : x.phase = .idle) (h : x.lawful) :
    ({ x with mode := .parked, parkWaiting := false } : Transport).lawful := by
  unfold Transport.lawful at *; simp_all

theorem Transport.lawful_parkWaiting {x : Transport} (hm : x.mode = .running) (h : x.lawful) :
    ({ x with parkWaiting := true } : Transport).lawful := by
  unfold Transport.lawful at *; simp_all

/-! ### The operations -/

variable {free : Freed} {ps : List Part} {P : State → Prop}

/-- A fold keeps what each of its steps keeps. -/
theorem closed_foldl {β : Type} {f : State → β → State} {l : List β} {s : State}
    (hf : ∀ t b, P t → P (f t b)) (h : P s) : P (l.foldl f s) := by
  induction l generalizing s with
  | nil => exact h
  | cons b l ih => exact ih (hf s b h)

theorem closed_writeRecord (hc : Closed free ps P) (hp : [.records] ⊆ ps) {s : State} {t : Token} {f : DiscRecord → DiscRecord} (h : P s) :
    P (State.writeRecord s t f) := by
  unfold State.writeRecord
  try dsimp only
  repeat' first
    | with_reducible assumption
    | ((with_reducible refine hc.records ?_ _ _ _ ?_); · exact hp (by decide))
    | split

theorem closed_writeRecordO (hc : Closed free ps P) (hp : [.records] ⊆ ps) {s : State} {t : Option Token} {f : DiscRecord → DiscRecord} (h : P s) :
    P (State.writeRecord? s t f) := by
  unfold State.writeRecord?
  try dsimp only
  repeat' first
    | with_reducible assumption
    | ((with_reducible refine closed_writeRecord hc ?_ ?_); · exact List.Subset.trans (by decide) hp)
    | split

theorem closed_giveCause (hc : Closed free ps P) (hp : [.records] ⊆ ps) {s : State} {t : Option Token} {c : FailCause} (h : P s) :
    P (State.giveCause s t c) := by
  unfold State.giveCause
  try dsimp only
  repeat' first
    | with_reducible assumption
    | ((with_reducible refine closed_writeRecordO hc ?_ ?_); · exact List.Subset.trans (by decide) hp)
    | split

theorem closed_takeRecord (hc : Closed free ps P) (hp : [.records] ⊆ ps) {s : State} {n : RecNo} {init : DiscRecord} (h : P s) :
    P (State.takeRecord s n init) := by
  unfold State.takeRecord
  try dsimp only
  repeat' first
    | with_reducible assumption
    | ((with_reducible refine hc.records ?_ _ _ _ ?_); · exact hp (by decide))
    | split

theorem closed_returnSetAside (hc : Closed free ps P) (hp : [.records] ⊆ ps) {s : State} {n : Option RecNo} (h : P s) :
    P (State.returnSetAside s n) := by
  unfold State.returnSetAside
  try dsimp only
  repeat' first
    | with_reducible assumption
    | ((with_reducible refine hc.records ?_ _ _ _ ?_); · exact hp (by decide))
    | split

theorem closed_raiseDrive (hc : Closed free ps P) (hp : [.outbound, .events] ⊆ ps) {s : State} {d : Drive} (h : P s) :
    P (State.raiseDrive s d) := by
  unfold State.raiseDrive
  try dsimp only
  repeat' first
    | with_reducible assumption
    | ((with_reducible refine hc.raise ?_ ?_ _ _ _ _ ?_); exact hp (by decide); exact hp (by decide))
    | split

theorem closed_raiseApply (hc : Closed free ps P) (hp : [.outbound, .events] ⊆ ps) {s : State} {d : Drive} (h : P s) :
    P (State.raiseApply s d) := by
  unfold State.raiseApply
  try dsimp only
  repeat' first
    | with_reducible assumption
    | ((with_reducible refine hc.raise ?_ ?_ _ _ _ _ ?_); exact hp (by decide); exact hp (by decide))
    | split

theorem closed_raiseWave (hc : Closed free ps P) (hp : [.outbound, .events] ⊆ ps) {s : State} {w : WaveNo} {st : WaveState} {c : WaveCause} (h : P s) :
    P (State.raiseWave s w st c) := by
  unfold State.raiseWave
  try dsimp only
  repeat' first
    | with_reducible assumption
    | ((with_reducible refine hc.raise ?_ ?_ _ _ _ _ ?_); exact hp (by decide); exact hp (by decide))
    | split

theorem closed_raiseImage (hc : Closed free ps P) (hp : [.outbound, .events] ⊆ ps) {s : State} {i : SlotNo} {st : ImageState} {c : ImageCause} (h : P s) :
    P (State.raiseImage s i st c) := by
  unfold State.raiseImage
  try dsimp only
  repeat' first
    | with_reducible assumption
    | ((with_reducible refine hc.raise ?_ ?_ _ _ _ _ ?_); exact hp (by decide); exact hp (by decide))
    | split

theorem closed_raiseOrder (hc : Closed free ps P) (hp : [.outbound, .events] ⊆ ps) {s : State} {o : OrderNo} (h : P s) :
    P (State.raiseOrder s o) := by
  unfold State.raiseOrder
  try dsimp only
  repeat' first
    | with_reducible assumption
    | ((with_reducible refine hc.raise ?_ ?_ _ _ _ _ ?_); exact hp (by decide); exact hp (by decide))
    | split

theorem closed_raisePrinter (hc : Closed free ps P) (hp : [.outbound, .events] ⊆ ps) {s : State} {st : PrinterState} {c : PrinterCause} (h : P s) :
    P (State.raisePrinter s st c) := by
  unfold State.raisePrinter
  try dsimp only
  repeat' first
    | with_reducible assumption
    | ((with_reducible refine hc.raise ?_ ?_ _ _ _ _ ?_); exact hp (by decide); exact hp (by decide))
    | split

theorem closed_replyPlain (hc : Closed free ps P) (hp : [.feed, .outbound] ⊆ ps) {s : State} {r : ReplyTo} {st : Status} (h : P s) :
    P (State.replyPlain s r st) := by
  unfold State.replyPlain
  try dsimp only
  repeat' first
    | with_reducible assumption
    | ((with_reducible refine hc.reply ?_ ?_ _ _ _ _ _ ?_); exact hp (by decide); exact hp (by decide))
    | split

theorem closed_sendDrive (hc : Closed free ps P) (hp : [.drives] ⊆ ps) {s : State} {d : Drive} {req : DriveRequest} (h : P s) :
    P (State.sendDrive s d req) := by
  unfold State.sendDrive
  try dsimp only
  repeat' first
    | with_reducible assumption
    | ((with_reducible refine hc.drives ?_ _ _ _ ?_ ?_); · exact hp (by decide))
    | split
    | exact Or.inr (fun hx => hx)
    | exact Or.inr ⟨fun hx => hx, fun hm => hm⟩
    | exact Or.inr ⟨fun hx => hx, le_refl _⟩

theorem closed_endApply (hc : Closed free ps P) (hp : [.drives, .outbound, .events] ⊆ ps) {s : State} {d : Drive} {st : ApplyStatus} (h : P s) :
    P (State.endApply s d st) := by
  unfold State.endApply
  try dsimp only
  repeat' first
    | with_reducible assumption
    | ((with_reducible refine hc.drives ?_ _ _ _ ?_ ?_); · exact hp (by decide))
    | ((with_reducible refine closed_raiseApply hc ?_ ?_); · exact List.Subset.trans (by decide) hp)
    | split
    | exact Or.inr (fun hx => hx)
    | exact Or.inr ⟨fun hx => hx, fun hm => hm⟩
    | exact Or.inr ⟨fun hx => hx, le_refl _⟩

theorem closed_dropWaiting (hc : Closed free ps P) (hp : [.drives, .outbound, .events] ⊆ ps) {s : State} {d : Drive} (h : P s) :
    P (State.dropWaiting s d) := by
  unfold State.dropWaiting
  try dsimp only
  repeat' first
    | with_reducible assumption
    | ((with_reducible refine hc.drives ?_ _ _ _ ?_ ?_); · exact hp (by decide))
    | ((with_reducible refine closed_endApply hc ?_ ?_); · exact List.Subset.trans (by decide) hp)
    | split
    | exact Or.inr (fun hx => hx)
    | exact Or.inr ⟨fun hx => hx, fun hm => hm⟩
    | exact Or.inr ⟨fun hx => hx, le_refl _⟩

theorem closed_askDrive (hc : Closed free ps P) (hp : [.drives, .outbound, .events] ⊆ ps) {s : State} {d : Drive} {req : DriveRequest} (h : P s) :
    P (State.askDrive s d req) := by
  unfold State.askDrive
  try dsimp only
  repeat' first
    | with_reducible assumption
    | ((with_reducible refine closed_sendDrive hc ?_ ?_); · exact List.Subset.trans (by decide) hp)
    | ((with_reducible refine closed_dropWaiting hc ?_ ?_); · exact List.Subset.trans (by decide) hp)
    | ((with_reducible refine hc.drives ?_ _ _ _ ?_ ?_); · exact hp (by decide))
    | split
    | exact Or.inr (fun hx => hx)
    | exact Or.inr ⟨fun hx => hx, fun hm => hm⟩
    | exact Or.inr ⟨fun hx => hx, le_refl _⟩

theorem closed_sendWaiting (hc : Closed free ps P) (hp : [.drives] ⊆ ps) {s : State} {d : Drive} (h : P s) :
    P (State.sendWaiting s d) := by
  unfold State.sendWaiting
  try dsimp only
  repeat' first
    | with_reducible assumption
    | ((with_reducible refine hc.drives ?_ _ _ _ ?_ ?_); · exact hp (by decide))
    | ((with_reducible refine closed_sendDrive hc ?_ ?_); · exact List.Subset.trans (by decide) hp)
    | split
    | exact Or.inr (fun hx => hx)
    | exact Or.inr ⟨fun hx => hx, fun hm => hm⟩
    | exact Or.inr ⟨fun hx => hx, le_refl _⟩

theorem closed_sendPrinter (hc : Closed free ps P) (hp : [.printer] ⊆ ps) {s : State} {req : PrinterRequest} (h : P s) :
    P (State.sendPrinter s req) := by
  unfold State.sendPrinter
  try dsimp only
  repeat' first
    | with_reducible assumption
    | ((with_reducible refine hc.printer ?_ _ _ ?_); · exact hp (by decide))
    | split

theorem closed_askPrinter (hc : Closed free ps P) (hp : [.printer] ⊆ ps) {s : State} {req : PrinterRequest} (h : P s) :
    P (State.askPrinter s req) := by
  unfold State.askPrinter
  try dsimp only
  repeat' first
    | with_reducible assumption
    | ((with_reducible refine closed_sendPrinter hc ?_ ?_); · exact List.Subset.trans (by decide) hp)
    | ((with_reducible refine hc.printer ?_ _ _ ?_); · exact hp (by decide))
    | split

theorem closed_sendArm (hc : Closed free ps P) (hp : [.transport] ⊆ ps) (hfT : free.transport) {s : State} {op : ArmOp}
    (h : P s) : P (State.sendArm s op) :=
  hc.transport (hp (by decide)) _ _ (Or.inl hfT) h

theorem closed_askHome (hc : Closed free ps P) (hp : [.transport] ⊆ ps) (hfT : free.transport) {s : State} (h : P s) :
    P (State.askHome s) := by
  unfold State.askHome
  try dsimp only
  repeat' first
    | with_reducible assumption
    | ((with_reducible refine hc.transport ?_ _ _ ?_ ?_); · exact hp (by decide))
    | ((with_reducible refine closed_sendArm hc ?_ hfT ?_); · exact List.Subset.trans (by decide) hp)
    | split
    | exact Or.inr (fun hx => hx)
    | exact Or.inr ⟨fun hx => hx, fun hm => hm⟩
    | exact Or.inr ⟨fun hx => hx, le_refl _⟩
    | exact Or.inl hfT

/-- A GOTO outside PARKED keeps the transport's law, whatever phase but IDLE it sets. -/
theorem Transport.lawful_sent {x : Transport} {op : ArmOp} (hm : x.mode ≠ .parked) (hi : x.phase ≠ .idle) (h : x.lawful) :
    ({ x with outstanding := some { op := op, number := x.nextNumber, abandoned := false },
              nextNumber := x.nextNumber + 1 } : Transport).lawful := by
  unfold Transport.lawful at *; simp_all

theorem Transport.lawful_phase {x : Transport} {p : ArmPhase} (hm : x.mode ≠ .parked) (hi : p ≠ .idle) (h : x.lawful) :
    ({ x with phase := p } : Transport).lawful := by
  unfold Transport.lawful at *; simp_all

theorem closed_armPhase (hc : Closed free ps P) (hp : [.transport] ⊆ ps) {s : State} {p : ArmPhase}
    (hm : free.transport ∨ s.transport.mode ≠ .parked) (hi : p ≠ .idle) {op : ArmOp} (h : P s) :
    P ((s.modTransport (fun t => { t with phase := p })).sendArm op) := by
  refine hc.transport (hp (by decide)) _ _ ?_ (hc.transport (hp (by decide)) _ _ ?_ h)
  · exact hm.imp id (fun hm => ⟨Transport.lawful_sent (by simpa using hm) (by simpa using hi), fun h => h⟩)
  · exact hm.imp id (fun hm => ⟨Transport.lawful_phase hm hi, fun h => h⟩)

theorem closed_sendGoto (hc : Closed free ps P) (hp : [.transport] ⊆ ps) {s : State} {i : StationNo} {p : ArmPhase}
    (hm : free.transport ∨ s.transport.mode ≠ .parked) (hi : p ≠ .idle := by decide) (h : P s) :
    P (State.sendGoto s i p) :=
  closed_armPhase hc hp hm hi h

theorem closed_printerTray (hc : Closed free ps P) (hp : [.printer] ⊆ ps) {s : State} (h : P s) :
    P (State.printerTray s) := by
  unfold State.printerTray
  try dsimp only
  repeat' first
    | with_reducible assumption
    | ((with_reducible refine hc.printer ?_ _ _ ?_); · exact hp (by decide))
    | ((with_reducible refine closed_askPrinter hc ?_ ?_); · exact List.Subset.trans (by decide) hp)
    | split

theorem closed_enqueue (hc : Closed free ps P) (hp : [.queue, .printer] ⊆ ps) {s : State} {e : Entry} (h : P s) :
    P (State.enqueue s e) := by
  unfold State.enqueue
  try dsimp only
  repeat' first
    | with_reducible assumption
    | ((with_reducible refine hc.queue ?_ _ _ ?_); · exact hp (by decide))
    | ((with_reducible refine closed_printerTray hc ?_ ?_); · exact List.Subset.trans (by decide) hp)
    | split

theorem closed_retire (hc : Closed free ps P) (hp : [.records, .queue, .transport, .printer] ⊆ ps) {s : State} {e : Entry} (h : P s) :
    P (State.retire s e) := by
  unfold State.retire
  try dsimp only
  repeat' first
    | with_reducible assumption
    | ((with_reducible refine hc.queue ?_ _ _ ?_); · exact hp (by decide))
    | ((with_reducible refine closed_returnSetAside hc ?_ ?_); · exact List.Subset.trans (by decide) hp)
    | ((with_reducible refine hc.transport ?_ _ _ ?_ ?_); · exact hp (by decide))
    | ((with_reducible refine closed_printerTray hc ?_ ?_); · exact List.Subset.trans (by decide) hp)
    | split
    | exact Or.inr (fun hx => hx)
    | exact Or.inr ⟨fun hx => hx, fun hm => hm⟩
    | exact Or.inr ⟨fun hx => hx, le_refl _⟩
    | exact Or.inr ⟨Transport.lawful_afterRetirement, Transport.afterRetirement_held⟩

theorem closed_takePending (hc : Closed free ps P) (hp : [.drives, .outbound, .events] ⊆ ps) {s : State} {d : Drive} (h : P s) :
    P (State.takePending s d) := by
  unfold State.takePending
  try dsimp only
  repeat' first
    | with_reducible assumption
    | ((with_reducible refine hc.drives ?_ _ _ _ ?_ ?_); · exact hp (by decide))
    | ((with_reducible refine closed_endApply hc ?_ ?_); · exact List.Subset.trans (by decide) hp)
    | split
    | exact Or.inr (fun hx => hx)
    | exact Or.inr ⟨fun hx => hx, fun hm => hm⟩
    | exact Or.inr ⟨fun hx => hx, le_refl _⟩
    | (refine Or.inr (DriveSlot.lawful_putInForce ?_); assumption)

theorem closed_reserve (hc : Closed free ps P) (hp : [.orders] ⊆ ps) {s : State} {o : OrderNo} (h : P s) :
    P (State.reserve s o) := by
  unfold State.reserve
  try dsimp only
  repeat' first
    | with_reducible assumption
    | ((with_reducible refine hc.orders ?_ _ _ _ ?_); · exact hp (by decide))
    | split

theorem closed_unreserve (hc : Closed free ps P) (hp : [.orders] ⊆ ps) {s : State} {o : Option OrderNo} (h : P s) :
    P (State.unreserve s o) := by
  unfold State.unreserve
  try dsimp only
  repeat' first
    | with_reducible assumption
    | ((with_reducible refine hc.orders ?_ _ _ _ ?_); · exact hp (by decide))
    | split

theorem closed_startLoading (hc : Closed free ps P) (hp : [.drives, .orders, .queue, .printer, .outbound, .events] ⊆ ps) {s : State} {d : Drive} {o : OrderNo} (h : P s) :
    P (State.startLoading s d o) := by
  unfold State.startLoading
  try dsimp only
  repeat' first
    | with_reducible assumption
    | ((with_reducible refine hc.drives ?_ _ _ _ ?_ ?_); · exact hp (by decide))
    | ((with_reducible refine closed_askDrive hc ?_ ?_); · exact List.Subset.trans (by decide) hp)
    | ((with_reducible refine closed_enqueue hc ?_ ?_); · exact List.Subset.trans (by decide) hp)
    | ((with_reducible refine closed_reserve hc ?_ ?_); · exact List.Subset.trans (by decide) hp)
    | ((with_reducible refine closed_raiseDrive hc ?_ ?_); · exact List.Subset.trans (by decide) hp)
    | split
    | exact Or.inr (fun hx => hx)
    | exact Or.inr ⟨fun hx => hx, fun hm => hm⟩
    | exact Or.inr ⟨fun hx => hx, le_refl _⟩

theorem closed_loadIfAllowed (hc : Closed free ps P) (hp : [.drives, .orders, .queue, .printer, .outbound, .events] ⊆ ps) {s : State} {d : Drive} (h : P s) :
    P (State.loadIfAllowed s d) := by
  unfold State.loadIfAllowed
  try dsimp only
  repeat' first
    | with_reducible assumption
    | ((with_reducible refine closed_startLoading hc ?_ ?_); · exact List.Subset.trans (by decide) hp)
    | split

theorem closed_decideDrive (hc : Closed free ps P) (hp : [.drives, .orders, .queue, .printer, .outbound, .events] ⊆ ps) {s : State} {d : Drive} (h : P s) :
    P (State.decideDrive s d) := by
  unfold State.decideDrive
  try dsimp only
  repeat' first
    | with_reducible assumption
    | ((with_reducible refine closed_takePending hc ?_ ?_); · exact List.Subset.trans (by decide) hp)
    | ((with_reducible refine closed_loadIfAllowed hc ?_ ?_); · exact List.Subset.trans (by decide) hp)
    | split

theorem closed_loadDecision (hc : Closed free ps P) (hp : [.drives, .orders, .queue, .printer, .outbound, .events] ⊆ ps) {s : State} (h : P s) :
    P (State.loadDecision s) := by
  unfold State.loadDecision
  try dsimp only
  repeat' first
    | with_reducible assumption
    | ((with_reducible refine closed_decideDrive hc ?_ ?_); · exact List.Subset.trans (by decide) hp)
    | (with_reducible refine closed_foldl ?_ ?_)
    | (intro _ _ _; try dsimp only)
    | split

theorem closed_loadRetired (hc : Closed free ps P) (hp : [.drives, .outbound, .events] ⊆ ps) {s : State} {d : Option Drive} (h : P s) :
    P (State.loadRetired s d) := by
  unfold State.loadRetired
  try dsimp only
  repeat' first
    | with_reducible assumption
    | ((with_reducible refine hc.drives ?_ _ _ _ ?_ ?_); · exact hp (by decide))
    | ((with_reducible refine closed_askDrive hc ?_ ?_); · exact List.Subset.trans (by decide) hp)
    | split
    | exact Or.inr (fun hx => hx)
    | exact Or.inr ⟨fun hx => hx, fun hm => hm⟩
    | exact Or.inr ⟨fun hx => hx, le_refl _⟩

theorem closed_retireLoad (hc : Closed free ps P) (hp : [.drives, .orders, .records, .queue, .transport, .printer, .outbound, .events] ⊆ ps) {s : State} {e : Entry} (h : P s) :
    P (State.retireLoad s e) := by
  unfold State.retireLoad
  try dsimp only
  repeat' first
    | with_reducible assumption
    | ((with_reducible refine closed_retire hc ?_ ?_); · exact List.Subset.trans (by decide) hp)
    | ((with_reducible refine closed_unreserve hc ?_ ?_); · exact List.Subset.trans (by decide) hp)
    | ((with_reducible refine closed_loadRetired hc ?_ ?_); · exact List.Subset.trans (by decide) hp)
    | split

theorem closed_retireStranded (hc : Closed free ps P) (hp : [.drives, .orders, .records, .queue, .transport, .printer, .outbound, .events] ⊆ ps) {s : State} {lost : Nat → Bool} (h : P s) :
    P (State.retireStranded s lost) := by
  unfold State.retireStranded
  try dsimp only
  repeat' first
    | with_reducible assumption
    | ((with_reducible refine closed_retireLoad hc ?_ ?_); · exact List.Subset.trans (by decide) hp)
    | (with_reducible refine closed_foldl ?_ ?_)
    | (intro _ _ _; try dsimp only)
    | split

theorem closed_retireOthersStranded (hc : Closed free ps P) (hp : [.drives, .orders, .records, .queue, .transport, .printer, .outbound, .events] ⊆ ps) {s : State} {lost : Nat → Bool} (h : P s) :
    P (State.retireOthersStranded s lost) := by
  unfold State.retireOthersStranded
  try dsimp only
  repeat' first
    | with_reducible assumption
    | ((with_reducible refine closed_retireLoad hc ?_ ?_); · exact List.Subset.trans (by decide) hp)
    | (with_reducible refine closed_foldl ?_ ?_)
    | (intro _ _ _; try dsimp only)
    | split

theorem closed_spindleEmptied (hc : Closed free ps P) (hp : [.drives, .orders, .records, .queue, .transport, .printer, .outbound, .events] ⊆ ps) {s : State} {lost : Nat → Bool} {i : StationNo} (h : P s) :
    P (State.spindleEmptied s i lost) := by
  unfold State.spindleEmptied
  try dsimp only
  repeat' first
    | with_reducible assumption
    | ((with_reducible refine hc.raise ?_ ?_ _ _ _ _ ?_); exact hp (by decide); exact hp (by decide))
    | ((with_reducible refine closed_retireStranded hc ?_ ?_); · exact List.Subset.trans (by decide) hp)
    | ((with_reducible refine closed_loadDecision hc ?_ ?_); · exact List.Subset.trans (by decide) hp)
    | split

theorem closed_downshift (hc : Closed free ps P) (hp : [.drives, .outbound, .events] ⊆ ps) {s : State} {d : Drive} {a : Assignment} (ha : (s.drive d).active = some a) (h : P s) :
    P (State.downshift s d a) := by
  unfold State.downshift
  try dsimp only
  repeat' first
    | with_reducible assumption
    | ((with_reducible refine hc.drives ?_ _ _ _ ?_ ?_); · exact hp (by decide))
    | ((with_reducible refine hc.raise ?_ ?_ _ _ _ _ ?_); exact hp (by decide); exact hp (by decide))
    | split
    | exact Or.inr (fun hx => hx)
    | exact Or.inr ⟨fun hx => hx, fun hm => hm⟩
    | exact Or.inr ⟨fun hx => hx, le_refl _⟩
    | exact Or.inr DriveSlot.lawful_failZero
    | exact Or.inr (DriveSlot.lawful_downshift ha ⟨‹_›, rfl⟩)

theorem closed_countFailure (hc : Closed free ps P) (hp : [.drives, .outbound, .events] ⊆ ps) {s : State} {d : Drive} (h : P s) :
    P (State.countFailure s d) := by
  unfold State.countFailure
  try dsimp only
  repeat' first
    | with_reducible assumption
    | ((with_reducible refine closed_downshift hc ?_ (by assumption) ?_); · exact List.Subset.trans (by decide) hp)
    | ((with_reducible refine hc.drives ?_ _ _ _ ?_ ?_); · exact hp (by decide))
    | split
    | exact Or.inr (fun hx => hx)
    | exact Or.inr ⟨fun hx => hx, fun hm => hm⟩
    | exact Or.inr ⟨fun hx => hx, le_refl _⟩
    | exact Or.inr (DriveSlot.lawful_failCount (by assumption) (by omega))
    | exact Or.inr (DriveSlot.lawful_failNone (by assumption))

theorem closed_noticeEnd (hc : Closed free ps P) (hp : [.drives, .outbound, .events] ⊆ ps) {s : State} {d : Option Drive} {v : Verdict} {c : Option FailCause} (h : P s) :
    P (State.noticeEnd s d v c) := by
  unfold State.noticeEnd
  try dsimp only
  repeat' first
    | with_reducible assumption
    | ((with_reducible refine hc.drives ?_ _ _ _ ?_ ?_); · exact hp (by decide))
    | ((with_reducible refine closed_countFailure hc ?_ ?_); · exact List.Subset.trans (by decide) hp)
    | split
    | exact Or.inr (fun hx => hx)
    | exact Or.inr ⟨fun hx => hx, fun hm => hm⟩
    | exact Or.inr ⟨fun hx => hx, le_refl _⟩
    | exact Or.inr DriveSlot.lawful_failZero

theorem closed_chargeOrder (hc : Closed free ps P) (hp : [.orders, .outbound, .events] ⊆ ps) {s : State} {o : Option OrderNo} {v : Verdict} (h : P s) :
    P (State.chargeOrder s o v) := by
  unfold State.chargeOrder
  try dsimp only
  repeat' first
    | with_reducible assumption
    | ((with_reducible refine hc.orders ?_ _ _ _ ?_); · exact hp (by decide))
    | ((with_reducible refine closed_raiseOrder hc ?_ ?_); · exact List.Subset.trans (by decide) hp)
    | split

theorem closed_reloadFor (hc : Closed free ps P) (hp : [.drives, .orders, .queue, .printer, .outbound, .events] ⊆ ps) {s : State} {o : Option OrderNo} (h : P s) :
    P (State.reloadFor s o) := by
  unfold State.reloadFor
  try dsimp only
  repeat' first
    | with_reducible assumption
    | ((with_reducible refine closed_loadDecision hc ?_ ?_); · exact List.Subset.trans (by decide) hp)
    | split

theorem closed_endRecord (hc : Closed free ps P) (hp : [.drives, .orders, .records, .queue, .printer, .outbound, .events] ⊆ ps) {s : State} {t : Token} {cause : Option FailCause} {final : Place} (h : P s) :
    P (State.endRecord s t cause final) := by
  unfold State.endRecord
  try dsimp only
  repeat' first
    | with_reducible assumption
    | ((with_reducible refine closed_giveCause hc ?_ ?_); · exact List.Subset.trans (by decide) hp)
    | ((with_reducible refine hc.credit ?_ _ _ _ _ ?_); · exact hp (by decide)) | ((with_reducible refine hc.discDone ?_ _ _ _ _ _ ?_); · exact hp (by decide))
    | ((with_reducible refine closed_chargeOrder hc ?_ ?_); · exact List.Subset.trans (by decide) hp)
    | ((with_reducible refine closed_noticeEnd hc ?_ ?_); · exact List.Subset.trans (by decide) hp)
    | ((with_reducible refine hc.records ?_ _ _ _ ?_); · exact hp (by decide))
    | ((with_reducible refine closed_reloadFor hc ?_ ?_); · exact List.Subset.trans (by decide) hp)
    | split

theorem closed_goEmpty (hc : Closed free ps P) (hp : [.drives, .orders, .queue, .printer, .outbound, .events] ⊆ ps) {s : State} {d : Drive} (h : P s) :
    P (State.goEmpty s d) := by
  unfold State.goEmpty
  try dsimp only
  repeat' first
    | with_reducible assumption
    | ((with_reducible refine hc.drives ?_ _ _ _ ?_ ?_); · exact hp (by decide))
    | ((with_reducible refine closed_raiseDrive hc ?_ ?_); · exact List.Subset.trans (by decide) hp)
    | ((with_reducible refine closed_loadDecision hc ?_ ?_); · exact List.Subset.trans (by decide) hp)
    | split
    | exact Or.inr (fun hx => hx)
    | exact Or.inr ⟨fun hx => hx, fun hm => hm⟩
    | exact Or.inr ⟨fun hx => hx, le_refl _⟩

theorem closed_startUnloading (hc : Closed free ps P) (hp : [.drives, .queue, .printer, .outbound, .events] ⊆ ps) {s : State} {d : Drive} {kind : EntryKind} {dest : Dest} (h : P s) :
    P (State.startUnloading s d kind dest) := by
  unfold State.startUnloading
  try dsimp only
  repeat' first
    | with_reducible assumption
    | ((with_reducible refine hc.drives ?_ _ _ _ ?_ ?_); · exact hp (by decide))
    | ((with_reducible refine closed_enqueue hc ?_ ?_); · exact List.Subset.trans (by decide) hp)
    | ((with_reducible refine closed_raiseDrive hc ?_ ?_); · exact List.Subset.trans (by decide) hp)
    | ((with_reducible refine closed_askDrive hc ?_ ?_); · exact List.Subset.trans (by decide) hp)
    | split
    | exact Or.inr (fun hx => hx)
    | exact Or.inr ⟨fun hx => hx, fun hm => hm⟩
    | exact Or.inr ⟨fun hx => hx, le_refl _⟩

theorem closed_unload (hc : Closed free ps P) (hp : [.drives, .queue, .printer, .outbound, .events] ⊆ ps) {s : State} {d : Drive} (h : P s) :
    P (State.unload s d) := by
  unfold State.unload
  try dsimp only
  repeat' first
    | with_reducible assumption
    | ((with_reducible refine closed_startUnloading hc ?_ ?_); · exact List.Subset.trans (by decide) hp)
    | split

theorem closed_withdraw (hc : Closed free ps P) (hp : [.drives, .queue, .printer, .outbound, .events] ⊆ ps) {s : State} {d : Drive} (h : P s) :
    P (State.withdraw s d) := by
  unfold State.withdraw
  try dsimp only
  repeat' first
    | with_reducible assumption
    | ((with_reducible refine closed_startUnloading hc ?_ ?_); · exact List.Subset.trans (by decide) hp)
    | split

theorem closed_closeTray (hc : Closed free ps P) (hp : [.drives, .outbound, .events] ⊆ ps) {s : State} {d : Drive} (h : P s) :
    P (State.closeTray s d) := by
  unfold State.closeTray
  try dsimp only
  repeat' first
    | with_reducible assumption
    | ((with_reducible refine hc.drives ?_ _ _ _ ?_ ?_); · exact hp (by decide))
    | ((with_reducible refine closed_raiseDrive hc ?_ ?_); · exact List.Subset.trans (by decide) hp)
    | ((with_reducible refine closed_askDrive hc ?_ ?_); · exact List.Subset.trans (by decide) hp)
    | split
    | exact Or.inr (fun hx => hx)
    | exact Or.inr ⟨fun hx => hx, fun hm => hm⟩
    | exact Or.inr ⟨fun hx => hx, le_refl _⟩

theorem closed_writeSend (hc : Closed free ps P) (hp : [.waves, .drives] ⊆ ps) {s : State} {w : WaveNo} {d : Drive} (h : P s) :
    P (State.writeSend s w d) := by
  unfold State.writeSend
  try dsimp only
  repeat' first
    | with_reducible assumption
    | ((with_reducible refine hc.waves ?_ _ _ _ ?_ ?_); · exact hp (by decide))
    | ((with_reducible refine closed_sendDrive hc ?_ ?_); · exact List.Subset.trans (by decide) hp)
    | split
    | exact Or.inr (fun hx => hx)
    | exact Or.inr ⟨fun hx => hx, fun hm => hm⟩
    | exact Or.inr ⟨fun hx => hx, le_refl _⟩
    | exact Or.inr ⟨Wave.lawful_modAttachment, le_refl _⟩

theorem closed_attach (hc : Closed free ps P) (hp : [.waves, .drives, .outbound, .events] ⊆ ps) {s : State} {w : WaveNo} {d : Drive}
    (hw : free.waves ∨ (s.wave w).state ≠ .idle) (h : P s) :
    P (State.attach s w d) := by
  unfold State.attach
  try dsimp only
  repeat' first
    | with_reducible assumption
    | ((with_reducible refine hc.waves ?_ _ _ _ ?_ ?_); · exact hp (by decide))
    | ((with_reducible refine hc.drives ?_ _ _ _ ?_ ?_); · exact hp (by decide))
    | ((with_reducible refine closed_raiseDrive hc ?_ ?_); · exact List.Subset.trans (by decide) hp)
    | ((with_reducible refine closed_writeSend hc ?_ ?_); · exact List.Subset.trans (by decide) hp)
    | split
    | exact Or.inr (fun hx => hx)
    | exact Or.inr ⟨fun hx => hx, fun hm => hm⟩
    | exact hw.imp id (fun hi => ⟨Wave.lawful_attached hi, le_refl _⟩)

theorem closed_joinGate (hc : Closed free ps P) (hp : [.waves, .drives, .outbound, .events] ⊆ ps) {s : State} {d : Drive} (h : P s) :
    P (State.joinGate s d) := by
  unfold State.joinGate
  split
  · rename_i w hw
    obtain ⟨i, _, hi⟩ := Option.bind_eq_some_iff.mp hw
    exact closed_attach hc hp (Or.inr (by rw [State.openWave_opened hi]; simp)) h
  · exact h

theorem closed_enterReady (hc : Closed free ps P) (hp : [.waves, .drives, .queue, .printer, .outbound, .events] ⊆ ps) {s : State} {d : Drive} (h : P s) :
    P (State.enterReady s d) := by
  unfold State.enterReady
  try dsimp only
  repeat' first
    | with_reducible assumption
    | ((with_reducible refine hc.drives ?_ _ _ _ ?_ ?_); · exact hp (by decide))
    | ((with_reducible refine closed_raiseDrive hc ?_ ?_); · exact List.Subset.trans (by decide) hp)
    | ((with_reducible refine closed_withdraw hc ?_ ?_); · exact List.Subset.trans (by decide) hp)
    | ((with_reducible refine closed_joinGate hc ?_ ?_); · exact List.Subset.trans (by decide) hp)
    | split
    | exact Or.inr (fun hx => hx)
    | exact Or.inr ⟨fun hx => hx, fun hm => hm⟩
    | exact Or.inr ⟨fun hx => hx, le_refl _⟩

theorem closed_failBurn (hc : Closed free ps P) (hp : [.records] ⊆ ps) {s : State} {d : Drive} {c : FailCause} (h : P s) :
    P (State.failBurn s d c) := by
  unfold State.failBurn
  try dsimp only
  repeat' first
    | with_reducible assumption
    | ((with_reducible refine closed_writeRecordO hc ?_ ?_); · exact List.Subset.trans (by decide) hp)
    | ((with_reducible refine closed_giveCause hc ?_ ?_); · exact List.Subset.trans (by decide) hp)
    | split

theorem closed_detachToUnload (hc : Closed free ps P) (hp : [.drives, .records, .queue, .printer, .outbound, .events] ⊆ ps) {s : State} {d : Drive} {c : FailCause} (h : P s) :
    P (State.detachToUnload s d c) := by
  unfold State.detachToUnload
  try dsimp only
  repeat' first
    | with_reducible assumption
    | ((with_reducible refine closed_failBurn hc ?_ ?_); · exact List.Subset.trans (by decide) hp)
    | ((with_reducible refine closed_startUnloading hc ?_ ?_); · exact List.Subset.trans (by decide) hp)
    | split

theorem closed_unattach (hc : Closed free ps P) (hp : [.waves] ⊆ ps) {s : State} {w : WaveNo} {d : Drive} (h : P s) :
    P (State.unattach s w d) := by
  unfold State.unattach
  try dsimp only
  repeat' first
    | with_reducible assumption
    | ((with_reducible refine hc.waves ?_ _ _ _ ?_ ?_); · exact hp (by decide))
    | split
    | exact Or.inr (fun hx => hx)
    | exact Or.inr ⟨fun hx => hx, fun hm => hm⟩
    | exact Or.inr ⟨Wave.lawful_unattach, le_refl _⟩

theorem closed_detachAll (hc : Closed free ps P) (hp : [.waves, .drives, .records, .queue, .printer, .outbound, .events] ⊆ ps) {s : State} {w : WaveNo} {ds : List Drive} {c : FailCause} (h : P s) :
    P (State.detachAll s w ds c) := by
  unfold State.detachAll
  try dsimp only
  repeat' first
    | with_reducible assumption
    | ((with_reducible refine closed_unattach hc ?_ ?_); · exact List.Subset.trans (by decide) hp)
    | ((with_reducible refine closed_detachToUnload hc ?_ ?_); · exact List.Subset.trans (by decide) hp)
    | (with_reducible refine closed_foldl ?_ ?_)
    | (intro _ _ _; try dsimp only)
    | split

theorem closed_raiseDetach (hc : Closed free ps P) (hp : [.outbound, .events] ⊆ ps) {s : State} {w : WaveNo} {mask : Word16} (h : P s) :
    P (State.raiseDetach s w mask) := by
  unfold State.raiseDetach
  try dsimp only
  repeat' first
    | with_reducible assumption
    | ((with_reducible refine hc.raise ?_ ?_ _ _ _ _ ?_); exact hp (by decide); exact hp (by decide))
    | split

theorem closed_waveEndAtImage (hc : Closed free ps P) (hp : [.images, .accs, .outbound, .events] ⊆ ps) {s : State} {w : WaveNo} {slot : Option SlotNo} {c : Option ImageCause} (h : P s) :
    P (State.waveEndAtImage s w slot c) := by
  unfold State.waveEndAtImage
  try dsimp only
  repeat' first
    | with_reducible assumption
    | ((with_reducible refine hc.accs ?_ _ _ _ ?_); · exact hp (by decide))
    | ((with_reducible refine hc.images ?_ _ _ _ ?_); · exact hp (by decide))
    | ((with_reducible refine closed_raiseImage hc ?_ ?_); · exact List.Subset.trans (by decide) hp)
    | split

theorem closed_abortWave (hc : Closed free ps P) (hp : [.images, .accs, .waves, .drives, .records, .queue, .printer, .outbound, .events] ⊆ ps) {s : State} {w : WaveNo} {c : AbortCause} (h : P s) :
    P (State.abortWave s w c) := by
  unfold State.abortWave
  try dsimp only
  repeat' first
    | with_reducible assumption
    | ((with_reducible refine hc.waves ?_ _ _ _ ?_ ?_); · exact hp (by decide))
    | ((with_reducible refine closed_detachAll hc ?_ ?_); · exact List.Subset.trans (by decide) hp)
    | ((with_reducible refine closed_raiseDetach hc ?_ ?_); · exact List.Subset.trans (by decide) hp)
    | ((with_reducible refine closed_waveEndAtImage hc ?_ ?_); · exact List.Subset.trans (by decide) hp)
    | ((with_reducible refine closed_raiseWave hc ?_ ?_); · exact List.Subset.trans (by decide) hp)
    | split
    | exact Or.inr (fun hx => hx)
    | exact Or.inr ⟨fun hx => hx, fun hm => hm⟩
    | exact Or.inr ⟨fun hx => hx, le_refl _⟩
    | exact Or.inr ⟨Wave.lawful_timerOff, le_refl _⟩
    | exact Or.inr ⟨fun _ => Wave.lawful_ended, Nat.zero_le _⟩

theorem closed_drainedCheck (hc : Closed free ps P) (hp : [.images, .accs, .waves, .outbound, .events] ⊆ ps) {s : State} {w : WaveNo} (h : P s) :
    P (State.drainedCheck s w) := by
  unfold State.drainedCheck
  try dsimp only
  repeat' first
    | with_reducible assumption
    | ((with_reducible refine hc.waves ?_ _ _ _ ?_ ?_); · exact hp (by decide))
    | ((with_reducible refine closed_waveEndAtImage hc ?_ ?_); · exact List.Subset.trans (by decide) hp)
    | ((with_reducible refine closed_raiseWave hc ?_ ?_); · exact List.Subset.trans (by decide) hp)
    | split
    | exact Or.inr (fun hx => hx)
    | exact Or.inr ⟨fun hx => hx, fun hm => hm⟩
    | exact Or.inr ⟨fun hx => hx, le_refl _⟩
    | exact Or.inr ⟨fun _ => Wave.lawful_ended, Nat.zero_le _⟩

theorem closed_closeGate (hc : Closed free ps P) (hp : [.waves, .outbound, .events] ⊆ ps) {s : State} {w : WaveNo} (h : P s) :
    P (State.closeGate s w) := by
  unfold State.closeGate
  try dsimp only
  repeat' first
    | with_reducible assumption
    | ((with_reducible refine hc.waves ?_ _ _ _ ?_ ?_); · exact hp (by decide))
    | ((with_reducible refine closed_raiseWave hc ?_ ?_); · exact List.Subset.trans (by decide) hp)
    | split
    | exact Or.inr (fun hx => hx)
    | exact Or.inr ⟨fun hx => hx, fun hm => hm⟩
    | exact Or.inr ⟨fun hx => hx, le_refl _⟩
    | exact Or.inr ⟨Wave.lawful_streaming (by assumption), le_refl _⟩

theorem closed_sendCredit (hc : Closed free ps P) (hp : [.waves, .outbound] ⊆ ps) {s : State} {w : WaveNo} (h : P s) :
    P (State.sendCredit s w) := by
  unfold State.sendCredit
  try dsimp only
  repeat' first
    | with_reducible assumption
    | ((with_reducible refine hc.waves ?_ _ _ _ ?_ ?_); · exact hp (by decide))
    | ((with_reducible refine hc.credit ?_ _ _ _ _ ?_); · exact hp (by decide)) | ((with_reducible refine hc.discDone ?_ _ _ _ _ _ ?_); · exact hp (by decide))
    | split
    | exact Or.inr (fun hx => hx)
    | exact Or.inr ⟨fun hx => hx, fun hm => hm⟩
    | exact Or.inr ⟨fun hx => hx, le_refl _⟩

theorem closed_creditIfDue (hc : Closed free ps P) (hp : [.waves, .outbound] ⊆ ps) {s : State} {w : WaveNo} (h : P s) :
    P (State.creditIfDue s w) := by
  unfold State.creditIfDue
  try dsimp only
  repeat' first
    | with_reducible assumption
    | ((with_reducible refine closed_sendCredit hc ?_ ?_); · exact List.Subset.trans (by decide) hp)
    | split

theorem closed_releaseRule (hc : Closed free ps P) (hp : [.waves, .outbound, .events] ⊆ ps) {s : State} {w : WaveNo} (h : P s) :
    P (State.releaseRule s w) := by
  unfold State.releaseRule
  try dsimp only
  repeat' first
    | with_reducible assumption
    | ((with_reducible refine hc.waves ?_ _ _ _ ?_ ?_); · exact hp (by decide))
    | ((with_reducible refine closed_closeGate hc ?_ ?_); · exact List.Subset.trans (by decide) hp)
    | ((with_reducible refine closed_creditIfDue hc ?_ ?_); · exact List.Subset.trans (by decide) hp)
    | split
    | exact Or.inr (fun hx => hx)
    | exact Or.inr ⟨fun hx => hx, fun hm => hm⟩
    | exact Or.inr ⟨fun hx => hx, le_refl _⟩
    | exact Or.inr ⟨Wave.lawful_released, le_refl _⟩

theorem closed_abortIfEmpty (hc : Closed free ps P) (hp : [.images, .accs, .waves, .drives, .records, .queue, .printer, .outbound, .events] ⊆ ps) {s : State} {w : WaveNo} (h : P s) :
    P (State.abortIfEmpty s w) := by
  unfold State.abortIfEmpty
  try dsimp only
  repeat' first
    | with_reducible assumption
    | ((with_reducible refine closed_abortWave hc ?_ ?_); · exact List.Subset.trans (by decide) hp)
    | split

theorem closed_detachOne (hc : Closed free ps P)
    (hp : [.images, .accs, .waves, .drives, .records, .queue, .printer, .outbound, .events] ⊆ ps) {s : State} {d : Drive}
    {side : State → State} (hs : ∀ t, P t → P (side t)) (h : P s) : P (State.detachOne s d side) := by
  unfold State.detachOne
  split
  · refine closed_abortIfEmpty hc (List.Subset.trans (by decide) hp) (closed_drainedCheck hc (List.Subset.trans (by decide) hp)
      (closed_releaseRule hc (List.Subset.trans (by decide) hp) (closed_raiseDetach hc (List.Subset.trans (by decide) hp)
        (hs _ (closed_unattach hc (List.Subset.trans (by decide) hp) h)))))
  · exact hs _ h

theorem closed_fillDigest (hc : Closed free ps P) (hp : [.images, .outbound, .events] ⊆ ps) {s : State} {i : SlotNo} {digest : Word32} {last : Bool} (h : P s) :
    P (State.fillDigest s i digest last) := by
  unfold State.fillDigest
  try dsimp only
  repeat' first
    | with_reducible assumption
    | ((with_reducible refine hc.images ?_ _ _ _ ?_); · exact hp (by decide))
    | ((with_reducible refine closed_raiseImage hc ?_ ?_); · exact List.Subset.trans (by decide) hp)
    | split

theorem closed_takeSector (hc : Closed free ps P) (hp : [.images, .accs, .outbound, .events] ⊆ ps) {s : State} {w : WaveNo}
    {payload : List Byte} (h : P s) : P (State.takeSector s w payload).1 := by
  unfold State.takeSector
  dsimp only
  repeat' first
    | with_reducible assumption
    | ((with_reducible refine hc.accs ?_ _ _ _ ?_); · exact hp (by decide))
    | ((with_reducible refine closed_fillDigest hc ?_ ?_); · exact List.Subset.trans (by decide) hp)
    | ((with_reducible refine closed_raiseImage hc ?_ ?_); · exact List.Subset.trans (by decide) hp)
    | split
    | dsimp only

theorem closed_takeSectors (hc : Closed free ps P) (hp : [.images, .accs, .outbound, .events] ⊆ ps) {w : WaveNo}
    {l : List (List Byte)} {s : State} (h : P s) : P (State.takeSectors s w l).1 := by
  induction l generalizing s with
  | nil => exact h
  | cons p l ih =>
    have h1 := closed_takeSector (w := w) (payload := p) hc hp h
    unfold State.takeSectors
    split
    · rename_i t ht; rw [ht] at h1; exact h1
    · rename_i t ht; rw [ht] at h1; exact ih h1

theorem closed_drain (hc : Closed free ps P) (hp : [.images, .accs, .waves, .drives, .records, .queue, .printer, .outbound, .events] ⊆ ps) (hfW : free.waves) {s : State} {w : WaveNo} (h : P s) :
    P (State.drain s w) := by
  unfold State.drain
  try dsimp only
  repeat' first
    | with_reducible assumption
    | ((with_reducible refine hc.waves ?_ _ _ _ ?_ ?_); · exact hp (by decide))
    | ((with_reducible refine closed_raiseWave hc ?_ ?_); · exact List.Subset.trans (by decide) hp)
    | ((with_reducible refine closed_abortWave hc ?_ ?_); · exact List.Subset.trans (by decide) hp)
    | split
    | exact Or.inr (fun hx => hx)
    | exact Or.inr ⟨fun hx => hx, fun hm => hm⟩
    | exact Or.inr ⟨fun hx => hx, le_refl _⟩
    | exact Or.inl hfW

theorem closed_startTimer (hc : Closed free ps P) (hp : [.waves] ⊆ ps) {s : State} {w : WaveNo} (h : P s) :
    P (State.startTimer s w) := by
  unfold State.startTimer
  try dsimp only
  repeat' first
    | with_reducible assumption
    | ((with_reducible refine hc.waves ?_ _ _ _ ?_ ?_); · exact hp (by decide))
    | split
    | exact Or.inr (fun hx => hx)
    | exact Or.inr ⟨fun hx => hx, fun hm => hm⟩
    | exact Or.inr ⟨fun hx => hx, le_refl _⟩
    | exact Or.inr ⟨Wave.lawful_timerOn (by assumption), le_refl _⟩

theorem closed_writeAll (hc : Closed free ps P) (hp : [.waves, .drives] ⊆ ps) {s : State} {w : WaveNo} (h : P s) :
    P (State.writeAll s w) := by
  unfold State.writeAll
  try dsimp only
  repeat' first
    | with_reducible assumption
    | ((with_reducible refine closed_writeSend hc ?_ ?_); · exact List.Subset.trans (by decide) hp)
    | (with_reducible refine closed_foldl ?_ ?_)
    | (intro _ _ _; try dsimp only)
    | split

theorem closed_afterTake (hc : Closed free ps P) (hp : [.images, .accs, .waves, .drives, .records, .queue, .printer, .outbound, .events] ⊆ ps) (hfW : free.waves) {s : State} {w : WaveNo} (h : P s) :
    P (State.afterTake s w) := by
  unfold State.afterTake
  try dsimp only
  repeat' first
    | with_reducible assumption
    | ((with_reducible refine closed_drain hc ?_ hfW ?_); · exact List.Subset.trans (by decide) hp)
    | ((with_reducible refine closed_startTimer hc ?_ ?_); · exact List.Subset.trans (by decide) hp)
    | ((with_reducible refine closed_writeAll hc ?_ ?_); · exact List.Subset.trans (by decide) hp)
    | split

theorem closed_acceptFrame (hc : Closed free ps P)
    (hp : [.images, .accs, .waves, .drives, .records, .queue, .printer, .feed, .outbound, .events] ⊆ ps)
    (hfW : free.waves) {s : State} {w : WaveNo} {entries : List HeldEntry} {count : Nat} {sectors : List (List Byte)}
    (h : P s) : P (State.acceptFrame s w entries count sectors) := by
  have h0 : P s.countAccepted := hc.feed (hp (by decide)) _ _ h
  have h1 := closed_takeSectors (w := w) (l := sectors) hc (List.Subset.trans (by decide) hp)
    (hc.waves (hp (by decide)) _ w (fun x => { x with held := x.held ++ entries, head := x.head + count })
      (Or.inl hfW) h0)
  unfold State.acceptFrame
  dsimp only
  split
  · rename_i u hu; rw [hu] at h1; exact closed_abortWave hc (List.Subset.trans (by decide) hp) h1
  · rename_i u hu; rw [hu] at h1; exact closed_afterTake hc (List.Subset.trans (by decide) hp) hfW h1

theorem closed_discard (hc : Closed free ps P) (hp : [.feed, .outbound, .events] ⊆ ps) {s : State} {c : DiscardCause}
    (h : P s) : P (State.discard s c) :=
  hc.raise (hp (by decide)) (hp (by decide)) _ _ _ _ (hc.feed (hp (by decide)) _ _ h)

theorem closed_modContext (hc : Closed free ps P) (hp : [.contexts] ⊆ ps) {s : State} {c : Fin 4} {f : Context → Context} (h : P s) :
    P (State.modContext s c f) := by
  unfold State.modContext
  try dsimp only
  repeat' first
    | with_reducible assumption
    | ((with_reducible refine hc.contexts ?_ _ _ _ ?_); · exact hp (by decide))
    | split

theorem closed_readSend (hc : Closed free ps P) (hp : [.drives, .contexts, .outbound, .events] ⊆ ps) {s : State} {c : Fin 4} (h : P s) :
    P (State.readSend s c) := by
  unfold State.readSend
  try dsimp only
  repeat' first
    | with_reducible assumption
    | ((with_reducible refine closed_modContext hc ?_ ?_); · exact List.Subset.trans (by decide) hp)
    | ((with_reducible refine closed_askDrive hc ?_ ?_); · exact List.Subset.trans (by decide) hp)
    | split

theorem closed_takeContext (hc : Closed free ps P) (hp : [.drives, .saves, .verifyQueue, .contexts, .outbound, .events] ⊆ ps) {s : State} (h : P s) :
    P (State.takeContext s) := by
  unfold State.takeContext
  try dsimp only
  repeat' first
    | with_reducible assumption
    | ((with_reducible refine hc.verifyQueue ?_ _ _ ?_); · exact hp (by decide))
    | ((with_reducible refine hc.saves ?_ _ _ _ ?_); · exact hp (by decide))
    | ((with_reducible refine hc.contexts ?_ _ _ _ ?_); · exact hp (by decide))
    | ((with_reducible refine closed_readSend hc ?_ ?_); · exact List.Subset.trans (by decide) hp)
    | split

theorem closed_contextRule (hc : Closed free ps P) (hp : [.drives, .saves, .verifyQueue, .contexts, .outbound, .events] ⊆ ps) {s : State} (h : P s) :
    P (State.contextRule s) := by
  unfold State.contextRule
  try dsimp only
  repeat' first
    | with_reducible assumption
    | ((with_reducible refine closed_takeContext hc ?_ ?_); · exact List.Subset.trans (by decide) hp)
    | (with_reducible refine closed_foldl ?_ ?_)
    | (intro _ _ _; try dsimp only)
    | split

theorem closed_leaveQueue (hc : Closed free ps P) (hp : [.verifyQueue] ⊆ ps) {s : State} {d : Drive} (h : P s) :
    P (State.leaveQueue s d) := by
  unfold State.leaveQueue
  try dsimp only
  repeat' first
    | with_reducible assumption
    | ((with_reducible refine hc.verifyQueue ?_ _ _ ?_); · exact hp (by decide))
    | split

theorem closed_giveBack (hc : Closed free ps P) (hp : [.saves, .contexts] ⊆ ps) {s : State} {d : Drive} (h : P s) :
    P (State.giveBack s d) := by
  unfold State.giveBack
  try dsimp only
  repeat' first
    | with_reducible assumption
    | ((with_reducible refine hc.saves ?_ _ _ _ ?_); · exact hp (by decide))
    | ((with_reducible refine hc.contexts ?_ _ _ _ ?_); · exact hp (by decide))
    | split

theorem closed_leaveVerify (hc : Closed free ps P) (hp : [.saves, .verifyQueue, .contexts] ⊆ ps) {s : State} {d : Drive} {e : LastEnding} (h : P s) :
    P (State.leaveVerify s d e) := by
  unfold State.leaveVerify
  try dsimp only
  repeat' first
    | with_reducible assumption
    | ((with_reducible refine closed_giveBack hc ?_ ?_); · exact List.Subset.trans (by decide) hp)
    | ((with_reducible refine closed_leaveQueue hc ?_ ?_); · exact List.Subset.trans (by decide) hp)
    | ((with_reducible refine hc.saves ?_ _ _ _ ?_); · exact hp (by decide))
    | split

theorem closed_verifyDown (hc : Closed free ps P) (hp : [.images] ⊆ ps) {s : State} {d : Drive} (h : P s) :
    P (State.verifyDown s d) := by
  unfold State.verifyDown
  try dsimp only
  repeat' first
    | with_reducible assumption
    | ((with_reducible refine hc.images ?_ _ _ _ ?_); · exact hp (by decide))
    | split

theorem closed_writeVerify (hc : Closed free ps P) (hp : [.records] ⊆ ps) {s : State} {d : Drive} {o : VerifyOutcome} (h : P s) :
    P (State.writeVerify s d o) := by
  unfold State.writeVerify
  try dsimp only
  repeat' first
    | with_reducible assumption
    | ((with_reducible refine closed_writeRecordO hc ?_ ?_); · exact List.Subset.trans (by decide) hp)
    | split

theorem closed_enterVerify (hc : Closed free ps P) (hp : [.images, .drives, .saves, .verifyQueue, .contexts, .outbound, .events] ⊆ ps) {s : State} {d : Drive} {slot : SlotNo} {a : Assignment} (h : P s) :
    P (State.enterVerify s d slot a) := by
  unfold State.enterVerify
  try dsimp only
  repeat' first
    | with_reducible assumption
    | ((with_reducible refine hc.drives ?_ _ _ _ ?_ ?_); · exact hp (by decide))
    | ((with_reducible refine hc.images ?_ _ _ _ ?_); · exact hp (by decide))
    | ((with_reducible refine hc.saves ?_ _ _ _ ?_); · exact hp (by decide))
    | ((with_reducible refine closed_raiseDrive hc ?_ ?_); · exact List.Subset.trans (by decide) hp)
    | ((with_reducible refine hc.verifyQueue ?_ _ _ ?_); · exact hp (by decide))
    | ((with_reducible refine closed_contextRule hc ?_ ?_); · exact List.Subset.trans (by decide) hp)
    | split
    | exact Or.inr (fun hx => hx)
    | exact Or.inr ⟨fun hx => hx, fun hm => hm⟩
    | exact Or.inr ⟨fun hx => hx, le_refl _⟩

theorem closed_giveEnding (hc : Closed free ps P) (hp : [.records] ⊆ ps) {s : State} {d : Drive} {e : LastEnding} (h : P s) :
    P (State.giveEnding s d e) := by
  unfold State.giveEnding
  try dsimp only
  repeat' first
    | with_reducible assumption
    | ((with_reducible refine closed_giveCause hc ?_ ?_); · exact List.Subset.trans (by decide) hp)
    | split

theorem closed_endVerify (hc : Closed free ps P) (hp : [.images, .drives, .saves, .verifyQueue, .contexts, .records, .queue, .printer, .outbound, .events] ⊆ ps) {s : State} {d : Drive} {e : LastEnding} (h : P s) :
    P (State.endVerify s d e) := by
  unfold State.endVerify
  try dsimp only
  repeat' first
    | with_reducible assumption
    | ((with_reducible refine closed_leaveVerify hc ?_ ?_); · exact List.Subset.trans (by decide) hp)
    | ((with_reducible refine closed_writeVerify hc ?_ ?_); · exact List.Subset.trans (by decide) hp)
    | ((with_reducible refine closed_giveEnding hc ?_ ?_); · exact List.Subset.trans (by decide) hp)
    | ((with_reducible refine closed_verifyDown hc ?_ ?_); · exact List.Subset.trans (by decide) hp)
    | ((with_reducible refine closed_unload hc ?_ ?_); · exact List.Subset.trans (by decide) hp)
    | ((with_reducible refine closed_contextRule hc ?_ ?_); · exact List.Subset.trans (by decide) hp)
    | split

theorem closed_completeRead (hc : Closed free ps P) (hp : [.drives, .saves, .verifyQueue, .contexts, .outbound, .events] ⊆ ps) {s : State} {d : Drive} {c : Fin 4} {slice : Nat} (h : P s) :
    P (State.completeRead s d c slice) := by
  unfold State.completeRead
  try dsimp only
  repeat' first
    | with_reducible assumption
    | ((with_reducible refine closed_modContext hc ?_ ?_); · exact List.Subset.trans (by decide) hp)
    | ((with_reducible refine closed_readSend hc ?_ ?_); · exact List.Subset.trans (by decide) hp)
    | ((with_reducible refine closed_giveBack hc ?_ ?_); · exact List.Subset.trans (by decide) hp)
    | ((with_reducible refine hc.saves ?_ _ _ _ ?_); · exact hp (by decide))
    | ((with_reducible refine hc.verifyQueue ?_ _ _ ?_); · exact hp (by decide))
    | ((with_reducible refine closed_contextRule hc ?_ ?_); · exact List.Subset.trans (by decide) hp)
    | split

theorem closed_afterRead (hc : Closed free ps P) (hp : [.images, .drives, .saves, .verifyQueue, .contexts, .records, .queue, .printer, .outbound, .events] ⊆ ps) {s : State} {d : Drive} {c : Fin 4} {p : Progress} {ov : Bool} (h : P s) :
    P (State.afterRead s d c p ov) := by
  unfold State.afterRead
  try dsimp only
  repeat' first
    | with_reducible assumption
    | ((with_reducible refine closed_modContext hc ?_ ?_); · exact List.Subset.trans (by decide) hp)
    | ((with_reducible refine closed_endVerify hc ?_ ?_); · exact List.Subset.trans (by decide) hp)
    | ((with_reducible refine closed_completeRead hc ?_ ?_); · exact List.Subset.trans (by decide) hp)
    | split

theorem closed_readData (hc : Closed free ps P) (hp : [.images, .drives, .saves, .verifyQueue, .contexts, .records, .queue, .printer, .outbound, .events] ⊆ ps) {s : State} {d : Drive} {bytes : List Byte} (h : P s) :
    P (State.readData s d bytes) := by
  unfold State.readData
  try dsimp only
  repeat' first
    | with_reducible assumption
    | ((with_reducible refine closed_afterRead hc ?_ ?_); · exact List.Subset.trans (by decide) hp)
    | split

theorem closed_readFailed (hc : Closed free ps P) (hp : [.images, .drives, .saves, .verifyQueue, .contexts, .records, .queue, .printer, .outbound, .events] ⊆ ps) {s : State} {d : Drive} (h : P s) :
    P (State.readFailed s d) := by
  unfold State.readFailed
  try dsimp only
  repeat' first
    | with_reducible assumption
    | ((with_reducible refine closed_afterRead hc ?_ ?_); · exact List.Subset.trans (by decide) hp)
    | split

theorem closed_verifyFaulted (hc : Closed free ps P) (hp : [.images, .drives, .saves, .verifyQueue, .contexts, .records, .outbound, .events] ⊆ ps) {s : State} {d : Drive} (h : P s) :
    P (State.verifyFaulted s d) := by
  unfold State.verifyFaulted
  try dsimp only
  repeat' first
    | with_reducible assumption
    | ((with_reducible refine closed_leaveVerify hc ?_ ?_); · exact List.Subset.trans (by decide) hp)
    | ((with_reducible refine closed_writeVerify hc ?_ ?_); · exact List.Subset.trans (by decide) hp)
    | ((with_reducible refine closed_verifyDown hc ?_ ?_); · exact List.Subset.trans (by decide) hp)
    | ((with_reducible refine closed_contextRule hc ?_ ?_); · exact List.Subset.trans (by decide) hp)
    | split

theorem closed_verifyRemoved (hc : Closed free ps P) (hp : [.images, .drives, .saves, .verifyQueue, .contexts, .outbound, .events] ⊆ ps) {s : State} {d : Drive} (h : P s) :
    P (State.verifyRemoved s d) := by
  unfold State.verifyRemoved
  try dsimp only
  repeat' first
    | with_reducible assumption
    | ((with_reducible refine closed_leaveVerify hc ?_ ?_); · exact List.Subset.trans (by decide) hp)
    | ((with_reducible refine closed_verifyDown hc ?_ ?_); · exact List.Subset.trans (by decide) hp)
    | ((with_reducible refine closed_closeTray hc ?_ ?_); · exact List.Subset.trans (by decide) hp)
    | ((with_reducible refine closed_contextRule hc ?_ ?_); · exact List.Subset.trans (by decide) hp)
    | split

theorem closed_verifyAborted (hc : Closed free ps P) (hp : [.images, .drives, .saves, .verifyQueue, .contexts, .records, .queue, .printer, .outbound, .events] ⊆ ps) {s : State} {d : Drive} (h : P s) :
    P (State.verifyAborted s d) := by
  unfold State.verifyAborted
  try dsimp only
  repeat' first
    | with_reducible assumption
    | ((with_reducible refine closed_leaveVerify hc ?_ ?_); · exact List.Subset.trans (by decide) hp)
    | ((with_reducible refine closed_writeVerify hc ?_ ?_); · exact List.Subset.trans (by decide) hp)
    | ((with_reducible refine closed_giveEnding hc ?_ ?_); · exact List.Subset.trans (by decide) hp)
    | ((with_reducible refine closed_verifyDown hc ?_ ?_); · exact List.Subset.trans (by decide) hp)
    | ((with_reducible refine closed_startUnloading hc ?_ ?_); · exact List.Subset.trans (by decide) hp)
    | split

theorem closed_dropEntry (hc : Closed free ps P) (hp : [.orders, .records, .queue, .transport, .printer] ⊆ ps) {s : State} {d : Drive} (h : P s) :
    P (State.dropEntry s d) := by
  unfold State.dropEntry
  try dsimp only
  repeat' first
    | with_reducible assumption
    | ((with_reducible refine closed_retire hc ?_ ?_); · exact List.Subset.trans (by decide) hp)
    | ((with_reducible refine closed_unreserve hc ?_ ?_); · exact List.Subset.trans (by decide) hp)
    | split

theorem closed_faultWork (hc : Closed free ps P) (hp : [.images, .accs, .waves, .drives, .saves, .verifyQueue, .contexts, .records, .queue, .printer, .outbound, .events] ⊆ ps) {s : State} {d : Drive} {before : DriveState} (h : P s) :
    P (State.faultWork s d before) := by
  unfold State.faultWork
  try dsimp only
  repeat' first
    | with_reducible assumption
    | ((with_reducible refine closed_detachOne hc ?_ ?_ ?_); exact List.Subset.trans (by decide) hp) | (intro _ _; try dsimp only)
    | ((with_reducible refine closed_failBurn hc ?_ ?_); · exact List.Subset.trans (by decide) hp)
    | ((with_reducible refine closed_verifyFaulted hc ?_ ?_); · exact List.Subset.trans (by decide) hp)
    | split

theorem closed_driveFaulted (hc : Closed free ps P) (hp : [.images, .accs, .waves, .drives, .saves, .verifyQueue, .contexts, .orders, .records, .queue, .transport, .printer, .outbound, .events] ⊆ ps) {s : State} {d : Drive} (h : P s) :
    P (State.driveFaulted s d) := by
  unfold State.driveFaulted
  try dsimp only
  repeat' first
    | with_reducible assumption
    | ((with_reducible refine hc.drives ?_ _ _ _ ?_ ?_); · exact hp (by decide))
    | ((with_reducible refine closed_dropWaiting hc ?_ ?_); · exact List.Subset.trans (by decide) hp)
    | ((with_reducible refine closed_giveCause hc ?_ ?_); · exact List.Subset.trans (by decide) hp)
    | ((with_reducible refine closed_faultWork hc ?_ ?_); · exact List.Subset.trans (by decide) hp)
    | ((with_reducible refine closed_dropEntry hc ?_ ?_); · exact List.Subset.trans (by decide) hp)
    | ((with_reducible refine closed_raiseDrive hc ?_ ?_); · exact List.Subset.trans (by decide) hp)
    | ((with_reducible refine closed_loadDecision hc ?_ ?_); · exact List.Subset.trans (by decide) hp)
    | split
    | exact Or.inr (fun hx => hx)
    | exact Or.inr ⟨fun hx => hx, fun hm => hm⟩
    | exact Or.inr ⟨fun hx => hx, le_refl _⟩

theorem closed_checkEnd (hc : Closed free ps P) (hp : [.drives, .orders, .queue, .printer, .outbound, .events] ⊆ ps) {s : State} {d : Drive} {r : CheckResult} (h : P s) :
    P (State.checkEnd s d r) := by
  unfold State.checkEnd
  try dsimp only
  repeat' first
    | with_reducible assumption
    | ((with_reducible refine hc.drives ?_ _ _ _ ?_ ?_); · exact hp (by decide))
    | ((with_reducible refine hc.raise ?_ ?_ _ _ _ _ ?_); exact hp (by decide); exact hp (by decide))
    | ((with_reducible refine closed_sendDrive hc ?_ ?_); · exact List.Subset.trans (by decide) hp)
    | ((with_reducible refine closed_raiseDrive hc ?_ ?_); · exact List.Subset.trans (by decide) hp)
    | ((with_reducible refine closed_dropWaiting hc ?_ ?_); · exact List.Subset.trans (by decide) hp)
    | ((with_reducible refine closed_loadDecision hc ?_ ?_); · exact List.Subset.trans (by decide) hp)
    | split
    | exact Or.inr (fun hx => hx)
    | exact Or.inr ⟨fun hx => hx, fun hm => hm⟩
    | exact Or.inr ⟨fun hx => hx, le_refl _⟩

theorem closed_settleEmpty (hc : Closed free ps P) (hp : [.drives, .orders, .queue, .printer, .outbound, .events] ⊆ ps) {s : State} {d : Drive} (h : P s) :
    P (State.settleEmpty s d) := by
  unfold State.settleEmpty
  try dsimp only
  repeat' first
    | with_reducible assumption
    | ((with_reducible refine hc.drives ?_ _ _ _ ?_ ?_); · exact hp (by decide))
    | ((with_reducible refine closed_raiseDrive hc ?_ ?_); · exact List.Subset.trans (by decide) hp)
    | ((with_reducible refine closed_sendWaiting hc ?_ ?_); · exact List.Subset.trans (by decide) hp)
    | ((with_reducible refine closed_loadDecision hc ?_ ?_); · exact List.Subset.trans (by decide) hp)
    | split
    | exact Or.inr (fun hx => hx)
    | exact Or.inr ⟨fun hx => hx, fun hm => hm⟩
    | exact Or.inr ⟨fun hx => hx, le_refl _⟩

theorem closed_settleOrphan (hc : Closed free ps P) (hp : [.images, .accs, .waves, .drives, .saves, .verifyQueue, .contexts, .orders, .records, .queue, .transport, .printer, .outbound, .events] ⊆ ps) {s : State} {d : Drive} {cls : Nat} (h : P s) :
    P (State.settleOrphan s d cls) := by
  unfold State.settleOrphan
  try dsimp only
  repeat' first
    | with_reducible assumption
    | ((with_reducible refine closed_takeRecord hc ?_ ?_); · exact List.Subset.trans (by decide) hp)
    | ((with_reducible refine hc.drives ?_ _ _ _ ?_ ?_); · exact hp (by decide))
    | ((with_reducible refine closed_startUnloading hc ?_ ?_); · exact List.Subset.trans (by decide) hp)
    | ((with_reducible refine closed_dropWaiting hc ?_ ?_); · exact List.Subset.trans (by decide) hp)
    | ((with_reducible refine closed_loadDecision hc ?_ ?_); · exact List.Subset.trans (by decide) hp)
    | ((with_reducible refine closed_driveFaulted hc ?_ ?_); · exact List.Subset.trans (by decide) hp)
    | split
    | exact Or.inr (fun hx => hx)
    | exact Or.inr ⟨fun hx => hx, fun hm => hm⟩
    | exact Or.inr ⟨fun hx => hx, le_refl _⟩

theorem closed_settle (hc : Closed free ps P) (hp : [.images, .accs, .waves, .drives, .saves, .verifyQueue, .contexts, .orders, .records, .queue, .transport, .printer, .outbound, .events] ⊆ ps) {s : State} {d : Drive} {present : Bool} {cls : Nat} (h : P s) :
    P (State.settle s d present cls) := by
  unfold State.settle
  try dsimp only
  repeat' first
    | with_reducible assumption
    | ((with_reducible refine hc.drives ?_ _ _ _ ?_ ?_); · exact hp (by decide))
    | ((with_reducible refine closed_settleEmpty hc ?_ ?_); · exact List.Subset.trans (by decide) hp)
    | ((with_reducible refine closed_endRecord hc ?_ ?_); · exact List.Subset.trans (by decide) hp)
    | ((with_reducible refine closed_startUnloading hc ?_ ?_); · exact List.Subset.trans (by decide) hp)
    | ((with_reducible refine closed_dropWaiting hc ?_ ?_); · exact List.Subset.trans (by decide) hp)
    | ((with_reducible refine closed_loadDecision hc ?_ ?_); · exact List.Subset.trans (by decide) hp)
    | ((with_reducible refine closed_settleOrphan hc ?_ ?_); · exact List.Subset.trans (by decide) hp)
    | split
    | exact Or.inr (fun hx => hx)
    | exact Or.inr ⟨fun hx => hx, fun hm => hm⟩
    | exact Or.inr ⟨fun hx => hx, le_refl _⟩

theorem closed_failLoading (hc : Closed free ps P) (hp : [.drives, .records, .queue, .printer, .outbound, .events] ⊆ ps) {s : State} {d : Drive} {c : FailCause} (h : P s) :
    P (State.failLoading s d c) := by
  unfold State.failLoading
  try dsimp only
  repeat' first
    | with_reducible assumption
    | ((with_reducible refine closed_giveCause hc ?_ ?_); · exact List.Subset.trans (by decide) hp)
    | ((with_reducible refine closed_startUnloading hc ?_ ?_); · exact List.Subset.trans (by decide) hp)
    | split

theorem closed_speedSet (hc : Closed free ps P) (hp : [.drives, .queue, .printer, .outbound, .events] ⊆ ps) {s : State} {d : Drive} (h : P s) :
    P (State.speedSet s d) := by
  unfold State.speedSet
  try dsimp only
  repeat' first
    | with_reducible assumption
    | ((with_reducible refine closed_withdraw hc ?_ ?_); · exact List.Subset.trans (by decide) hp)
    | ((with_reducible refine hc.drives ?_ _ _ _ ?_ ?_); · exact hp (by decide))
    | ((with_reducible refine closed_askDrive hc ?_ ?_); · exact List.Subset.trans (by decide) hp)
    | split
    | exact Or.inr (fun hx => hx)
    | exact Or.inr ⟨fun hx => hx, fun hm => hm⟩
    | exact Or.inr ⟨fun hx => hx, le_refl _⟩

theorem closed_trayOpenEnded (hc : Closed free ps P) (hp : [.drives, .outbound, .events] ⊆ ps) {s : State} {d : Drive} {e : Ending} (h : P s) :
    P (State.trayOpenEnded s d e) := by
  unfold State.trayOpenEnded
  try dsimp only
  repeat' first
    | with_reducible assumption
    | ((with_reducible refine closed_askDrive hc ?_ ?_); · exact List.Subset.trans (by decide) hp)
    | ((with_reducible refine hc.drives ?_ _ _ _ ?_ ?_); · exact hp (by decide))
    | split
    | exact Or.inr (fun hx => hx)
    | exact Or.inr ⟨fun hx => hx, fun hm => hm⟩
    | exact Or.inr ⟨fun hx => hx, le_refl _⟩

theorem closed_trayCloseEnded (hc : Closed free ps P) (hp : [.drives, .orders, .queue, .printer, .outbound, .events] ⊆ ps) {s : State} {d : Drive} {e : Ending} (h : P s) :
    P (State.trayCloseEnded s d e) := by
  unfold State.trayCloseEnded
  try dsimp only
  repeat' first
    | with_reducible assumption
    | ((with_reducible refine closed_askDrive hc ?_ ?_); · exact List.Subset.trans (by decide) hp)
    | ((with_reducible refine closed_speedSet hc ?_ ?_); · exact List.Subset.trans (by decide) hp)
    | ((with_reducible refine closed_goEmpty hc ?_ ?_); · exact List.Subset.trans (by decide) hp)
    | split

theorem closed_speedEnded (hc : Closed free ps P) (hp : [.drives, .records, .queue, .printer, .outbound, .events] ⊆ ps) {s : State} {d : Drive} {g : Rung} {e : Ending} (h : P s) :
    P (State.speedEnded s d g e) := by
  unfold State.speedEnded
  try dsimp only
  repeat' first
    | with_reducible assumption
    | ((with_reducible refine closed_writeRecordO hc ?_ ?_); · exact List.Subset.trans (by decide) hp)
    | ((with_reducible refine hc.drives ?_ _ _ _ ?_ ?_); · exact hp (by decide))
    | ((with_reducible refine closed_askDrive hc ?_ ?_); · exact List.Subset.trans (by decide) hp)
    | ((with_reducible refine closed_failLoading hc ?_ ?_); · exact List.Subset.trans (by decide) hp)
    | split
    | exact Or.inr (fun hx => hx)
    | exact Or.inr ⟨fun hx => hx, fun hm => hm⟩
    | exact Or.inr ⟨fun hx => hx, le_refl _⟩

theorem closed_senseEnded (hc : Closed free ps P) (hp : [.waves, .drives, .records, .queue, .printer, .outbound, .events] ⊆ ps) {s : State} {d : Drive} {e : Ending} (h : P s) :
    P (State.senseEnded s d e) := by
  unfold State.senseEnded
  try dsimp only
  repeat' first
    | with_reducible assumption
    | ((with_reducible refine closed_askDrive hc ?_ ?_); · exact List.Subset.trans (by decide) hp)
    | ((with_reducible refine closed_enterReady hc ?_ ?_); · exact List.Subset.trans (by decide) hp)
    | ((with_reducible refine closed_failLoading hc ?_ ?_); · exact List.Subset.trans (by decide) hp)
    | split

theorem closed_finish (hc : Closed free ps P) (hp : [.images, .accs, .waves, .drives, .outbound, .events] ⊆ ps) {s : State} {w : WaveNo} {d : Drive} (h : P s) :
    P (State.finish s w d) := by
  unfold State.finish
  try dsimp only
  repeat' first
    | with_reducible assumption
    | ((with_reducible refine closed_releaseRule hc ?_ ?_); · exact List.Subset.trans (by decide) hp)
    | ((with_reducible refine closed_unattach hc ?_ ?_); · exact List.Subset.trans (by decide) hp)
    | ((with_reducible refine hc.drives ?_ _ _ _ ?_ ?_); · exact hp (by decide))
    | ((with_reducible refine closed_raiseDrive hc ?_ ?_); · exact List.Subset.trans (by decide) hp)
    | ((with_reducible refine closed_askDrive hc ?_ ?_); · exact List.Subset.trans (by decide) hp)
    | ((with_reducible refine closed_drainedCheck hc ?_ ?_); · exact List.Subset.trans (by decide) hp)
    | split
    | exact Or.inr (fun hx => hx)
    | exact Or.inr ⟨fun hx => hx, fun hm => hm⟩
    | exact Or.inr ⟨fun hx => hx, le_refl _⟩

theorem closed_writeDone (hc : Closed free ps P) (hp : [.images, .accs, .waves, .drives, .outbound, .events] ⊆ ps) {s : State} {w : WaveNo} {d : Drive} {a : Attachment} (h : P s) :
    P (State.writeDone s w d a) := by
  unfold State.writeDone
  try dsimp only
  repeat' first
    | with_reducible assumption
    | ((with_reducible refine hc.waves ?_ _ _ _ ?_ ?_); · exact hp (by decide))
    | ((with_reducible refine closed_finish hc ?_ ?_); · exact List.Subset.trans (by decide) hp)
    | ((with_reducible refine closed_releaseRule hc ?_ ?_); · exact List.Subset.trans (by decide) hp)
    | ((with_reducible refine closed_writeSend hc ?_ ?_); · exact List.Subset.trans (by decide) hp)
    | split
    | exact Or.inr (fun hx => hx)
    | exact Or.inr ⟨fun hx => hx, fun hm => hm⟩
    | exact Or.inr ⟨fun hx => hx, le_refl _⟩
    | exact Or.inr ⟨Wave.lawful_modAttachment, le_refl _⟩

theorem closed_writeEnded (hc : Closed free ps P) (hp : [.images, .accs, .waves, .drives, .records, .queue, .printer, .outbound, .events] ⊆ ps) {s : State} {d : Drive} {e : Ending} (h : P s) :
    P (State.writeEnded s d e) := by
  unfold State.writeEnded
  try dsimp only
  repeat' first
    | with_reducible assumption
    | ((with_reducible refine closed_writeDone hc ?_ ?_); · exact List.Subset.trans (by decide) hp)
    | ((with_reducible refine closed_detachOne hc ?_ ?_ ?_); exact List.Subset.trans (by decide) hp) | (intro _ _; try dsimp only)
    | ((with_reducible refine closed_detachToUnload hc ?_ ?_); · exact List.Subset.trans (by decide) hp)
    | split

theorem closed_closeDone (hc : Closed free ps P) (hp : [.images, .drives, .saves, .verifyQueue, .contexts, .records, .queue, .printer, .outbound, .events] ⊆ ps) {s : State} {d : Drive} (h : P s) :
    P (State.closeDone s d) := by
  unfold State.closeDone
  try dsimp only
  repeat' first
    | with_reducible assumption
    | ((with_reducible refine closed_writeRecordO hc ?_ ?_); · exact List.Subset.trans (by decide) hp)
    | ((with_reducible refine closed_startUnloading hc ?_ ?_); · exact List.Subset.trans (by decide) hp)
    | ((with_reducible refine closed_unload hc ?_ ?_); · exact List.Subset.trans (by decide) hp)
    | ((with_reducible refine closed_enterVerify hc ?_ ?_); · exact List.Subset.trans (by decide) hp)
    | split

theorem closed_closeEnded (hc : Closed free ps P) (hp : [.images, .drives, .saves, .verifyQueue, .contexts, .records, .queue, .printer, .outbound, .events] ⊆ ps) {s : State} {d : Drive} {e : Ending} (h : P s) :
    P (State.closeEnded s d e) := by
  unfold State.closeEnded
  try dsimp only
  repeat' first
    | with_reducible assumption
    | ((with_reducible refine closed_closeDone hc ?_ ?_); · exact List.Subset.trans (by decide) hp)
    | ((with_reducible refine closed_failBurn hc ?_ ?_); · exact List.Subset.trans (by decide) hp)
    | ((with_reducible refine closed_startUnloading hc ?_ ?_); · exact List.Subset.trans (by decide) hp)
    | split

theorem closed_readEnded (hc : Closed free ps P) (hp : [.images, .drives, .saves, .verifyQueue, .contexts, .records, .queue, .printer, .outbound, .events] ⊆ ps) {s : State} {d : Drive} {e : Ending} (h : P s) :
    P (State.readEnded s d e) := by
  unfold State.readEnded
  try dsimp only
  repeat' first
    | with_reducible assumption
    | ((with_reducible refine closed_readData hc ?_ ?_); · exact List.Subset.trans (by decide) hp)
    | ((with_reducible refine closed_readFailed hc ?_ ?_); · exact List.Subset.trans (by decide) hp)
    | split

theorem closed_faultedClose (hc : Closed free ps P) (hp : [.records] ⊆ ps) {s : State} {d : Drive} {req : DriveRequest} (h : P s) :
    P (State.faultedClose s d req) := by
  unfold State.faultedClose
  try dsimp only
  repeat' first
    | with_reducible assumption
    | ((with_reducible refine closed_writeRecordO hc ?_ ?_); · exact List.Subset.trans (by decide) hp)
    | split

theorem closed_requesterActs (hc : Closed free ps P) (hp : [.images, .accs, .waves, .drives, .saves, .verifyQueue, .contexts, .orders, .records, .queue, .printer, .outbound, .events] ⊆ ps) {s : State} {d : Drive} {req : DriveRequest} {e : Ending} (h : P s) :
    P (State.requesterActs s d req e) := by
  unfold State.requesterActs
  try dsimp only
  repeat' first
    | with_reducible assumption
    | ((with_reducible refine closed_trayOpenEnded hc ?_ ?_); · exact List.Subset.trans (by decide) hp)
    | ((with_reducible refine closed_trayCloseEnded hc ?_ ?_); · exact List.Subset.trans (by decide) hp)
    | ((with_reducible refine closed_speedEnded hc ?_ ?_); · exact List.Subset.trans (by decide) hp)
    | ((with_reducible refine closed_writeEnded hc ?_ ?_); · exact List.Subset.trans (by decide) hp)
    | ((with_reducible refine closed_closeEnded hc ?_ ?_); · exact List.Subset.trans (by decide) hp)
    | ((with_reducible refine closed_readEnded hc ?_ ?_); · exact List.Subset.trans (by decide) hp)
    | ((with_reducible refine closed_senseEnded hc ?_ ?_); · exact List.Subset.trans (by decide) hp)
    | split

theorem closed_checkSenseEnded (hc : Closed free ps P) (hp : [.images, .accs, .waves, .drives, .saves, .verifyQueue, .contexts, .orders, .records, .queue, .transport, .printer, .outbound, .events] ⊆ ps) {s : State} {d : Drive} {e : Ending} (h : P s) :
    P (State.checkSenseEnded s d e) := by
  unfold State.checkSenseEnded
  try dsimp only
  repeat' first
    | with_reducible assumption
    | ((with_reducible refine closed_sendDrive hc ?_ ?_); · exact List.Subset.trans (by decide) hp)
    | ((with_reducible refine closed_settle hc ?_ ?_); · exact List.Subset.trans (by decide) hp)
    | split

theorem closed_requestEnded (hc : Closed free ps P) (hp : [.images, .accs, .waves, .drives, .saves, .verifyQueue, .contexts, .orders, .records, .queue, .transport, .printer, .outbound, .events] ⊆ ps) {s : State} {d : Drive} {req : DriveRequest} {e : Ending} (h : P s) :
    P (State.requestEnded s d req e) := by
  unfold State.requestEnded
  try dsimp only
  repeat' first
    | with_reducible assumption
    | ((with_reducible refine hc.drives ?_ _ _ _ ?_ ?_); · exact hp (by decide))
    | ((with_reducible refine closed_faultedClose hc ?_ ?_); · exact List.Subset.trans (by decide) hp)
    | ((with_reducible refine closed_driveFaulted hc ?_ ?_); · exact List.Subset.trans (by decide) hp)
    | ((with_reducible refine closed_endApply hc ?_ ?_); · exact List.Subset.trans (by decide) hp)
    | ((with_reducible refine closed_loadDecision hc ?_ ?_); · exact List.Subset.trans (by decide) hp)
    | ((with_reducible refine closed_checkSenseEnded hc ?_ ?_); · exact List.Subset.trans (by decide) hp)
    | ((with_reducible refine closed_sendWaiting hc ?_ ?_); · exact List.Subset.trans (by decide) hp)
    | ((with_reducible refine closed_requesterActs hc ?_ ?_); · exact List.Subset.trans (by decide) hp)
    | split
    | exact Or.inr (fun hx => hx)
    | exact Or.inr ⟨fun hx => hx, fun hm => hm⟩
    | exact Or.inr ⟨fun hx => hx, le_refl _⟩

theorem closed_setAside (hc : Closed free ps P) (hp : [.records] ⊆ ps) {s : State} {n : Option RecNo} (h : P s) :
    P (State.setAside s n) := by
  unfold State.setAside
  try dsimp only
  repeat' first
    | with_reducible assumption
    | ((with_reducible refine hc.records ?_ _ _ _ ?_); · exact hp (by decide))
    | split

theorem closed_startMove (hc : Closed free ps P) (hp : [.transport] ⊆ ps) {s : State} {e : Entry}
    (hm : free.transport ∨ s.transport.mode ≠ .parked) (h : P s) : P (State.startMove s e) := by
  unfold State.startMove
  split
  · exact closed_sendGoto hc hp hm (by decide) h
  · exact closed_sendGoto hc hp hm (by decide) h
  · exact h

theorem closed_dispatch (hc : Closed free ps P) (hp : [.records, .queue, .transport] ⊆ ps) {s : State} {k : Nat}
    (hm : free.transport ∨ s.transport.mode ≠ .parked) (h : P s) : P (State.dispatch s k) := by
  have h1 : P ((s.setQueue (s.chosen k)).modTransport (fun t => { t with pickMisses := 0 })) :=
    hc.transport (hp (by decide)) _ _ (Or.inr ⟨fun hx => hx, fun hm => hm⟩) (hc.queue (hp (by decide)) _ _ h)
  unfold State.dispatch
  dsimp only
  split
  · refine closed_startMove hc (List.Subset.trans (by decide) hp) ?_ (closed_setAside hc (List.Subset.trans (by decide) hp) h1)
    refine hm.imp id (fun hm => ?_)
    unfold State.setAside
    split <;> exact hm
  · exact h1

theorem closed_arbiter (hc : Closed free ps P) (hp : [.records, .queue, .transport] ⊆ ps) {s : State} (h : P s) :
    P (State.arbiter s) := by
  unfold State.arbiter
  split
  · rename_i hf
    have hm : s.transport.mode ≠ .parked := by simp [State.armFree] at hf; simp [hf.1]
    split
    · exact closed_dispatch hc hp (Or.inr hm) h
    · exact h
  · exact h

theorem closed_enterHeld (hc : Closed free ps P) (hp : [.transport, .outbound, .events] ⊆ ps) {s : State} {c : HeldCause} (h : P s) :
    P (State.enterHeld s c) := by
  unfold State.enterHeld
  try dsimp only
  repeat' first
    | with_reducible assumption
    | ((with_reducible refine hc.transport ?_ _ _ ?_ ?_); · exact hp (by decide))
    | ((with_reducible refine hc.raise ?_ ?_ _ _ _ _ ?_); exact hp (by decide); exact hp (by decide))
    | split
    | exact Or.inr (fun hx => hx)
    | exact Or.inr ⟨fun hx => hx, fun hm => hm⟩
    | exact Or.inr ⟨fun hx => hx, le_refl _⟩
    | exact Or.inr ⟨Transport.lawful_held _, fun _ => rfl⟩

theorem closed_modCurrent (hc : Closed free ps P) (hp : [.queue] ⊆ ps) {s : State} {f : Entry → Entry} (h : P s) :
    P (State.modCurrent s f) := by
  unfold State.modCurrent
  try dsimp only
  repeat' first
    | with_reducible assumption
    | ((with_reducible refine hc.queue ?_ _ _ ?_); · exact hp (by decide))
    | split

theorem closed_printerFaulted (hc : Closed free ps P) (hp : [.printer, .outbound, .events] ⊆ ps) {s : State} {c : PrinterCause} (h : P s) :
    P (State.printerFaulted s c) := by
  unfold State.printerFaulted
  try dsimp only
  repeat' first
    | with_reducible assumption
    | ((with_reducible refine hc.printer ?_ _ _ ?_); · exact hp (by decide))
    | ((with_reducible refine closed_raisePrinter hc ?_ ?_); · exact List.Subset.trans (by decide) hp)
    | split

theorem closed_printerClose (hc : Closed free ps P) (hp : [.printer] ⊆ ps) {s : State} (h : P s) :
    P (State.printerClose s) := by
  unfold State.printerClose
  try dsimp only
  repeat' first
    | with_reducible assumption
    | ((with_reducible refine hc.printer ?_ _ _ ?_); · exact hp (by decide))
    | ((with_reducible refine closed_askPrinter hc ?_ ?_); · exact List.Subset.trans (by decide) hp)
    | split

theorem closed_printerEject (hc : Closed free ps P) (hp : [.printer] ⊆ ps) {s : State} (h : P s) :
    P (State.printerEject s) := by
  unfold State.printerEject
  try dsimp only
  repeat' first
    | with_reducible assumption
    | ((with_reducible refine hc.printer ?_ _ _ ?_); · exact hp (by decide))
    | ((with_reducible refine closed_askPrinter hc ?_ ?_); · exact List.Subset.trans (by decide) hp)
    | split

theorem closed_resetEnded (hc : Closed free ps P) (hp : [.printer, .outbound, .events] ⊆ ps) {s : State} {st : PrinterState} (h : P s) :
    P (State.resetEnded s st) := by
  unfold State.resetEnded
  try dsimp only
  repeat' first
    | with_reducible assumption
    | ((with_reducible refine hc.printer ?_ _ _ ?_); · exact hp (by decide))
    | ((with_reducible refine closed_raisePrinter hc ?_ ?_); · exact List.Subset.trans (by decide) hp)
    | split

theorem closed_waitPick (hc : Closed free ps P) (hp : [.queue, .printer, .outbound, .events] ⊆ ps) {s : State} (h : P s) :
    P (State.waitPick s) := by
  unfold State.waitPick
  try dsimp only
  repeat' first
    | with_reducible assumption
    | ((with_reducible refine hc.printer ?_ _ _ ?_); · exact hp (by decide))
    | ((with_reducible refine closed_enqueue hc ?_ ?_); · exact List.Subset.trans (by decide) hp)
    | ((with_reducible refine closed_resetEnded hc ?_ ?_); · exact List.Subset.trans (by decide) hp)
    | split

theorem closed_printerPicked (hc : Closed free ps P) (hp : [.printer, .outbound, .events] ⊆ ps) {s : State} (h : P s) :
    P (State.printerPicked s) := by
  unfold State.printerPicked
  try dsimp only
  repeat' first
    | with_reducible assumption
    | ((with_reducible refine hc.printer ?_ _ _ ?_); · exact hp (by decide))
    | ((with_reducible refine closed_printerFaulted hc ?_ ?_); · exact List.Subset.trans (by decide) hp)
    | ((with_reducible refine closed_printerClose hc ?_ ?_); · exact List.Subset.trans (by decide) hp)
    | split

theorem closed_printerPlaced (hc : Closed free ps P) (hp : [.queue, .printer, .outbound, .events] ⊆ ps) {s : State} {t : Option Token} (h : P s) :
    P (State.printerPlaced s t) := by
  unfold State.printerPlaced
  try dsimp only
  repeat' first
    | with_reducible assumption
    | ((with_reducible refine hc.printer ?_ _ _ ?_); · exact hp (by decide))
    | ((with_reducible refine closed_waitPick hc ?_ ?_); · exact List.Subset.trans (by decide) hp)
    | ((with_reducible refine closed_askPrinter hc ?_ ?_); · exact List.Subset.trans (by decide) hp)
    | split

theorem closed_sendPick (hc : Closed free ps P) (hp : [.queue, .transport] ⊆ ps) {s : State}
    (hm : free.transport ∨ s.transport.mode ≠ .parked) (h : P s) : P (State.sendPick s) :=
  closed_armPhase (s := s.modCurrent (fun e => { e with pickSent := true })) (p := .pick) hc
    (List.Subset.trans (by decide) hp) hm (by decide) (closed_modCurrent hc (List.Subset.trans (by decide) hp) h)

theorem closed_travelToDest (hc : Closed free ps P) (hp : [.transport] ⊆ ps) {s : State} {e : Entry}
    (hm : free.transport ∨ s.transport.mode ≠ .parked) (h : P s) : P (State.travelToDest s e) := by
  unfold State.travelToDest
  split
  · exact closed_sendGoto hc hp hm (by decide) h
  · exact h

theorem closed_takeFrom (hc : Closed free ps P) (hp : [.drives, .orders, .records, .stations, .queue, .transport, .printer, .outbound, .events] ⊆ ps) {s : State} {i : StationNo} {n : Nat} (h : P s) :
    P (State.takeFrom s i n) := by
  unfold State.takeFrom
  try dsimp only
  repeat' first
    | with_reducible assumption
    | ((with_reducible refine hc.stations ?_ _ _ _ ?_); · exact hp (by decide))
    | ((with_reducible refine closed_spindleEmptied hc ?_ ?_); · exact List.Subset.trans (by decide) hp)
    | split

theorem closed_pickLoad (hc : Closed free ps P) (hp : [.drives, .orders, .records, .stations, .queue, .transport, .printer, .outbound, .events] ⊆ ps) {s : State} {i : StationNo} {e : Entry} (h : P s) :
    P (State.pickLoad s i e) := by
  unfold State.pickLoad
  try dsimp only
  repeat' first
    | with_reducible assumption
    | ((with_reducible refine closed_takeRecord hc ?_ ?_); · exact List.Subset.trans (by decide) hp)
    | ((with_reducible refine closed_modCurrent hc ?_ ?_); · exact List.Subset.trans (by decide) hp)
    | ((with_reducible refine closed_takeFrom hc ?_ ?_); · exact List.Subset.trans (by decide) hp)
    | split

theorem closed_pickTray (hc : Closed free ps P) (hp : [.drives, .outbound, .events] ⊆ ps) {s : State} {d : Drive} (h : P s) :
    P (State.pickTray s d) := by
  unfold State.pickTray
  try dsimp only
  repeat' first
    | with_reducible assumption
    | ((with_reducible refine hc.drives ?_ _ _ _ ?_ ?_); · exact hp (by decide))
    | ((with_reducible refine closed_closeTray hc ?_ ?_); · exact List.Subset.trans (by decide) hp)
    | split
    | exact Or.inr (fun hx => hx)
    | exact Or.inr ⟨fun hx => hx, fun hm => hm⟩
    | exact Or.inr ⟨fun hx => hx, le_refl _⟩

theorem closed_pickDone (hc : Closed free ps P) (hp : [.drives, .orders, .records, .stations, .queue, .transport, .printer, .outbound, .events] ⊆ ps) {s : State} {e : Entry} (h : P s) :
    P (State.pickDone s e) := by
  unfold State.pickDone
  try dsimp only
  repeat' first
    | with_reducible assumption
    | ((with_reducible refine closed_pickLoad hc ?_ ?_); · exact List.Subset.trans (by decide) hp)
    | ((with_reducible refine closed_writeRecordO hc ?_ ?_); · exact List.Subset.trans (by decide) hp)
    | ((with_reducible refine closed_pickTray hc ?_ ?_); · exact List.Subset.trans (by decide) hp)
    | ((with_reducible refine closed_printerPicked hc ?_ ?_); · exact List.Subset.trans (by decide) hp)
    | split

theorem closed_gripped (hc : Closed free ps P) (hp : [.drives, .orders, .records, .stations, .queue, .transport, .printer, .outbound, .events] ⊆ ps) (hfT : free.transport) {s : State} {e : Entry} (h : P s) :
    P (State.gripped s e) := by
  unfold State.gripped
  try dsimp only
  repeat' first
    | with_reducible assumption
    | ((with_reducible refine hc.transport ?_ _ _ ?_ ?_); · exact hp (by decide))
    | ((with_reducible refine closed_pickDone hc ?_ ?_); · exact List.Subset.trans (by decide) hp)
    | ((with_reducible refine closed_travelToDest hc ?_ (Or.inl hfT) ?_); · exact List.Subset.trans (by decide) hp)
    | split
    | exact Or.inr (fun hx => hx)
    | exact Or.inr ⟨fun hx => hx, fun hm => hm⟩
    | exact Or.inr ⟨fun hx => hx, le_refl _⟩
    | exact Or.inl hfT

theorem closed_doublePick (hc : Closed free ps P) (hp : [.drives, .orders, .records, .stations, .queue, .transport, .printer, .outbound, .events] ⊆ ps) (hfT : free.transport) {s : State} {i : StationNo} {e : Entry} (h : P s) :
    P (State.doublePick s i e) := by
  unfold State.doublePick
  try dsimp only
  repeat' first
    | with_reducible assumption
    | ((with_reducible refine closed_takeRecord hc ?_ ?_); · exact List.Subset.trans (by decide) hp)
    | ((with_reducible refine closed_modCurrent hc ?_ ?_); · exact List.Subset.trans (by decide) hp)
    | ((with_reducible refine closed_enqueue hc ?_ ?_); · exact List.Subset.trans (by decide) hp)
    | ((with_reducible refine closed_takeFrom hc ?_ ?_); · exact List.Subset.trans (by decide) hp)
    | ((with_reducible refine hc.transport ?_ _ _ ?_ ?_); · exact hp (by decide))
    | ((with_reducible refine closed_sendGoto hc ?_ (Or.inl hfT) (by decide) ?_); exact List.Subset.trans (by decide) hp)
    | split
    | exact Or.inr (fun hx => hx)
    | exact Or.inr ⟨fun hx => hx, fun hm => hm⟩
    | exact Or.inr ⟨fun hx => hx, le_refl _⟩
    | exact Or.inl hfT

theorem closed_spindleExhausted (hc : Closed free ps P) (hp : [.stations] ⊆ ps) {s : State} {i : StationNo} (h : P s) :
    P (State.spindleExhausted s i) := by
  unfold State.spindleExhausted
  try dsimp only
  repeat' first
    | with_reducible assumption
    | ((with_reducible refine hc.stations ?_ _ _ _ ?_); · exact hp (by decide))
    | split

theorem closed_secondMiss (hc : Closed free ps P) (hp : [.drives, .orders, .records, .stations, .queue, .transport, .printer, .outbound, .events] ⊆ ps) (hfT : free.transport) {s : State} {i : StationNo} {e : Entry} {c : Nat} (h : P s) :
    P (State.secondMiss s i e c) := by
  unfold State.secondMiss
  try dsimp only
  repeat' first
    | with_reducible assumption
    | ((with_reducible refine closed_spindleExhausted hc ?_ ?_); · exact List.Subset.trans (by decide) hp)
    | ((with_reducible refine hc.transport ?_ _ _ ?_ ?_); · exact hp (by decide))
    | ((with_reducible refine hc.raise ?_ ?_ _ _ _ _ ?_); exact hp (by decide); exact hp (by decide))
    | ((with_reducible refine closed_modCurrent hc ?_ ?_); · exact List.Subset.trans (by decide) hp)
    | ((with_reducible refine closed_sendGoto hc ?_ (Or.inl hfT) (by decide) ?_); exact List.Subset.trans (by decide) hp)
    | ((with_reducible refine closed_retireLoad hc ?_ ?_); · exact List.Subset.trans (by decide) hp)
    | ((with_reducible refine closed_retireOthersStranded hc ?_ ?_); · exact List.Subset.trans (by decide) hp)
    | ((with_reducible refine closed_retireStranded hc ?_ ?_); · exact List.Subset.trans (by decide) hp)
    | ((with_reducible refine closed_loadDecision hc ?_ ?_); · exact List.Subset.trans (by decide) hp)
    | split
    | exact Or.inr (fun hx => hx)
    | exact Or.inr ⟨fun hx => hx, fun hm => hm⟩
    | exact Or.inr ⟨fun hx => hx, le_refl _⟩
    | exact Or.inl hfT

theorem closed_spindleMiss (hc : Closed free ps P) (hp : [.drives, .orders, .records, .stations, .queue, .transport, .printer, .outbound, .events] ⊆ ps) (hfT : free.transport) {s : State} {i : StationNo} {e : Entry} (h : P s) :
    P (State.spindleMiss s i e) := by
  unfold State.spindleMiss
  try dsimp only
  repeat' first
    | with_reducible assumption
    | ((with_reducible refine hc.transport ?_ _ _ ?_ ?_); · exact hp (by decide))
    | ((with_reducible refine closed_sendPick hc ?_ (Or.inl hfT) ?_); · exact List.Subset.trans (by decide) hp)
    | ((with_reducible refine closed_secondMiss hc ?_ hfT ?_); · exact List.Subset.trans (by decide) hp)
    | split
    | exact Or.inr (fun hx => hx)
    | exact Or.inr ⟨fun hx => hx, fun hm => hm⟩
    | exact Or.inr ⟨fun hx => hx, le_refl _⟩
    | exact Or.inl hfT

theorem closed_stationMiss (hc : Closed free ps P) (hp : [.records, .queue, .transport, .printer, .outbound, .events] ⊆ ps) {s : State} {e : Entry} (h : P s) :
    P (State.stationMiss s e) := by
  unfold State.stationMiss
  try dsimp only
  repeat' first
    | with_reducible assumption
    | ((with_reducible refine hc.transport ?_ _ _ ?_ ?_); · exact hp (by decide))
    | ((with_reducible refine closed_writeRecordO hc ?_ ?_); · exact List.Subset.trans (by decide) hp)
    | ((with_reducible refine closed_enterHeld hc ?_ ?_); · exact List.Subset.trans (by decide) hp)
    | ((with_reducible refine closed_retire hc ?_ ?_); · exact List.Subset.trans (by decide) hp)
    | split
    | exact Or.inr (fun hx => hx)
    | exact Or.inr ⟨fun hx => hx, fun hm => hm⟩
    | exact Or.inr ⟨fun hx => hx, le_refl _⟩

theorem closed_pickEnded (hc : Closed free ps P) (hp : [.drives, .orders, .records, .stations, .queue, .transport, .printer, .outbound, .events] ⊆ ps) (hfT : free.transport) {s : State} {e : Entry} {o : ArmOutcome} (h : P s) :
    P (State.pickEnded s e o) := by
  unfold State.pickEnded
  try dsimp only
  repeat' first
    | with_reducible assumption
    | ((with_reducible refine closed_gripped hc ?_ hfT ?_); · exact List.Subset.trans (by decide) hp)
    | ((with_reducible refine closed_doublePick hc ?_ hfT ?_); · exact List.Subset.trans (by decide) hp)
    | ((with_reducible refine closed_spindleMiss hc ?_ hfT ?_); · exact List.Subset.trans (by decide) hp)
    | ((with_reducible refine closed_stationMiss hc ?_ ?_); · exact List.Subset.trans (by decide) hp)
    | ((with_reducible refine closed_enterHeld hc ?_ ?_); · exact List.Subset.trans (by decide) hp)
    | split

theorem closed_placeNotice (hc : Closed free ps P) (hp : [.drives, .records, .outbound, .events] ⊆ ps) {s : State} {d : Drive} {t : Option Token} (h : P s) :
    P (State.placeNotice s d t) := by
  unfold State.placeNotice
  try dsimp only
  repeat' first
    | with_reducible assumption
    | ((with_reducible refine hc.drives ?_ _ _ _ ?_ ?_); · exact hp (by decide))
    | ((with_reducible refine closed_writeRecordO hc ?_ ?_); · exact List.Subset.trans (by decide) hp)
    | ((with_reducible refine closed_askDrive hc ?_ ?_); · exact List.Subset.trans (by decide) hp)
    | split
    | exact Or.inr (fun hx => hx)
    | exact Or.inr ⟨fun hx => hx, fun hm => hm⟩
    | exact Or.inr ⟨fun hx => hx, le_refl _⟩

theorem closed_raiseBinFull (hc : Closed free ps P) (hp : [.outbound, .events] ⊆ ps) {s : State} {i : StationNo} (h : P s) :
    P (State.raiseBinFull s i) := by
  unfold State.raiseBinFull
  try dsimp only
  repeat' first
    | with_reducible assumption
    | ((with_reducible refine hc.raise ?_ ?_ _ _ _ _ ?_); exact hp (by decide); exact hp (by decide))
    | split

theorem closed_endPlaced (hc : Closed free ps P) (hp : [.drives, .orders, .records, .queue, .printer, .outbound, .events] ⊆ ps) {s : State} {t : Option Token} {i : StationNo} (h : P s) :
    P (State.endPlaced s t i) := by
  unfold State.endPlaced
  try dsimp only
  repeat' first
    | with_reducible assumption
    | ((with_reducible refine closed_endRecord hc ?_ ?_); · exact List.Subset.trans (by decide) hp)
    | split

theorem closed_placeOnSpindle (hc : Closed free ps P) (hp : [.drives, .orders, .records, .stations, .queue, .printer, .outbound, .events] ⊆ ps) {s : State} {i : StationNo} {t : Option Token} (h : P s) :
    P (State.placeOnSpindle s i t) := by
  unfold State.placeOnSpindle
  try dsimp only
  repeat' first
    | with_reducible assumption
    | ((with_reducible refine hc.stations ?_ _ _ _ ?_); · exact hp (by decide))
    | ((with_reducible refine closed_endPlaced hc ?_ ?_); · exact List.Subset.trans (by decide) hp)
    | ((with_reducible refine closed_loadDecision hc ?_ ?_); · exact List.Subset.trans (by decide) hp)
    | split

theorem closed_placeInBin (hc : Closed free ps P) (hp : [.drives, .orders, .records, .stations, .queue, .printer, .outbound, .events] ⊆ ps) {s : State} {i : StationNo} {t : Option Token} (h : P s) :
    P (State.placeInBin s i t) := by
  unfold State.placeInBin
  try dsimp only
  repeat' first
    | with_reducible assumption
    | ((with_reducible refine hc.stations ?_ _ _ _ ?_); · exact hp (by decide))
    | ((with_reducible refine closed_endPlaced hc ?_ ?_); · exact List.Subset.trans (by decide) hp)
    | ((with_reducible refine closed_raiseBinFull hc ?_ ?_); · exact List.Subset.trans (by decide) hp)
    | split

theorem closed_placeAt (hc : Closed free ps P) (hp : [.drives, .orders, .records, .stations, .queue, .printer, .outbound, .events] ⊆ ps) {s : State} {i : StationNo} {t : Option Token} (h : P s) :
    P (State.placeAt s i t) := by
  unfold State.placeAt
  try dsimp only
  repeat' first
    | with_reducible assumption
    | ((with_reducible refine closed_placeOnSpindle hc ?_ ?_); · exact List.Subset.trans (by decide) hp)
    | ((with_reducible refine closed_writeRecordO hc ?_ ?_); · exact List.Subset.trans (by decide) hp)
    | ((with_reducible refine closed_placeNotice hc ?_ ?_); · exact List.Subset.trans (by decide) hp)
    | ((with_reducible refine closed_printerPlaced hc ?_ ?_); · exact List.Subset.trans (by decide) hp)
    | ((with_reducible refine closed_placeInBin hc ?_ ?_); · exact List.Subset.trans (by decide) hp)
    | split

theorem closed_retireCurrent (hc : Closed free ps P) (hp : [.records, .queue, .transport, .printer] ⊆ ps) {s : State} (h : P s) :
    P (State.retireCurrent s) := by
  unfold State.retireCurrent
  try dsimp only
  repeat' first
    | with_reducible assumption
    | ((with_reducible refine closed_retire hc ?_ ?_); · exact List.Subset.trans (by decide) hp)
    | split

theorem closed_released (hc : Closed free ps P) (hp : [.drives, .orders, .records, .stations, .queue, .transport, .printer, .outbound, .events] ⊆ ps) {s : State} {e : Entry} (h : P s) :
    P (State.released s e) := by
  unfold State.released
  try dsimp only
  repeat' first
    | with_reducible assumption
    | ((with_reducible refine closed_placeAt hc ?_ ?_); · exact List.Subset.trans (by decide) hp)
    | ((with_reducible refine closed_retireCurrent hc ?_ ?_); · exact List.Subset.trans (by decide) hp)
    | split

theorem closed_arrived (hc : Closed free ps P) (hp : [.transport, .outbound, .events] ⊆ ps) {s : State} {e : Entry}
    (hm : free.transport ∨ s.transport.mode ≠ .parked) (h : P s) : P (State.arrived s e) := by
  unfold State.arrived
  split
  · split
    · exact closed_armPhase hc (List.Subset.trans (by decide) hp) hm (by decide) h
    · exact closed_enterHeld hc (List.Subset.trans (by decide) hp) h
  · exact h

theorem closed_orphanOnArm (hc : Closed free ps P) (hp : [.records, .queue, .printer] ⊆ ps) {s t : State}
    (ht : State.orphanOnArm s = some t) (h : P s) : P t := by
  unfold State.orphanOnArm at ht
  split at ht
  · injection ht with ht
    subst ht
    exact closed_enqueue hc (List.Subset.trans (by decide) hp) (closed_takeRecord hc (List.Subset.trans (by decide) hp) h)
  · simp at ht

theorem closed_run (hc : Closed free ps P) (hp : [.transport] ⊆ ps) (hfT : free.transport) {s : State} (h : P s) :
    P (State.run s) := by
  unfold State.run
  try dsimp only
  repeat' first
    | with_reducible assumption
    | ((with_reducible refine hc.transport ?_ _ _ ?_ ?_); · exact hp (by decide))
    | split
    | exact Or.inr (fun hx => hx)
    | exact Or.inr ⟨fun hx => hx, fun hm => hm⟩
    | exact Or.inr ⟨fun hx => hx, le_refl _⟩
    | exact Or.inl hfT

theorem closed_armIdle (hc : Closed free ps P) (hp : [.transport] ⊆ ps) (hfT : free.transport) {s : State} (h : P s) :
    P (State.armIdle s) := by
  unfold State.armIdle
  try dsimp only
  repeat' first
    | with_reducible assumption
    | ((with_reducible refine hc.transport ?_ _ _ ?_ ?_); · exact hp (by decide))
    | split
    | exact Or.inr (fun hx => hx)
    | exact Or.inr ⟨fun hx => hx, fun hm => hm⟩
    | exact Or.inr ⟨fun hx => hx, le_refl _⟩
    | exact Or.inl hfT

theorem closed_startHomed (hc : Closed free ps P) (hp : [.records, .queue, .transport, .printer, .outbound, .events] ⊆ ps) (hfT : free.transport) {s : State} {holding : Bool} (h : P s) :
    P (State.startHomed s holding) := by
  unfold State.startHomed
  try dsimp only
  repeat' first
    | with_reducible assumption
    | ((with_reducible refine closed_run hc ?_ hfT ?_); · exact List.Subset.trans (by decide) hp)
    | ((with_reducible refine closed_armIdle hc ?_ hfT ?_); · exact List.Subset.trans (by decide) hp)
    | ((with_reducible refine closed_enterHeld hc ?_ ?_); · exact List.Subset.trans (by decide) hp)
    | ((with_reducible refine closed_orphanOnArm hc ?_ (by assumption) ?_); · exact List.Subset.trans (by decide) hp)
    | split

theorem closed_resumed (hc : Closed free ps P) (hp : [.drives, .orders, .queue, .transport, .printer, .outbound, .events] ⊆ ps) (hfT : free.transport) {s : State} (h : P s) :
    P (State.resumed s) := by
  unfold State.resumed
  try dsimp only
  repeat' first
    | with_reducible assumption
    | ((with_reducible refine hc.transport ?_ _ _ ?_ ?_); · exact hp (by decide))
    | ((with_reducible refine closed_loadDecision hc ?_ ?_); · exact List.Subset.trans (by decide) hp)
    | split
    | exact Or.inr (fun hx => hx)
    | exact Or.inr ⟨fun hx => hx, fun hm => hm⟩
    | exact Or.inr ⟨fun hx => hx, le_refl _⟩
    | exact Or.inl hfT

theorem closed_heldAgain (hc : Closed free ps P) (hp : [.transport, .outbound, .events] ⊆ ps) (hfT : free.transport) {s : State} {c : HeldCause} (h : P s) :
    P (State.heldAgain s c) := by
  unfold State.heldAgain
  try dsimp only
  repeat' first
    | with_reducible assumption
    | ((with_reducible refine hc.transport ?_ _ _ ?_ ?_); · exact hp (by decide))
    | ((with_reducible refine hc.raise ?_ ?_ _ _ _ _ ?_); exact hp (by decide); exact hp (by decide))
    | split
    | exact Or.inr (fun hx => hx)
    | exact Or.inr ⟨fun hx => hx, fun hm => hm⟩
    | exact Or.inr ⟨fun hx => hx, le_refl _⟩
    | exact Or.inl hfT

theorem closed_tellLoad (hc : Closed free ps P) (hp : [.drives, .outbound, .events] ⊆ ps) {s : State} {e : Entry} (h : P s) :
    P (State.tellLoad s e) := by
  unfold State.tellLoad
  try dsimp only
  repeat' first
    | with_reducible assumption
    | ((with_reducible refine closed_loadRetired hc ?_ ?_); · exact List.Subset.trans (by decide) hp)
    | split

theorem closed_endLost (hc : Closed free ps P) (hp : [.drives, .orders, .records, .queue, .printer, .outbound, .events] ⊆ ps) {s : State} {t : Option Token} (h : P s) :
    P (State.endLost s t) := by
  unfold State.endLost
  try dsimp only
  repeat' first
    | with_reducible assumption
    | ((with_reducible refine closed_endRecord hc ?_ ?_); · exact List.Subset.trans (by decide) hp)
    | split

theorem closed_resolveAgain (hc : Closed free ps P) (hp : [.queue] ⊆ ps) {s : State} {e : Entry} (h : P s) :
    P (State.resolveAgain s e) := by
  unfold State.resolveAgain
  try dsimp only
  repeat' first
    | with_reducible assumption
    | ((with_reducible refine closed_modCurrent hc ?_ ?_); · exact List.Subset.trans (by decide) hp)
    | split

theorem closed_goOn (hc : Closed free ps P) (hp : [.transport] ⊆ ps) {s : State}
    (hm : free.transport ∨ s.transport.mode ≠ .parked) (h : P s) : P (State.goOn s) := by
  unfold State.goOn
  split
  · exact closed_travelToDest hc hp hm h
  · exact h

theorem closed_resumeHomed (hc : Closed free ps P) (hp : [.drives, .orders, .records, .stations, .queue, .transport, .printer, .outbound, .events] ⊆ ps) (hfT : free.transport) {s : State} {holding : Bool} (h : P s) :
    P (State.resumeHomed s holding) := by
  unfold State.resumeHomed
  try dsimp only
  repeat' first
    | with_reducible assumption
    | ((with_reducible refine closed_armIdle hc ?_ hfT ?_); · exact List.Subset.trans (by decide) hp)
    | ((with_reducible refine closed_resumed hc ?_ hfT ?_); · exact List.Subset.trans (by decide) hp)
    | ((with_reducible refine closed_heldAgain hc ?_ hfT ?_); · exact List.Subset.trans (by decide) hp)
    | ((with_reducible refine closed_resolveAgain hc ?_ ?_); · exact List.Subset.trans (by decide) hp)
    | ((with_reducible refine closed_goOn hc ?_ (Or.inl hfT) ?_); · exact List.Subset.trans (by decide) hp)
    | ((with_reducible refine closed_endLost hc ?_ ?_); · exact List.Subset.trans (by decide) hp)
    | ((with_reducible refine closed_retire hc ?_ ?_); · exact List.Subset.trans (by decide) hp)
    | ((with_reducible refine closed_tellLoad hc ?_ ?_); · exact List.Subset.trans (by decide) hp)
    | ((with_reducible refine hc.transport ?_ _ _ ?_ ?_); · exact hp (by decide))
    | ((with_reducible refine closed_pickDone hc ?_ ?_); · exact List.Subset.trans (by decide) hp)
    | ((with_reducible refine closed_returnSetAside hc ?_ ?_); · exact List.Subset.trans (by decide) hp)
    | ((with_reducible refine closed_modCurrent hc ?_ ?_); · exact List.Subset.trans (by decide) hp)
    | ((with_reducible refine closed_orphanOnArm hc ?_ (by assumption) ?_); · exact List.Subset.trans (by decide) hp)
    | split
    | exact Or.inr (fun hx => hx)
    | exact Or.inr ⟨fun hx => hx, fun hm => hm⟩
    | exact Or.inr ⟨fun hx => hx, le_refl _⟩
    | exact Or.inl hfT

theorem closed_homed (hc : Closed free ps P) (hp : [.drives, .orders, .records, .stations, .queue, .transport, .printer, .outbound, .events] ⊆ ps) (hfT : free.transport) {s : State} {holding : Bool} (h : P s) :
    P (State.homed s holding) := by
  unfold State.homed
  try dsimp only
  repeat' first
    | with_reducible assumption
    | ((with_reducible refine closed_resumeHomed hc ?_ hfT ?_); · exact List.Subset.trans (by decide) hp)
    | ((with_reducible refine closed_startHomed hc ?_ hfT ?_); · exact List.Subset.trans (by decide) hp)
    | split

theorem closed_homeTimedOut (hc : Closed free ps P) (hp : [.transport, .outbound, .events] ⊆ ps) (hfT : free.transport) {s : State} (h : P s) :
    P (State.homeTimedOut s) := by
  unfold State.homeTimedOut
  try dsimp only
  repeat' first
    | with_reducible assumption
    | ((with_reducible refine closed_heldAgain hc ?_ hfT ?_); · exact List.Subset.trans (by decide) hp)
    | ((with_reducible refine closed_armIdle hc ?_ hfT ?_); · exact List.Subset.trans (by decide) hp)
    | ((with_reducible refine closed_enterHeld hc ?_ ?_); · exact List.Subset.trans (by decide) hp)
    | split

theorem closed_opTimedOut (hc : Closed free ps P) (hp : [.transport, .outbound, .events] ⊆ ps) (hfT : free.transport) {s : State} {op : ArmOp} (h : P s) :
    P (State.opTimedOut s op) := by
  unfold State.opTimedOut
  try dsimp only
  repeat' first
    | with_reducible assumption
    | ((with_reducible refine closed_homeTimedOut hc ?_ hfT ?_); · exact List.Subset.trans (by decide) hp)
    | ((with_reducible refine closed_enterHeld hc ?_ ?_); · exact List.Subset.trans (by decide) hp)
    | split

theorem closed_opEnded (hc : Closed free ps P) (hp : [.drives, .orders, .records, .stations, .queue, .transport, .printer, .outbound, .events] ⊆ ps) (hfT : free.transport) {s : State} {op : ArmOp} {o : ArmOutcome} (h : P s) :
    P (State.opEnded s op o) := by
  unfold State.opEnded
  try dsimp only
  repeat' first
    | with_reducible assumption
    | ((with_reducible refine closed_homed hc ?_ hfT ?_); · exact List.Subset.trans (by decide) hp)
    | ((with_reducible refine closed_sendPick hc ?_ (Or.inl hfT) ?_); · exact List.Subset.trans (by decide) hp)
    | ((with_reducible refine closed_arrived hc ?_ (Or.inl hfT) ?_); · exact List.Subset.trans (by decide) hp)
    | ((with_reducible refine closed_pickEnded hc ?_ hfT ?_); · exact List.Subset.trans (by decide) hp)
    | ((with_reducible refine closed_released hc ?_ ?_); · exact List.Subset.trans (by decide) hp)
    | ((with_reducible refine closed_enterHeld hc ?_ ?_); · exact List.Subset.trans (by decide) hp)
    | ((with_reducible refine closed_opTimedOut hc ?_ hfT ?_); · exact List.Subset.trans (by decide) hp)
    | split

theorem closed_abandonedEnded (hc : Closed free ps P) (hp : [.transport] ⊆ ps) (hfT : free.transport) {s : State} (h : P s) :
    P (State.abandonedEnded s) := by
  unfold State.abandonedEnded
  try dsimp only
  repeat' first
    | with_reducible assumption
    | ((with_reducible refine closed_sendArm hc ?_ hfT ?_); · exact List.Subset.trans (by decide) hp)
    | split

theorem closed_clearOp (hc : Closed free ps P) (hp : [.transport] ⊆ ps) {s : State} (h : P s) :
    P (State.clearOp s) := by
  unfold State.clearOp
  try dsimp only
  repeat' first
    | with_reducible assumption
    | ((with_reducible refine hc.transport ?_ _ _ ?_ ?_); · exact hp (by decide))
    | split
    | exact Or.inr (fun hx => hx)
    | exact Or.inr ⟨fun hx => hx, fun hm => hm⟩
    | exact Or.inr ⟨fun hx => hx, le_refl _⟩
    | exact Or.inr ⟨Transport.lawful_clearOp, fun hm => hm⟩

theorem closed_armOutcome (hc : Closed free ps P) (hp : [.drives, .orders, .records, .stations, .queue, .transport, .printer, .outbound, .events] ⊆ ps) (hfT : free.transport) {s : State} {n : Byte} {o : ArmOutcome} (h : P s) :
    P (State.armOutcome s n o) := by
  unfold State.armOutcome
  try dsimp only
  repeat' first
    | with_reducible assumption
    | ((with_reducible refine closed_clearOp hc ?_ ?_); · exact List.Subset.trans (by decide) hp)
    | ((with_reducible refine closed_abandonedEnded hc ?_ hfT ?_); · exact List.Subset.trans (by decide) hp)
    | ((with_reducible refine closed_opEnded hc ?_ hfT ?_); · exact List.Subset.trans (by decide) hp)
    | ((with_reducible refine closed_arbiter hc ?_ ?_); · exact List.Subset.trans (by decide) hp)
    | split

theorem closed_armTimeout (hc : Closed free ps P) (hp : [.records, .queue, .transport, .outbound, .events] ⊆ ps) (hfT : free.transport) {s : State} (h : P s) :
    P (State.armTimeout s) := by
  unfold State.armTimeout
  try dsimp only
  repeat' first
    | with_reducible assumption
    | ((with_reducible refine closed_clearOp hc ?_ ?_); · exact List.Subset.trans (by decide) hp)
    | ((with_reducible refine closed_abandonedEnded hc ?_ hfT ?_); · exact List.Subset.trans (by decide) hp)
    | ((with_reducible refine closed_opTimedOut hc ?_ hfT ?_); · exact List.Subset.trans (by decide) hp)
    | ((with_reducible refine closed_arbiter hc ?_ ?_); · exact List.Subset.trans (by decide) hp)
    | split

theorem closed_sendBand (hc : Closed free ps P) (hp : [.printer] ⊆ ps) {s : State} {p : Snapshot} (h : P s) :
    P (State.sendBand s p) := by
  unfold State.sendBand
  try dsimp only
  repeat' first
    | with_reducible assumption
    | ((with_reducible refine closed_askPrinter hc ?_ ?_); · exact List.Subset.trans (by decide) hp)
    | split

theorem closed_accountSerial (hc : Closed free ps P) (hp : [.templates] ⊆ ps) {s : State} {f : Template → Template}
    (h : P s) : P (State.accountSerial s f) := by
  unfold State.accountSerial
  repeat' first
    | with_reducible assumption
    | ((with_reducible refine hc.templates ?_ _ _ _ ?_); · exact hp (by decide))
    | split

theorem closed_clearSnapshot (hc : Closed free ps P) (hp : [.artworks, .printer] ⊆ ps) {s : State} (h : P s) :
    P (State.clearSnapshot s) := by
  unfold State.clearSnapshot
  try dsimp only
  repeat' first
    | with_reducible assumption
    | ((with_reducible refine hc.artworks ?_ _ _ _ ?_ ?_); · exact hp (by decide))
    | ((with_reducible refine hc.printer ?_ _ _ ?_); · exact hp (by decide))
    | split
    | exact Or.inr (fun hx => hx)
    | exact Or.inr ⟨fun hx => hx, fun hm => hm⟩
    | exact Or.inr ⟨fun hx => hx, le_refl _⟩
    | exact Or.inr Artwork.lawful_unused

theorem closed_printFault (hc : Closed free ps P) (hp : [.records, .artworks, .templates, .printer, .outbound, .events] ⊆ ps) {s : State} {c : PrinterCause} {counted : Bool} (h : P s) :
    P (State.printFault s c counted) := by
  unfold State.printFault
  try dsimp only
  repeat' first
    | with_reducible assumption
    | ((with_reducible refine closed_giveCause hc ?_ ?_); · exact List.Subset.trans (by decide) hp)
    | ((with_reducible refine closed_writeRecordO hc ?_ ?_); · exact List.Subset.trans (by decide) hp)
    | ((with_reducible refine closed_accountSerial hc ?_ ?_); · exact List.Subset.trans (by decide) hp)
    | ((with_reducible refine closed_clearSnapshot hc ?_ ?_); · exact List.Subset.trans (by decide) hp)
    | ((with_reducible refine hc.printer ?_ _ _ ?_); · exact hp (by decide))
    | ((with_reducible refine closed_raisePrinter hc ?_ ?_); · exact List.Subset.trans (by decide) hp)
    | ((with_reducible refine closed_printerEject hc ?_ ?_); · exact List.Subset.trans (by decide) hp)
    | split

theorem closed_issueSerial (hc : Closed free ps P) (hp : [.records, .templates, .printer] ⊆ ps) {s : State} {p : Snapshot} (h : P s) :
    P (State.issueSerial s p) := by
  unfold State.issueSerial
  try dsimp only
  repeat' first
    | with_reducible assumption
    | ((with_reducible refine hc.templates ?_ _ _ _ ?_); · exact hp (by decide))
    | ((with_reducible refine closed_writeRecordO hc ?_ ?_); · exact List.Subset.trans (by decide) hp)
    | ((with_reducible refine hc.printer ?_ _ _ ?_); · exact hp (by decide))
    | split

theorem closed_sendStart (hc : Closed free ps P) (hp : [.printer] ⊆ ps) {s : State} (h : P s) :
    P (State.sendStart s) := by
  unfold State.sendStart
  try dsimp only
  repeat' first
    | with_reducible assumption
    | ((with_reducible refine closed_askPrinter hc ?_ ?_); · exact List.Subset.trans (by decide) hp)
    | split

theorem closed_startPrint (hc : Closed free ps P) (hp : [.records, .artworks, .templates, .printer, .outbound, .events] ⊆ ps) {s : State} (h : P s) :
    P (State.startPrint s) := by
  unfold State.startPrint
  try dsimp only
  repeat' first
    | with_reducible assumption
    | ((with_reducible refine hc.printer ?_ _ _ ?_); · exact hp (by decide))
    | ((with_reducible refine hc.artworks ?_ _ _ _ ?_ ?_); · exact hp (by decide))
    | ((with_reducible refine closed_issueSerial hc ?_ ?_); · exact List.Subset.trans (by decide) hp)
    | ((with_reducible refine closed_sendStart hc ?_ ?_); · exact List.Subset.trans (by decide) hp)
    | ((with_reducible refine closed_printFault hc ?_ ?_); · exact List.Subset.trans (by decide) hp)
    | split
    | exact Or.inr (fun hx => hx)
    | exact Or.inr ⟨fun hx => hx, fun hm => hm⟩
    | exact Or.inr ⟨fun hx => hx, le_refl _⟩
    | exact Or.inr (Artwork.lawful_used (by assumption))

theorem closed_bandDone (hc : Closed free ps P) (hp : [.printer] ⊆ ps) {s : State} (h : P s) :
    P (State.bandDone s) := by
  unfold State.bandDone
  try dsimp only
  repeat' first
    | with_reducible assumption
    | ((with_reducible refine hc.printer ?_ _ _ ?_); · exact hp (by decide))
    | ((with_reducible refine closed_askPrinter hc ?_ ?_); · exact List.Subset.trans (by decide) hp)
    | ((with_reducible refine closed_sendBand hc ?_ ?_); · exact List.Subset.trans (by decide) hp)
    | split

theorem closed_startDone (hc : Closed free ps P) (hp : [.printer] ⊆ ps) {s : State} (h : P s) :
    P (State.startDone s) := by
  unfold State.startDone
  try dsimp only
  repeat' first
    | with_reducible assumption
    | ((with_reducible refine hc.printer ?_ _ _ ?_); · exact hp (by decide))
    | ((with_reducible refine closed_sendBand hc ?_ ?_); · exact List.Subset.trans (by decide) hp)
    | split

theorem closed_printPassed (hc : Closed free ps P) (hp : [.records, .artworks, .templates, .printer] ⊆ ps) {s : State} (h : P s) :
    P (State.printPassed s) := by
  unfold State.printPassed
  try dsimp only
  repeat' first
    | with_reducible assumption
    | ((with_reducible refine closed_writeRecordO hc ?_ ?_); · exact List.Subset.trans (by decide) hp)
    | ((with_reducible refine closed_accountSerial hc ?_ ?_); · exact List.Subset.trans (by decide) hp)
    | ((with_reducible refine closed_clearSnapshot hc ?_ ?_); · exact List.Subset.trans (by decide) hp)
    | ((with_reducible refine hc.printer ?_ _ _ ?_); · exact hp (by decide))
    | ((with_reducible refine closed_printerEject hc ?_ ?_); · exact List.Subset.trans (by decide) hp)
    | split

theorem closed_printerCheckEnd (hc : Closed free ps P) (hp : [.printer, .outbound, .events] ⊆ ps) {s : State} {r : CheckResult} (h : P s) :
    P (State.printerCheckEnd s r) := by
  unfold State.printerCheckEnd
  try dsimp only
  repeat' first
    | with_reducible assumption
    | ((with_reducible refine hc.printer ?_ _ _ ?_); · exact hp (by decide))
    | ((with_reducible refine closed_sendPrinter hc ?_ ?_); · exact List.Subset.trans (by decide) hp)
    | ((with_reducible refine closed_raisePrinter hc ?_ ?_); · exact List.Subset.trans (by decide) hp)
    | split

theorem closed_printerEmpty (hc : Closed free ps P) (hp : [.drives, .orders, .records, .queue, .printer, .outbound, .events] ⊆ ps) {s : State} (h : P s) :
    P (State.printerEmpty s) := by
  unfold State.printerEmpty
  try dsimp only
  repeat' first
    | with_reducible assumption
    | ((with_reducible refine closed_endRecord hc ?_ ?_); · exact List.Subset.trans (by decide) hp)
    | ((with_reducible refine hc.printer ?_ _ _ ?_); · exact hp (by decide))
    | ((with_reducible refine closed_printerClose hc ?_ ?_); · exact List.Subset.trans (by decide) hp)
    | split

theorem closed_printerOccupied (hc : Closed free ps P) (hp : [.records, .printer, .outbound, .events] ⊆ ps) {s : State} (h : P s) :
    P (State.printerOccupied s) := by
  unfold State.printerOccupied
  try dsimp only
  repeat' first
    | with_reducible assumption
    | ((with_reducible refine closed_printerEject hc ?_ ?_); · exact List.Subset.trans (by decide) hp)
    | ((with_reducible refine closed_takeRecord hc ?_ ?_); · exact List.Subset.trans (by decide) hp)
    | ((with_reducible refine hc.printer ?_ _ _ ?_); · exact hp (by decide))
    | ((with_reducible refine closed_printerFaulted hc ?_ ?_); · exact List.Subset.trans (by decide) hp)
    | split

theorem closed_printerSensed (hc : Closed free ps P) (hp : [.drives, .orders, .records, .queue, .printer, .outbound, .events] ⊆ ps) {s : State} {present : Bool} (h : P s) :
    P (State.printerSensed s present) := by
  unfold State.printerSensed
  try dsimp only
  repeat' first
    | with_reducible assumption
    | ((with_reducible refine hc.printer ?_ _ _ ?_); · exact hp (by decide))
    | ((with_reducible refine closed_printerOccupied hc ?_ ?_); · exact List.Subset.trans (by decide) hp)
    | ((with_reducible refine closed_printerEmpty hc ?_ ?_); · exact List.Subset.trans (by decide) hp)
    | split

theorem closed_printerFailed (hc : Closed free ps P) (hp : [.records, .artworks, .templates, .printer, .outbound, .events] ⊆ ps) {s : State} {f : PrinterFailure} (h : P s) :
    P (State.printerFailed s f) := by
  unfold State.printerFailed
  try dsimp only
  repeat' first
    | with_reducible assumption
    | ((with_reducible refine closed_printFault hc ?_ ?_); · exact List.Subset.trans (by decide) hp)
    | ((with_reducible refine closed_printerFaulted hc ?_ ?_); · exact List.Subset.trans (by decide) hp)
    | split

theorem closed_printerDone (hc : Closed free ps P) (hp : [.drives, .orders, .records, .queue, .artworks, .templates, .printer, .outbound, .events] ⊆ ps) {s : State} {present : Bool} (h : P s) :
    P (State.printerDone s present) := by
  unfold State.printerDone
  try dsimp only
  repeat' first
    | with_reducible assumption
    | ((with_reducible refine closed_printerSensed hc ?_ ?_); · exact List.Subset.trans (by decide) hp)
    | ((with_reducible refine hc.printer ?_ _ _ ?_); · exact hp (by decide))
    | ((with_reducible refine closed_printerTray hc ?_ ?_); · exact List.Subset.trans (by decide) hp)
    | ((with_reducible refine closed_resetEnded hc ?_ ?_); · exact List.Subset.trans (by decide) hp)
    | ((with_reducible refine closed_startPrint hc ?_ ?_); · exact List.Subset.trans (by decide) hp)
    | ((with_reducible refine closed_startDone hc ?_ ?_); · exact List.Subset.trans (by decide) hp)
    | ((with_reducible refine closed_bandDone hc ?_ ?_); · exact List.Subset.trans (by decide) hp)
    | ((with_reducible refine closed_printPassed hc ?_ ?_); · exact List.Subset.trans (by decide) hp)
    | ((with_reducible refine closed_waitPick hc ?_ ?_); · exact List.Subset.trans (by decide) hp)
    | split

theorem closed_sendWaitingPrint (hc : Closed free ps P) (hp : [.printer] ⊆ ps) {s : State} (h : P s) :
    P (State.sendWaitingPrint s) := by
  unfold State.sendWaitingPrint
  try dsimp only
  repeat' first
    | with_reducible assumption
    | ((with_reducible refine hc.printer ?_ _ _ ?_); · exact hp (by decide))
    | ((with_reducible refine closed_sendPrinter hc ?_ ?_); · exact List.Subset.trans (by decide) hp)
    | split

theorem closed_printActs (hc : Closed free ps P) (hp : [.drives, .orders, .records, .queue, .artworks, .templates, .printer, .outbound, .events] ⊆ ps) {s : State} {req : PrinterRequest} {e : PrintEnding} (h : P s) :
    P (State.printActs s req e) := by
  unfold State.printActs
  try dsimp only
  repeat' first
    | with_reducible assumption
    | ((with_reducible refine closed_printerDone hc ?_ ?_); · exact List.Subset.trans (by decide) hp)
    | ((with_reducible refine closed_printerFailed hc ?_ ?_); · exact List.Subset.trans (by decide) hp)
    | split

theorem closed_printEnded (hc : Closed free ps P) (hp : [.drives, .orders, .records, .queue, .artworks, .templates, .printer, .outbound, .events] ⊆ ps) {s : State} {req : PrinterRequest} {e : PrintEnding} (h : P s) :
    P (State.printEnded s req e) := by
  unfold State.printEnded
  try dsimp only
  repeat' first
    | with_reducible assumption
    | ((with_reducible refine hc.printer ?_ _ _ ?_); · exact hp (by decide))
    | ((with_reducible refine closed_sendWaitingPrint hc ?_ ?_); · exact List.Subset.trans (by decide) hp)
    | ((with_reducible refine closed_printActs hc ?_ ?_); · exact List.Subset.trans (by decide) hp)
    | split

theorem closed_printReply (hc : Closed free ps P) (hp : [.drives, .orders, .records, .queue, .transport, .artworks, .templates, .printer, .outbound, .events] ⊆ ps) {s : State} {n : Byte} {r : PrinterReply} (h : P s) :
    P (State.printReply s n r) := by
  unfold State.printReply
  try dsimp only
  repeat' first
    | with_reducible assumption
    | ((with_reducible refine closed_printEnded hc ?_ ?_); · exact List.Subset.trans (by decide) hp)
    | ((with_reducible refine closed_arbiter hc ?_ ?_); · exact List.Subset.trans (by decide) hp)
    | split

theorem closed_printTimeout (hc : Closed free ps P) (hp : [.drives, .orders, .records, .queue, .transport, .artworks, .templates, .printer, .outbound, .events] ⊆ ps) {s : State} (h : P s) :
    P (State.printTimeout s) := by
  unfold State.printTimeout
  try dsimp only
  repeat' first
    | with_reducible assumption
    | ((with_reducible refine closed_printEnded hc ?_ ?_); · exact List.Subset.trans (by decide) hp)
    | ((with_reducible refine closed_arbiter hc ?_ ?_); · exact List.Subset.trans (by decide) hp)
    | split

theorem closed_printRemoved (hc : Closed free ps P) (hp : [.artworks, .templates, .printer] ⊆ ps) {s : State} (h : P s) :
    P (State.printRemoved s) := by
  unfold State.printRemoved
  try dsimp only
  repeat' first
    | with_reducible assumption
    | ((with_reducible refine closed_accountSerial hc ?_ ?_); · exact List.Subset.trans (by decide) hp)
    | ((with_reducible refine closed_clearSnapshot hc ?_ ?_); · exact List.Subset.trans (by decide) hp)
    | ((with_reducible refine closed_printerClose hc ?_ ?_); · exact List.Subset.trans (by decide) hp)
    | split

theorem closed_printerRemoved (hc : Closed free ps P) (hp : [.artworks, .templates, .printer, .outbound, .events] ⊆ ps) {s : State} (h : P s) :
    P (State.printerRemoved s) := by
  unfold State.printerRemoved
  try dsimp only
  repeat' first
    | with_reducible assumption
    | ((with_reducible refine hc.printer ?_ _ _ ?_); · exact hp (by decide))
    | ((with_reducible refine closed_printRemoved hc ?_ ?_); · exact List.Subset.trans (by decide) hp)
    | ((with_reducible refine closed_printerFaulted hc ?_ ?_); · exact List.Subset.trans (by decide) hp)
    | ((with_reducible refine closed_printerClose hc ?_ ?_); · exact List.Subset.trans (by decide) hp)
    | split

theorem closed_printAborted (hc : Closed free ps P) (hp : [.records, .artworks, .templates, .printer, .outbound, .events] ⊆ ps) {s : State} (h : P s) :
    P (State.printAborted s) := by
  unfold State.printAborted
  try dsimp only
  repeat' first
    | with_reducible assumption
    | ((with_reducible refine closed_printFault hc ?_ ?_); · exact List.Subset.trans (by decide) hp)
    | split

theorem closed_ladderWrite (hc : Closed free ps P) (hp : [.drives, .ladder, .orders, .records, .queue, .transport, .printer, .feed, .outbound, .events, .settings] ⊆ ps) {r : ReplyTo} {a : Rung × Byte} {s : State} (h : P s) :
    P (State.ladderWrite r a s) := by
  unfold State.ladderWrite
  try dsimp only
  repeat' first
    | with_reducible assumption
    | ((with_reducible refine hc.ladder ?_ _ _ _ ?_); · exact hp (by decide))
    | ((with_reducible refine hc.settings ?_ _ _ ?_); · exact hp (by decide))
    | ((with_reducible refine closed_replyPlain hc ?_ ?_); · exact List.Subset.trans (by decide) hp)
    | ((with_reducible refine closed_loadDecision hc ?_ ?_); · exact List.Subset.trans (by decide) hp)
    | ((with_reducible refine closed_arbiter hc ?_ ?_); · exact List.Subset.trans (by decide) hp)
    | split

theorem closed_fullAfterWrite (hc : Closed free ps P) (hp : [.outbound, .events] ⊆ ps) {s : State} {i : StationNo} (h : P s) :
    P (State.fullAfterWrite s i) := by
  unfold State.fullAfterWrite
  try dsimp only
  repeat' first
    | with_reducible assumption
    | ((with_reducible refine closed_raiseBinFull hc ?_ ?_); · exact List.Subset.trans (by decide) hp)
    | split

theorem closed_classChanged (hc : Closed free ps P) (hp : [.drives, .orders, .records, .queue, .transport, .printer, .outbound, .events] ⊆ ps) {s : State} {changed : Bool} (h : P s) :
    P (State.classChanged s changed) := by
  unfold State.classChanged
  try dsimp only
  repeat' first
    | with_reducible assumption
    | ((with_reducible refine closed_retireStranded hc ?_ ?_); · exact List.Subset.trans (by decide) hp)
    | ((with_reducible refine closed_loadDecision hc ?_ ?_); · exact List.Subset.trans (by decide) hp)
    | split

theorem closed_stationWrite (hc : Closed free ps P) (hp : [.drives, .orders, .records, .stations, .queue, .transport, .printer, .feed, .outbound, .events, .settings] ⊆ ps) {r : ReplyTo} {a : StationNo × StationArgs} {s : State} (h : P s) :
    P (State.stationWrite r a s) := by
  unfold State.stationWrite
  try dsimp only
  repeat' first
    | with_reducible assumption
    | ((with_reducible refine closed_replyPlain hc ?_ ?_); · exact List.Subset.trans (by decide) hp)
    | ((with_reducible refine hc.stations ?_ _ _ _ ?_); · exact hp (by decide))
    | ((with_reducible refine hc.settings ?_ _ _ ?_); · exact hp (by decide))
    | ((with_reducible refine closed_fullAfterWrite hc ?_ ?_); · exact List.Subset.trans (by decide) hp)
    | ((with_reducible refine closed_classChanged hc ?_ ?_); · exact List.Subset.trans (by decide) hp)
    | ((with_reducible refine closed_arbiter hc ?_ ?_); · exact List.Subset.trans (by decide) hp)
    | split

theorem closed_stagedWrite (hc : Closed free ps P) (hp : [.drives, .feed, .outbound] ⊆ ps) {r : ReplyTo} {a : Drive × StagedEntry} {s : State} (h : P s) :
    P (State.stagedWrite r a s) := by
  unfold State.stagedWrite
  try dsimp only
  repeat' first
    | with_reducible assumption
    | ((with_reducible refine hc.drives ?_ _ _ _ ?_ ?_); · exact hp (by decide))
    | ((with_reducible refine closed_replyPlain hc ?_ ?_); · exact List.Subset.trans (by decide) hp)
    | split
    | exact Or.inr (fun hx => hx)
    | exact Or.inr ⟨fun hx => hx, fun hm => hm⟩
    | exact Or.inr ⟨fun hx => hx, le_refl _⟩

theorem closed_templateWrite (hc : Closed free ps P) (hp : [.records, .queue, .transport, .templates, .feed, .outbound] ⊆ ps) {r : ReplyTo} {a : TmplNo × TemplateArgs} {s : State} (h : P s) :
    P (State.templateWrite r a s) := by
  unfold State.templateWrite
  try dsimp only
  repeat' first
    | with_reducible assumption
    | ((with_reducible refine hc.templates ?_ _ _ _ ?_); · exact hp (by decide))
    | ((with_reducible refine closed_replyPlain hc ?_ ?_); · exact List.Subset.trans (by decide) hp)
    | ((with_reducible refine closed_arbiter hc ?_ ?_); · exact List.Subset.trans (by decide) hp)
    | split

theorem closed_loadCodes (hc : Closed free ps P) (hp : [.ladder] ⊆ ps) {s : State} {v : SettingsValues} (h : P s) :
    P (State.loadCodes s v) := by
  unfold State.loadCodes
  try dsimp only
  repeat' first
    | with_reducible assumption
    | ((with_reducible refine hc.ladder ?_ _ _ _ ?_); · exact hp (by decide))
    | (with_reducible refine closed_foldl ?_ ?_)
    | (intro _ _ _; try dsimp only)
    | split

theorem closed_loadStations (hc : Closed free ps P) (hp : [.stations] ⊆ ps) {s : State} {v : SettingsValues} (h : P s) :
    P (State.loadStations s v) := by
  unfold State.loadStations
  try dsimp only
  repeat' first
    | with_reducible assumption
    | ((with_reducible refine hc.stations ?_ _ _ _ ?_); · exact hp (by decide))
    | (with_reducible refine closed_foldl ?_ ?_)
    | (intro _ _ _; try dsimp only)
    | split

theorem closed_settingsEnd (hc : Closed free ps P) (hp : [.outbound, .events, .settings] ⊆ ps) {s : State} {r : SettingsResult} (h : P s) :
    P (State.settingsEnd s r) := by
  unfold State.settingsEnd
  try dsimp only
  repeat' first
    | with_reducible assumption
    | ((with_reducible refine hc.settings ?_ _ _ ?_); · exact hp (by decide))
    | ((with_reducible refine hc.raise ?_ ?_ _ _ _ _ ?_); exact hp (by decide); exact hp (by decide))
    | split

theorem closed_settingsRead (hc : Closed free ps P) (hp : [.drives, .ladder, .orders, .records, .stations, .queue, .transport, .printer, .outbound, .events, .settings] ⊆ ps) {s : State} {i : StoredImage} (h : P s) :
    P (State.settingsRead s i) := by
  unfold State.settingsRead
  try dsimp only
  repeat' first
    | with_reducible assumption
    | ((with_reducible refine closed_loadCodes hc ?_ ?_); · exact List.Subset.trans (by decide) hp)
    | ((with_reducible refine closed_loadStations hc ?_ ?_); · exact List.Subset.trans (by decide) hp)
    | ((with_reducible refine closed_retireStranded hc ?_ ?_); · exact List.Subset.trans (by decide) hp)
    | ((with_reducible refine closed_loadDecision hc ?_ ?_); · exact List.Subset.trans (by decide) hp)
    | ((with_reducible refine closed_settingsEnd hc ?_ ?_); · exact List.Subset.trans (by decide) hp)
    | ((with_reducible refine closed_arbiter hc ?_ ?_); · exact List.Subset.trans (by decide) hp)
    | split

theorem closed_settingsLoaded (hc : Closed free ps P) (hp : [.drives, .ladder, .orders, .records, .stations, .queue, .transport, .printer, .outbound, .events, .settings] ⊆ ps) {s : State} {r : SpiRead} (h : P s) :
    P (State.settingsLoaded s r) := by
  unfold State.settingsLoaded
  try dsimp only
  repeat' first
    | with_reducible assumption
    | ((with_reducible refine closed_settingsRead hc ?_ ?_); · exact List.Subset.trans (by decide) hp)
    | ((with_reducible refine hc.settings ?_ _ _ ?_); · exact hp (by decide))
    | ((with_reducible refine closed_settingsEnd hc ?_ ?_); · exact List.Subset.trans (by decide) hp)
    | split

theorem closed_storeFailed (hc : Closed free ps P) (hp : [.outbound, .events, .settings] ⊆ ps) {s : State} (h : P s) :
    P (State.storeFailed s) := by
  unfold State.storeFailed
  try dsimp only
  repeat' first
    | with_reducible assumption
    | ((with_reducible refine hc.settings ?_ _ _ ?_); · exact hp (by decide))
    | ((with_reducible refine closed_settingsEnd hc ?_ ?_); · exact List.Subset.trans (by decide) hp)
    | split

theorem closed_storeDone (hc : Closed free ps P) (hp : [.outbound, .events, .settings] ⊆ ps) {s : State} (h : P s) :
    P (State.storeDone s) := by
  unfold State.storeDone
  try dsimp only
  repeat' first
    | with_reducible assumption
    | ((with_reducible refine hc.settings ?_ _ _ ?_); · exact hp (by decide))
    | ((with_reducible refine closed_settingsEnd hc ?_ ?_); · exact List.Subset.trans (by decide) hp)
    | split

theorem closed_storeSettings (hc : Closed free ps P) (hp : [.feed, .outbound, .settings] ⊆ ps) {r : ReplyTo} {u : Unit} {s : State} (h : P s) :
    P (State.storeSettings r u s) := by
  unfold State.storeSettings
  try dsimp only
  repeat' first
    | with_reducible assumption
    | ((with_reducible refine hc.settings ?_ _ _ ?_); · exact hp (by decide))
    | ((with_reducible refine closed_replyPlain hc ?_ ?_); · exact List.Subset.trans (by decide) hp)
    | split

theorem closed_imageDefine (hc : Closed free ps P) (hp : [.images, .feed, .outbound, .events] ⊆ ps) {r : ReplyTo} {a : SlotNo × Word32 × Word32} {s : State} (h : P s) :
    P (State.imageDefine r a s) := by
  unfold State.imageDefine
  try dsimp only
  repeat' first
    | with_reducible assumption
    | ((with_reducible refine closed_replyPlain hc ?_ ?_); · exact List.Subset.trans (by decide) hp)
    | ((with_reducible refine hc.images ?_ _ _ _ ?_); · exact hp (by decide))
    | ((with_reducible refine closed_raiseImage hc ?_ ?_); · exact List.Subset.trans (by decide) hp)
    | split

theorem closed_imageRelease (hc : Closed free ps P) (hp : [.images, .feed, .outbound, .events] ⊆ ps) {r : ReplyTo} {i : SlotNo} {s : State} (h : P s) :
    P (State.imageRelease r i s) := by
  unfold State.imageRelease
  try dsimp only
  repeat' first
    | with_reducible assumption
    | ((with_reducible refine closed_replyPlain hc ?_ ?_); · exact List.Subset.trans (by decide) hp)
    | ((with_reducible refine hc.images ?_ _ _ _ ?_); · exact hp (by decide))
    | ((with_reducible refine closed_raiseImage hc ?_ ?_); · exact List.Subset.trans (by decide) hp)
    | split

theorem closed_openAtImage (hc : Closed free ps P) (hp : [.images, .accs, .outbound, .events] ⊆ ps) {s : State} {w : WaveNo} {i : SlotNo} (h : P s) :
    P (State.openAtImage s w i) := by
  unfold State.openAtImage
  try dsimp only
  repeat' first
    | with_reducible assumption
    | ((with_reducible refine hc.images ?_ _ _ _ ?_); · exact hp (by decide))
    | ((with_reducible refine hc.accs ?_ _ _ _ ?_); · exact hp (by decide))
    | ((with_reducible refine closed_raiseImage hc ?_ ?_); · exact List.Subset.trans (by decide) hp)
    | split

theorem closed_openTaken (hc : Closed free ps P) (hp : [.images, .accs, .waves, .drives, .feed, .outbound, .events] ⊆ ps) (hfW : free.waves) {r : ReplyTo} {a : WaveOpenArgs} {s : State} (h : P s) :
    P (State.openTaken r a s) := by
  unfold State.openTaken
  try dsimp only
  repeat' first
    | with_reducible assumption
    | ((with_reducible refine hc.waves ?_ _ _ _ ?_ ?_); · exact hp (by decide))
    | ((with_reducible refine closed_openAtImage hc ?_ ?_); · exact List.Subset.trans (by decide) hp)
    | ((with_reducible refine closed_replyPlain hc ?_ ?_); · exact List.Subset.trans (by decide) hp)
    | ((with_reducible refine hc.credit ?_ _ _ _ _ ?_); · exact hp (by decide)) | ((with_reducible refine hc.discDone ?_ _ _ _ _ _ ?_); · exact hp (by decide))
    | ((with_reducible refine closed_attach hc ?_ (Or.inl hfW) ?_); · exact List.Subset.trans (by decide) hp)
    | ((with_reducible refine closed_raiseWave hc ?_ ?_); · exact List.Subset.trans (by decide) hp)
    | (with_reducible refine closed_foldl ?_ ?_)
    | (intro _ _ _; try dsimp only)
    | split
    | exact Or.inr (fun hx => hx)
    | exact Or.inr ⟨fun hx => hx, fun hm => hm⟩
    | exact Or.inr ⟨fun hx => hx, le_refl _⟩
    | exact Or.inl hfW

theorem closed_waveOpen (hc : Closed free ps P) (hp : [.images, .accs, .waves, .drives, .feed, .outbound, .events] ⊆ ps) (hfW : free.waves) {r : ReplyTo} {a : WaveOpenArgs} {s : State} (h : P s) :
    P (State.waveOpen r a s) := by
  unfold State.waveOpen
  try dsimp only
  repeat' first
    | with_reducible assumption
    | ((with_reducible refine closed_replyPlain hc ?_ ?_); · exact List.Subset.trans (by decide) hp)
    | ((with_reducible refine closed_openTaken hc ?_ hfW ?_); · exact List.Subset.trans (by decide) hp)
    | split

theorem closed_waveAbort (hc : Closed free ps P) (hp : [.images, .accs, .waves, .drives, .records, .queue, .transport, .printer, .feed, .outbound, .events] ⊆ ps) {r : ReplyTo} {w : WaveNo} {s : State} (h : P s) :
    P (State.waveAbort r w s) := by
  unfold State.waveAbort
  try dsimp only
  repeat' first
    | with_reducible assumption
    | ((with_reducible refine closed_replyPlain hc ?_ ?_); · exact List.Subset.trans (by decide) hp)
    | ((with_reducible refine closed_abortWave hc ?_ ?_); · exact List.Subset.trans (by decide) hp)
    | ((with_reducible refine closed_arbiter hc ?_ ?_); · exact List.Subset.trans (by decide) hp)
    | split

theorem closed_sectorFrame (hc : Closed free ps P) (hp : [.images, .accs, .waves, .drives, .records, .queue, .transport, .printer, .feed, .outbound, .events] ⊆ ps) (hfW : free.waves) {s : State} {w : WaveNo} {first : Nat} {sectors : List (List Byte)} (h : P s) :
    P (State.sectorFrame s w first sectors) := by
  unfold State.sectorFrame
  try dsimp only
  repeat' first
    | with_reducible assumption
    | ((with_reducible refine closed_acceptFrame hc ?_ hfW ?_); · exact List.Subset.trans (by decide) hp)
    | ((with_reducible refine closed_arbiter hc ?_ ?_); · exact List.Subset.trans (by decide) hp)
    | ((with_reducible refine closed_discard hc ?_ ?_); exact List.Subset.trans (by decide) hp)
    | split

theorem closed_runFrame (hc : Closed free ps P) (hp : [.images, .accs, .waves, .drives, .records, .queue, .transport, .printer, .feed, .outbound, .events] ⊆ ps) (hfW : free.waves) {s : State} {w : WaveNo} {first rep : Nat} {payload : List Byte} (h : P s) :
    P (State.runFrame s w first rep payload) := by
  unfold State.runFrame
  try dsimp only
  repeat' first
    | with_reducible assumption
    | ((with_reducible refine closed_acceptFrame hc ?_ hfW ?_); · exact List.Subset.trans (by decide) hp)
    | ((with_reducible refine closed_arbiter hc ?_ ?_); · exact List.Subset.trans (by decide) hp)
    | ((with_reducible refine closed_discard hc ?_ ?_); exact List.Subset.trans (by decide) hp)
    | split

theorem closed_starve (hc : Closed free ps P) (hp : [.images, .accs, .waves, .drives, .records, .queue, .printer, .outbound, .events] ⊆ ps) {s : State} {w : WaveNo} (h : P s) :
    P (State.starve s w) := by
  unfold State.starve
  try dsimp only
  repeat' first
    | with_reducible assumption
    | ((with_reducible refine hc.waves ?_ _ _ _ ?_ ?_); · exact hp (by decide))
    | ((with_reducible refine closed_detachAll hc ?_ ?_); · exact List.Subset.trans (by decide) hp)
    | ((with_reducible refine closed_raiseDetach hc ?_ ?_); · exact List.Subset.trans (by decide) hp)
    | ((with_reducible refine closed_abortWave hc ?_ ?_); · exact List.Subset.trans (by decide) hp)
    | ((with_reducible refine closed_releaseRule hc ?_ ?_); · exact List.Subset.trans (by decide) hp)
    | ((with_reducible refine closed_drainedCheck hc ?_ ?_); · exact List.Subset.trans (by decide) hp)
    | split
    | exact Or.inr (fun hx => hx)
    | exact Or.inr ⟨fun hx => hx, fun hm => hm⟩
    | exact Or.inr ⟨fun hx => hx, le_refl _⟩
    | exact Or.inr ⟨Wave.lawful_timerOff, le_refl _⟩

theorem closed_artworkBegin (hc : Closed free ps P) (hp : [.records, .queue, .transport, .artworks, .feed, .outbound] ⊆ ps) {r : ReplyTo} {a : ArtNo × Nat × Word32} {s : State} (h : P s) :
    P (State.artworkBegin r a s) := by
  unfold State.artworkBegin
  try dsimp only
  repeat' first
    | with_reducible assumption
    | ((with_reducible refine closed_replyPlain hc ?_ ?_); · exact List.Subset.trans (by decide) hp)
    | ((with_reducible refine hc.artworks ?_ _ _ _ ?_ ?_); · exact hp (by decide))
    | ((with_reducible refine closed_arbiter hc ?_ ?_); · exact List.Subset.trans (by decide) hp)
    | split
    | exact Or.inr (fun hx => hx)
    | exact Or.inr ⟨fun hx => hx, fun hm => hm⟩
    | exact Or.inr ⟨fun hx => hx, le_refl _⟩
    | exact Or.inr (Artwork.lawful_begun (by assumption) (by assumption))

theorem closed_raiseArtwork (hc : Closed free ps P) (hp : [.outbound, .events] ⊆ ps) {s : State} {a : ArtNo} {ready : Bool} (h : P s) :
    P (State.raiseArtwork s a ready) := by
  unfold State.raiseArtwork
  try dsimp only
  repeat' first
    | with_reducible assumption
    | ((with_reducible refine hc.raise ?_ ?_ _ _ _ _ ?_); exact hp (by decide); exact hp (by decide))
    | split

theorem closed_artworkComplete (hc : Closed free ps P) (hp : [.artworks, .outbound, .events] ⊆ ps) (hfA : free.artworks) {s : State} {a : ArtNo} (h : P s) :
    P (State.artworkComplete s a) := by
  unfold State.artworkComplete
  try dsimp only
  repeat' first
    | with_reducible assumption
    | ((with_reducible refine hc.artworks ?_ _ _ _ ?_ ?_); · exact hp (by decide))
    | ((with_reducible refine closed_raiseArtwork hc ?_ ?_); · exact List.Subset.trans (by decide) hp)
    | split
    | exact Or.inr (fun hx => hx)
    | exact Or.inr ⟨fun hx => hx, fun hm => hm⟩
    | exact Or.inr ⟨fun hx => hx, le_refl _⟩
    | exact Or.inl hfA

theorem closed_artworkTaken (hc : Closed free ps P)
    (hp : [.records, .queue, .transport, .artworks, .feed, .outbound, .events] ⊆ ps)
    (hfA : free.artworks) {s : State} {a : ArtNo} {offset : Nat} {data : List Byte} (h : P s) :
    P (State.artworkTaken s a offset data) := by
  have h1 : P ((s.countAccepted).modArtwork a (·.append data)) :=
    hc.artworks (hp (by decide)) _ _ _ (Or.inl hfA) (hc.feed (hp (by decide)) _ _ h)
  unfold State.artworkTaken
  dsimp only
  split
  · exact closed_discard hc (List.Subset.trans (by decide) hp) h
  · split
    · exact closed_arbiter hc (List.Subset.trans (by decide) hp)
        (closed_artworkComplete hc (List.Subset.trans (by decide) hp) hfA h1)
    · exact h1

theorem closed_setApply (hc : Closed free ps P) (hp : [.drives] ⊆ ps) {s : State} {d : Drive} {st : ApplyStatus} (h : P s) :
    P (State.setApply s d st) := by
  unfold State.setApply
  try dsimp only
  repeat' first
    | with_reducible assumption
    | ((with_reducible refine hc.drives ?_ _ _ _ ?_ ?_); · exact hp (by decide))
    | split
    | exact Or.inr (fun hx => hx)
    | exact Or.inr ⟨fun hx => hx, fun hm => hm⟩
    | exact Or.inr ⟨fun hx => hx, le_refl _⟩

/-- A staged entry that passes R73 gives a legal assignment. -/
theorem StagedEntry.legal_inForce {s : State} {e : StagedEntry} (h : s.validate e = none) : e.inForce.legal := by
  unfold State.validate at h
  split at h
  · simp at h
  split at h
  · simp at h
  split at h
  · simp at h
  rename_i _ h2 h3
  unfold State.rungsOk verifyOk at *
  simp at h2 h3
  unfold Assignment.legal StagedEntry.inForce thresholdInForce modeInForce
  refine ⟨?_, ?_, ?_, ?_, ?_⟩
  · simp only [Fin.le_def]; omega
  · dsimp only; split <;> omega
  · dsimp only; split <;> omega
  · dsimp only
    intro hm
    have : e.mode = 2 := by
      revert hm
      split <;> simp_all
    omega
  · dsimp only; omega

theorem DriveSlot.lawful_inForce {x : DriveSlot} {a : Assignment} (hl : a.legal) :
    x.lawful → (x.putInForce a).lawful := by
  intro _
  refine ⟨fun b hb => ?_, by simp [DriveSlot.putInForce], Nat.zero_le _⟩
  have hab : b = a := by simpa [DriveSlot.putInForce] using hb.symm
  subst hab
  exact ⟨hl, le_refl _, hl.1, hl.2.1⟩

theorem DriveSlot.lawful_pending {x : DriveSlot} {a : Assignment} {st : ApplyStatus} (hl : a.legal) (h : x.lawful) :
    ({ x with pendingCopy := some a, applyStatus := st } : DriveSlot).lawful :=
  ⟨h.1, fun b hb => by simp at hb; exact hb ▸ hl, h.2.2⟩

theorem closed_applyOk (hc : Closed free ps P) (hp : [.drives, .outbound, .events] ⊆ ps) {s : State} {d : Drive}
    (hl : (s.drive d).staged.inForce.legal) (h : P s) : P (State.applyOk s d) := by
  have h1 : P (s.modDrive d (·.putInForce (s.drive d).staged.inForce)) :=
    hc.drives (hp (by decide)) _ _ _ (Or.inr (DriveSlot.lawful_inForce hl)) h
  unfold State.applyOk
  dsimp only
  split
  · exact closed_askDrive hc hp (closed_setApply hc (List.Subset.trans (by decide) hp) h1)
  · exact closed_endApply hc hp h1

theorem closed_applyNowAt (hc : Closed free ps P) (hp : [.drives, .outbound, .events] ⊆ ps) {s : State} {d : Drive}
    (h : P s) : P (State.applyNowAt s d) := by
  unfold State.applyNowAt
  split
  · exact h
  · split
    · exact closed_setApply hc (List.Subset.trans (by decide) hp) h
    · rename_i hr
      refine closed_applyOk hc hp ?_ h
      unfold State.nowRefusal at hr
      split at hr
      · exact StagedEntry.legal_inForce hr
      · simp at hr

theorem closed_applyMask (hc : Closed free ps P)
    (hp : [.drives, .orders, .records, .queue, .transport, .printer, .feed, .outbound, .events] ⊆ ps) {r : ReplyTo}
    {refusal : State → Drive → Option ApplyStatus} {act : State → Drive → State} {m : Word16} {s : State}
    (ha : ∀ t d, P t → P (act t d)) (h : P s) : P (State.applyMask r refusal act m s) := by
  unfold State.applyMask
  have h1 := closed_foldl (l := maskDrives m) ha
    (hc.reply (hp (by decide)) (hp (by decide)) s r .ok (s.applyRefused refusal m) (s.applyIgnoredMask m) h)
  dsimp only
  split
  · exact closed_arbiter hc (List.Subset.trans (by decide) hp) (closed_loadDecision hc (List.Subset.trans (by decide) hp) h1)
  · exact h1

theorem closed_applyAtLoadAt (hc : Closed free ps P) (hp : [.drives] ⊆ ps) {s : State} {d : Drive}
    (h : P s) : P (State.applyAtLoadAt s d) := by
  unfold State.applyAtLoadAt
  split
  · exact h
  · split
    · exact closed_setApply hc hp h
    · rename_i hr
      exact hc.drives (hp (by decide)) _ _ _ (Or.inr (DriveSlot.lawful_pending (StagedEntry.legal_inForce hr))) h

theorem closed_orderTo (hc : Closed free ps P) (hp : [.orders, .outbound, .events] ⊆ ps) {s : State} {o : OrderNo} {st : OrderState} (h : P s) :
    P (State.orderTo s o st) := by
  unfold State.orderTo
  try dsimp only
  repeat' first
    | with_reducible assumption
    | ((with_reducible refine hc.orders ?_ _ _ _ ?_); · exact hp (by decide))
    | ((with_reducible refine closed_raiseOrder hc ?_ ?_); · exact List.Subset.trans (by decide) hp)
    | split

theorem closed_orderDefine (hc : Closed free ps P) (hp : [.images, .drives, .orders, .records, .queue, .transport, .printer, .feed, .outbound, .events] ⊆ ps) {r : ReplyTo} {a : OrderDefineArgs} {s : State} (h : P s) :
    P (State.orderDefine r a s) := by
  unfold State.orderDefine
  try dsimp only
  repeat' first
    | with_reducible assumption
    | ((with_reducible refine closed_replyPlain hc ?_ ?_); · exact List.Subset.trans (by decide) hp)
    | ((with_reducible refine hc.orders ?_ _ _ _ ?_); · exact hp (by decide))
    | ((with_reducible refine hc.images ?_ _ _ _ ?_); · exact hp (by decide))
    | ((with_reducible refine closed_raiseOrder hc ?_ ?_); · exact List.Subset.trans (by decide) hp)
    | ((with_reducible refine closed_loadDecision hc ?_ ?_); · exact List.Subset.trans (by decide) hp)
    | ((with_reducible refine closed_arbiter hc ?_ ?_); · exact List.Subset.trans (by decide) hp)
    | split

theorem closed_orderHold (hc : Closed free ps P) (hp : [.drives, .orders, .records, .queue, .transport, .printer, .feed, .outbound, .events] ⊆ ps) {r : ReplyTo} {o : OrderNo} {s : State} (h : P s) :
    P (State.orderHold r o s) := by
  unfold State.orderHold
  try dsimp only
  repeat' first
    | with_reducible assumption
    | ((with_reducible refine closed_withdraw hc ?_ ?_); · exact List.Subset.trans (by decide) hp)
    | ((with_reducible refine closed_replyPlain hc ?_ ?_); · exact List.Subset.trans (by decide) hp)
    | ((with_reducible refine closed_orderTo hc ?_ ?_); · exact List.Subset.trans (by decide) hp)
    | ((with_reducible refine closed_arbiter hc ?_ ?_); · exact List.Subset.trans (by decide) hp)
    | (with_reducible refine closed_foldl ?_ ?_)
    | (intro _ _ _; try dsimp only)
    | split

theorem closed_orderResume (hc : Closed free ps P) (hp : [.drives, .orders, .records, .queue, .transport, .printer, .feed, .outbound, .events] ⊆ ps) {r : ReplyTo} {o : OrderNo} {s : State} (h : P s) :
    P (State.orderResume r o s) := by
  unfold State.orderResume
  try dsimp only
  repeat' first
    | with_reducible assumption
    | ((with_reducible refine closed_replyPlain hc ?_ ?_); · exact List.Subset.trans (by decide) hp)
    | ((with_reducible refine closed_orderTo hc ?_ ?_); · exact List.Subset.trans (by decide) hp)
    | ((with_reducible refine closed_loadDecision hc ?_ ?_); · exact List.Subset.trans (by decide) hp)
    | ((with_reducible refine closed_arbiter hc ?_ ?_); · exact List.Subset.trans (by decide) hp)
    | split

theorem closed_quantityState (hc : Closed free ps P) (hp : [.orders, .outbound, .events] ⊆ ps) {s : State} {o : OrderNo} {q : Nat} (h : P s) :
    P (State.quantityState s o q) := by
  unfold State.quantityState
  try dsimp only
  repeat' first
    | with_reducible assumption
    | ((with_reducible refine closed_orderTo hc ?_ ?_); · exact List.Subset.trans (by decide) hp)
    | split

theorem closed_orderQuantity (hc : Closed free ps P) (hp : [.drives, .orders, .records, .queue, .transport, .printer, .feed, .outbound, .events] ⊆ ps) {r : ReplyTo} {a : OrderNo × Nat} {s : State} (h : P s) :
    P (State.orderQuantity r a s) := by
  unfold State.orderQuantity
  try dsimp only
  repeat' first
    | with_reducible assumption
    | ((with_reducible refine closed_replyPlain hc ?_ ?_); · exact List.Subset.trans (by decide) hp)
    | ((with_reducible refine hc.orders ?_ _ _ _ ?_); · exact hp (by decide))
    | ((with_reducible refine closed_quantityState hc ?_ ?_); · exact List.Subset.trans (by decide) hp)
    | ((with_reducible refine closed_loadDecision hc ?_ ?_); · exact List.Subset.trans (by decide) hp)
    | ((with_reducible refine closed_arbiter hc ?_ ?_); · exact List.Subset.trans (by decide) hp)
    | split

theorem closed_orderCancel (hc : Closed free ps P) (hp : [.images, .orders, .feed, .outbound, .events] ⊆ ps) {r : ReplyTo} {o : OrderNo} {s : State} (h : P s) :
    P (State.orderCancel r o s) := by
  unfold State.orderCancel
  try dsimp only
  repeat' first
    | with_reducible assumption
    | ((with_reducible refine closed_replyPlain hc ?_ ?_); · exact List.Subset.trans (by decide) hp)
    | ((with_reducible refine hc.images ?_ _ _ _ ?_); · exact hp (by decide))
    | ((with_reducible refine closed_orderTo hc ?_ ?_); · exact List.Subset.trans (by decide) hp)
    | split

theorem closed_feedEnable (hc : Closed free ps P) (hp : [.drives, .orders, .records, .queue, .transport, .printer, .feed, .outbound, .events] ⊆ ps) {r : ReplyTo} {setting : Fin 2} {s : State} (h : P s) :
    P (State.feedEnable r setting s) := by
  unfold State.feedEnable
  try dsimp only
  repeat' first
    | with_reducible assumption
    | ((with_reducible refine closed_replyPlain hc ?_ ?_); · exact List.Subset.trans (by decide) hp)
    | ((with_reducible refine hc.transport ?_ _ _ ?_ ?_); · exact hp (by decide))
    | ((with_reducible refine closed_loadDecision hc ?_ ?_); · exact List.Subset.trans (by decide) hp)
    | ((with_reducible refine closed_arbiter hc ?_ ?_); · exact List.Subset.trans (by decide) hp)
    | split
    | exact Or.inr (fun hx => hx)
    | exact Or.inr ⟨fun hx => hx, fun hm => hm⟩
    | exact Or.inr ⟨fun hx => hx, le_refl _⟩
    | exact Or.inr ⟨Transport.lawful_autoFeed ‹_›, fun hm => hm⟩

theorem closed_transportStart (hc : Closed free ps P) (hp : [.transport, .feed, .outbound] ⊆ ps) (hfT : free.transport) {r : ReplyTo} {u : Unit} {s : State} (h : P s) :
    P (State.transportStart r u s) := by
  unfold State.transportStart
  try dsimp only
  repeat' first
    | with_reducible assumption
    | ((with_reducible refine closed_replyPlain hc ?_ ?_); · exact List.Subset.trans (by decide) hp)
    | ((with_reducible refine closed_askHome hc ?_ hfT ?_); · exact List.Subset.trans (by decide) hp)
    | split

theorem closed_park (hc : Closed free ps P) (hp : [.transport, .feed, .outbound] ⊆ ps) {r : ReplyTo} {u : Unit} {s : State} (h : P s) :
    P (State.park r u s) := by
  unfold State.park
  try dsimp only
  repeat' first
    | with_reducible assumption
    | ((with_reducible refine closed_replyPlain hc ?_ ?_); · exact List.Subset.trans (by decide) hp)
    | ((with_reducible refine hc.transport ?_ _ _ ?_ ?_); · exact hp (by decide))
    | split
    | exact Or.inr (fun hx => hx)
    | exact Or.inr ⟨fun hx => hx, fun hm => hm⟩
    | exact Or.inr ⟨fun hx => hx, le_refl _⟩
    | exact Or.inr ⟨Transport.lawful_park ‹_› (‹_ ∧ _›).1, Transport.park_held ‹_›⟩
    | exact Or.inr ⟨Transport.lawful_parkWaiting ‹_›, fun hm => hm⟩

theorem closed_resume (hc : Closed free ps P) (hp : [.transport, .feed, .outbound] ⊆ ps) (hfT : free.transport) {r : ReplyTo} {u : Unit} {s : State} (h : P s) :
    P (State.resume r u s) := by
  unfold State.resume
  try dsimp only
  repeat' first
    | with_reducible assumption
    | ((with_reducible refine closed_replyPlain hc ?_ ?_); · exact List.Subset.trans (by decide) hp)
    | ((with_reducible refine closed_askHome hc ?_ hfT ?_); · exact List.Subset.trans (by decide) hp)
    | split

theorem closed_retireNaming (hc : Closed free ps P) (hp : [.drives, .records, .queue, .transport, .printer, .outbound, .events] ⊆ ps) {s : State} {t : Token} (h : P s) :
    P (State.retireNaming s t) := by
  unfold State.retireNaming
  try dsimp only
  repeat' first
    | with_reducible assumption
    | ((with_reducible refine closed_retire hc ?_ ?_); · exact List.Subset.trans (by decide) hp)
    | ((with_reducible refine closed_tellLoad hc ?_ ?_); · exact List.Subset.trans (by decide) hp)
    | split

theorem closed_driveRemoved (hc : Closed free ps P) (hp : [.images, .accs, .waves, .drives, .saves, .verifyQueue, .contexts, .records, .queue, .printer, .outbound, .events] ⊆ ps) {s : State} {d : Drive} (h : P s) :
    P (State.driveRemoved s d) := by
  unfold State.driveRemoved
  try dsimp only
  repeat' first
    | with_reducible assumption
    | ((with_reducible refine hc.drives ?_ _ _ _ ?_ ?_); · exact hp (by decide))
    | ((with_reducible refine closed_detachOne hc ?_ ?_ ?_); exact List.Subset.trans (by decide) hp) | (intro _ _; try dsimp only)
    | ((with_reducible refine closed_closeTray hc ?_ ?_); · exact List.Subset.trans (by decide) hp)
    | ((with_reducible refine closed_verifyRemoved hc ?_ ?_); · exact List.Subset.trans (by decide) hp)
    | split
    | exact Or.inr (fun hx => hx)
    | exact Or.inr ⟨fun hx => hx, fun hm => hm⟩
    | exact Or.inr ⟨fun hx => hx, le_refl _⟩

theorem closed_tellDrive (hc : Closed free ps P) (hp : [.images, .accs, .waves, .drives, .saves, .verifyQueue, .contexts, .records, .queue, .printer, .outbound, .events] ⊆ ps) {s : State} {t : Token} (h : P s) :
    P (State.tellDrive s t) := by
  unfold State.tellDrive
  try dsimp only
  repeat' first
    | with_reducible assumption
    | ((with_reducible refine closed_driveRemoved hc ?_ ?_); · exact List.Subset.trans (by decide) hp)
    | split

theorem closed_tellPrinter (hc : Closed free ps P) (hp : [.artworks, .templates, .printer, .outbound, .events] ⊆ ps) {s : State} {t : Token} (h : P s) :
    P (State.tellPrinter s t) := by
  unfold State.tellPrinter
  try dsimp only
  repeat' first
    | with_reducible assumption
    | ((with_reducible refine closed_printerRemoved hc ?_ ?_); · exact List.Subset.trans (by decide) hp)
    | split

theorem closed_discRemove (hc : Closed free ps P) (hp : [.images, .accs, .waves, .drives, .saves, .verifyQueue, .contexts, .orders, .records, .queue, .transport, .artworks, .templates, .printer, .feed, .outbound, .events] ⊆ ps) {r : ReplyTo} {t : Token} {s : State} (h : P s) :
    P (State.discRemove r t s) := by
  unfold State.discRemove
  try dsimp only
  repeat' first
    | with_reducible assumption
    | ((with_reducible refine closed_replyPlain hc ?_ ?_); · exact List.Subset.trans (by decide) hp)
    | ((with_reducible refine closed_endRecord hc ?_ ?_); · exact List.Subset.trans (by decide) hp)
    | ((with_reducible refine closed_retireNaming hc ?_ ?_); · exact List.Subset.trans (by decide) hp)
    | ((with_reducible refine closed_tellDrive hc ?_ ?_); · exact List.Subset.trans (by decide) hp)
    | ((with_reducible refine closed_tellPrinter hc ?_ ?_); · exact List.Subset.trans (by decide) hp)
    | ((with_reducible refine closed_arbiter hc ?_ ?_); · exact List.Subset.trans (by decide) hp)
    | split

theorem closed_spindleRefill (hc : Closed free ps P) (hp : [.drives, .orders, .records, .stations, .queue, .transport, .printer, .feed, .outbound, .events] ⊆ ps) {r : ReplyTo} {a : Fin 4 × Nat × Nat} {s : State} (h : P s) :
    P (State.spindleRefill r a s) := by
  unfold State.spindleRefill
  try dsimp only
  repeat' first
    | with_reducible assumption
    | ((with_reducible refine closed_replyPlain hc ?_ ?_); · exact List.Subset.trans (by decide) hp)
    | ((with_reducible refine hc.stations ?_ _ _ _ ?_); · exact hp (by decide))
    | ((with_reducible refine closed_retireStranded hc ?_ ?_); · exact List.Subset.trans (by decide) hp)
    | ((with_reducible refine closed_loadDecision hc ?_ ?_); · exact List.Subset.trans (by decide) hp)
    | ((with_reducible refine closed_arbiter hc ?_ ?_); · exact List.Subset.trans (by decide) hp)
    | split

theorem closed_binEmptied (hc : Closed free ps P) (hp : [.records, .stations, .queue, .transport, .feed, .outbound] ⊆ ps) {r : ReplyTo} {b : Fin 3} {s : State} (h : P s) :
    P (State.binEmptied r b s) := by
  unfold State.binEmptied
  try dsimp only
  repeat' first
    | with_reducible assumption
    | ((with_reducible refine hc.stations ?_ _ _ _ ?_); · exact hp (by decide))
    | ((with_reducible refine closed_replyPlain hc ?_ ?_); · exact List.Subset.trans (by decide) hp)
    | ((with_reducible refine closed_arbiter hc ?_ ?_); · exact List.Subset.trans (by decide) hp)
    | split

theorem closed_portCheck (hc : Closed free ps P) (hp : [.drives, .feed, .outbound] ⊆ ps) {r : ReplyTo} {m : Word16} {s : State} (h : P s) :
    P (State.portCheck r m s) := by
  unfold State.portCheck
  try dsimp only
  repeat' first
    | with_reducible assumption
    | ((with_reducible refine hc.drives ?_ _ _ _ ?_ ?_); · exact hp (by decide))
    | ((with_reducible refine hc.reply ?_ ?_ _ _ _ _ _ ?_); exact hp (by decide); exact hp (by decide))
    | (with_reducible refine closed_foldl ?_ ?_)
    | (intro _ _ _; try dsimp only)
    | split
    | exact Or.inr (fun hx => hx)
    | exact Or.inr ⟨fun hx => hx, fun hm => hm⟩
    | exact Or.inr ⟨fun hx => hx, le_refl _⟩

theorem closed_portReset (hc : Closed free ps P) (hp : [.drives, .feed, .outbound, .events] ⊆ ps) {r : ReplyTo} {d : Drive} {s : State} (h : P s) :
    P (State.portReset r d s) := by
  unfold State.portReset
  try dsimp only
  repeat' first
    | with_reducible assumption
    | ((with_reducible refine closed_dropWaiting hc ?_ ?_); · exact List.Subset.trans (by decide) hp)
    | ((with_reducible refine hc.drives ?_ _ _ _ ?_ ?_); · exact hp (by decide))
    | ((with_reducible refine closed_replyPlain hc ?_ ?_); · exact List.Subset.trans (by decide) hp)
    | split
    | exact Or.inr (fun hx => hx)
    | exact Or.inr ⟨fun hx => hx, fun hm => hm⟩
    | exact Or.inr ⟨fun hx => hx, le_refl _⟩

theorem closed_printerReset (hc : Closed free ps P) (hp : [.printer, .feed, .outbound] ⊆ ps) {r : ReplyTo} {u : Unit} {s : State} (h : P s) :
    P (State.printerReset r u s) := by
  unfold State.printerReset
  try dsimp only
  repeat' first
    | with_reducible assumption
    | ((with_reducible refine hc.printer ?_ _ _ ?_); · exact hp (by decide))
    | ((with_reducible refine closed_replyPlain hc ?_ ?_); · exact List.Subset.trans (by decide) hp)
    | split

theorem closed_abortPrints (hc : Closed free ps P) (hp : [.records] ⊆ ps) {s : State} (h : P s) :
    P (State.abortPrints s) := by
  unfold State.abortPrints
  try dsimp only
  repeat' first
    | with_reducible assumption
    | ((with_reducible refine hc.records ?_ _ _ _ ?_); · exact hp (by decide))
    | (with_reducible refine closed_foldl ?_ ?_)
    | (intro _ _ _; try dsimp only)
    | split

theorem closed_abortDrive (hc : Closed free ps P) (hp : [.images, .drives, .saves, .verifyQueue, .contexts, .records, .queue, .printer, .outbound, .events] ⊆ ps) {s : State} {d : Drive} (h : P s) :
    P (State.abortDrive s d) := by
  unfold State.abortDrive
  try dsimp only
  repeat' first
    | with_reducible assumption
    | ((with_reducible refine closed_withdraw hc ?_ ?_); · exact List.Subset.trans (by decide) hp)
    | ((with_reducible refine closed_giveCause hc ?_ ?_); · exact List.Subset.trans (by decide) hp)
    | ((with_reducible refine closed_verifyAborted hc ?_ ?_); · exact List.Subset.trans (by decide) hp)
    | split

theorem closed_abortLoads (hc : Closed free ps P) (hp : [.drives, .orders, .records, .queue, .transport, .printer, .outbound, .events] ⊆ ps) {s : State} (h : P s) :
    P (State.abortLoads s) := by
  unfold State.abortLoads
  try dsimp only
  repeat' first
    | with_reducible assumption
    | ((with_reducible refine closed_retireLoad hc ?_ ?_); · exact List.Subset.trans (by decide) hp)
    | (with_reducible refine closed_foldl ?_ ?_)
    | (intro _ _ _; try dsimp only)
    | split

theorem closed_abortTransport (hc : Closed free ps P) (hp : [.drives, .orders, .records, .queue, .transport, .printer, .outbound, .events] ⊆ ps) {s : State} (h : P s) :
    P (State.abortTransport s) := by
  unfold State.abortTransport
  try dsimp only
  repeat' first
    | with_reducible assumption
    | ((with_reducible refine closed_abortLoads hc ?_ ?_); · exact List.Subset.trans (by decide) hp)
    | ((with_reducible refine hc.queue ?_ _ _ ?_); · exact hp (by decide))
    | ((with_reducible refine closed_printerTray hc ?_ ?_); · exact List.Subset.trans (by decide) hp)
    | split

theorem closed_abortAll (hc : Closed free ps P) (hp : [.images, .accs, .waves, .drives, .saves, .verifyQueue, .contexts, .orders, .records, .queue, .transport, .artworks, .templates, .printer, .feed, .outbound, .events] ⊆ ps) {r : ReplyTo} {u : Unit} {s : State} (h : P s) :
    P (State.abortAll r u s) := by
  unfold State.abortAll
  try dsimp only
  repeat' first
    | with_reducible assumption
    | ((with_reducible refine closed_replyPlain hc ?_ ?_); · exact List.Subset.trans (by decide) hp)
    | ((with_reducible refine hc.transport ?_ _ _ ?_ ?_); · exact hp (by decide))
    | ((with_reducible refine closed_abortWave hc ?_ ?_); · exact List.Subset.trans (by decide) hp)
    | ((with_reducible refine closed_abortDrive hc ?_ ?_); · exact List.Subset.trans (by decide) hp)
    | ((with_reducible refine closed_abortPrints hc ?_ ?_); · exact List.Subset.trans (by decide) hp)
    | ((with_reducible refine closed_abortTransport hc ?_ ?_); · exact List.Subset.trans (by decide) hp)
    | ((with_reducible refine closed_printAborted hc ?_ ?_); · exact List.Subset.trans (by decide) hp)
    | ((with_reducible refine closed_loadDecision hc ?_ ?_); · exact List.Subset.trans (by decide) hp)
    | ((with_reducible refine closed_arbiter hc ?_ ?_); · exact List.Subset.trans (by decide) hp)
    | (with_reducible refine closed_foldl ?_ ?_)
    | (intro _ _ _; try dsimp only)
    | split
    | exact Or.inr (fun hx => hx)
    | exact Or.inr ⟨fun hx => hx, fun hm => hm⟩
    | exact Or.inr ⟨fun hx => hx, le_refl _⟩
    | exact Or.inr ⟨Transport.lawful_noFeed, fun hm => hm⟩

theorem closed_driveReply (hc : Closed free ps P) (hp : [.images, .accs, .waves, .drives, .saves, .verifyQueue, .contexts, .orders, .records, .queue, .transport, .printer, .outbound, .events] ⊆ ps) {s : State} {d : Drive} {n : Byte} {r : DriveReply} (h : P s) :
    P (State.driveReply s d n r) := by
  unfold State.driveReply
  try dsimp only
  repeat' first
    | with_reducible assumption
    | ((with_reducible refine closed_requestEnded hc ?_ ?_); · exact List.Subset.trans (by decide) hp)
    | ((with_reducible refine closed_arbiter hc ?_ ?_); · exact List.Subset.trans (by decide) hp)
    | split

theorem closed_driveTimeout (hc : Closed free ps P) (hp : [.images, .accs, .waves, .drives, .saves, .verifyQueue, .contexts, .orders, .records, .queue, .transport, .printer, .outbound, .events] ⊆ ps) {s : State} {d : Drive} (h : P s) :
    P (State.driveTimeout s d) := by
  unfold State.driveTimeout
  try dsimp only
  repeat' first
    | with_reducible assumption
    | ((with_reducible refine closed_requestEnded hc ?_ ?_); · exact List.Subset.trans (by decide) hp)
    | ((with_reducible refine closed_arbiter hc ?_ ?_); · exact List.Subset.trans (by decide) hp)
    | split

/-- An answered frame (R187 to R189): what its owner keeps survives it. -/
theorem closed_answer (hc : Closed free ps P) (hp : [.feed, .outbound] ⊆ ps) {s : State} {r : ReplyTo} {resend : Bool}
    {α : Type} {args : Option α} {owner : α → State → State} (ho : ∀ a, P (owner a s)) (h : P s) :
    P (s.answer r resend args owner) := by
  unfold State.answer
  split
  · exact hc.ignored (hp (by decide)) (hp (by decide)) _ _ h
  · split
    · exact hc.reply (hp (by decide)) (hp (by decide)) _ _ _ _ _ h
    · exact ho _

theorem closed_query (hc : Closed free ps P) (hp : [.feed, .outbound] ⊆ ps) {s : State} {r : ReplyTo}
    {a : Selector × Byte} (h : P s) : P (State.query r a s) := by
  have h1 := closed_replyPlain (r := r) (st := .ok) hc hp h
  unfold State.query State.queryTaken
  split
  · rename_i body _
    have h2 := hc.queryResult (hp (by decide)) (hp (by decide)) _ r.tag (BitVec.ofNat 8 a.1.ctorIdx) a.2 body h1
    dsimp only
    split
    · exact hc.feed (hp (by decide)) _ _ h2
    · exact h2
  · exact closed_replyPlain hc hp h

end Sys2Proof.Machine
end

