-- ==== Sys2Proof/Laws/Footprint.lean ====
section
/-! SUPPORT. What follows from Sys2Proof/Laws/Closure.lean for every operation: the parts it leaves unchanged
(`changes_<operation>`), the growth of the outbound list, the REPLYs in it, and the event records' law. -/

namespace Sys2Proof.Machine

/-- Every update is let off its law. -/
abbrev anyUpdate : Freed := ⟨True, True, True, True⟩

/-! ### Footprints -/

theorem Part.same_raise {s t : State} {p : Part} {c : EventClass} {m : Word16} {v : Option EventValue}
    (h1 : p ≠ .events) (h2 : p ≠ .outbound) (h : p.same s t) : p.same s (t.raise c m v) := by
  unfold State.raise State.placeEvent State.emit
  cases p <;> first | exact absurd rfl h1 | exact absurd rfl h2 | (dsimp only; split <;> exact h)

/-- A part outside `ps` survives every update of the parts `ps`. -/
theorem closed_same {ps : List Part} {p : Part} (hp : p ∉ ps) (s : State) :
    Closed anyUpdate ps (fun t => p.same s t) := by
  have hne : ∀ q ∈ ps, p ≠ q := fun q hq h => hp (h ▸ hq)
  constructor
  case raise => intro h1 h2 t c m v h; exact Part.same_raise (hne _ h1) (hne _ h2) h
  case reply =>
    intro h1 h2 t r st m n h
    have h1 := hne _ h1
    have h2 := hne _ h2
    cases p <;> first | exact absurd rfl h1 | exact absurd rfl h2 | exact h
  case ignored =>
    intro h1 h2 t r h
    have h1 := hne _ h1
    have h2 := hne _ h2
    cases p <;> first | exact absurd rfl h1 | exact absurd rfl h2 | exact h
  case queryResult =>
    intro h1 h2 t k i b c h
    have h2 := hne _ h2
    cases p <;> first | exact absurd rfl h2 | exact h
  all_goals
    intro hq
    have hq := hne _ hq
    intros
    cases p <;> first | exact absurd rfl hq | assumption

/-- What survives every update of the parts `ps` from `s` to `t`: nothing but `ps` changes. -/
theorem changes_of_closed {ps : List Part} {s t : State}
    (h : ∀ P : State → Prop, Closed anyUpdate ps P → P s → P t) : Changes ps s t :=
  fun p hp => h _ (closed_same hp s) (by cases p <;> rfl)

theorem Changes.refl {ps : List Part} (s : State) : Changes ps s s := fun p _ => by cases p <;> rfl

theorem Changes.trans {ps : List Part} {s t u : State} (h1 : Changes ps s t) (h2 : Changes ps t u) : Changes ps s u := by
  intro p hp
  have a := h1 p hp
  have b := h2 p hp
  cases p <;> exact b.trans a

theorem Changes.mono {ps qs : List Part} {s t : State} (h : Changes ps s t) (hs : ps ⊆ qs) : Changes qs s t :=
  fun p hp => h p (fun hq => hp (hs hq))

theorem changes_writeRecord (s : State) (t : Token) (f : DiscRecord → DiscRecord) :
    Changes [.records] s (State.writeRecord s t f) :=
  changes_of_closed (fun _ hc => closed_writeRecord hc (List.Subset.refl _))

theorem changes_writeRecordO (s : State) (t : Option Token) (f : DiscRecord → DiscRecord) :
    Changes [.records] s (State.writeRecord? s t f) :=
  changes_of_closed (fun _ hc => closed_writeRecordO hc (List.Subset.refl _))

theorem changes_giveCause (s : State) (t : Option Token) (c : FailCause) :
    Changes [.records] s (State.giveCause s t c) :=
  changes_of_closed (fun _ hc => closed_giveCause hc (List.Subset.refl _))

theorem changes_takeRecord (s : State) (n : RecNo) (init : DiscRecord) :
    Changes [.records] s (State.takeRecord s n init) :=
  changes_of_closed (fun _ hc => closed_takeRecord hc (List.Subset.refl _))

theorem changes_returnSetAside (s : State) (n : Option RecNo) :
    Changes [.records] s (State.returnSetAside s n) :=
  changes_of_closed (fun _ hc => closed_returnSetAside hc (List.Subset.refl _))

theorem changes_raiseDrive (s : State) (d : Drive) :
    Changes [.outbound, .events] s (State.raiseDrive s d) :=
  changes_of_closed (fun _ hc => closed_raiseDrive hc (List.Subset.refl _))

theorem changes_raiseApply (s : State) (d : Drive) :
    Changes [.outbound, .events] s (State.raiseApply s d) :=
  changes_of_closed (fun _ hc => closed_raiseApply hc (List.Subset.refl _))

theorem changes_raiseWave (s : State) (w : WaveNo) (st : WaveState) (c : WaveCause) :
    Changes [.outbound, .events] s (State.raiseWave s w st c) :=
  changes_of_closed (fun _ hc => closed_raiseWave hc (List.Subset.refl _))

theorem changes_raiseImage (s : State) (i : SlotNo) (st : ImageState) (c : ImageCause) :
    Changes [.outbound, .events] s (State.raiseImage s i st c) :=
  changes_of_closed (fun _ hc => closed_raiseImage hc (List.Subset.refl _))

theorem changes_raiseOrder (s : State) (o : OrderNo) :
    Changes [.outbound, .events] s (State.raiseOrder s o) :=
  changes_of_closed (fun _ hc => closed_raiseOrder hc (List.Subset.refl _))

theorem changes_raisePrinter (s : State) (st : PrinterState) (c : PrinterCause) :
    Changes [.outbound, .events] s (State.raisePrinter s st c) :=
  changes_of_closed (fun _ hc => closed_raisePrinter hc (List.Subset.refl _))

theorem changes_replyPlain (s : State) (r : ReplyTo) (st : Status) :
    Changes [.feed, .outbound] s (State.replyPlain s r st) :=
  changes_of_closed (fun _ hc => closed_replyPlain hc (List.Subset.refl _))

theorem changes_sendDrive (s : State) (d : Drive) (req : DriveRequest) :
    Changes [.drives] s (State.sendDrive s d req) :=
  changes_of_closed (fun _ hc => closed_sendDrive hc (List.Subset.refl _))

theorem changes_endApply (s : State) (d : Drive) (st : ApplyStatus) :
    Changes [.drives, .outbound, .events] s (State.endApply s d st) :=
  changes_of_closed (fun _ hc => closed_endApply hc (List.Subset.refl _))

theorem changes_dropWaiting (s : State) (d : Drive) :
    Changes [.drives, .outbound, .events] s (State.dropWaiting s d) :=
  changes_of_closed (fun _ hc => closed_dropWaiting hc (List.Subset.refl _))

theorem changes_askDrive (s : State) (d : Drive) (req : DriveRequest) :
    Changes [.drives, .outbound, .events] s (State.askDrive s d req) :=
  changes_of_closed (fun _ hc => closed_askDrive hc (List.Subset.refl _))

theorem changes_sendWaiting (s : State) (d : Drive) :
    Changes [.drives] s (State.sendWaiting s d) :=
  changes_of_closed (fun _ hc => closed_sendWaiting hc (List.Subset.refl _))

theorem changes_sendPrinter (s : State) (req : PrinterRequest) :
    Changes [.printer] s (State.sendPrinter s req) :=
  changes_of_closed (fun _ hc => closed_sendPrinter hc (List.Subset.refl _))

theorem changes_askPrinter (s : State) (req : PrinterRequest) :
    Changes [.printer] s (State.askPrinter s req) :=
  changes_of_closed (fun _ hc => closed_askPrinter hc (List.Subset.refl _))

theorem changes_sendArm (s : State) (op : ArmOp) :
    Changes [.transport] s (State.sendArm s op) :=
  changes_of_closed (fun _ hc => closed_sendArm hc (List.Subset.refl _) trivial)

theorem changes_askHome (s : State) :
    Changes [.transport] s (State.askHome s) :=
  changes_of_closed (fun _ hc => closed_askHome hc (List.Subset.refl _) trivial)

theorem changes_sendGoto (s : State) (i : StationNo) (phase : ArmPhase) (hp : phase ≠ .idle) :
    Changes [.transport] s (State.sendGoto s i phase) :=
  changes_of_closed (fun _ hc => closed_sendGoto hc (List.Subset.refl _) (Or.inl trivial) (by assumption))

theorem changes_printerTray (s : State) :
    Changes [.printer] s (State.printerTray s) :=
  changes_of_closed (fun _ hc => closed_printerTray hc (List.Subset.refl _))

theorem changes_enqueue (s : State) (e : Entry) :
    Changes [.queue, .printer] s (State.enqueue s e) :=
  changes_of_closed (fun _ hc => closed_enqueue hc (List.Subset.refl _))

theorem changes_retire (s : State) (e : Entry) :
    Changes [.records, .queue, .transport, .printer] s (State.retire s e) :=
  changes_of_closed (fun _ hc => closed_retire hc (List.Subset.refl _))

theorem changes_takePending (s : State) (d : Drive) :
    Changes [.drives, .outbound, .events] s (State.takePending s d) :=
  changes_of_closed (fun _ hc => closed_takePending hc (List.Subset.refl _))

theorem changes_reserve (s : State) (o : OrderNo) :
    Changes [.orders] s (State.reserve s o) :=
  changes_of_closed (fun _ hc => closed_reserve hc (List.Subset.refl _))

theorem changes_unreserve (s : State) (o : Option OrderNo) :
    Changes [.orders] s (State.unreserve s o) :=
  changes_of_closed (fun _ hc => closed_unreserve hc (List.Subset.refl _))

theorem changes_startLoading (s : State) (d : Drive) (o : OrderNo) :
    Changes [.drives, .orders, .queue, .printer, .outbound, .events] s (State.startLoading s d o) :=
  changes_of_closed (fun _ hc => closed_startLoading hc (List.Subset.refl _))

theorem changes_loadIfAllowed (s : State) (d : Drive) :
    Changes [.drives, .orders, .queue, .printer, .outbound, .events] s (State.loadIfAllowed s d) :=
  changes_of_closed (fun _ hc => closed_loadIfAllowed hc (List.Subset.refl _))

theorem changes_decideDrive (s : State) (d : Drive) :
    Changes [.drives, .orders, .queue, .printer, .outbound, .events] s (State.decideDrive s d) :=
  changes_of_closed (fun _ hc => closed_decideDrive hc (List.Subset.refl _))

theorem changes_loadDecision (s : State) :
    Changes [.drives, .orders, .queue, .printer, .outbound, .events] s (State.loadDecision s) :=
  changes_of_closed (fun _ hc => closed_loadDecision hc (List.Subset.refl _))

theorem changes_loadRetired (s : State) (d : Option Drive) :
    Changes [.drives, .outbound, .events] s (State.loadRetired s d) :=
  changes_of_closed (fun _ hc => closed_loadRetired hc (List.Subset.refl _))

theorem changes_retireLoad (s : State) (e : Entry) :
    Changes [.drives, .orders, .records, .queue, .transport, .printer, .outbound, .events] s (State.retireLoad s e) :=
  changes_of_closed (fun _ hc => closed_retireLoad hc (List.Subset.refl _))

theorem changes_retireStranded (s : State) (lost : Nat → Bool) :
    Changes [.drives, .orders, .records, .queue, .transport, .printer, .outbound, .events] s (State.retireStranded s lost) :=
  changes_of_closed (fun _ hc => closed_retireStranded hc (List.Subset.refl _))

theorem changes_retireOthersStranded (s : State) (lost : Nat → Bool) :
    Changes [.drives, .orders, .records, .queue, .transport, .printer, .outbound, .events] s (State.retireOthersStranded s lost) :=
  changes_of_closed (fun _ hc => closed_retireOthersStranded hc (List.Subset.refl _))

theorem changes_spindleEmptied (s : State) (i : StationNo) (lost : Nat → Bool) :
    Changes [.drives, .orders, .records, .queue, .transport, .printer, .outbound, .events] s (State.spindleEmptied s i lost) :=
  changes_of_closed (fun _ hc => closed_spindleEmptied hc (List.Subset.refl _))

theorem changes_downshift (s : State) (d : Drive) (a : Assignment) (ha : (s.drive d).active = some a) :
    Changes [.drives, .outbound, .events] s (State.downshift s d a) :=
  changes_of_closed (fun _ hc => closed_downshift hc (List.Subset.refl _) ha)

theorem changes_countFailure (s : State) (d : Drive) :
    Changes [.drives, .outbound, .events] s (State.countFailure s d) :=
  changes_of_closed (fun _ hc => closed_countFailure hc (List.Subset.refl _))

theorem changes_noticeEnd (s : State) (d : Option Drive) (v : Verdict) (c : Option FailCause) :
    Changes [.drives, .outbound, .events] s (State.noticeEnd s d v c) :=
  changes_of_closed (fun _ hc => closed_noticeEnd hc (List.Subset.refl _))

theorem changes_chargeOrder (s : State) (o : Option OrderNo) (v : Verdict) :
    Changes [.orders, .outbound, .events] s (State.chargeOrder s o v) :=
  changes_of_closed (fun _ hc => closed_chargeOrder hc (List.Subset.refl _))

theorem changes_reloadFor (s : State) (o : Option OrderNo) :
    Changes [.drives, .orders, .queue, .printer, .outbound, .events] s (State.reloadFor s o) :=
  changes_of_closed (fun _ hc => closed_reloadFor hc (List.Subset.refl _))

theorem changes_endRecord (s : State) (t : Token) (cause : Option FailCause) (final : Place) :
    Changes [.drives, .orders, .records, .queue, .printer, .outbound, .events] s (State.endRecord s t cause final) :=
  changes_of_closed (fun _ hc => closed_endRecord hc (List.Subset.refl _))

theorem changes_goEmpty (s : State) (d : Drive) :
    Changes [.drives, .orders, .queue, .printer, .outbound, .events] s (State.goEmpty s d) :=
  changes_of_closed (fun _ hc => closed_goEmpty hc (List.Subset.refl _))

theorem changes_startUnloading (s : State) (d : Drive) (kind : EntryKind) (dest : Dest) :
    Changes [.drives, .queue, .printer, .outbound, .events] s (State.startUnloading s d kind dest) :=
  changes_of_closed (fun _ hc => closed_startUnloading hc (List.Subset.refl _))

theorem changes_unload (s : State) (d : Drive) :
    Changes [.drives, .queue, .printer, .outbound, .events] s (State.unload s d) :=
  changes_of_closed (fun _ hc => closed_unload hc (List.Subset.refl _))

theorem changes_withdraw (s : State) (d : Drive) :
    Changes [.drives, .queue, .printer, .outbound, .events] s (State.withdraw s d) :=
  changes_of_closed (fun _ hc => closed_withdraw hc (List.Subset.refl _))

theorem changes_closeTray (s : State) (d : Drive) :
    Changes [.drives, .outbound, .events] s (State.closeTray s d) :=
  changes_of_closed (fun _ hc => closed_closeTray hc (List.Subset.refl _))

theorem changes_writeSend (s : State) (w : WaveNo) (d : Drive) :
    Changes [.waves, .drives] s (State.writeSend s w d) :=
  changes_of_closed (fun _ hc => closed_writeSend hc (List.Subset.refl _))

theorem changes_attach (s : State) (w : WaveNo) (d : Drive) :
    Changes [.waves, .drives, .outbound, .events] s (State.attach s w d) :=
  changes_of_closed (fun _ hc => closed_attach hc (List.Subset.refl _) (Or.inl trivial))

theorem changes_joinGate (s : State) (d : Drive) :
    Changes [.waves, .drives, .outbound, .events] s (State.joinGate s d) :=
  changes_of_closed (fun _ hc => closed_joinGate hc (List.Subset.refl _))

theorem changes_enterReady (s : State) (d : Drive) :
    Changes [.waves, .drives, .queue, .printer, .outbound, .events] s (State.enterReady s d) :=
  changes_of_closed (fun _ hc => closed_enterReady hc (List.Subset.refl _))

theorem changes_failBurn (s : State) (d : Drive) (c : FailCause) :
    Changes [.records] s (State.failBurn s d c) :=
  changes_of_closed (fun _ hc => closed_failBurn hc (List.Subset.refl _))

theorem changes_detachToUnload (s : State) (d : Drive) (c : FailCause) :
    Changes [.drives, .records, .queue, .printer, .outbound, .events] s (State.detachToUnload s d c) :=
  changes_of_closed (fun _ hc => closed_detachToUnload hc (List.Subset.refl _))

theorem changes_unattach (s : State) (w : WaveNo) (d : Drive) :
    Changes [.waves] s (State.unattach s w d) :=
  changes_of_closed (fun _ hc => closed_unattach hc (List.Subset.refl _))

theorem changes_detachAll (s : State) (w : WaveNo) (ds : List Drive) (c : FailCause) :
    Changes [.waves, .drives, .records, .queue, .printer, .outbound, .events] s (State.detachAll s w ds c) :=
  changes_of_closed (fun _ hc => closed_detachAll hc (List.Subset.refl _))

theorem changes_raiseDetach (s : State) (w : WaveNo) (mask : Word16) :
    Changes [.outbound, .events] s (State.raiseDetach s w mask) :=
  changes_of_closed (fun _ hc => closed_raiseDetach hc (List.Subset.refl _))

theorem changes_waveEndAtImage (s : State) (w : WaveNo) (slot : Option SlotNo) (c : Option ImageCause) :
    Changes [.images, .accs, .outbound, .events] s (State.waveEndAtImage s w slot c) :=
  changes_of_closed (fun _ hc => closed_waveEndAtImage hc (List.Subset.refl _))

theorem changes_abortWave (s : State) (w : WaveNo) (c : AbortCause) :
    Changes [.images, .accs, .waves, .drives, .records, .queue, .printer, .outbound, .events] s (State.abortWave s w c) :=
  changes_of_closed (fun _ hc => closed_abortWave hc (List.Subset.refl _))

theorem changes_drainedCheck (s : State) (w : WaveNo) :
    Changes [.images, .accs, .waves, .outbound, .events] s (State.drainedCheck s w) :=
  changes_of_closed (fun _ hc => closed_drainedCheck hc (List.Subset.refl _))

theorem changes_closeGate (s : State) (w : WaveNo) :
    Changes [.waves, .outbound, .events] s (State.closeGate s w) :=
  changes_of_closed (fun _ hc => closed_closeGate hc (List.Subset.refl _))

theorem changes_sendCredit (s : State) (w : WaveNo) :
    Changes [.waves, .outbound] s (State.sendCredit s w) :=
  changes_of_closed (fun _ hc => closed_sendCredit hc (List.Subset.refl _))

theorem changes_creditIfDue (s : State) (w : WaveNo) :
    Changes [.waves, .outbound] s (State.creditIfDue s w) :=
  changes_of_closed (fun _ hc => closed_creditIfDue hc (List.Subset.refl _))

theorem changes_releaseRule (s : State) (w : WaveNo) :
    Changes [.waves, .outbound, .events] s (State.releaseRule s w) :=
  changes_of_closed (fun _ hc => closed_releaseRule hc (List.Subset.refl _))

theorem changes_abortIfEmpty (s : State) (w : WaveNo) :
    Changes [.images, .accs, .waves, .drives, .records, .queue, .printer, .outbound, .events] s (State.abortIfEmpty s w) :=
  changes_of_closed (fun _ hc => closed_abortIfEmpty hc (List.Subset.refl _))

theorem changes_fillDigest (s : State) (i : SlotNo) (digest : Word32) (last : Bool) :
    Changes [.images, .outbound, .events] s (State.fillDigest s i digest last) :=
  changes_of_closed (fun _ hc => closed_fillDigest hc (List.Subset.refl _))

theorem changes_takeSector (s : State) (w : WaveNo) (payload : List Byte) :
    Changes [.images, .accs, .outbound, .events] s ((State.takeSector s w payload).1) :=
  changes_of_closed (fun _ hc => closed_takeSector hc (List.Subset.refl _))

theorem changes_drain (s : State) (w : WaveNo) :
    Changes [.images, .accs, .waves, .drives, .records, .queue, .printer, .outbound, .events] s (State.drain s w) :=
  changes_of_closed (fun _ hc => closed_drain hc (List.Subset.refl _) trivial)

theorem changes_startTimer (s : State) (w : WaveNo) :
    Changes [.waves] s (State.startTimer s w) :=
  changes_of_closed (fun _ hc => closed_startTimer hc (List.Subset.refl _))

theorem changes_writeAll (s : State) (w : WaveNo) :
    Changes [.waves, .drives] s (State.writeAll s w) :=
  changes_of_closed (fun _ hc => closed_writeAll hc (List.Subset.refl _))

theorem changes_afterTake (s : State) (w : WaveNo) :
    Changes [.images, .accs, .waves, .drives, .records, .queue, .printer, .outbound, .events] s (State.afterTake s w) :=
  changes_of_closed (fun _ hc => closed_afterTake hc (List.Subset.refl _) trivial)

theorem changes_acceptFrame (s : State) (w : WaveNo) (entries : List HeldEntry) (count : Nat) (sectors : List (List Byte)) :
    Changes [.images, .accs, .waves, .drives, .records, .queue, .printer, .feed, .outbound, .events] s (State.acceptFrame s w entries count sectors) :=
  changes_of_closed (fun _ hc => closed_acceptFrame hc (List.Subset.refl _) trivial)

theorem changes_modContext (s : State) (c : Fin 4) (f : Context → Context) :
    Changes [.contexts] s (State.modContext s c f) :=
  changes_of_closed (fun _ hc => closed_modContext hc (List.Subset.refl _))

theorem changes_readSend (s : State) (c : Fin 4) :
    Changes [.drives, .contexts, .outbound, .events] s (State.readSend s c) :=
  changes_of_closed (fun _ hc => closed_readSend hc (List.Subset.refl _))

theorem changes_takeContext (s : State) :
    Changes [.drives, .saves, .verifyQueue, .contexts, .outbound, .events] s (State.takeContext s) :=
  changes_of_closed (fun _ hc => closed_takeContext hc (List.Subset.refl _))

theorem changes_contextRule (s : State) :
    Changes [.drives, .saves, .verifyQueue, .contexts, .outbound, .events] s (State.contextRule s) :=
  changes_of_closed (fun _ hc => closed_contextRule hc (List.Subset.refl _))

theorem changes_leaveQueue (s : State) (d : Drive) :
    Changes [.verifyQueue] s (State.leaveQueue s d) :=
  changes_of_closed (fun _ hc => closed_leaveQueue hc (List.Subset.refl _))

theorem changes_giveBack (s : State) (d : Drive) :
    Changes [.saves, .contexts] s (State.giveBack s d) :=
  changes_of_closed (fun _ hc => closed_giveBack hc (List.Subset.refl _))

theorem changes_leaveVerify (s : State) (d : Drive) (e : LastEnding) :
    Changes [.saves, .verifyQueue, .contexts] s (State.leaveVerify s d e) :=
  changes_of_closed (fun _ hc => closed_leaveVerify hc (List.Subset.refl _))

theorem changes_verifyDown (s : State) (d : Drive) :
    Changes [.images] s (State.verifyDown s d) :=
  changes_of_closed (fun _ hc => closed_verifyDown hc (List.Subset.refl _))

theorem changes_writeVerify (s : State) (d : Drive) (o : VerifyOutcome) :
    Changes [.records] s (State.writeVerify s d o) :=
  changes_of_closed (fun _ hc => closed_writeVerify hc (List.Subset.refl _))

theorem changes_enterVerify (s : State) (d : Drive) (slot : SlotNo) (a : Assignment) :
    Changes [.images, .drives, .saves, .verifyQueue, .contexts, .outbound, .events] s (State.enterVerify s d slot a) :=
  changes_of_closed (fun _ hc => closed_enterVerify hc (List.Subset.refl _))

theorem changes_giveEnding (s : State) (d : Drive) (e : LastEnding) :
    Changes [.records] s (State.giveEnding s d e) :=
  changes_of_closed (fun _ hc => closed_giveEnding hc (List.Subset.refl _))

theorem changes_endVerify (s : State) (d : Drive) (e : LastEnding) :
    Changes [.images, .drives, .saves, .verifyQueue, .contexts, .records, .queue, .printer, .outbound, .events] s (State.endVerify s d e) :=
  changes_of_closed (fun _ hc => closed_endVerify hc (List.Subset.refl _))

theorem changes_completeRead (s : State) (d : Drive) (c : Fin 4) (slice : Nat) :
    Changes [.drives, .saves, .verifyQueue, .contexts, .outbound, .events] s (State.completeRead s d c slice) :=
  changes_of_closed (fun _ hc => closed_completeRead hc (List.Subset.refl _))

theorem changes_afterRead (s : State) (d : Drive) (c : Fin 4) (p : Progress) (ov : Bool) :
    Changes [.images, .drives, .saves, .verifyQueue, .contexts, .records, .queue, .printer, .outbound, .events] s (State.afterRead s d c p ov) :=
  changes_of_closed (fun _ hc => closed_afterRead hc (List.Subset.refl _))

theorem changes_readData (s : State) (d : Drive) (bytes : List Byte) :
    Changes [.images, .drives, .saves, .verifyQueue, .contexts, .records, .queue, .printer, .outbound, .events] s (State.readData s d bytes) :=
  changes_of_closed (fun _ hc => closed_readData hc (List.Subset.refl _))

theorem changes_readFailed (s : State) (d : Drive) :
    Changes [.images, .drives, .saves, .verifyQueue, .contexts, .records, .queue, .printer, .outbound, .events] s (State.readFailed s d) :=
  changes_of_closed (fun _ hc => closed_readFailed hc (List.Subset.refl _))

theorem changes_verifyFaulted (s : State) (d : Drive) :
    Changes [.images, .drives, .saves, .verifyQueue, .contexts, .records, .outbound, .events] s (State.verifyFaulted s d) :=
  changes_of_closed (fun _ hc => closed_verifyFaulted hc (List.Subset.refl _))

theorem changes_verifyRemoved (s : State) (d : Drive) :
    Changes [.images, .drives, .saves, .verifyQueue, .contexts, .outbound, .events] s (State.verifyRemoved s d) :=
  changes_of_closed (fun _ hc => closed_verifyRemoved hc (List.Subset.refl _))

theorem changes_verifyAborted (s : State) (d : Drive) :
    Changes [.images, .drives, .saves, .verifyQueue, .contexts, .records, .queue, .printer, .outbound, .events] s (State.verifyAborted s d) :=
  changes_of_closed (fun _ hc => closed_verifyAborted hc (List.Subset.refl _))

theorem changes_dropEntry (s : State) (d : Drive) :
    Changes [.orders, .records, .queue, .transport, .printer] s (State.dropEntry s d) :=
  changes_of_closed (fun _ hc => closed_dropEntry hc (List.Subset.refl _))

theorem changes_faultWork (s : State) (d : Drive) (before : DriveState) :
    Changes [.images, .accs, .waves, .drives, .saves, .verifyQueue, .contexts, .records, .queue, .printer, .outbound, .events] s (State.faultWork s d before) :=
  changes_of_closed (fun _ hc => closed_faultWork hc (List.Subset.refl _))

theorem changes_driveFaulted (s : State) (d : Drive) :
    Changes [.images, .accs, .waves, .drives, .saves, .verifyQueue, .contexts, .orders, .records, .queue, .transport, .printer, .outbound, .events] s (State.driveFaulted s d) :=
  changes_of_closed (fun _ hc => closed_driveFaulted hc (List.Subset.refl _))

theorem changes_checkEnd (s : State) (d : Drive) (r : CheckResult) :
    Changes [.drives, .orders, .queue, .printer, .outbound, .events] s (State.checkEnd s d r) :=
  changes_of_closed (fun _ hc => closed_checkEnd hc (List.Subset.refl _))

theorem changes_settleEmpty (s : State) (d : Drive) :
    Changes [.drives, .orders, .queue, .printer, .outbound, .events] s (State.settleEmpty s d) :=
  changes_of_closed (fun _ hc => closed_settleEmpty hc (List.Subset.refl _))

theorem changes_settleOrphan (s : State) (d : Drive) (cls : Nat) :
    Changes [.images, .accs, .waves, .drives, .saves, .verifyQueue, .contexts, .orders, .records, .queue, .transport, .printer, .outbound, .events] s (State.settleOrphan s d cls) :=
  changes_of_closed (fun _ hc => closed_settleOrphan hc (List.Subset.refl _))

theorem changes_settle (s : State) (d : Drive) (present : Bool) (cls : Nat) :
    Changes [.images, .accs, .waves, .drives, .saves, .verifyQueue, .contexts, .orders, .records, .queue, .transport, .printer, .outbound, .events] s (State.settle s d present cls) :=
  changes_of_closed (fun _ hc => closed_settle hc (List.Subset.refl _))

theorem changes_failLoading (s : State) (d : Drive) (c : FailCause) :
    Changes [.drives, .records, .queue, .printer, .outbound, .events] s (State.failLoading s d c) :=
  changes_of_closed (fun _ hc => closed_failLoading hc (List.Subset.refl _))

theorem changes_speedSet (s : State) (d : Drive) :
    Changes [.drives, .queue, .printer, .outbound, .events] s (State.speedSet s d) :=
  changes_of_closed (fun _ hc => closed_speedSet hc (List.Subset.refl _))

theorem changes_trayOpenEnded (s : State) (d : Drive) (e : Ending) :
    Changes [.drives, .outbound, .events] s (State.trayOpenEnded s d e) :=
  changes_of_closed (fun _ hc => closed_trayOpenEnded hc (List.Subset.refl _))

theorem changes_trayCloseEnded (s : State) (d : Drive) (e : Ending) :
    Changes [.drives, .orders, .queue, .printer, .outbound, .events] s (State.trayCloseEnded s d e) :=
  changes_of_closed (fun _ hc => closed_trayCloseEnded hc (List.Subset.refl _))

theorem changes_speedEnded (s : State) (d : Drive) (g : Rung) (e : Ending) :
    Changes [.drives, .records, .queue, .printer, .outbound, .events] s (State.speedEnded s d g e) :=
  changes_of_closed (fun _ hc => closed_speedEnded hc (List.Subset.refl _))

theorem changes_senseEnded (s : State) (d : Drive) (e : Ending) :
    Changes [.waves, .drives, .records, .queue, .printer, .outbound, .events] s (State.senseEnded s d e) :=
  changes_of_closed (fun _ hc => closed_senseEnded hc (List.Subset.refl _))

theorem changes_finish (s : State) (w : WaveNo) (d : Drive) :
    Changes [.images, .accs, .waves, .drives, .outbound, .events] s (State.finish s w d) :=
  changes_of_closed (fun _ hc => closed_finish hc (List.Subset.refl _))

theorem changes_writeDone (s : State) (w : WaveNo) (d : Drive) (a : Attachment) :
    Changes [.images, .accs, .waves, .drives, .outbound, .events] s (State.writeDone s w d a) :=
  changes_of_closed (fun _ hc => closed_writeDone hc (List.Subset.refl _))

theorem changes_writeEnded (s : State) (d : Drive) (e : Ending) :
    Changes [.images, .accs, .waves, .drives, .records, .queue, .printer, .outbound, .events] s (State.writeEnded s d e) :=
  changes_of_closed (fun _ hc => closed_writeEnded hc (List.Subset.refl _))

theorem changes_closeDone (s : State) (d : Drive) :
    Changes [.images, .drives, .saves, .verifyQueue, .contexts, .records, .queue, .printer, .outbound, .events] s (State.closeDone s d) :=
  changes_of_closed (fun _ hc => closed_closeDone hc (List.Subset.refl _))

theorem changes_closeEnded (s : State) (d : Drive) (e : Ending) :
    Changes [.images, .drives, .saves, .verifyQueue, .contexts, .records, .queue, .printer, .outbound, .events] s (State.closeEnded s d e) :=
  changes_of_closed (fun _ hc => closed_closeEnded hc (List.Subset.refl _))

theorem changes_readEnded (s : State) (d : Drive) (e : Ending) :
    Changes [.images, .drives, .saves, .verifyQueue, .contexts, .records, .queue, .printer, .outbound, .events] s (State.readEnded s d e) :=
  changes_of_closed (fun _ hc => closed_readEnded hc (List.Subset.refl _))

theorem changes_faultedClose (s : State) (d : Drive) (req : DriveRequest) :
    Changes [.records] s (State.faultedClose s d req) :=
  changes_of_closed (fun _ hc => closed_faultedClose hc (List.Subset.refl _))

theorem changes_requesterActs (s : State) (d : Drive) (req : DriveRequest) (e : Ending) :
    Changes [.images, .accs, .waves, .drives, .saves, .verifyQueue, .contexts, .orders, .records, .queue, .printer, .outbound, .events] s (State.requesterActs s d req e) :=
  changes_of_closed (fun _ hc => closed_requesterActs hc (List.Subset.refl _))

theorem changes_checkSenseEnded (s : State) (d : Drive) (e : Ending) :
    Changes [.images, .accs, .waves, .drives, .saves, .verifyQueue, .contexts, .orders, .records, .queue, .transport, .printer, .outbound, .events] s (State.checkSenseEnded s d e) :=
  changes_of_closed (fun _ hc => closed_checkSenseEnded hc (List.Subset.refl _))

theorem changes_requestEnded (s : State) (d : Drive) (req : DriveRequest) (e : Ending) :
    Changes [.images, .accs, .waves, .drives, .saves, .verifyQueue, .contexts, .orders, .records, .queue, .transport, .printer, .outbound, .events] s (State.requestEnded s d req e) :=
  changes_of_closed (fun _ hc => closed_requestEnded hc (List.Subset.refl _))

theorem changes_setAside (s : State) (n : Option RecNo) :
    Changes [.records] s (State.setAside s n) :=
  changes_of_closed (fun _ hc => closed_setAside hc (List.Subset.refl _))

theorem changes_startMove (s : State) (e : Entry) :
    Changes [.transport] s (State.startMove s e) :=
  changes_of_closed (fun _ hc => closed_startMove hc (List.Subset.refl _) (Or.inl trivial))

theorem changes_dispatch (s : State) (k : Nat) :
    Changes [.records, .queue, .transport] s (State.dispatch s k) :=
  changes_of_closed (fun _ hc => closed_dispatch hc (List.Subset.refl _) (Or.inl trivial))

theorem changes_arbiter (s : State) :
    Changes [.records, .queue, .transport] s (State.arbiter s) :=
  changes_of_closed (fun _ hc => closed_arbiter hc (List.Subset.refl _))

theorem changes_enterHeld (s : State) (c : HeldCause) :
    Changes [.transport, .outbound, .events] s (State.enterHeld s c) :=
  changes_of_closed (fun _ hc => closed_enterHeld hc (List.Subset.refl _))

theorem changes_modCurrent (s : State) (f : Entry → Entry) :
    Changes [.queue] s (State.modCurrent s f) :=
  changes_of_closed (fun _ hc => closed_modCurrent hc (List.Subset.refl _))

theorem changes_printerFaulted (s : State) (c : PrinterCause) :
    Changes [.printer, .outbound, .events] s (State.printerFaulted s c) :=
  changes_of_closed (fun _ hc => closed_printerFaulted hc (List.Subset.refl _))

theorem changes_printerClose (s : State) :
    Changes [.printer] s (State.printerClose s) :=
  changes_of_closed (fun _ hc => closed_printerClose hc (List.Subset.refl _))

theorem changes_printerEject (s : State) :
    Changes [.printer] s (State.printerEject s) :=
  changes_of_closed (fun _ hc => closed_printerEject hc (List.Subset.refl _))

theorem changes_resetEnded (s : State) (st : PrinterState) :
    Changes [.printer, .outbound, .events] s (State.resetEnded s st) :=
  changes_of_closed (fun _ hc => closed_resetEnded hc (List.Subset.refl _))

theorem changes_waitPick (s : State) :
    Changes [.queue, .printer, .outbound, .events] s (State.waitPick s) :=
  changes_of_closed (fun _ hc => closed_waitPick hc (List.Subset.refl _))

theorem changes_printerPicked (s : State) :
    Changes [.printer, .outbound, .events] s (State.printerPicked s) :=
  changes_of_closed (fun _ hc => closed_printerPicked hc (List.Subset.refl _))

theorem changes_printerPlaced (s : State) (t : Option Token) :
    Changes [.queue, .printer, .outbound, .events] s (State.printerPlaced s t) :=
  changes_of_closed (fun _ hc => closed_printerPlaced hc (List.Subset.refl _))

theorem changes_sendPick (s : State) :
    Changes [.queue, .transport] s (State.sendPick s) :=
  changes_of_closed (fun _ hc => closed_sendPick hc (List.Subset.refl _) (Or.inl trivial))

theorem changes_travelToDest (s : State) (e : Entry) :
    Changes [.transport] s (State.travelToDest s e) :=
  changes_of_closed (fun _ hc => closed_travelToDest hc (List.Subset.refl _) (Or.inl trivial))

theorem changes_takeFrom (s : State) (i : StationNo) (n : Nat) :
    Changes [.drives, .orders, .records, .stations, .queue, .transport, .printer, .outbound, .events] s (State.takeFrom s i n) :=
  changes_of_closed (fun _ hc => closed_takeFrom hc (List.Subset.refl _))

theorem changes_pickLoad (s : State) (i : StationNo) (e : Entry) :
    Changes [.drives, .orders, .records, .stations, .queue, .transport, .printer, .outbound, .events] s (State.pickLoad s i e) :=
  changes_of_closed (fun _ hc => closed_pickLoad hc (List.Subset.refl _))

theorem changes_pickTray (s : State) (d : Drive) :
    Changes [.drives, .outbound, .events] s (State.pickTray s d) :=
  changes_of_closed (fun _ hc => closed_pickTray hc (List.Subset.refl _))

theorem changes_pickDone (s : State) (e : Entry) :
    Changes [.drives, .orders, .records, .stations, .queue, .transport, .printer, .outbound, .events] s (State.pickDone s e) :=
  changes_of_closed (fun _ hc => closed_pickDone hc (List.Subset.refl _))

theorem changes_gripped (s : State) (e : Entry) :
    Changes [.drives, .orders, .records, .stations, .queue, .transport, .printer, .outbound, .events] s (State.gripped s e) :=
  changes_of_closed (fun _ hc => closed_gripped hc (List.Subset.refl _) trivial)

theorem changes_doublePick (s : State) (i : StationNo) (e : Entry) :
    Changes [.drives, .orders, .records, .stations, .queue, .transport, .printer, .outbound, .events] s (State.doublePick s i e) :=
  changes_of_closed (fun _ hc => closed_doublePick hc (List.Subset.refl _) trivial)

theorem changes_spindleExhausted (s : State) (i : StationNo) :
    Changes [.stations] s (State.spindleExhausted s i) :=
  changes_of_closed (fun _ hc => closed_spindleExhausted hc (List.Subset.refl _))

theorem changes_secondMiss (s : State) (i : StationNo) (e : Entry) (c : Nat) :
    Changes [.drives, .orders, .records, .stations, .queue, .transport, .printer, .outbound, .events] s (State.secondMiss s i e c) :=
  changes_of_closed (fun _ hc => closed_secondMiss hc (List.Subset.refl _) trivial)

theorem changes_spindleMiss (s : State) (i : StationNo) (e : Entry) :
    Changes [.drives, .orders, .records, .stations, .queue, .transport, .printer, .outbound, .events] s (State.spindleMiss s i e) :=
  changes_of_closed (fun _ hc => closed_spindleMiss hc (List.Subset.refl _) trivial)

theorem changes_stationMiss (s : State) (e : Entry) :
    Changes [.records, .queue, .transport, .printer, .outbound, .events] s (State.stationMiss s e) :=
  changes_of_closed (fun _ hc => closed_stationMiss hc (List.Subset.refl _))

theorem changes_pickEnded (s : State) (e : Entry) (o : ArmOutcome) :
    Changes [.drives, .orders, .records, .stations, .queue, .transport, .printer, .outbound, .events] s (State.pickEnded s e o) :=
  changes_of_closed (fun _ hc => closed_pickEnded hc (List.Subset.refl _) trivial)

theorem changes_placeNotice (s : State) (d : Drive) (t : Option Token) :
    Changes [.drives, .records, .outbound, .events] s (State.placeNotice s d t) :=
  changes_of_closed (fun _ hc => closed_placeNotice hc (List.Subset.refl _))

theorem changes_raiseBinFull (s : State) (i : StationNo) :
    Changes [.outbound, .events] s (State.raiseBinFull s i) :=
  changes_of_closed (fun _ hc => closed_raiseBinFull hc (List.Subset.refl _))

theorem changes_endPlaced (s : State) (t : Option Token) (i : StationNo) :
    Changes [.drives, .orders, .records, .queue, .printer, .outbound, .events] s (State.endPlaced s t i) :=
  changes_of_closed (fun _ hc => closed_endPlaced hc (List.Subset.refl _))

theorem changes_placeOnSpindle (s : State) (i : StationNo) (t : Option Token) :
    Changes [.drives, .orders, .records, .stations, .queue, .printer, .outbound, .events] s (State.placeOnSpindle s i t) :=
  changes_of_closed (fun _ hc => closed_placeOnSpindle hc (List.Subset.refl _))

theorem changes_placeInBin (s : State) (i : StationNo) (t : Option Token) :
    Changes [.drives, .orders, .records, .stations, .queue, .printer, .outbound, .events] s (State.placeInBin s i t) :=
  changes_of_closed (fun _ hc => closed_placeInBin hc (List.Subset.refl _))

theorem changes_placeAt (s : State) (i : StationNo) (t : Option Token) :
    Changes [.drives, .orders, .records, .stations, .queue, .printer, .outbound, .events] s (State.placeAt s i t) :=
  changes_of_closed (fun _ hc => closed_placeAt hc (List.Subset.refl _))

theorem changes_retireCurrent (s : State) :
    Changes [.records, .queue, .transport, .printer] s (State.retireCurrent s) :=
  changes_of_closed (fun _ hc => closed_retireCurrent hc (List.Subset.refl _))

theorem changes_released (s : State) (e : Entry) :
    Changes [.drives, .orders, .records, .stations, .queue, .transport, .printer, .outbound, .events] s (State.released s e) :=
  changes_of_closed (fun _ hc => closed_released hc (List.Subset.refl _))

theorem changes_arrived (s : State) (e : Entry) :
    Changes [.transport, .outbound, .events] s (State.arrived s e) :=
  changes_of_closed (fun _ hc => closed_arrived hc (List.Subset.refl _) (Or.inl trivial))

theorem changes_run (s : State) :
    Changes [.transport] s (State.run s) :=
  changes_of_closed (fun _ hc => closed_run hc (List.Subset.refl _) trivial)

theorem changes_armIdle (s : State) :
    Changes [.transport] s (State.armIdle s) :=
  changes_of_closed (fun _ hc => closed_armIdle hc (List.Subset.refl _) trivial)

theorem changes_startHomed (s : State) (holding : Bool) :
    Changes [.records, .queue, .transport, .printer, .outbound, .events] s (State.startHomed s holding) :=
  changes_of_closed (fun _ hc => closed_startHomed hc (List.Subset.refl _) trivial)

theorem changes_resumed (s : State) :
    Changes [.drives, .orders, .queue, .transport, .printer, .outbound, .events] s (State.resumed s) :=
  changes_of_closed (fun _ hc => closed_resumed hc (List.Subset.refl _) trivial)

theorem changes_heldAgain (s : State) (c : HeldCause) :
    Changes [.transport, .outbound, .events] s (State.heldAgain s c) :=
  changes_of_closed (fun _ hc => closed_heldAgain hc (List.Subset.refl _) trivial)

theorem changes_tellLoad (s : State) (e : Entry) :
    Changes [.drives, .outbound, .events] s (State.tellLoad s e) :=
  changes_of_closed (fun _ hc => closed_tellLoad hc (List.Subset.refl _))

theorem changes_endLost (s : State) (t : Option Token) :
    Changes [.drives, .orders, .records, .queue, .printer, .outbound, .events] s (State.endLost s t) :=
  changes_of_closed (fun _ hc => closed_endLost hc (List.Subset.refl _))

theorem changes_resolveAgain (s : State) (e : Entry) :
    Changes [.queue] s (State.resolveAgain s e) :=
  changes_of_closed (fun _ hc => closed_resolveAgain hc (List.Subset.refl _))

theorem changes_goOn (s : State) :
    Changes [.transport] s (State.goOn s) :=
  changes_of_closed (fun _ hc => closed_goOn hc (List.Subset.refl _) (Or.inl trivial))

theorem changes_resumeHomed (s : State) (holding : Bool) :
    Changes [.drives, .orders, .records, .stations, .queue, .transport, .printer, .outbound, .events] s (State.resumeHomed s holding) :=
  changes_of_closed (fun _ hc => closed_resumeHomed hc (List.Subset.refl _) trivial)

theorem changes_homed (s : State) (holding : Bool) :
    Changes [.drives, .orders, .records, .stations, .queue, .transport, .printer, .outbound, .events] s (State.homed s holding) :=
  changes_of_closed (fun _ hc => closed_homed hc (List.Subset.refl _) trivial)

theorem changes_homeTimedOut (s : State) :
    Changes [.transport, .outbound, .events] s (State.homeTimedOut s) :=
  changes_of_closed (fun _ hc => closed_homeTimedOut hc (List.Subset.refl _) trivial)

theorem changes_opTimedOut (s : State) (op : ArmOp) :
    Changes [.transport, .outbound, .events] s (State.opTimedOut s op) :=
  changes_of_closed (fun _ hc => closed_opTimedOut hc (List.Subset.refl _) trivial)

theorem changes_opEnded (s : State) (op : ArmOp) (o : ArmOutcome) :
    Changes [.drives, .orders, .records, .stations, .queue, .transport, .printer, .outbound, .events] s (State.opEnded s op o) :=
  changes_of_closed (fun _ hc => closed_opEnded hc (List.Subset.refl _) trivial)

theorem changes_abandonedEnded (s : State) :
    Changes [.transport] s (State.abandonedEnded s) :=
  changes_of_closed (fun _ hc => closed_abandonedEnded hc (List.Subset.refl _) trivial)

theorem changes_clearOp (s : State) :
    Changes [.transport] s (State.clearOp s) :=
  changes_of_closed (fun _ hc => closed_clearOp hc (List.Subset.refl _))

theorem changes_armOutcome (s : State) (n : Byte) (o : ArmOutcome) :
    Changes [.drives, .orders, .records, .stations, .queue, .transport, .printer, .outbound, .events] s (State.armOutcome s n o) :=
  changes_of_closed (fun _ hc => closed_armOutcome hc (List.Subset.refl _) trivial)

theorem changes_armTimeout (s : State) :
    Changes [.records, .queue, .transport, .outbound, .events] s (State.armTimeout s) :=
  changes_of_closed (fun _ hc => closed_armTimeout hc (List.Subset.refl _) trivial)

theorem changes_sendBand (s : State) (p : Snapshot) :
    Changes [.printer] s (State.sendBand s p) :=
  changes_of_closed (fun _ hc => closed_sendBand hc (List.Subset.refl _))

theorem changes_accountSerial (s : State) (f : Template → Template) :
    Changes [.templates] s (State.accountSerial s f) :=
  changes_of_closed (fun _ hc => closed_accountSerial hc (List.Subset.refl _))

theorem changes_clearSnapshot (s : State) :
    Changes [.artworks, .printer] s (State.clearSnapshot s) :=
  changes_of_closed (fun _ hc => closed_clearSnapshot hc (List.Subset.refl _))

theorem changes_printFault (s : State) (c : PrinterCause) (counted : Bool) :
    Changes [.records, .artworks, .templates, .printer, .outbound, .events] s (State.printFault s c counted) :=
  changes_of_closed (fun _ hc => closed_printFault hc (List.Subset.refl _))

theorem changes_issueSerial (s : State) (p : Snapshot) :
    Changes [.records, .templates, .printer] s (State.issueSerial s p) :=
  changes_of_closed (fun _ hc => closed_issueSerial hc (List.Subset.refl _))

theorem changes_sendStart (s : State) :
    Changes [.printer] s (State.sendStart s) :=
  changes_of_closed (fun _ hc => closed_sendStart hc (List.Subset.refl _))

theorem changes_startPrint (s : State) :
    Changes [.records, .artworks, .templates, .printer, .outbound, .events] s (State.startPrint s) :=
  changes_of_closed (fun _ hc => closed_startPrint hc (List.Subset.refl _))

theorem changes_bandDone (s : State) :
    Changes [.printer] s (State.bandDone s) :=
  changes_of_closed (fun _ hc => closed_bandDone hc (List.Subset.refl _))

theorem changes_startDone (s : State) :
    Changes [.printer] s (State.startDone s) :=
  changes_of_closed (fun _ hc => closed_startDone hc (List.Subset.refl _))

theorem changes_printPassed (s : State) :
    Changes [.records, .artworks, .templates, .printer] s (State.printPassed s) :=
  changes_of_closed (fun _ hc => closed_printPassed hc (List.Subset.refl _))

theorem changes_printerCheckEnd (s : State) (r : CheckResult) :
    Changes [.printer, .outbound, .events] s (State.printerCheckEnd s r) :=
  changes_of_closed (fun _ hc => closed_printerCheckEnd hc (List.Subset.refl _))

theorem changes_printerEmpty (s : State) :
    Changes [.drives, .orders, .records, .queue, .printer, .outbound, .events] s (State.printerEmpty s) :=
  changes_of_closed (fun _ hc => closed_printerEmpty hc (List.Subset.refl _))

theorem changes_printerOccupied (s : State) :
    Changes [.records, .printer, .outbound, .events] s (State.printerOccupied s) :=
  changes_of_closed (fun _ hc => closed_printerOccupied hc (List.Subset.refl _))

theorem changes_printerSensed (s : State) (present : Bool) :
    Changes [.drives, .orders, .records, .queue, .printer, .outbound, .events] s (State.printerSensed s present) :=
  changes_of_closed (fun _ hc => closed_printerSensed hc (List.Subset.refl _))

theorem changes_printerFailed (s : State) (f : PrinterFailure) :
    Changes [.records, .artworks, .templates, .printer, .outbound, .events] s (State.printerFailed s f) :=
  changes_of_closed (fun _ hc => closed_printerFailed hc (List.Subset.refl _))

theorem changes_printerDone (s : State) (present : Bool) :
    Changes [.drives, .orders, .records, .queue, .artworks, .templates, .printer, .outbound, .events] s (State.printerDone s present) :=
  changes_of_closed (fun _ hc => closed_printerDone hc (List.Subset.refl _))

theorem changes_sendWaitingPrint (s : State) :
    Changes [.printer] s (State.sendWaitingPrint s) :=
  changes_of_closed (fun _ hc => closed_sendWaitingPrint hc (List.Subset.refl _))

theorem changes_printActs (s : State) (req : PrinterRequest) (e : PrintEnding) :
    Changes [.drives, .orders, .records, .queue, .artworks, .templates, .printer, .outbound, .events] s (State.printActs s req e) :=
  changes_of_closed (fun _ hc => closed_printActs hc (List.Subset.refl _))

theorem changes_printEnded (s : State) (req : PrinterRequest) (e : PrintEnding) :
    Changes [.drives, .orders, .records, .queue, .artworks, .templates, .printer, .outbound, .events] s (State.printEnded s req e) :=
  changes_of_closed (fun _ hc => closed_printEnded hc (List.Subset.refl _))

theorem changes_printReply (s : State) (n : Byte) (r : PrinterReply) :
    Changes [.drives, .orders, .records, .queue, .transport, .artworks, .templates, .printer, .outbound, .events] s (State.printReply s n r) :=
  changes_of_closed (fun _ hc => closed_printReply hc (List.Subset.refl _))

theorem changes_printTimeout (s : State) :
    Changes [.drives, .orders, .records, .queue, .transport, .artworks, .templates, .printer, .outbound, .events] s (State.printTimeout s) :=
  changes_of_closed (fun _ hc => closed_printTimeout hc (List.Subset.refl _))

theorem changes_printRemoved (s : State) :
    Changes [.artworks, .templates, .printer] s (State.printRemoved s) :=
  changes_of_closed (fun _ hc => closed_printRemoved hc (List.Subset.refl _))

theorem changes_printerRemoved (s : State) :
    Changes [.artworks, .templates, .printer, .outbound, .events] s (State.printerRemoved s) :=
  changes_of_closed (fun _ hc => closed_printerRemoved hc (List.Subset.refl _))

theorem changes_printAborted (s : State) :
    Changes [.records, .artworks, .templates, .printer, .outbound, .events] s (State.printAborted s) :=
  changes_of_closed (fun _ hc => closed_printAborted hc (List.Subset.refl _))

theorem changes_ladderWrite (r : ReplyTo) (a : Rung × Byte) (s : State) :
    Changes [.drives, .ladder, .orders, .records, .queue, .transport, .printer, .feed, .outbound, .events, .settings] s (State.ladderWrite r a s) :=
  changes_of_closed (fun _ hc => closed_ladderWrite hc (List.Subset.refl _))

theorem changes_fullAfterWrite (s : State) (i : StationNo) :
    Changes [.outbound, .events] s (State.fullAfterWrite s i) :=
  changes_of_closed (fun _ hc => closed_fullAfterWrite hc (List.Subset.refl _))

theorem changes_classChanged (s : State) (changed : Bool) :
    Changes [.drives, .orders, .records, .queue, .transport, .printer, .outbound, .events] s (State.classChanged s changed) :=
  changes_of_closed (fun _ hc => closed_classChanged hc (List.Subset.refl _))

theorem changes_stationWrite (r : ReplyTo) (a : StationNo × StationArgs) (s : State) :
    Changes [.drives, .orders, .records, .stations, .queue, .transport, .printer, .feed, .outbound, .events, .settings] s (State.stationWrite r a s) :=
  changes_of_closed (fun _ hc => closed_stationWrite hc (List.Subset.refl _))

theorem changes_stagedWrite (r : ReplyTo) (a : Drive × StagedEntry) (s : State) :
    Changes [.drives, .feed, .outbound] s (State.stagedWrite r a s) :=
  changes_of_closed (fun _ hc => closed_stagedWrite hc (List.Subset.refl _))

theorem changes_templateWrite (r : ReplyTo) (a : TmplNo × TemplateArgs) (s : State) :
    Changes [.records, .queue, .transport, .templates, .feed, .outbound] s (State.templateWrite r a s) :=
  changes_of_closed (fun _ hc => closed_templateWrite hc (List.Subset.refl _))

theorem changes_loadCodes (s : State) (v : SettingsValues) :
    Changes [.ladder] s (State.loadCodes s v) :=
  changes_of_closed (fun _ hc => closed_loadCodes hc (List.Subset.refl _))

theorem changes_loadStations (s : State) (v : SettingsValues) :
    Changes [.stations] s (State.loadStations s v) :=
  changes_of_closed (fun _ hc => closed_loadStations hc (List.Subset.refl _))

theorem changes_settingsEnd (s : State) (r : SettingsResult) :
    Changes [.outbound, .events, .settings] s (State.settingsEnd s r) :=
  changes_of_closed (fun _ hc => closed_settingsEnd hc (List.Subset.refl _))

theorem changes_settingsRead (s : State) (i : StoredImage) :
    Changes [.drives, .ladder, .orders, .records, .stations, .queue, .transport, .printer, .outbound, .events, .settings] s (State.settingsRead s i) :=
  changes_of_closed (fun _ hc => closed_settingsRead hc (List.Subset.refl _))

theorem changes_settingsLoaded (s : State) (r : SpiRead) :
    Changes [.drives, .ladder, .orders, .records, .stations, .queue, .transport, .printer, .outbound, .events, .settings] s (State.settingsLoaded s r) :=
  changes_of_closed (fun _ hc => closed_settingsLoaded hc (List.Subset.refl _))

theorem changes_storeFailed (s : State) :
    Changes [.outbound, .events, .settings] s (State.storeFailed s) :=
  changes_of_closed (fun _ hc => closed_storeFailed hc (List.Subset.refl _))

theorem changes_storeDone (s : State) :
    Changes [.outbound, .events, .settings] s (State.storeDone s) :=
  changes_of_closed (fun _ hc => closed_storeDone hc (List.Subset.refl _))

theorem changes_storeSettings (r : ReplyTo) (u : Unit) (s : State) :
    Changes [.feed, .outbound, .settings] s (State.storeSettings r u s) :=
  changes_of_closed (fun _ hc => closed_storeSettings hc (List.Subset.refl _))

theorem changes_imageDefine (r : ReplyTo) (a : SlotNo × Word32 × Word32) (s : State) :
    Changes [.images, .feed, .outbound, .events] s (State.imageDefine r a s) :=
  changes_of_closed (fun _ hc => closed_imageDefine hc (List.Subset.refl _))

theorem changes_imageRelease (r : ReplyTo) (i : SlotNo) (s : State) :
    Changes [.images, .feed, .outbound, .events] s (State.imageRelease r i s) :=
  changes_of_closed (fun _ hc => closed_imageRelease hc (List.Subset.refl _))

theorem changes_openAtImage (s : State) (w : WaveNo) (i : SlotNo) :
    Changes [.images, .accs, .outbound, .events] s (State.openAtImage s w i) :=
  changes_of_closed (fun _ hc => closed_openAtImage hc (List.Subset.refl _))

theorem changes_openTaken (r : ReplyTo) (a : WaveOpenArgs) (s : State) :
    Changes [.images, .accs, .waves, .drives, .feed, .outbound, .events] s (State.openTaken r a s) :=
  changes_of_closed (fun _ hc => closed_openTaken hc (List.Subset.refl _) trivial)

theorem changes_waveOpen (r : ReplyTo) (a : WaveOpenArgs) (s : State) :
    Changes [.images, .accs, .waves, .drives, .feed, .outbound, .events] s (State.waveOpen r a s) :=
  changes_of_closed (fun _ hc => closed_waveOpen hc (List.Subset.refl _) trivial)

theorem changes_waveAbort (r : ReplyTo) (w : WaveNo) (s : State) :
    Changes [.images, .accs, .waves, .drives, .records, .queue, .transport, .printer, .feed, .outbound, .events] s (State.waveAbort r w s) :=
  changes_of_closed (fun _ hc => closed_waveAbort hc (List.Subset.refl _))

theorem changes_sectorFrame (s : State) (w : WaveNo) (first : Nat) (sectors : List (List Byte)) :
    Changes [.images, .accs, .waves, .drives, .records, .queue, .transport, .printer, .feed, .outbound, .events] s (State.sectorFrame s w first sectors) :=
  changes_of_closed (fun _ hc => closed_sectorFrame hc (List.Subset.refl _) trivial)

theorem changes_runFrame (s : State) (w : WaveNo) (first rep : Nat) (payload : List Byte) :
    Changes [.images, .accs, .waves, .drives, .records, .queue, .transport, .printer, .feed, .outbound, .events] s (State.runFrame s w first rep payload) :=
  changes_of_closed (fun _ hc => closed_runFrame hc (List.Subset.refl _) trivial)

theorem changes_starve (s : State) (w : WaveNo) :
    Changes [.images, .accs, .waves, .drives, .records, .queue, .printer, .outbound, .events] s (State.starve s w) :=
  changes_of_closed (fun _ hc => closed_starve hc (List.Subset.refl _))

theorem changes_artworkBegin (r : ReplyTo) (a : ArtNo × Nat × Word32) (s : State) :
    Changes [.records, .queue, .transport, .artworks, .feed, .outbound] s (State.artworkBegin r a s) :=
  changes_of_closed (fun _ hc => closed_artworkBegin hc (List.Subset.refl _))

theorem changes_raiseArtwork (s : State) (a : ArtNo) (ready : Bool) :
    Changes [.outbound, .events] s (State.raiseArtwork s a ready) :=
  changes_of_closed (fun _ hc => closed_raiseArtwork hc (List.Subset.refl _))

theorem changes_artworkComplete (s : State) (a : ArtNo) :
    Changes [.artworks, .outbound, .events] s (State.artworkComplete s a) :=
  changes_of_closed (fun _ hc => closed_artworkComplete hc (List.Subset.refl _) trivial)

theorem changes_artworkTaken (s : State) (a : ArtNo) (offset : Nat) (data : List Byte) :
    Changes [.records, .queue, .transport, .artworks, .feed, .outbound, .events] s (State.artworkTaken s a offset data) :=
  changes_of_closed (fun _ hc => closed_artworkTaken hc (List.Subset.refl _) trivial)

theorem changes_setApply (s : State) (d : Drive) (st : ApplyStatus) :
    Changes [.drives] s (State.setApply s d st) :=
  changes_of_closed (fun _ hc => closed_setApply hc (List.Subset.refl _))

theorem changes_applyNowAt (s : State) (d : Drive) :
    Changes [.drives, .outbound, .events] s (State.applyNowAt s d) :=
  changes_of_closed (fun _ hc => closed_applyNowAt hc (List.Subset.refl _))

theorem changes_applyAtLoadAt (s : State) (d : Drive) :
    Changes [.drives] s (State.applyAtLoadAt s d) :=
  changes_of_closed (fun _ hc => closed_applyAtLoadAt hc (List.Subset.refl _))

theorem changes_orderTo (s : State) (o : OrderNo) (st : OrderState) :
    Changes [.orders, .outbound, .events] s (State.orderTo s o st) :=
  changes_of_closed (fun _ hc => closed_orderTo hc (List.Subset.refl _))

theorem changes_orderDefine (r : ReplyTo) (a : OrderDefineArgs) (s : State) :
    Changes [.images, .drives, .orders, .records, .queue, .transport, .printer, .feed, .outbound, .events] s (State.orderDefine r a s) :=
  changes_of_closed (fun _ hc => closed_orderDefine hc (List.Subset.refl _))

theorem changes_orderHold (r : ReplyTo) (o : OrderNo) (s : State) :
    Changes [.drives, .orders, .records, .queue, .transport, .printer, .feed, .outbound, .events] s (State.orderHold r o s) :=
  changes_of_closed (fun _ hc => closed_orderHold hc (List.Subset.refl _))

theorem changes_orderResume (r : ReplyTo) (o : OrderNo) (s : State) :
    Changes [.drives, .orders, .records, .queue, .transport, .printer, .feed, .outbound, .events] s (State.orderResume r o s) :=
  changes_of_closed (fun _ hc => closed_orderResume hc (List.Subset.refl _))

theorem changes_quantityState (s : State) (o : OrderNo) (q : Nat) :
    Changes [.orders, .outbound, .events] s (State.quantityState s o q) :=
  changes_of_closed (fun _ hc => closed_quantityState hc (List.Subset.refl _))

theorem changes_orderQuantity (r : ReplyTo) (a : OrderNo × Nat) (s : State) :
    Changes [.drives, .orders, .records, .queue, .transport, .printer, .feed, .outbound, .events] s (State.orderQuantity r a s) :=
  changes_of_closed (fun _ hc => closed_orderQuantity hc (List.Subset.refl _))

theorem changes_orderCancel (r : ReplyTo) (o : OrderNo) (s : State) :
    Changes [.images, .orders, .feed, .outbound, .events] s (State.orderCancel r o s) :=
  changes_of_closed (fun _ hc => closed_orderCancel hc (List.Subset.refl _))

theorem changes_feedEnable (r : ReplyTo) (setting : Fin 2) (s : State) :
    Changes [.drives, .orders, .records, .queue, .transport, .printer, .feed, .outbound, .events] s (State.feedEnable r setting s) :=
  changes_of_closed (fun _ hc => closed_feedEnable hc (List.Subset.refl _))

theorem changes_transportStart (r : ReplyTo) (u : Unit) (s : State) :
    Changes [.transport, .feed, .outbound] s (State.transportStart r u s) :=
  changes_of_closed (fun _ hc => closed_transportStart hc (List.Subset.refl _) trivial)

theorem changes_park (r : ReplyTo) (u : Unit) (s : State) :
    Changes [.transport, .feed, .outbound] s (State.park r u s) :=
  changes_of_closed (fun _ hc => closed_park hc (List.Subset.refl _))

theorem changes_resume (r : ReplyTo) (u : Unit) (s : State) :
    Changes [.transport, .feed, .outbound] s (State.resume r u s) :=
  changes_of_closed (fun _ hc => closed_resume hc (List.Subset.refl _) trivial)

theorem changes_retireNaming (s : State) (t : Token) :
    Changes [.drives, .records, .queue, .transport, .printer, .outbound, .events] s (State.retireNaming s t) :=
  changes_of_closed (fun _ hc => closed_retireNaming hc (List.Subset.refl _))

theorem changes_driveRemoved (s : State) (d : Drive) :
    Changes [.images, .accs, .waves, .drives, .saves, .verifyQueue, .contexts, .records, .queue, .printer, .outbound, .events] s (State.driveRemoved s d) :=
  changes_of_closed (fun _ hc => closed_driveRemoved hc (List.Subset.refl _))

theorem changes_tellDrive (s : State) (t : Token) :
    Changes [.images, .accs, .waves, .drives, .saves, .verifyQueue, .contexts, .records, .queue, .printer, .outbound, .events] s (State.tellDrive s t) :=
  changes_of_closed (fun _ hc => closed_tellDrive hc (List.Subset.refl _))

theorem changes_tellPrinter (s : State) (t : Token) :
    Changes [.artworks, .templates, .printer, .outbound, .events] s (State.tellPrinter s t) :=
  changes_of_closed (fun _ hc => closed_tellPrinter hc (List.Subset.refl _))

theorem changes_discRemove (r : ReplyTo) (t : Token) (s : State) :
    Changes [.images, .accs, .waves, .drives, .saves, .verifyQueue, .contexts, .orders, .records, .queue, .transport, .artworks, .templates, .printer, .feed, .outbound, .events] s (State.discRemove r t s) :=
  changes_of_closed (fun _ hc => closed_discRemove hc (List.Subset.refl _))

theorem changes_spindleRefill (r : ReplyTo) (a : Fin 4 × Nat × Nat) (s : State) :
    Changes [.drives, .orders, .records, .stations, .queue, .transport, .printer, .feed, .outbound, .events] s (State.spindleRefill r a s) :=
  changes_of_closed (fun _ hc => closed_spindleRefill hc (List.Subset.refl _))

theorem changes_binEmptied (r : ReplyTo) (b : Fin 3) (s : State) :
    Changes [.records, .stations, .queue, .transport, .feed, .outbound] s (State.binEmptied r b s) :=
  changes_of_closed (fun _ hc => closed_binEmptied hc (List.Subset.refl _))

theorem changes_portCheck (r : ReplyTo) (m : Word16) (s : State) :
    Changes [.drives, .feed, .outbound] s (State.portCheck r m s) :=
  changes_of_closed (fun _ hc => closed_portCheck hc (List.Subset.refl _))

theorem changes_portReset (r : ReplyTo) (d : Drive) (s : State) :
    Changes [.drives, .feed, .outbound, .events] s (State.portReset r d s) :=
  changes_of_closed (fun _ hc => closed_portReset hc (List.Subset.refl _))

theorem changes_printerReset (r : ReplyTo) (u : Unit) (s : State) :
    Changes [.printer, .feed, .outbound] s (State.printerReset r u s) :=
  changes_of_closed (fun _ hc => closed_printerReset hc (List.Subset.refl _))

theorem changes_abortPrints (s : State) :
    Changes [.records] s (State.abortPrints s) :=
  changes_of_closed (fun _ hc => closed_abortPrints hc (List.Subset.refl _))

theorem changes_abortDrive (s : State) (d : Drive) :
    Changes [.images, .drives, .saves, .verifyQueue, .contexts, .records, .queue, .printer, .outbound, .events] s (State.abortDrive s d) :=
  changes_of_closed (fun _ hc => closed_abortDrive hc (List.Subset.refl _))

theorem changes_abortLoads (s : State) :
    Changes [.drives, .orders, .records, .queue, .transport, .printer, .outbound, .events] s (State.abortLoads s) :=
  changes_of_closed (fun _ hc => closed_abortLoads hc (List.Subset.refl _))

theorem changes_abortTransport (s : State) :
    Changes [.drives, .orders, .records, .queue, .transport, .printer, .outbound, .events] s (State.abortTransport s) :=
  changes_of_closed (fun _ hc => closed_abortTransport hc (List.Subset.refl _))

theorem changes_abortAll (r : ReplyTo) (u : Unit) (s : State) :
    Changes [.images, .accs, .waves, .drives, .saves, .verifyQueue, .contexts, .orders, .records, .queue, .transport, .artworks, .templates, .printer, .feed, .outbound, .events] s (State.abortAll r u s) :=
  changes_of_closed (fun _ hc => closed_abortAll hc (List.Subset.refl _))

theorem changes_driveReply (s : State) (d : Drive) (n : Byte) (r : DriveReply) :
    Changes [.images, .accs, .waves, .drives, .saves, .verifyQueue, .contexts, .orders, .records, .queue, .transport, .printer, .outbound, .events] s (State.driveReply s d n r) :=
  changes_of_closed (fun _ hc => closed_driveReply hc (List.Subset.refl _))

theorem changes_driveTimeout (s : State) (d : Drive) :
    Changes [.images, .accs, .waves, .drives, .saves, .verifyQueue, .contexts, .orders, .records, .queue, .transport, .printer, .outbound, .events] s (State.driveTimeout s d) :=
  changes_of_closed (fun _ hc => closed_driveTimeout hc (List.Subset.refl _))

theorem changes_takeSectors (s : State) (w : WaveNo) (l : List (List Byte)) :
    Changes [.images, .accs, .outbound, .events] s (State.takeSectors s w l).1 :=
  changes_of_closed (fun _ hc => closed_takeSectors hc (List.Subset.refl _))

theorem changes_raise (s : State) (c : EventClass) (m : Word16) (v : Option EventValue) :
    Changes [.outbound, .events] s (s.raise c m v) :=
  changes_of_closed (fun _ hc => hc.raise (by decide) (by decide) _ _ _ _)

theorem changes_reply (s : State) (r : ReplyTo) (st : Status) (m n : Word16) :
    Changes [.feed, .outbound] s (s.reply r st m n) :=
  changes_of_closed (fun _ hc => hc.reply (by decide) (by decide) _ _ _ _ _)

theorem changes_discard (s : State) (c : DiscardCause) : Changes [.feed, .outbound, .events] s (s.discard c) :=
  changes_of_closed (fun _ hc => closed_discard hc (List.Subset.refl _))

variable {ps : List Part}

/-! ### The outbound list -/

theorem State.raise_outbound (s : State) (c : EventClass) (m : Word16) (v : Option EventValue) :
    (s.raise c m v).outbound = s.outbound ++ s.placedBy c := by
  unfold State.raise State.placeEvent State.emit State.placedBy
  by_cases h1 : (s.event c).enabled = true <;> by_cases h2 : (s.event c).pending = true <;> simp [h1, h2]

/-- The outbound list only grows (R191). -/
theorem closed_grows (l : List OutFrame) : Closed anyUpdate ps (fun t => l <+: t.outbound) := by
  constructor
  case raise => intro _ _ t c m v h; rw [State.raise_outbound]; exact h.trans (List.prefix_append _ _)
  case credit => intro _ t w n k h; exact h.trans (List.prefix_append _ _)
  case discDone => intro _ t n r p v h; exact h.trans (List.prefix_append _ _)
  case reply => intro _ _ t r st m n h; exact h.trans (List.prefix_append _ _)
  case ignored => intro _ _ t r h; exact h.trans (List.prefix_append _ _)
  case queryResult => intro _ _ t k i b c h; exact h.trans (List.prefix_append _ _)
  all_goals first | exact fun _ _ _ h => h | exact fun _ _ _ _ h => h | exact fun _ _ _ _ _ h => h

theorem joined_of_closed {s t : State} {first : List OutFrame} {u : State} (hu : u.outbound = s.outbound ++ first)
    (h : ∀ P : State → Prop, Closed anyUpdate ps P → P u → P t) : Joined first s t := by
  obtain ⟨l, hl⟩ := h _ (closed_grows u.outbound) (List.prefix_refl _)
  exact ⟨l, by rw [← hl, hu]⟩

theorem State.placedBy_noReply (s : State) (c : EventClass) : (s.placedBy c).filter OutFrame.isReply = [] := by
  unfold State.placedBy; split <;> simp [OutFrame.isReply]

/-- No operation but FP's own adds a REPLY. -/
theorem closed_replies (hf : .feed ∉ ps) (l : List OutFrame) :
    Closed anyUpdate ps (fun t => t.outbound.filter OutFrame.isReply = l) := by
  constructor
  case raise =>
    intro _ _ t c m v h
    rw [State.raise_outbound, List.filter_append, State.placedBy_noReply, List.append_nil]; exact h
  case credit =>
    intro _ t w n k h
    show (t.outbound ++ [_]).filter _ = l
    rw [List.filter_append, h]; simp [OutFrame.isReply]
  case discDone =>
    intro _ t n r p v h
    show (t.outbound ++ [_]).filter _ = l
    rw [List.filter_append, h]; simp [OutFrame.isReply]
  case reply => intro h; exact absurd h hf
  case ignored => intro h; exact absurd h hf
  case queryResult => intro h; exact absurd h hf
  all_goals first | exact fun _ _ _ h => h | exact fun _ _ _ _ h => h | exact fun _ _ _ _ _ h => h

/-! ### Events -/

theorem State.raise_event (s : State) (c : EventClass) (m : Word16) (v : Option EventValue) :
    (s.raise c m v).event c = (s.event c).raised c m v := by
  unfold State.raise State.placeEvent State.emit EventRecord.raised
  by_cases h1 : (s.event c).enabled = true <;> by_cases h2 : (s.event c).pending = true <;>
    simp [h1, h2, EventRecord.merge]

theorem State.raise_event_of_ne (s : State) {c k : EventClass} (m : Word16) (v : Option EventValue) (h : k ≠ c) :
    (s.raise c m v).event k = s.event k := by
  by_cases h1 : (s.event c).enabled = true <;> by_cases h2 : (s.event c).pending = true <;>
    simp [State.raise, State.placeEvent, State.emit, h1, h2, Ne.symm h, State.event_modEvent]

theorem raisedOnly_raise (s : State) (c : EventClass) (m : Word16) (v : Option EventValue) :
    RaisedOnly c m v s (s.raise c m v) :=
  ⟨s.raise_event c m v, fun _ h => s.raise_event_of_ne m v h⟩

theorem State.eventLawful_raise {s : State} (h : ∀ c, s.eventLawful c) (c : EventClass) (m : Word16)
    (v : Option EventValue) : ∀ k, (s.raise c m v).eventLawful k := by
  intro k
  have hk := h k
  have hc := h c
  unfold State.eventLawful at *
  rw [State.raise_outbound]
  by_cases hkc : k = c
  · subst hkc
    rw [State.raise_event]
    unfold EventRecord.raised EventRecord.merge State.placedBy
    by_cases h1 : (s.event k).enabled = true <;> by_cases h2 : (s.event k).pending = true <;> simp_all
  · rw [State.raise_event_of_ne s m v hkc]
    have : (s.placedBy c).count (OutFrame.event k) = 0 := by
      unfold State.placedBy; split
      · rw [List.count_singleton]; simp; exact fun h => hkc h.symm
      · simp
    rw [List.count_append, this]
    exact hk

theorem State.eventLawful_emit {s : State} (h : ∀ c, s.eventLawful c) {f : OutFrame} (hf : ∀ c, f ≠ .event c) :
    ∀ k, (s.emit f).eventLawful k := by
  intro k
  have hk := h k
  unfold State.eventLawful at *
  have : (s.emit f).outbound.count (.event k) = s.outbound.count (.event k) := by
    show (s.outbound ++ [f]).count _ = _
    rw [List.count_append, List.count_singleton]
    simp [hf k]
  rw [this]
  exact hk

/-- Every operation keeps the law of the event records (R195, R197). -/
theorem closed_events : Closed anyUpdate ps (fun t => ∀ c, t.eventLawful c) := by
  constructor
  case raise => intro _ _ t c m v h; exact State.eventLawful_raise h c m v
  case credit => intro _ t w n k h; exact State.eventLawful_emit h (by intro c; simp)
  case discDone => intro _ t n r p v h; exact State.eventLawful_emit h (by intro c; simp)
  case reply =>
    intro _ _ t r st m n h
    exact State.eventLawful_emit (s := (t.modFeed _).countAccepted) h (by intro c; simp)
  case ignored => intro _ _ t r h; exact State.eventLawful_emit (s := t.countAccepted) h (by intro c; simp)
  case queryResult => intro _ _ t k i b c h; exact State.eventLawful_emit h (by intro c; simp)
  all_goals first | exact fun _ _ _ h => h | exact fun _ _ _ _ h => h | exact fun _ _ _ _ _ h => h

/-! ### The records' laws -/

/-- Operations that keep each drive's law keep it at every drive. -/
theorem closed_drives : Closed ⟨True, False, True, True⟩ ps (fun t => ∀ d, (t.drive d).lawful) := by
  constructor
  case drives =>
    intro _ t d f hf h e
    by_cases he : e = d
    · subst he; simpa using hf.resolve_left id (h e)
    · simpa [Ne.symm he, State.drive_modDrive] using h e
  case raise => intro _ _ t c m v h d; have := (Part.same_raise (p := .drives) (c := c) (m := m) (v := v) (by decide) (by decide) (rfl : t.drives = t.drives)); have h2 := h d; unfold State.drive at *; rw [this]; exact h2
  all_goals first | exact fun _ _ _ h => h | exact fun _ _ _ _ h => h | exact fun _ _ _ _ _ h => h | exact fun _ _ _ _ _ _ h => h | exact fun _ _ _ _ _ _ _ h => h

theorem closed_artworks : Closed ⟨True, True, False, True⟩ ps (fun t => ∀ a, (t.artwork a).lawful) := by
  constructor
  case artworks =>
    intro _ t d f hf h e
    by_cases he : e = d
    · subst he; simpa using hf.resolve_left id (h e)
    · simpa [Ne.symm he, State.artwork_modArtwork] using h e
  case raise => intro _ _ t c m v h d; have := (Part.same_raise (p := .artworks) (c := c) (m := m) (v := v) (by decide) (by decide) (rfl : t.artworks = t.artworks)); have h2 := h d; unfold State.artwork at *; rw [this]; exact h2
  all_goals first | exact fun _ _ _ h => h | exact fun _ _ _ _ h => h | exact fun _ _ _ _ _ h => h | exact fun _ _ _ _ _ _ h => h | exact fun _ _ _ _ _ _ _ h => h

theorem closed_transport : Closed ⟨True, True, True, False⟩ ps (fun t => t.transport.lawful) := by
  constructor
  case transport => intro _ t f hf h; exact (hf.resolve_left id).1 h
  case raise => intro _ _ t c m v h; have := (Part.same_raise (p := .transport) (c := c) (m := m) (v := v) (by decide) (by decide) (rfl : t.transport = t.transport)); rw [this]; exact h
  all_goals first | exact fun _ _ _ h => h | exact fun _ _ _ _ h => h | exact fun _ _ _ _ _ h => h | exact fun _ _ _ _ _ _ h => h | exact fun _ _ _ _ _ _ _ h => h

/-- A transport in HELD stays there. -/
theorem closed_held : Closed ⟨True, True, True, False⟩ ps (fun t => t.transport.lawful ∧ t.transport.mode = .held) := by
  constructor
  case transport => intro _ t f hf h; exact ⟨(hf.resolve_left id).1 h.1, (hf.resolve_left id).2 h.2⟩
  case raise => intro _ _ t c m v h; have := (Part.same_raise (p := .transport) (c := c) (m := m) (v := v) (by decide) (by decide) (rfl : t.transport = t.transport)); rw [this]; exact h
  all_goals first | exact fun _ _ _ h => h | exact fun _ _ _ _ h => h | exact fun _ _ _ _ _ h => h | exact fun _ _ _ _ _ _ h => h | exact fun _ _ _ _ _ _ _ h => h

theorem State.capacitySum_modWave_le {s : State} {w : WaveNo} {f : Wave → Wave}
    (hf : (f (s.wave w)).capacity ≤ (s.wave w).capacity) : (s.modWave w f).capacitySum ≤ s.capacitySum := by
  unfold State.capacitySum
  refine List.sum_le_sum (fun v _ => ?_)
  by_cases hv : v = w
  · subst hv; simpa using hf
  · simp [Ne.symm hv, State.wave_modWave]

theorem closed_waves : Closed ⟨False, True, True, True⟩ ps
    (fun t => (∀ w, (t.wave w).lawful) ∧ t.capacitySum ≤ Config.poolSlots) := by
  constructor
  case waves =>
    intro _ t d f hf h
    have hf := hf.resolve_left id
    refine ⟨fun e => ?_, le_trans (State.capacitySum_modWave_le hf.2) h.2⟩
    by_cases he : e = d
    · subst he; simpa using hf.1 (h.1 e)
    · simpa [Ne.symm he, State.wave_modWave] using h.1 e
  case raise =>
    intro _ _ t c m v h
    have hw : (t.raise c m v).waves = t.waves :=
      (Part.same_raise (p := .waves) (by decide) (by decide) (rfl : t.waves = t.waves))
    simpa [State.wave, State.capacitySum, hw] using h
  all_goals first | exact fun _ _ _ h => h | exact fun _ _ _ _ h => h | exact fun _ _ _ _ _ h => h | exact fun _ _ _ _ _ _ h => h | exact fun _ _ _ _ _ _ _ h => h

end Sys2Proof.Machine
end

