-- ==== Sys2Proof/Laws/Records.lean ====
section
/-! SUPPORT. The records' laws where an operation keeps them for a reason that its place in a command gives: an artwork
frame that completes its slot (R165, R166), an accepted data frame (R22, R23), a wave opened within the pool (R20), and
the outcomes of arm operations (R148 to R158); a stored image and its CRC (R202), and requests that wait (R46, R168). -/

namespace Sys2Proof.Machine

/-! ### Artwork frames -/

theorem crcRun_append (c : Word32) (a b : List Byte) : crcRun c (a ++ b) = crcRun (crcRun c a) b := by
  simp [crcRun, List.foldl_append]

theorem artworks_artworkTaken {s : State} (h : ∀ b, (s.artwork b).lawful) (a : ArtNo) (offset : Nat) (data : List Byte) :
    ∀ b, ((s.artworkTaken a offset data).artwork b).lawful := by
  intro b
  have ha := h a
  have hb := h b
  have raise_artwork : ∀ (t : State) (r : Bool), (t.raiseArtwork a r).artwork b = t.artwork b := by
    intro t r
    have := changes_raiseArtwork t a r .artworks (by decide)
    simp only [State.artwork]
    rw [show (t.raiseArtwork a r).artworks = t.artworks from this]
  have arbiter_artwork : ∀ t : State, t.arbiter.artwork b = t.artwork b := by
    intro t
    have := changes_arbiter t .artworks (by decide)
    simp only [State.artwork]
    rw [show t.arbiter.artworks = t.artworks from this]
  unfold State.artworkTaken
  split
  · have := changes_discard s (by assumption) .artworks (by decide)
    simp only [State.artwork] at *
    rw [show (s.discard _).artworks = s.artworks from this]
    exact hb
  · rename_i hn
    unfold State.artworkCause at hn
    split at hn
    · simp at hn
    split at hn
    · simp at hn
    split at hn
    · simp at hn
    rename_i h1 h2 h3
    simp only [ne_eq, not_not] at h1 h2
    unfold Artwork.lawful at ha
    rw [h1] at ha
    dsimp only at ha
    have hacc : (s.countAccepted).artwork = s.artwork := rfl
    by_cases hba : b = a
    · subst hba
      dsimp only
      have hu : (s.artwork b).inUse = false := by
        cases hi : (s.artwork b).inUse with
        | false => rfl
        | true => exact absurd (ha.2.2 hi) (by simp)
      split
      · rename_i hf
        unfold State.artworkComplete
        rw [arbiter_artwork]
        split
        · rename_i hc
          rw [raise_artwork]
          simp only [State.artwork_modArtwork_self, hacc, Artwork.append] at *
          refine ⟨?_, ?_, fun _ => rfl⟩
          · simp [ha.1, crcRun_append]
          · dsimp only
            refine ⟨by omega, ha.2.1.2, hf, ?_⟩
            rw [← hc]
            simp [crc32, crcRun_append, ha.1]
        · rw [raise_artwork]
          simp only [State.artwork_modArtwork_self, hacc, Artwork.append]
          exact ⟨rfl, ⟨rfl, rfl⟩, by simp [hu]⟩
      · rename_i hf
        simp only [State.artwork_modArtwork_self, hacc, Artwork.append] at *
        refine ⟨by simp [ha.1, crcRun_append], ?_, by simp [hu]⟩
        dsimp only
        rw [h1]
        simp only [Artwork.fillPoint, List.length_append] at *
        exact ⟨by omega, ha.2.1.2⟩
    · have hne : a ≠ b := fun e => hba e.symm
      dsimp only
      split
      · rw [arbiter_artwork]
        unfold State.artworkComplete
        split <;>
        · rw [raise_artwork]
          simp only [State.artwork_modArtwork, hne, if_false, hacc]
          exact hb
      · simp only [State.artwork_modArtwork, hne, if_false, hacc]
        exact hb

/-! ### Data frames -/

/-- The law of the waves (R17, R18, R34). -/
def State.wavesLawful (s : State) : Prop := (∀ w, (s.wave w).lawful) ∧ s.capacitySum ≤ Config.poolSlots

theorem waves_congr {s t : State} (h : t.waves = s.waves) (hs : s.wavesLawful) : t.wavesLawful := by
  simpa [State.wavesLawful, State.wave, State.capacitySum, h] using hs

theorem State.capacitySum_modWave_eq {s : State} {w : WaveNo} {f : Wave → Wave}
    (hf : (f (s.wave w)).capacity = (s.wave w).capacity) : (s.modWave w f).capacitySum = s.capacitySum := by
  unfold State.capacitySum
  congr 1
  refine List.map_congr_left (fun v _ => ?_)
  by_cases hv : v = w
  · subst hv; simpa using hf
  · simp [Ne.symm hv, State.wave_modWave]

theorem waves_modWave {s : State} {w : WaveNo} {f : Wave → Wave} (hs : s.wavesLawful) (hl : (f (s.wave w)).lawful)
    (hf : (f (s.wave w)).capacity = (s.wave w).capacity) : (s.modWave w f).wavesLawful := by
  refine ⟨fun v => ?_, by rw [State.capacitySum_modWave_eq hf]; exact hs.2⟩
  by_cases hv : v = w
  · subst hv; simpa using hl
  · simpa [Ne.symm hv, State.wave_modWave] using hs.1 v

theorem closed_wavesLawful {ps : List Part} : Closed ⟨False, True, True, True⟩ ps State.wavesLawful := closed_waves

/-- A frame that passes the checks of R22 keeps the law of the waves. -/
theorem waves_acceptFrame {s : State} {w : WaveNo} {entries : List HeldEntry} {count : Nat}
    {sectors : List (List Byte)} (hs : s.wavesLawful)
    (hn : 1 ≤ entries.length) (hfit : (s.wave w).occupied + entries.length ≤ (s.wave w).capacity) :
    (s.acceptFrame w entries count sectors).wavesLawful := by
  have h0 : (s.countAccepted).wavesLawful := waves_congr rfl hs
  have hw : (s.countAccepted).wave w = s.wave w := rfl
  have hl := hs.1 w
  have htimer : (s.wave w).timerRunning = false := by
    cases ht : (s.wave w).timerRunning with
    | false => rfl
    | true => have := (hl.2.2 ht).2; omega
  have h1 : ((s.countAccepted).modWave w
      (fun x => { x with held := x.held ++ entries, head := x.head + count })).wavesLawful := by
    refine waves_modWave h0 ?_ rfl
    rw [hw]
    unfold Wave.lawful Wave.occupied at *
    refine ⟨by simpa using hfit, fun hi => ?_, by simp [htimer]⟩
    have := (hl.2.1 hi).1
    omega
  have hwave : ((s.countAccepted).modWave w
      (fun x => { x with held := x.held ++ entries, head := x.head + count })).wave w =
      { s.wave w with held := (s.wave w).held ++ entries, head := (s.wave w).head + count } := by
    rw [State.wave_modWave_self, hw]
  unfold State.acceptFrame
  dsimp only
  generalize (s.countAccepted).modWave w (fun x => { x with held := x.held ++ entries, head := x.head + count }) = t at *
  have hch := changes_takeSectors t w sectors .waves (by decide)
  split
  · rename_i u hu
    rw [hu] at hch
    exact closed_abortWave closed_wavesLawful (List.Subset.refl _) (waves_congr hch h1)
  · rename_i u hu
    rw [hu] at hch
    have h2 : u.wavesLawful := waves_congr hch h1
    have hu' : u.wave w = t.wave w := by simp only [State.wave]; rw [show u.waves = t.waves from hch]
    unfold State.afterTake
    refine closed_writeAll closed_wavesLawful (List.Subset.refl _) (closed_startTimer closed_wavesLawful
      (List.Subset.refl _) ?_)
    split
    · have h3 : (u.modWave w (fun x => { x with state := .draining })).wavesLawful := by
        refine waves_modWave h2 ?_ rfl
        have := h2.1 w
        rw [hu', hwave] at *
        unfold Wave.lawful Wave.occupied at *
        refine ⟨this.1, by simp, by simp [htimer]⟩
      have h4 := closed_raiseWave (w := w) (st := .draining) (c := .headAtLength) closed_wavesLawful
        (List.Subset.refl _) h3
      unfold State.drain
      dsimp only
      split
      · exact closed_abortWave closed_wavesLawful (List.Subset.refl _) h4
      · exact h4
    · exact h2

/-- What R22 tells of a frame that passes. -/
theorem State.frameCause_none {s : State} {w : WaveNo} {first count slots : Nat}
    (h : s.frameCause w first count slots = none) :
    ((s.wave w).state = .opened ∨ (s.wave w).state = .streaming) ∧ first = (s.wave w).head ∧
      first + count ≤ s.waveLength w ∧ (s.wave w).occupied + slots ≤ (s.wave w).capacity := by
  unfold State.frameCause at h
  split at h
  · simp at h
  split at h
  · simp at h
  split at h
  · simp at h
  split at h
  · simp at h
  rename_i h1 h2 h3 h4
  refine ⟨?_, by simpa using h2, by omega, by omega⟩
  by_contra hc
  exact h1 ⟨fun e => hc (Or.inl e), fun e => hc (Or.inr e)⟩

theorem sectorEntries_length (first : Nat) (l : List (List Byte)) : (sectorEntries first l).length = l.length := by
  induction l generalizing first with
  | nil => rfl
  | cons p l ih => simp [sectorEntries, ih]

theorem waves_discard {s : State} {c : DiscardCause} (hs : s.wavesLawful) : (s.discard c).wavesLawful :=
  closed_discard closed_wavesLawful (List.Subset.refl _) hs

theorem waves_sectorFrame {s : State} {w : WaveNo} {first : Nat} {sectors : List (List Byte)} (hs : s.wavesLawful)
    (hn : 1 ≤ sectors.length) : (s.sectorFrame w first sectors).wavesLawful := by
  unfold State.sectorFrame
  split
  · exact waves_discard hs
  · rename_i h
    have := State.frameCause_none h
    exact closed_arbiter closed_wavesLawful (List.Subset.refl _) (waves_acceptFrame hs
      (by rw [sectorEntries_length]; exact hn) (by rw [sectorEntries_length]; exact this.2.2.2))

theorem waves_runFrame {s : State} {w : WaveNo} {first rep : Nat} {payload : List Byte} (hs : s.wavesLawful) :
    (s.runFrame w first rep payload).wavesLawful := by
  unfold State.runFrame
  split
  · exact waves_discard hs
  · rename_i h
    have := State.frameCause_none h
    exact closed_arbiter closed_wavesLawful (List.Subset.refl _) (waves_acceptFrame hs (by simp) this.2.2.2)

/-! ### Wave Open -/

theorem State.capacitySum_opened {s : State} (hs : s.wavesLawful) (w : WaveNo) (f : Wave → Wave) :
    (s.modWave w f).capacitySum = s.otherCapacity w + (f (s.wave w)).capacity := by
  have idle : ∀ v, (s.wave v).state = .idle → (s.wave v).capacity = 0 := fun v hv => ((hs.1 v).2.1 hv).1
  have hall : allWaves = [0, 1, 2, 3] := by decide
  unfold State.capacitySum State.otherCapacity
  rw [hall]
  have key : ∀ v : WaveNo, v ≠ w → ((s.modWave w f).wave v).capacity = (s.wave v).capacity := by
    intro v hv; simp [State.wave_modWave, Ne.symm hv]
  have sum_filter : ∀ l : List WaveNo,
      ((l.filter (fun v => decide (v ≠ w) && decide ((s.wave v).state ≠ .idle))).map
        (fun v => (s.wave v).capacity)).sum =
      (l.map (fun v => if v = w then 0 else (s.wave v).capacity)).sum := by
    intro l
    induction l with
    | nil => rfl
    | cons v l ih =>
      by_cases hv : v = w
      · simp [hv] at ih ⊢; exact ih
      · by_cases hi : (s.wave v).state = .idle
        · have := idle v hi
          simp [hv, hi, this] at ih ⊢; exact ih
        · simp [hv, hi] at ih ⊢; exact ih
  rw [sum_filter]
  have split : ∀ (v : WaveNo) (g : WaveNo → Nat) (c : Nat),
      (([0, 1, 2, 3] : List WaveNo).map (fun u => if u = v then c else g u)).sum =
        (([0, 1, 2, 3] : List WaveNo).map (fun u => if u = v then 0 else g u)).sum + c := by
    intro v g c
    fin_cases v <;> simp <;> omega
  rw [← split]
  congr 1
  refine List.map_congr_left (fun v _ => ?_)
  by_cases hv : v = w
  · subst hv; simp
  · simp [hv, key v hv]

theorem State.modWave_state {s : State} {w v : WaveNo} {f : Wave → Wave} (hf : (f (s.wave w)).state = (s.wave w).state) :
    ((s.modWave w f).wave v).state = (s.wave v).state := by
  by_cases hv : v = w
  · subst hv; rw [State.wave_modWave_self]; exact hf
  · rw [State.wave_modWave, if_neg (Ne.symm hv)]

/-- A WRITE that is sent leaves the states of the waves. -/
theorem State.writeSend_state (s : State) (w v : WaveNo) (d : Drive) :
    ((s.writeSend w d).wave v).state = (s.wave v).state := by
  unfold State.writeSend
  dsimp only
  split
  · split
    · rw [State.sendDrive, State.wave_congr (modDrive_waves _ _ _)]
      exact State.modWave_state (f := fun x => x.modAttachment d _) rfl
    · rfl
  · rfl

/-- A drive that attaches leaves the states of the waves. -/
theorem State.attach_state (s : State) (w v : WaveNo) (d : Drive) :
    ((s.attach w d).wave v).state = (s.wave v).state := by
  unfold State.attach
  have h := changes_raiseDrive (((s.modWave w (fun x => { x with
      attachments := insertAttachment { drive := d, cursor := 0, inFlight := none } x.attachments })).modDrive d
    (fun x => { x with state := .burning, phase := .noPhase }))) d .waves (by decide)
  rw [State.writeSend_state, State.wave_congr h, State.wave_congr (modDrive_waves _ _ _)]
  exact State.modWave_state (f := fun x => { x with
    attachments := insertAttachment { drive := d, cursor := 0, inFlight := none } x.attachments }) rfl

/-- A taken Wave Open keeps the law of the waves: check 5 of R20 leaves the capacity free. -/
theorem waves_openTaken {s : State} {r : ReplyTo} {a : WaveOpenArgs} (hs : s.wavesLawful)
    (hc : s.waveOpenCheck a = none) : (State.openTaken r a s).wavesLawful := by
  have hcap : s.otherCapacity a.wave + a.capacity ≤ Config.poolSlots := by
    unfold State.waveOpenCheck at hc
    repeat' (split at hc; · simp at hc)
    rename_i h1 h2 h3 h4 h5
    have : Config.minCapacity ≤ a.capacity := by by_contra h; exact h2 (Or.inl (by omega))
    unfold Config.minCapacity at this
    unfold Config.poolSlots at *
    omega
  unfold State.openTaken
  dsimp only
  have h1 : (s.modWave a.wave (fun _ => .openedWith a (decide ((s.image a.slot).state ≠ .defined)))).wavesLawful := by
    refine ⟨fun v => ?_, ?_⟩
    · by_cases hv : v = a.wave
      · subst hv
        simp [Wave.lawful, Wave.openedWith, Wave.occupied]
      · simpa [Ne.symm hv, State.wave_modWave] using hs.1 v
    · rw [State.capacitySum_opened hs]
      exact hcap
  have h2 := closed_replyPlain (r := r) (st := .ok) closed_wavesLawful (List.Subset.refl _)
    (closed_openAtImage (w := a.wave) (i := a.slot) closed_wavesLawful (List.Subset.refl _) h1)
  have h3 := closed_wavesLawful.credit (ps := [.outbound]) (by decide) _ a.wave 0 0 h2
  have h4 := closed_raiseWave (w := a.wave) (st := .opened) (c := .command) closed_wavesLawful (List.Subset.refl _) h3
  have h5 : ∀ t : State, (t.wave a.wave).state = .opened → ((t.raiseWave a.wave .opened .command).wave a.wave).state ≠ .idle :=
    fun t ht => by
      rw [State.wave_congr (changes_raiseWave t a.wave .opened .command .waves (by decide)), ht]
      decide
  have h6 : ∀ t : State, (((((t.modWave a.wave (fun _ => .openedWith a (decide ((s.image a.slot).state ≠ .defined)))).openAtImage
      a.wave a.slot).replyPlain r .ok).emit (.credit a.wave 0 0)).wave a.wave).state = .opened := fun t => by
    rw [State.emit, State.wave_congr (State.setOutbound_waves _ _), State.wave_congr (changes_replyPlain _ _ _ .waves (by decide)),
      State.wave_congr (changes_openAtImage _ _ _ .waves (by decide)), State.wave_modWave_self]
    rfl
  exact (closed_foldl (P := fun t => t.wavesLawful ∧ (t.wave a.wave).state ≠ .idle)
    (fun t d h => ⟨closed_attach closed_wavesLawful (List.Subset.refl _) (Or.inr h.2) h.1,
      by rw [State.attach_state]; exact h.2⟩) ⟨h4, h5 _ (h6 s)⟩).1

/-- A completed store's image is found good by its CRC (R202). -/
theorem imageGood_settingsImage (v : SettingsValues) : imageGood (settingsImage v) = true := by
  simp [imageGood, settingsImage]

/-- A partly written image is found bad by its CRC, whatever values it holds (R202). -/
theorem imageGood_badImage (i : StoredImage) : imageGood (badImage i) = false := by
  unfold badImage
  split
  next h =>
    have flips : ~~~i.crc ≠ i.crc := fun e => by
      have := congrArg (fun x => x.getLsbD 0) e
      simp at this
    have same : i.crc = crc32 (settingsBytes i.values) := by simpa [imageGood] using h
    simp [imageGood, ← same, flips]
  next h => simpa using h

/-! ### Requests that wait -/

/-- The end of a request that another waits behind, where it neither faults the drive nor has a rule of its own: the
waiting request is sent, and the ending acts on the port's fields alone (R46). -/
theorem State.requestEnded_waiting {s : State} {d : Drive} {req q : DriveRequest} {e : Ending}
    (waits : (s.drive d).waiting = some q) (good : e.faults req ((s.drive d).ended req e) = false)
    (other : req.isApplySpeed = false) (plain : ¬ (req = .sense ∧ (s.drive d).checkPhase = .sensing)) :
    s.requestEnded d req e = (s.modDrive d (·.ended req e)).sendWaiting d := by
  have port : (s.modDrive d (·.ended req e)).drive d = (s.drive d).ended req e := by simp
  have phase : ((s.drive d).ended req e).checkPhase = (s.drive d).checkPhase := rfl
  have still : ((s.drive d).ended req e).waiting = some q := waits
  simp [State.requestEnded, port, good, other, phase, plain, still]

/-- The end of a printer request that another waits behind, but for the SENSE of a link check (R168). -/
theorem State.printEnded_waiting {s : State} {req q : PrinterRequest} {e : PrintEnding}
    (waits : s.printer.waiting = some q) (plain : s.printer.checkPhase ≠ .sensing) :
    s.printEnded req e = (s.modPrinter (·.ended req e)).sendWaitingPrint := by
  have still : (s.printer.ended req e).waiting = some q := waits
  have phase : (s.printer.ended req e).checkPhase = s.printer.checkPhase := rfl
  simp [State.printEnded, still, phase, plain]

end Sys2Proof.Machine
end

