-- ==== Sys2Proof/Laws/ArmMoves.lean ====
section
/-! SUPPORT. The transport record's law through the outcomes of arm operations (R148 to R158). -/

namespace Sys2Proof.Machine

theorem closed_lawfulTransport {ps : List Part} : Closed ⟨True, True, True, False⟩ ps (fun t => t.transport.lawful) :=
  closed_transport

theorem State.returnSetAside_transport (s : State) (n : Option RecNo) : (s.returnSetAside n).transport = s.transport :=
  changes_returnSetAside s n .transport (by decide)

theorem State.printerTray_transport (s : State) : s.printerTray.transport = s.transport :=
  changes_printerTray s .transport (by decide)

/-- What a retirement does to the transport record (R144). -/
theorem State.retire_transport (s : State) (e : Entry) :
    (s.retire e).transport = if e.current then s.transport.afterRetirement else s.transport := by
  unfold State.retire
  rw [State.printerTray_transport]
  split
  · show Transport.afterRetirement (State.transport _) = _
    rw [State.returnSetAside_transport]; rfl
  · rw [State.returnSetAside_transport]; rfl

theorem State.retireLoad_transport (s : State) {e : Entry} (he : e.current = false) :
    (s.retireLoad e).transport = s.transport := by
  have h1 : (s.retireLoad e).transport = ((s.retire e).unreserve e.order).transport :=
    changes_loadRetired _ _ .transport (by decide)
  have h2 : ((s.retire e).unreserve e.order).transport = (s.retire e).transport :=
    changes_unreserve _ _ .transport (by decide)
  rw [h1, h2, State.retire_transport, he]; rfl

/-- With every current entry's token set, the retirement of stranded LOADs leaves the transport record alone. -/
theorem State.retireStranded_transport (s : State) (lost : Nat → Bool)
    (h : ∀ e ∈ s.queue, e.current = true → e.token.isSome = true) :
    (s.retireStranded lost).transport = s.transport := by
  unfold State.retireStranded
  have : ∀ (l : List Entry) (t : State), (∀ e ∈ l, e.current = true → e.token.isSome = true) →
      (l.foldl (fun t e => if e.stranded lost then t.retireLoad e else t) t).transport = t.transport := by
    intro l
    induction l with
    | nil => intros; rfl
    | cons e l ih =>
      intro t hl
      rw [List.foldl_cons, ih _ (fun x hx => hl x (List.mem_cons_of_mem _ hx))]
      split
      · rename_i hs
        refine State.retireLoad_transport t ?_
        cases hc : e.current with
        | false => rfl
        | true =>
          have h1 := hl e List.mem_cons_self hc
          obtain ⟨k, hk⟩ := Option.isSome_iff_exists.mp h1
          unfold Entry.stranded at hs
          split at hs <;> simp [hk] at hs
      · rfl
  exact this _ _ h

/-- The retirement of the other stranded LOADs leaves the transport record alone. -/
theorem State.retireOthersStranded_transport (s : State) (lost : Nat → Bool) :
    (s.retireOthersStranded lost).transport = s.transport := by
  unfold State.retireOthersStranded
  have : ∀ (l : List Entry) (t : State),
      (l.foldl (fun t e => if !e.current && e.stranded lost then t.retireLoad e else t) t).transport = t.transport := by
    intro l
    induction l with
    | nil => intros; rfl
    | cons e l ih =>
      intro t
      rw [List.foldl_cons, ih]
      split
      · rename_i hs
        exact State.retireLoad_transport t (by cases hc : e.current <;> simp_all)
      · rfl
  exact this _ _

theorem State.takeFrom_transport (s : State) (i : StationNo) (n : Nat)
    (h : ∀ e ∈ s.queue, e.current = true → e.token.isSome = true) : (s.takeFrom i n).transport = s.transport := by
  unfold State.takeFrom
  dsimp only
  split
  · unfold State.spindleEmptied
    generalize s.lostTo (s.modStation i (·.taken n)) = lost
    have h1 : ((((s.modStation i (·.taken n)).raise .spindleEmpty (bitMask i.val) none).retireStranded
          lost).loadDecision).transport
        = (((s.modStation i (·.taken n)).raise .spindleEmpty (bitMask i.val) none).retireStranded lost).transport :=
      changes_loadDecision _ .transport (by decide)
    have h2 : ((s.modStation i (·.taken n)).raise .spindleEmpty (bitMask i.val) none).transport = s.transport :=
      changes_raise (s.modStation i (·.taken n)) _ _ _ .transport (by decide)
    have h3 : ((s.modStation i (·.taken n)).raise .spindleEmpty (bitMask i.val) none).queue = s.queue :=
      changes_raise (s.modStation i (·.taken n)) _ _ _ .queue (by decide)
    rw [h1, State.retireStranded_transport _ _ (by rw [h3]; exact h), h2]
  · rfl

theorem State.modCurrent_token (s : State) (f : Entry → Entry) (hf : ∀ e, (f e).token.isSome = true) :
    ∀ e ∈ (s.modCurrent f).queue, e.current = true → e.token.isSome = true := by
  intro e he hc
  simp only [State.modCurrent, State.setQueue_queue, List.mem_map] at he
  obtain ⟨x, _, hx⟩ := he
  split at hx
  · rw [← hx]; exact hf x
  · rename_i hn; rw [← hx] at hc; exact absurd hc hn

/-- A pick leaves the transport record alone. -/
theorem State.pickDone_transport (s : State) (e : Entry) : (s.pickDone e).transport = s.transport := by
  unfold State.pickDone
  split
  · split
    · unfold State.pickLoad
      split
      · rw [State.takeFrom_transport _ _ _ (State.modCurrent_token _ _ (fun e => rfl))]; rfl
      · rfl
    · dsimp only
      have hw : (s.writeRecord? e.token (fun r => { r with location := .onArm })).transport = s.transport :=
        changes_writeRecordO _ _ _ .transport (by decide)
      split
      · rw [show (State.pickTray _ _).transport = _ from changes_pickTray _ _ .transport (by decide), hw]
      · rw [show (State.printerPicked _).transport = _ from changes_printerPicked _ .transport (by decide), hw]
  · rfl

/-- What is known while the outcome of an operation `op` that was not abandoned is taken. -/
structure Outcome (s : State) (op : ArmOp) : Prop where
  lawful : s.transport.lawful
  none : s.transport.outstanding = none
  moving : s.transport.phase ≠ .idle
  parked : s.transport.mode = .parked → op = .home

theorem Outcome.of {s : State} {x : OutstandingOp} (h : s.transport.lawful) (hx : s.transport.outstanding = some x)
    (ha : x.abandoned = false) : Outcome s.clearOp x.op := by
  have hp : s.transport.phase ≠ .idle := by
    intro hi
    have := h.2.2.2.1 hi x hx
    simp [ha] at this
  refine ⟨Transport.lawful_clearOp h, rfl, hp, fun hm => ?_⟩
  rcases h.2.2.2.2 hm with h1 | h1
  · exact absurd h1 hp
  · simpa [ha] using h1.2 x hx

theorem Outcome.notParked {s : State} {op : ArmOp} (h : Outcome s op) (ho : op ≠ .home) :
    s.transport.mode ≠ .parked := fun hm => ho (h.parked hm)

theorem transport_armIdle {s : State} (h : s.transport.lawful) (hn : s.transport.outstanding = none) :
    s.armIdle.transport.lawful := by
  show ({ s.transport with phase := .idle } : Transport).lawful
  unfold Transport.lawful at *
  exact ⟨h.1, h.2.1, h.2.2.1, by simp [hn], fun _ => Or.inl rfl⟩

theorem transport_heldAgain {s : State} {c : HeldCause} (h : s.transport.lawful) (hn : s.transport.outstanding = none)
    (hm : s.transport.mode = .held) : (s.heldAgain c).transport.lawful := by
  unfold State.heldAgain
  refine closed_lawfulTransport.raise (ps := [.events, .outbound]) (by decide) (by decide) _ _ _ _ ?_
  show ({ s.transport with phase := .idle, heldCause := some c } : Transport).lawful
  unfold Transport.lawful at *
  simp_all

theorem transport_resumed {s : State} (h : s.transport.lawful) : s.resumed.transport.lawful := by
  have h1 : (s.modTransport (·.resumed)).transport.lawful := Transport.lawful_resumed h
  unfold State.resumed
  dsimp only
  split
  · exact closed_loadDecision closed_lawfulTransport (List.Subset.refl _) h1
  · exact h1

theorem transport_run {s : State} (h : s.transport.lawful) (hn : s.transport.outstanding = none)
    (hm : s.transport.mode ≠ .held) : s.run.transport.lawful := by
  show ({ s.transport with mode := .running, phase := .idle } : Transport).lawful
  unfold Transport.lawful at *
  have : s.transport.heldCause.isSome ≠ true := fun hc => hm (h.1.2 hc)
  simp_all

theorem State.orphanOnArm_transport {s t : State} (ht : s.orphanOnArm = some t) : t.transport = s.transport := by
  have : Changes [.records, .queue, .printer] s t :=
    changes_of_closed (fun _ hc => closed_orphanOnArm hc (List.Subset.refl _) ht)
  exact this .transport (by decide)

theorem transport_startHomed {s : State} {b : Bool} (h : s.transport.lawful) (hn : s.transport.outstanding = none)
    (hm : s.transport.mode ≠ .held) : (s.startHomed b).transport.lawful := by
  unfold State.startHomed
  split
  · split
    · rename_i t ht
      have := State.orphanOnArm_transport ht
      exact transport_run (by rw [this]; exact h) (by rw [this]; exact hn) (by rw [this]; exact hm)
    · exact closed_enterHeld closed_lawfulTransport (List.Subset.refl _) (transport_armIdle h hn)
  · exact transport_run h hn hm

theorem State.endLost_transport (s : State) (t : Option Token) : (s.endLost t).transport = s.transport :=
  changes_endLost s t .transport (by decide)

theorem transport_resumeHomed {s : State} {b : Bool} (h : s.transport.lawful) (hn : s.transport.outstanding = none)
    (hm : s.transport.mode = .held) : (s.resumeHomed b).transport.lawful := by
  have hnp : s.transport.mode ≠ .parked := by simp [hm]
  unfold State.resumeHomed
  split
  · split
    · split
      · rename_i t ht
        have := State.orphanOnArm_transport ht
        exact transport_resumed (transport_armIdle (by rw [this]; exact h) (by rw [this]; exact hn))
      · exact transport_heldAgain h hn hm
    · exact transport_resumed (transport_armIdle h hn)
  · rename_i e he
    split
    · split
      · exact transport_resumed (closed_goOn closed_lawfulTransport (List.Subset.refl _) (Or.inr hnp)
          (closed_resolveAgain (P := fun t => t.transport.lawful) closed_lawfulTransport (List.Subset.refl _) h))
      · have h1 : ((((s.endLost e.token).retire e).tellLoad e)).transport
            = ((s.endLost e.token).retire e).transport := changes_tellLoad _ _ .transport (by decide)
        rw [State.retire_transport, State.endLost_transport] at h1
        refine transport_resumed (transport_armIdle ?_ ?_)
        · rw [h1]; split
          · exact Transport.lawful_afterRetirement h
          · exact h
        · rw [h1]; split
          · unfold Transport.afterRetirement Transport.abandon; split <;> simp [hn]
          · exact hn
    · split
      · have hpm : (s.modTransport (fun t => { t with pickMisses := 0 })).transport.lawful := h
        have h2 := State.pickDone_transport (s.modTransport (fun t => { t with pickMisses := 0 })) e
        refine transport_resumed (closed_goOn (P := fun t => t.transport.lawful) closed_lawfulTransport
          (List.Subset.refl _) (Or.inr ?_) ?_)
        · rw [h2]; exact hnp
        · show Transport.lawful (State.transport _)
          rw [h2]; exact hpm
      · have h1 : ((s.returnSetAside e.setAside).modCurrent (·.uncurrent)).transport = s.transport :=
          State.returnSetAside_transport s _
        exact transport_resumed (transport_armIdle (by rw [h1]; exact h) (by rw [h1]; exact hn))

theorem transport_homed {s : State} {b : Bool} (h : s.transport.lawful) (hn : s.transport.outstanding = none) :
    (s.homed b).transport.lawful := by
  unfold State.homed
  split
  · exact transport_resumeHomed h hn (by assumption)
  · exact transport_startHomed h hn (by assumption)

theorem transport_opTimedOut {s : State} {op : ArmOp} (h : s.transport.lawful) (hn : s.transport.outstanding = none) :
    (s.opTimedOut op).transport.lawful := by
  unfold State.opTimedOut State.homeTimedOut
  split
  · split
    · exact transport_heldAgain h hn (by assumption)
    · exact closed_enterHeld closed_lawfulTransport (List.Subset.refl _) (transport_armIdle h hn)
  · exact closed_enterHeld closed_lawfulTransport (List.Subset.refl _) h

theorem transport_gripped {s : State} {e : Entry} (h : s.transport.lawful) (hm : s.transport.mode ≠ .parked) :
    (s.gripped e).transport.lawful := by
  unfold State.gripped
  have h2 := State.pickDone_transport (s.modTransport (fun t => { t with pickMisses := 0 })) e
  refine closed_travelToDest (P := fun t => t.transport.lawful) closed_lawfulTransport (List.Subset.refl _) (Or.inr ?_) ?_
  · rw [h2]; exact hm
  · show Transport.lawful (State.transport _)
    rw [h2]; exact h

theorem transport_doublePick {s : State} {i : StationNo} {e : Entry} (h : s.transport.lawful)
    (hm : s.transport.mode ≠ .parked) : (s.doublePick i e).transport.lawful := by
  unfold State.doublePick
  split
  · rename_i n hn
    dsimp only
    generalize hA : (s.takeRecord n (s.doubleRecord i)).modCurrent _ = A
    have hAt : A.transport = s.transport := by rw [← hA]; rfl
    have hAq : ∀ x ∈ A.queue, x.current = true → x.token.isSome = true := by
      rw [← hA]; exact State.modCurrent_token _ _ (fun e => rfl)
    have hC : ((A.takeFrom i 2).enqueue (Entry.fresh .load e.source e.dest none e.drive e.order)).transport =
        s.transport := by
      rw [changes_enqueue (A.takeFrom i 2) _ .transport (by decide), State.takeFrom_transport A i 2 hAq, hAt]
    refine closed_sendGoto (P := fun t => t.transport.lawful) closed_lawfulTransport (List.Subset.refl _) (Or.inr ?_)
      (by decide) ?_
    · rw [State.modTransport_transport, hC]; exact hm
    · show Transport.lawful { (State.transport _) with pickMisses := 0 }
      rw [hC]; exact h
  · exact h

theorem transport_spindleMiss {s : State} {i : StationNo} {e : Entry} (h : s.transport.lawful)
    (hm : s.transport.mode ≠ .parked) : (s.spindleMiss i e).transport.lawful := by
  unfold State.spindleMiss
  split
  · exact closed_sendPick (P := fun t => t.transport.lawful) closed_lawfulTransport (List.Subset.refl _) (Or.inr hm) h
  · split
    · unfold State.secondMiss
      dsimp only
      generalize hA : (((s.spindleExhausted i).modTransport (fun t => { t with pickMisses := 0 })).raise .spindleEmpty
        (bitMask i.val) none) = A
      have hAt : A.transport = { s.transport with pickMisses := 0 } := by
        rw [← hA]; exact changes_raise _ _ _ _ .transport (by decide)
      have hAl : A.transport.lawful := by rw [hAt]; exact h
      split
      · refine closed_loadDecision closed_lawfulTransport (List.Subset.refl _) (closed_retireOthersStranded
          closed_lawfulTransport (List.Subset.refl _) (closed_sendGoto (P := fun t => t.transport.lawful)
            closed_lawfulTransport (List.Subset.refl _) (Or.inr ?_) (by decide) ?_))
        · show A.transport.mode ≠ _
          rw [hAt]; exact hm
        · exact hAl
      · exact closed_loadDecision closed_lawfulTransport (List.Subset.refl _) (closed_retireStranded
          closed_lawfulTransport (List.Subset.refl _) (closed_retireLoad closed_lawfulTransport (List.Subset.refl _) hAl))
    · exact h

theorem transport_pickEnded {s : State} {e : Entry} {o : ArmOutcome} (h : s.transport.lawful)
    (hm : s.transport.mode ≠ .parked) : (s.pickEnded e o).transport.lawful := by
  unfold State.pickEnded
  split
  · split
    · exact transport_gripped h hm
    · split
      · exact transport_doublePick h hm
      · exact transport_gripped h hm
    · split
      · exact transport_spindleMiss h hm
      · exact closed_stationMiss closed_lawfulTransport (List.Subset.refl _) h
    · exact closed_enterHeld closed_lawfulTransport (List.Subset.refl _) h
  · exact closed_enterHeld closed_lawfulTransport (List.Subset.refl _) h

theorem transport_opEnded {s : State} {op : ArmOp} {o : ArmOutcome} (h : Outcome s op) :
    (s.opEnded op o).transport.lawful := by
  unfold State.opEnded
  split
  · exact transport_homed h.lawful h.none
  · have hm := h.notParked (by simp)
    split
    · exact closed_sendPick (P := fun t => t.transport.lawful) closed_lawfulTransport (List.Subset.refl _) (Or.inr hm)
        h.lawful
    · exact closed_arrived (P := fun t => t.transport.lawful) closed_lawfulTransport (List.Subset.refl _) (Or.inr hm)
        h.lawful
  · exact transport_pickEnded h.lawful (h.notParked (by simp))
  · exact transport_pickEnded h.lawful (h.notParked (by simp))
  · exact transport_pickEnded h.lawful (h.notParked (by simp))
  · exact closed_released closed_lawfulTransport (List.Subset.refl _) h.lawful
  · exact closed_enterHeld closed_lawfulTransport (List.Subset.refl _) h.lawful
  · exact transport_opTimedOut h.lawful h.none

theorem transport_abandonedEnded {s : State} (h : s.transport.lawful) : s.abandonedEnded.transport.lawful := by
  unfold State.abandonedEnded
  split
  · rename_i hp
    show ({ s.transport with outstanding := _, nextNumber := _ } : Transport).lawful
    unfold Transport.lawful at *
    refine ⟨h.1, h.2.1, h.2.2.1, ?_, fun _ => Or.inr ⟨hp, ?_⟩⟩
    · intro hi; simp [hp] at hi
    · intro o ho; right; simp at ho; rw [← ho]
  · exact h

/-- An outcome at the arm port keeps the law of the transport record. -/
theorem transport_armOutcome {s : State} {n : Byte} {o : ArmOutcome} (h : s.transport.lawful) :
    (s.armOutcome n o).transport.lawful := by
  unfold State.armOutcome
  split
  · rename_i x hx
    split
    · refine closed_arbiter closed_lawfulTransport (List.Subset.refl _) ?_
      split
      · exact transport_abandonedEnded (Transport.lawful_clearOp h)
      · rename_i ha
        exact transport_opEnded (Outcome.of h hx (by simpa using ha))
    · exact h
  · exact h

/-- The expiry of an arm operation's timeout keeps the law of the transport record. -/
theorem transport_armTimeout {s : State} (h : s.transport.lawful) : s.armTimeout.transport.lawful := by
  unfold State.armTimeout
  split
  · rename_i x hx
    refine closed_arbiter closed_lawfulTransport (List.Subset.refl _) ?_
    split
    · exact transport_abandonedEnded (Transport.lawful_clearOp h)
    · rename_i ha
      have := Outcome.of h hx (by simpa using ha)
      exact transport_opTimedOut this.lawful this.none
  · exact h

/-- A HOME is asked for in PARKED or HELD with nothing but an abandoned operation outstanding. -/
theorem transport_askHome {s : State} (h : s.transport.lawful)
    (ho : ∀ o, s.transport.outstanding = some o → o.abandoned = true) : s.askHome.transport.lawful := by
  have h1 : ({ s.transport with phase := .homing } : Transport).lawful := by
    unfold Transport.lawful at *
    exact ⟨h.1, h.2.1, h.2.2.1, by simp, fun _ => Or.inr ⟨rfl, fun o hx => Or.inl (ho o hx)⟩⟩
  unfold State.askHome
  dsimp only
  split
  · show ({ s.transport with phase := .homing, outstanding := _, nextNumber := _ } : Transport).lawful
    unfold Transport.lawful at *
    refine ⟨h1.1, h1.2.1, h1.2.2.1, by simp, fun _ => Or.inr ⟨rfl, fun o hx => ?_⟩⟩
    right; simp at hx; rw [← hx]
  · exact h1

end Sys2Proof.Machine
end

