-- ==== Sys2Proof/Laws/PerInstr.lean ====
section
/-! SUPPORT. Statements made for every constructor of `Instr`, one lemma each. `Framed`: the frame that carries a
command has from 20 to 8,256 bytes when the command is well formed (R184 check 1), and what is answered by a REPLY or
may be malformed comes in a frame. -/

namespace Sys2Proof.Laws.Framed

open Sys2Proof.Machine

/-- What `Framed` says of a command. -/
def Statement (c : Instr) : Prop :=
  (∀ b, encodeFrame c = some b → 20 ≤ b.length ∧ (c.wf = true → b.length ≤ Config.maxFrame)) ∧
    ((answeredFrame c).isSome = true → (encodeFrame c).isSome = true) ∧
    (malformed c = true → (answeredFrame c).isSome = true)

theorem inboundBytes_length (kind : Byte) (resend : Bool) (tag : Word16) (slot count : Byte) (rep : Word16)
    (offset : Word32) (body : List Byte) :
    (inboundBytes kind resend tag slot count rep offset body).length = body.length + 20 := by
  simp [inboundBytes, enc16w, enc32w, enc32]

/-- A row that comes in a frame with `body`. -/
theorem ofBytes {c : Instr} {kind : Byte} {resend : Bool} {tag : Word16} {slot count : Byte} {rep : Word16}
    {offset : Word32} {body : List Byte}
    (h : encodeFrame c = some (inboundBytes kind resend tag slot count rep offset body))
    (hw : c.wf = true → body.length ≤ Config.maxArtworkBody)
    (hm : malformed c = true → (answeredFrame c).isSome = true) : Statement c := by
  refine ⟨fun b hb => ?_, fun _ => by rw [h]; rfl, hm⟩
  rw [h] at hb
  injection hb with hb
  subst hb
  rw [inboundBytes_length]
  refine ⟨by omega, fun w => ?_⟩
  have := hw w
  simp only [Config.maxArtworkBody, Config.maxFrame] at *
  omega

/-- A row that is no frame. -/
theorem ofEvent {c : Instr} (h : encodeFrame c = none) (ha : answeredFrame c = none) (hm : malformed c = false) :
    Statement c :=
  ⟨fun b hb => (by rw [h] at hb; cases hb), fun w => (by rw [ha] at w; cases w), fun w => (by rw [hm] at w; cases w)⟩

theorem flatten_length {n : Nat} : ∀ l : List (List Byte), (∀ p ∈ l, p.length = n) → l.flatten.length = n * l.length
  | [], _ => by simp
  | p :: rest, h => by
    have hp := h p (by simp)
    have := flatten_length rest (fun q hq => h q (by simp [hq]))
    simp [hp, this, Nat.mul_add, Nat.add_comm]

theorem powerOn : Statement .powerOn :=
  ofEvent rfl rfl rfl
theorem sector (w : WaveNo) (first : Word32) (sectors : List (List Byte)) :
    Statement (.sector w first sectors) := by
  refine ofBytes rfl ?_ (fun h => by cases h)
  intro h
  simp only [Instr.wf, sectorsOk, Bool.and_eq_true, decide_eq_true_eq, List.all_eq_true] at h
  rw [flatten_length sectors h.2]
  simp only [Config.sectorBytes, Config.maxArtworkBody]
  omega
theorem run (w : WaveNo) (first : Word32) (rep : Word16) (payload : List Byte) :
    Statement (.run w first rep payload) := by
  refine ofBytes rfl ?_ (fun h => by cases h)
  intro h
  simp only [Instr.wf, runOk, Bool.and_eq_true, decide_eq_true_eq] at h
  rw [h.2]
  decide
theorem artworkFrame (a : ArtNo) (offset : Word32) (data : List Byte) :
    Statement (.artworkFrame a offset data) := by
  refine ofBytes rfl ?_ (fun h => by cases h)
  intro h
  simp only [Instr.wf, artworkBodyOk, Bool.and_eq_true, decide_eq_true_eq] at h
  exact h.2
theorem inboundFrameDiscard (frame : List Byte) :
    Statement (.inboundFrameDiscard frame) :=
  ofEvent rfl rfl rfl
theorem unknown (kind : AnsweredKind) (number : Byte) (f : TableFrame) :
    Statement (.unknown kind number f) := by
  cases kind <;> refine ofBytes rfl ?_ (fun h => by cases h) <;> intro h <;>
    simp only [Instr.wf, bodyFits, Bool.and_eq_true, decide_eq_true_eq] at h <;> exact h.2
theorem speedLadderWrite (f : TableFrame) :
    Statement (.speedLadderWrite f) :=
  ofBytes rfl (fun h => of_decide_eq_true h) (fun _ => rfl)
theorem stationMapWrite (f : TableFrame) :
    Statement (.stationMapWrite f) :=
  ofBytes rfl (fun h => of_decide_eq_true h) (fun _ => rfl)
theorem stagedAssignmentWrite (f : TableFrame) :
    Statement (.stagedAssignmentWrite f) :=
  ofBytes rfl (fun h => of_decide_eq_true h) (fun _ => rfl)
theorem templateWrite (f : TableFrame) :
    Statement (.templateWrite f) :=
  ofBytes rfl (fun h => of_decide_eq_true h) (fun _ => rfl)
theorem imageDefine (f : CmdFrame) :
    Statement (.imageDefine f) :=
  ofBytes rfl (fun h => of_decide_eq_true h) (fun _ => rfl)
theorem imageRelease (f : CmdFrame) :
    Statement (.imageRelease f) :=
  ofBytes rfl (fun h => of_decide_eq_true h) (fun _ => rfl)
theorem waveOpen (f : CmdFrame) :
    Statement (.waveOpen f) :=
  ofBytes rfl (fun h => of_decide_eq_true h) (fun _ => rfl)
theorem waveAbort (f : CmdFrame) :
    Statement (.waveAbort f) :=
  ofBytes rfl (fun h => of_decide_eq_true h) (fun _ => rfl)
theorem applyNow (f : CmdFrame) :
    Statement (.applyNow f) :=
  ofBytes rfl (fun h => of_decide_eq_true h) (fun _ => rfl)
theorem applyAtLoad (f : CmdFrame) :
    Statement (.applyAtLoad f) :=
  ofBytes rfl (fun h => of_decide_eq_true h) (fun _ => rfl)
theorem orderDefine (f : CmdFrame) :
    Statement (.orderDefine f) :=
  ofBytes rfl (fun h => of_decide_eq_true h) (fun _ => rfl)
theorem orderHold (f : CmdFrame) :
    Statement (.orderHold f) :=
  ofBytes rfl (fun h => of_decide_eq_true h) (fun _ => rfl)
theorem orderResume (f : CmdFrame) :
    Statement (.orderResume f) :=
  ofBytes rfl (fun h => of_decide_eq_true h) (fun _ => rfl)
theorem orderQuantity (f : CmdFrame) :
    Statement (.orderQuantity f) :=
  ofBytes rfl (fun h => of_decide_eq_true h) (fun _ => rfl)
theorem orderCancel (f : CmdFrame) :
    Statement (.orderCancel f) :=
  ofBytes rfl (fun h => of_decide_eq_true h) (fun _ => rfl)
theorem feedEnable (f : CmdFrame) :
    Statement (.feedEnable f) :=
  ofBytes rfl (fun h => of_decide_eq_true h) (fun _ => rfl)
theorem transportStart (f : CmdFrame) :
    Statement (.transportStart f) :=
  ofBytes rfl (fun h => of_decide_eq_true h) (fun _ => rfl)
theorem park (f : CmdFrame) :
    Statement (.park f) :=
  ofBytes rfl (fun h => of_decide_eq_true h) (fun _ => rfl)
theorem resume (f : CmdFrame) :
    Statement (.resume f) :=
  ofBytes rfl (fun h => of_decide_eq_true h) (fun _ => rfl)
theorem discRemove (f : CmdFrame) :
    Statement (.discRemove f) :=
  ofBytes rfl (fun h => of_decide_eq_true h) (fun _ => rfl)
theorem spindleRefill (f : CmdFrame) :
    Statement (.spindleRefill f) :=
  ofBytes rfl (fun h => of_decide_eq_true h) (fun _ => rfl)
theorem binEmptied (f : CmdFrame) :
    Statement (.binEmptied f) :=
  ofBytes rfl (fun h => of_decide_eq_true h) (fun _ => rfl)
theorem portCheck (f : CmdFrame) :
    Statement (.portCheck f) :=
  ofBytes rfl (fun h => of_decide_eq_true h) (fun _ => rfl)
theorem portReset (f : CmdFrame) :
    Statement (.portReset f) :=
  ofBytes rfl (fun h => of_decide_eq_true h) (fun _ => rfl)
theorem printerReset (f : CmdFrame) :
    Statement (.printerReset f) :=
  ofBytes rfl (fun h => of_decide_eq_true h) (fun _ => rfl)
theorem artworkBegin (f : CmdFrame) :
    Statement (.artworkBegin f) :=
  ofBytes rfl (fun h => of_decide_eq_true h) (fun _ => rfl)
theorem eventEnable (f : CmdFrame) :
    Statement (.eventEnable f) :=
  ofBytes rfl (fun h => of_decide_eq_true h) (fun _ => rfl)
theorem query (f : CmdFrame) :
    Statement (.query f) :=
  ofBytes rfl (fun h => of_decide_eq_true h) (fun _ => rfl)
theorem storeSettings (f : CmdFrame) :
    Statement (.storeSettings f) :=
  ofBytes rfl (fun h => of_decide_eq_true h) (fun _ => rfl)
theorem abortAll (f : CmdFrame) :
    Statement (.abortAll f) :=
  ofBytes rfl (fun h => of_decide_eq_true h) (fun _ => rfl)
theorem outboundFrameSend : Statement .outboundFrameSend :=
  ofEvent rfl rfl rfl
theorem eventFrameSend : Statement .eventFrameSend :=
  ofEvent rfl rfl rfl
theorem portCheckExchangeEnd (d : Drive) (r : ExchangeResult) :
    Statement (.portCheckExchangeEnd d r) :=
  ofEvent rfl rfl rfl
theorem portCheckTimeout (d : Drive) :
    Statement (.portCheckTimeout d) :=
  ofEvent rfl rfl rfl
theorem trayOpenReply (d : Drive) (n : Byte) (r : DriveReply) :
    Statement (.trayOpenReply d n r) :=
  ofEvent rfl rfl rfl
theorem trayCloseReply (d : Drive) (n : Byte) (r : DriveReply) :
    Statement (.trayCloseReply d n r) :=
  ofEvent rfl rfl rfl
theorem speedReply (d : Drive) (n : Byte) (r : DriveReply) :
    Statement (.speedReply d n r) :=
  ofEvent rfl rfl rfl
theorem writeReply (d : Drive) (n : Byte) (r : DriveReply) :
    Statement (.writeReply d n r) :=
  ofEvent rfl rfl rfl
theorem closeReply (d : Drive) (n : Byte) (r : DriveReply) :
    Statement (.closeReply d n r) :=
  ofEvent rfl rfl rfl
theorem readReply (d : Drive) (n : Byte) (r : DriveReply) :
    Statement (.readReply d n r) :=
  ofEvent rfl rfl rfl
theorem senseReply (d : Drive) (n : Byte) (r : DriveReply) :
    Statement (.senseReply d n r) :=
  ofEvent rfl rfl rfl
theorem driveRequestTimeout (d : Drive) :
    Statement (.driveRequestTimeout d) :=
  ofEvent rfl rfl rfl
theorem starvationExpiry (w : WaveNo) :
    Statement (.starvationExpiry w) :=
  ofEvent rfl rfl rfl
theorem gotoOutcome (n : Byte) (o : ArmOutcome) :
    Statement (.gotoOutcome n o) :=
  ofEvent rfl rfl rfl
theorem pickOutcome (n : Byte) (o : ArmOutcome) :
    Statement (.pickOutcome n o) :=
  ofEvent rfl rfl rfl
theorem placeOutcome (n : Byte) (o : ArmOutcome) :
    Statement (.placeOutcome n o) :=
  ofEvent rfl rfl rfl
theorem homeOutcome (n : Byte) (o : ArmOutcome) :
    Statement (.homeOutcome n o) :=
  ofEvent rfl rfl rfl
theorem armOperationTimeout : Statement .armOperationTimeout :=
  ofEvent rfl rfl rfl
theorem dropped : Statement .dropped :=
  ofEvent rfl rfl rfl
theorem printerCheckExchangeEnd (r : ExchangeResult) :
    Statement (.printerCheckExchangeEnd r) :=
  ofEvent rfl rfl rfl
theorem printerCheckTimeout : Statement .printerCheckTimeout :=
  ofEvent rfl rfl rfl
theorem printerSenseReply (n : Byte) (r : PrinterReply) :
    Statement (.printerSenseReply n r) :=
  ofEvent rfl rfl rfl
theorem trayOutReply (n : Byte) (r : PrinterReply) :
    Statement (.trayOutReply n r) :=
  ofEvent rfl rfl rfl
theorem trayInReply (n : Byte) (r : PrinterReply) :
    Statement (.trayInReply n r) :=
  ofEvent rfl rfl rfl
theorem startReply (n : Byte) (r : PrinterReply) :
    Statement (.startReply n r) :=
  ofEvent rfl rfl rfl
theorem bandReply (n : Byte) (r : PrinterReply) :
    Statement (.bandReply n r) :=
  ofEvent rfl rfl rfl
theorem finishReply (n : Byte) (r : PrinterReply) :
    Statement (.finishReply n r) :=
  ofEvent rfl rfl rfl
theorem printerRequestTimeout : Statement .printerRequestTimeout :=
  ofEvent rfl rfl rfl
theorem settingsLoadEnd (r : SpiRead) :
    Statement (.settingsLoadEnd r) :=
  ofEvent rfl rfl rfl
theorem settingsLoadTimeout : Statement .settingsLoadTimeout :=
  ofEvent rfl rfl rfl
theorem settingsStoreAck (ok : Bool) :
    Statement (.settingsStoreAck ok) :=
  ofEvent rfl rfl rfl
theorem settingsStoreTimeout : Statement .settingsStoreTimeout :=
  ofEvent rfl rfl rfl

end Sys2Proof.Laws.Framed
end

