-- ==== Sys2Proof/Laws/Untouched.lean ====
section
/-! SUPPORT. What each shared operation leaves untouched, field by field and entry by entry, as simp lemmas: the
instances of the footprints of Laws/Footprint.lean. -/

namespace Sys2Proof.Machine.Untouched

@[simp] theorem raiseDrive_images (s : State) (d : Drive) : (State.raiseDrive s d).images = s.images :=
  (changes_raiseDrive s d .images (by decide))
@[simp] theorem raiseDrive_image (s : State) (d : Drive) (x : SlotNo) : (State.raiseDrive s d).image x = s.image x := by
  simp only [State.image, raiseDrive_images]
@[simp] theorem raiseDrive_accs (s : State) (d : Drive) : (State.raiseDrive s d).accs = s.accs :=
  (changes_raiseDrive s d .accs (by decide))
@[simp] theorem raiseDrive_acc (s : State) (d : Drive) (x : WaveNo) : (State.raiseDrive s d).acc x = s.acc x := by
  simp only [State.acc, raiseDrive_accs]
@[simp] theorem raiseDrive_waves (s : State) (d : Drive) : (State.raiseDrive s d).waves = s.waves :=
  (changes_raiseDrive s d .waves (by decide))
@[simp] theorem raiseDrive_wave (s : State) (d : Drive) (x : WaveNo) : (State.raiseDrive s d).wave x = s.wave x := by
  simp only [State.wave, raiseDrive_waves]
@[simp] theorem raiseDrive_drives (s : State) (d : Drive) : (State.raiseDrive s d).drives = s.drives :=
  (changes_raiseDrive s d .drives (by decide))
@[simp] theorem raiseDrive_drive (s : State) (d : Drive) (x : Drive) : (State.raiseDrive s d).drive x = s.drive x := by
  simp only [State.drive, raiseDrive_drives]
@[simp] theorem raiseDrive_ladder (s : State) (d : Drive) : (State.raiseDrive s d).ladder = s.ladder :=
  (changes_raiseDrive s d .ladder (by decide))
@[simp] theorem raiseDrive_code (s : State) (d : Drive) (x : Rung) : (State.raiseDrive s d).code x = s.code x := by
  simp only [State.code, raiseDrive_ladder]
@[simp] theorem raiseDrive_saves (s : State) (d : Drive) : (State.raiseDrive s d).saves = s.saves :=
  (changes_raiseDrive s d .saves (by decide))
@[simp] theorem raiseDrive_save (s : State) (d : Drive) (x : Drive) : (State.raiseDrive s d).save x = s.save x := by
  simp only [State.save, raiseDrive_saves]
@[simp] theorem raiseDrive_verifyQueue (s : State) (d : Drive) : (State.raiseDrive s d).verifyQueue = s.verifyQueue :=
  (changes_raiseDrive s d .verifyQueue (by decide))
@[simp] theorem raiseDrive_contexts (s : State) (d : Drive) : (State.raiseDrive s d).contexts = s.contexts :=
  (changes_raiseDrive s d .contexts (by decide))
@[simp] theorem raiseDrive_context (s : State) (d : Drive) (x : Fin 4) : (State.raiseDrive s d).context x = s.context x := by
  simp only [State.context, raiseDrive_contexts]
@[simp] theorem raiseDrive_orders (s : State) (d : Drive) : (State.raiseDrive s d).orders = s.orders :=
  (changes_raiseDrive s d .orders (by decide))
@[simp] theorem raiseDrive_order (s : State) (d : Drive) (x : OrderNo) : (State.raiseDrive s d).order x = s.order x := by
  simp only [State.order, raiseDrive_orders]
@[simp] theorem raiseDrive_records (s : State) (d : Drive) : (State.raiseDrive s d).records = s.records :=
  (changes_raiseDrive s d .records (by decide))
@[simp] theorem raiseDrive_record (s : State) (d : Drive) (x : RecNo) : (State.raiseDrive s d).record x = s.record x := by
  simp only [State.record, raiseDrive_records]
@[simp] theorem raiseDrive_stations (s : State) (d : Drive) : (State.raiseDrive s d).stations = s.stations :=
  (changes_raiseDrive s d .stations (by decide))
@[simp] theorem raiseDrive_station (s : State) (d : Drive) (x : StationNo) : (State.raiseDrive s d).station x = s.station x := by
  simp only [State.station, raiseDrive_stations]
@[simp] theorem raiseDrive_queue (s : State) (d : Drive) : (State.raiseDrive s d).queue = s.queue :=
  (changes_raiseDrive s d .queue (by decide))
@[simp] theorem raiseDrive_transport (s : State) (d : Drive) : (State.raiseDrive s d).transport = s.transport :=
  (changes_raiseDrive s d .transport (by decide))
@[simp] theorem raiseDrive_artworks (s : State) (d : Drive) : (State.raiseDrive s d).artworks = s.artworks :=
  (changes_raiseDrive s d .artworks (by decide))
@[simp] theorem raiseDrive_artwork (s : State) (d : Drive) (x : ArtNo) : (State.raiseDrive s d).artwork x = s.artwork x := by
  simp only [State.artwork, raiseDrive_artworks]
@[simp] theorem raiseDrive_templates (s : State) (d : Drive) : (State.raiseDrive s d).templates = s.templates :=
  (changes_raiseDrive s d .templates (by decide))
@[simp] theorem raiseDrive_template (s : State) (d : Drive) (x : TmplNo) : (State.raiseDrive s d).template x = s.template x := by
  simp only [State.template, raiseDrive_templates]
@[simp] theorem raiseDrive_printer (s : State) (d : Drive) : (State.raiseDrive s d).printer = s.printer :=
  (changes_raiseDrive s d .printer (by decide))
@[simp] theorem raiseDrive_feed (s : State) (d : Drive) : (State.raiseDrive s d).feed = s.feed :=
  (changes_raiseDrive s d .feed (by decide))
@[simp] theorem raiseDrive_settings (s : State) (d : Drive) : (State.raiseDrive s d).settings = s.settings :=
  (changes_raiseDrive s d .settings (by decide))
@[simp] theorem raiseDrive_pending (s : State) (d : Drive) : (State.raiseDrive s d).pending = s.pending :=
  (changes_raiseDrive s d .pending (by decide))

@[simp] theorem raiseApply_images (s : State) (d : Drive) : (State.raiseApply s d).images = s.images :=
  (changes_raiseApply s d .images (by decide))
@[simp] theorem raiseApply_image (s : State) (d : Drive) (x : SlotNo) : (State.raiseApply s d).image x = s.image x := by
  simp only [State.image, raiseApply_images]
@[simp] theorem raiseApply_accs (s : State) (d : Drive) : (State.raiseApply s d).accs = s.accs :=
  (changes_raiseApply s d .accs (by decide))
@[simp] theorem raiseApply_acc (s : State) (d : Drive) (x : WaveNo) : (State.raiseApply s d).acc x = s.acc x := by
  simp only [State.acc, raiseApply_accs]
@[simp] theorem raiseApply_waves (s : State) (d : Drive) : (State.raiseApply s d).waves = s.waves :=
  (changes_raiseApply s d .waves (by decide))
@[simp] theorem raiseApply_wave (s : State) (d : Drive) (x : WaveNo) : (State.raiseApply s d).wave x = s.wave x := by
  simp only [State.wave, raiseApply_waves]
@[simp] theorem raiseApply_drives (s : State) (d : Drive) : (State.raiseApply s d).drives = s.drives :=
  (changes_raiseApply s d .drives (by decide))
@[simp] theorem raiseApply_drive (s : State) (d : Drive) (x : Drive) : (State.raiseApply s d).drive x = s.drive x := by
  simp only [State.drive, raiseApply_drives]
@[simp] theorem raiseApply_ladder (s : State) (d : Drive) : (State.raiseApply s d).ladder = s.ladder :=
  (changes_raiseApply s d .ladder (by decide))
@[simp] theorem raiseApply_code (s : State) (d : Drive) (x : Rung) : (State.raiseApply s d).code x = s.code x := by
  simp only [State.code, raiseApply_ladder]
@[simp] theorem raiseApply_saves (s : State) (d : Drive) : (State.raiseApply s d).saves = s.saves :=
  (changes_raiseApply s d .saves (by decide))
@[simp] theorem raiseApply_save (s : State) (d : Drive) (x : Drive) : (State.raiseApply s d).save x = s.save x := by
  simp only [State.save, raiseApply_saves]
@[simp] theorem raiseApply_verifyQueue (s : State) (d : Drive) : (State.raiseApply s d).verifyQueue = s.verifyQueue :=
  (changes_raiseApply s d .verifyQueue (by decide))
@[simp] theorem raiseApply_contexts (s : State) (d : Drive) : (State.raiseApply s d).contexts = s.contexts :=
  (changes_raiseApply s d .contexts (by decide))
@[simp] theorem raiseApply_context (s : State) (d : Drive) (x : Fin 4) : (State.raiseApply s d).context x = s.context x := by
  simp only [State.context, raiseApply_contexts]
@[simp] theorem raiseApply_orders (s : State) (d : Drive) : (State.raiseApply s d).orders = s.orders :=
  (changes_raiseApply s d .orders (by decide))
@[simp] theorem raiseApply_order (s : State) (d : Drive) (x : OrderNo) : (State.raiseApply s d).order x = s.order x := by
  simp only [State.order, raiseApply_orders]
@[simp] theorem raiseApply_records (s : State) (d : Drive) : (State.raiseApply s d).records = s.records :=
  (changes_raiseApply s d .records (by decide))
@[simp] theorem raiseApply_record (s : State) (d : Drive) (x : RecNo) : (State.raiseApply s d).record x = s.record x := by
  simp only [State.record, raiseApply_records]
@[simp] theorem raiseApply_stations (s : State) (d : Drive) : (State.raiseApply s d).stations = s.stations :=
  (changes_raiseApply s d .stations (by decide))
@[simp] theorem raiseApply_station (s : State) (d : Drive) (x : StationNo) : (State.raiseApply s d).station x = s.station x := by
  simp only [State.station, raiseApply_stations]
@[simp] theorem raiseApply_queue (s : State) (d : Drive) : (State.raiseApply s d).queue = s.queue :=
  (changes_raiseApply s d .queue (by decide))
@[simp] theorem raiseApply_transport (s : State) (d : Drive) : (State.raiseApply s d).transport = s.transport :=
  (changes_raiseApply s d .transport (by decide))
@[simp] theorem raiseApply_artworks (s : State) (d : Drive) : (State.raiseApply s d).artworks = s.artworks :=
  (changes_raiseApply s d .artworks (by decide))
@[simp] theorem raiseApply_artwork (s : State) (d : Drive) (x : ArtNo) : (State.raiseApply s d).artwork x = s.artwork x := by
  simp only [State.artwork, raiseApply_artworks]
@[simp] theorem raiseApply_templates (s : State) (d : Drive) : (State.raiseApply s d).templates = s.templates :=
  (changes_raiseApply s d .templates (by decide))
@[simp] theorem raiseApply_template (s : State) (d : Drive) (x : TmplNo) : (State.raiseApply s d).template x = s.template x := by
  simp only [State.template, raiseApply_templates]
@[simp] theorem raiseApply_printer (s : State) (d : Drive) : (State.raiseApply s d).printer = s.printer :=
  (changes_raiseApply s d .printer (by decide))
@[simp] theorem raiseApply_feed (s : State) (d : Drive) : (State.raiseApply s d).feed = s.feed :=
  (changes_raiseApply s d .feed (by decide))
@[simp] theorem raiseApply_settings (s : State) (d : Drive) : (State.raiseApply s d).settings = s.settings :=
  (changes_raiseApply s d .settings (by decide))
@[simp] theorem raiseApply_pending (s : State) (d : Drive) : (State.raiseApply s d).pending = s.pending :=
  (changes_raiseApply s d .pending (by decide))

@[simp] theorem raiseWave_images (s : State) (w : WaveNo) (st : WaveState) (c : WaveCause) : (State.raiseWave s w st c).images = s.images :=
  (changes_raiseWave s w st c .images (by decide))
@[simp] theorem raiseWave_image (s : State) (w : WaveNo) (st : WaveState) (c : WaveCause) (x : SlotNo) : (State.raiseWave s w st c).image x = s.image x := by
  simp only [State.image, raiseWave_images]
@[simp] theorem raiseWave_accs (s : State) (w : WaveNo) (st : WaveState) (c : WaveCause) : (State.raiseWave s w st c).accs = s.accs :=
  (changes_raiseWave s w st c .accs (by decide))
@[simp] theorem raiseWave_acc (s : State) (w : WaveNo) (st : WaveState) (c : WaveCause) (x : WaveNo) : (State.raiseWave s w st c).acc x = s.acc x := by
  simp only [State.acc, raiseWave_accs]
@[simp] theorem raiseWave_waves (s : State) (w : WaveNo) (st : WaveState) (c : WaveCause) : (State.raiseWave s w st c).waves = s.waves :=
  (changes_raiseWave s w st c .waves (by decide))
@[simp] theorem raiseWave_wave (s : State) (w : WaveNo) (st : WaveState) (c : WaveCause) (x : WaveNo) : (State.raiseWave s w st c).wave x = s.wave x := by
  simp only [State.wave, raiseWave_waves]
@[simp] theorem raiseWave_drives (s : State) (w : WaveNo) (st : WaveState) (c : WaveCause) : (State.raiseWave s w st c).drives = s.drives :=
  (changes_raiseWave s w st c .drives (by decide))
@[simp] theorem raiseWave_drive (s : State) (w : WaveNo) (st : WaveState) (c : WaveCause) (x : Drive) : (State.raiseWave s w st c).drive x = s.drive x := by
  simp only [State.drive, raiseWave_drives]
@[simp] theorem raiseWave_ladder (s : State) (w : WaveNo) (st : WaveState) (c : WaveCause) : (State.raiseWave s w st c).ladder = s.ladder :=
  (changes_raiseWave s w st c .ladder (by decide))
@[simp] theorem raiseWave_code (s : State) (w : WaveNo) (st : WaveState) (c : WaveCause) (x : Rung) : (State.raiseWave s w st c).code x = s.code x := by
  simp only [State.code, raiseWave_ladder]
@[simp] theorem raiseWave_saves (s : State) (w : WaveNo) (st : WaveState) (c : WaveCause) : (State.raiseWave s w st c).saves = s.saves :=
  (changes_raiseWave s w st c .saves (by decide))
@[simp] theorem raiseWave_save (s : State) (w : WaveNo) (st : WaveState) (c : WaveCause) (x : Drive) : (State.raiseWave s w st c).save x = s.save x := by
  simp only [State.save, raiseWave_saves]
@[simp] theorem raiseWave_verifyQueue (s : State) (w : WaveNo) (st : WaveState) (c : WaveCause) : (State.raiseWave s w st c).verifyQueue = s.verifyQueue :=
  (changes_raiseWave s w st c .verifyQueue (by decide))
@[simp] theorem raiseWave_contexts (s : State) (w : WaveNo) (st : WaveState) (c : WaveCause) : (State.raiseWave s w st c).contexts = s.contexts :=
  (changes_raiseWave s w st c .contexts (by decide))
@[simp] theorem raiseWave_context (s : State) (w : WaveNo) (st : WaveState) (c : WaveCause) (x : Fin 4) : (State.raiseWave s w st c).context x = s.context x := by
  simp only [State.context, raiseWave_contexts]
@[simp] theorem raiseWave_orders (s : State) (w : WaveNo) (st : WaveState) (c : WaveCause) : (State.raiseWave s w st c).orders = s.orders :=
  (changes_raiseWave s w st c .orders (by decide))
@[simp] theorem raiseWave_order (s : State) (w : WaveNo) (st : WaveState) (c : WaveCause) (x : OrderNo) : (State.raiseWave s w st c).order x = s.order x := by
  simp only [State.order, raiseWave_orders]
@[simp] theorem raiseWave_records (s : State) (w : WaveNo) (st : WaveState) (c : WaveCause) : (State.raiseWave s w st c).records = s.records :=
  (changes_raiseWave s w st c .records (by decide))
@[simp] theorem raiseWave_record (s : State) (w : WaveNo) (st : WaveState) (c : WaveCause) (x : RecNo) : (State.raiseWave s w st c).record x = s.record x := by
  simp only [State.record, raiseWave_records]
@[simp] theorem raiseWave_stations (s : State) (w : WaveNo) (st : WaveState) (c : WaveCause) : (State.raiseWave s w st c).stations = s.stations :=
  (changes_raiseWave s w st c .stations (by decide))
@[simp] theorem raiseWave_station (s : State) (w : WaveNo) (st : WaveState) (c : WaveCause) (x : StationNo) : (State.raiseWave s w st c).station x = s.station x := by
  simp only [State.station, raiseWave_stations]
@[simp] theorem raiseWave_queue (s : State) (w : WaveNo) (st : WaveState) (c : WaveCause) : (State.raiseWave s w st c).queue = s.queue :=
  (changes_raiseWave s w st c .queue (by decide))
@[simp] theorem raiseWave_transport (s : State) (w : WaveNo) (st : WaveState) (c : WaveCause) : (State.raiseWave s w st c).transport = s.transport :=
  (changes_raiseWave s w st c .transport (by decide))
@[simp] theorem raiseWave_artworks (s : State) (w : WaveNo) (st : WaveState) (c : WaveCause) : (State.raiseWave s w st c).artworks = s.artworks :=
  (changes_raiseWave s w st c .artworks (by decide))
@[simp] theorem raiseWave_artwork (s : State) (w : WaveNo) (st : WaveState) (c : WaveCause) (x : ArtNo) : (State.raiseWave s w st c).artwork x = s.artwork x := by
  simp only [State.artwork, raiseWave_artworks]
@[simp] theorem raiseWave_templates (s : State) (w : WaveNo) (st : WaveState) (c : WaveCause) : (State.raiseWave s w st c).templates = s.templates :=
  (changes_raiseWave s w st c .templates (by decide))
@[simp] theorem raiseWave_template (s : State) (w : WaveNo) (st : WaveState) (c : WaveCause) (x : TmplNo) : (State.raiseWave s w st c).template x = s.template x := by
  simp only [State.template, raiseWave_templates]
@[simp] theorem raiseWave_printer (s : State) (w : WaveNo) (st : WaveState) (c : WaveCause) : (State.raiseWave s w st c).printer = s.printer :=
  (changes_raiseWave s w st c .printer (by decide))
@[simp] theorem raiseWave_feed (s : State) (w : WaveNo) (st : WaveState) (c : WaveCause) : (State.raiseWave s w st c).feed = s.feed :=
  (changes_raiseWave s w st c .feed (by decide))
@[simp] theorem raiseWave_settings (s : State) (w : WaveNo) (st : WaveState) (c : WaveCause) : (State.raiseWave s w st c).settings = s.settings :=
  (changes_raiseWave s w st c .settings (by decide))
@[simp] theorem raiseWave_pending (s : State) (w : WaveNo) (st : WaveState) (c : WaveCause) : (State.raiseWave s w st c).pending = s.pending :=
  (changes_raiseWave s w st c .pending (by decide))

@[simp] theorem raiseImage_images (s : State) (i : SlotNo) (st : ImageState) (c : ImageCause) : (State.raiseImage s i st c).images = s.images :=
  (changes_raiseImage s i st c .images (by decide))
@[simp] theorem raiseImage_image (s : State) (i : SlotNo) (st : ImageState) (c : ImageCause) (x : SlotNo) : (State.raiseImage s i st c).image x = s.image x := by
  simp only [State.image, raiseImage_images]
@[simp] theorem raiseImage_accs (s : State) (i : SlotNo) (st : ImageState) (c : ImageCause) : (State.raiseImage s i st c).accs = s.accs :=
  (changes_raiseImage s i st c .accs (by decide))
@[simp] theorem raiseImage_acc (s : State) (i : SlotNo) (st : ImageState) (c : ImageCause) (x : WaveNo) : (State.raiseImage s i st c).acc x = s.acc x := by
  simp only [State.acc, raiseImage_accs]
@[simp] theorem raiseImage_waves (s : State) (i : SlotNo) (st : ImageState) (c : ImageCause) : (State.raiseImage s i st c).waves = s.waves :=
  (changes_raiseImage s i st c .waves (by decide))
@[simp] theorem raiseImage_wave (s : State) (i : SlotNo) (st : ImageState) (c : ImageCause) (x : WaveNo) : (State.raiseImage s i st c).wave x = s.wave x := by
  simp only [State.wave, raiseImage_waves]
@[simp] theorem raiseImage_drives (s : State) (i : SlotNo) (st : ImageState) (c : ImageCause) : (State.raiseImage s i st c).drives = s.drives :=
  (changes_raiseImage s i st c .drives (by decide))
@[simp] theorem raiseImage_drive (s : State) (i : SlotNo) (st : ImageState) (c : ImageCause) (x : Drive) : (State.raiseImage s i st c).drive x = s.drive x := by
  simp only [State.drive, raiseImage_drives]
@[simp] theorem raiseImage_ladder (s : State) (i : SlotNo) (st : ImageState) (c : ImageCause) : (State.raiseImage s i st c).ladder = s.ladder :=
  (changes_raiseImage s i st c .ladder (by decide))
@[simp] theorem raiseImage_code (s : State) (i : SlotNo) (st : ImageState) (c : ImageCause) (x : Rung) : (State.raiseImage s i st c).code x = s.code x := by
  simp only [State.code, raiseImage_ladder]
@[simp] theorem raiseImage_saves (s : State) (i : SlotNo) (st : ImageState) (c : ImageCause) : (State.raiseImage s i st c).saves = s.saves :=
  (changes_raiseImage s i st c .saves (by decide))
@[simp] theorem raiseImage_save (s : State) (i : SlotNo) (st : ImageState) (c : ImageCause) (x : Drive) : (State.raiseImage s i st c).save x = s.save x := by
  simp only [State.save, raiseImage_saves]
@[simp] theorem raiseImage_verifyQueue (s : State) (i : SlotNo) (st : ImageState) (c : ImageCause) : (State.raiseImage s i st c).verifyQueue = s.verifyQueue :=
  (changes_raiseImage s i st c .verifyQueue (by decide))
@[simp] theorem raiseImage_contexts (s : State) (i : SlotNo) (st : ImageState) (c : ImageCause) : (State.raiseImage s i st c).contexts = s.contexts :=
  (changes_raiseImage s i st c .contexts (by decide))
@[simp] theorem raiseImage_context (s : State) (i : SlotNo) (st : ImageState) (c : ImageCause) (x : Fin 4) : (State.raiseImage s i st c).context x = s.context x := by
  simp only [State.context, raiseImage_contexts]
@[simp] theorem raiseImage_orders (s : State) (i : SlotNo) (st : ImageState) (c : ImageCause) : (State.raiseImage s i st c).orders = s.orders :=
  (changes_raiseImage s i st c .orders (by decide))
@[simp] theorem raiseImage_order (s : State) (i : SlotNo) (st : ImageState) (c : ImageCause) (x : OrderNo) : (State.raiseImage s i st c).order x = s.order x := by
  simp only [State.order, raiseImage_orders]
@[simp] theorem raiseImage_records (s : State) (i : SlotNo) (st : ImageState) (c : ImageCause) : (State.raiseImage s i st c).records = s.records :=
  (changes_raiseImage s i st c .records (by decide))
@[simp] theorem raiseImage_record (s : State) (i : SlotNo) (st : ImageState) (c : ImageCause) (x : RecNo) : (State.raiseImage s i st c).record x = s.record x := by
  simp only [State.record, raiseImage_records]
@[simp] theorem raiseImage_stations (s : State) (i : SlotNo) (st : ImageState) (c : ImageCause) : (State.raiseImage s i st c).stations = s.stations :=
  (changes_raiseImage s i st c .stations (by decide))
@[simp] theorem raiseImage_station (s : State) (i : SlotNo) (st : ImageState) (c : ImageCause) (x : StationNo) : (State.raiseImage s i st c).station x = s.station x := by
  simp only [State.station, raiseImage_stations]
@[simp] theorem raiseImage_queue (s : State) (i : SlotNo) (st : ImageState) (c : ImageCause) : (State.raiseImage s i st c).queue = s.queue :=
  (changes_raiseImage s i st c .queue (by decide))
@[simp] theorem raiseImage_transport (s : State) (i : SlotNo) (st : ImageState) (c : ImageCause) : (State.raiseImage s i st c).transport = s.transport :=
  (changes_raiseImage s i st c .transport (by decide))
@[simp] theorem raiseImage_artworks (s : State) (i : SlotNo) (st : ImageState) (c : ImageCause) : (State.raiseImage s i st c).artworks = s.artworks :=
  (changes_raiseImage s i st c .artworks (by decide))
@[simp] theorem raiseImage_artwork (s : State) (i : SlotNo) (st : ImageState) (c : ImageCause) (x : ArtNo) : (State.raiseImage s i st c).artwork x = s.artwork x := by
  simp only [State.artwork, raiseImage_artworks]
@[simp] theorem raiseImage_templates (s : State) (i : SlotNo) (st : ImageState) (c : ImageCause) : (State.raiseImage s i st c).templates = s.templates :=
  (changes_raiseImage s i st c .templates (by decide))
@[simp] theorem raiseImage_template (s : State) (i : SlotNo) (st : ImageState) (c : ImageCause) (x : TmplNo) : (State.raiseImage s i st c).template x = s.template x := by
  simp only [State.template, raiseImage_templates]
@[simp] theorem raiseImage_printer (s : State) (i : SlotNo) (st : ImageState) (c : ImageCause) : (State.raiseImage s i st c).printer = s.printer :=
  (changes_raiseImage s i st c .printer (by decide))
@[simp] theorem raiseImage_feed (s : State) (i : SlotNo) (st : ImageState) (c : ImageCause) : (State.raiseImage s i st c).feed = s.feed :=
  (changes_raiseImage s i st c .feed (by decide))
@[simp] theorem raiseImage_settings (s : State) (i : SlotNo) (st : ImageState) (c : ImageCause) : (State.raiseImage s i st c).settings = s.settings :=
  (changes_raiseImage s i st c .settings (by decide))
@[simp] theorem raiseImage_pending (s : State) (i : SlotNo) (st : ImageState) (c : ImageCause) : (State.raiseImage s i st c).pending = s.pending :=
  (changes_raiseImage s i st c .pending (by decide))

@[simp] theorem raiseOrder_images (s : State) (o : OrderNo) : (State.raiseOrder s o).images = s.images :=
  (changes_raiseOrder s o .images (by decide))
@[simp] theorem raiseOrder_image (s : State) (o : OrderNo) (x : SlotNo) : (State.raiseOrder s o).image x = s.image x := by
  simp only [State.image, raiseOrder_images]
@[simp] theorem raiseOrder_accs (s : State) (o : OrderNo) : (State.raiseOrder s o).accs = s.accs :=
  (changes_raiseOrder s o .accs (by decide))
@[simp] theorem raiseOrder_acc (s : State) (o : OrderNo) (x : WaveNo) : (State.raiseOrder s o).acc x = s.acc x := by
  simp only [State.acc, raiseOrder_accs]
@[simp] theorem raiseOrder_waves (s : State) (o : OrderNo) : (State.raiseOrder s o).waves = s.waves :=
  (changes_raiseOrder s o .waves (by decide))
@[simp] theorem raiseOrder_wave (s : State) (o : OrderNo) (x : WaveNo) : (State.raiseOrder s o).wave x = s.wave x := by
  simp only [State.wave, raiseOrder_waves]
@[simp] theorem raiseOrder_drives (s : State) (o : OrderNo) : (State.raiseOrder s o).drives = s.drives :=
  (changes_raiseOrder s o .drives (by decide))
@[simp] theorem raiseOrder_drive (s : State) (o : OrderNo) (x : Drive) : (State.raiseOrder s o).drive x = s.drive x := by
  simp only [State.drive, raiseOrder_drives]
@[simp] theorem raiseOrder_ladder (s : State) (o : OrderNo) : (State.raiseOrder s o).ladder = s.ladder :=
  (changes_raiseOrder s o .ladder (by decide))
@[simp] theorem raiseOrder_code (s : State) (o : OrderNo) (x : Rung) : (State.raiseOrder s o).code x = s.code x := by
  simp only [State.code, raiseOrder_ladder]
@[simp] theorem raiseOrder_saves (s : State) (o : OrderNo) : (State.raiseOrder s o).saves = s.saves :=
  (changes_raiseOrder s o .saves (by decide))
@[simp] theorem raiseOrder_save (s : State) (o : OrderNo) (x : Drive) : (State.raiseOrder s o).save x = s.save x := by
  simp only [State.save, raiseOrder_saves]
@[simp] theorem raiseOrder_verifyQueue (s : State) (o : OrderNo) : (State.raiseOrder s o).verifyQueue = s.verifyQueue :=
  (changes_raiseOrder s o .verifyQueue (by decide))
@[simp] theorem raiseOrder_contexts (s : State) (o : OrderNo) : (State.raiseOrder s o).contexts = s.contexts :=
  (changes_raiseOrder s o .contexts (by decide))
@[simp] theorem raiseOrder_context (s : State) (o : OrderNo) (x : Fin 4) : (State.raiseOrder s o).context x = s.context x := by
  simp only [State.context, raiseOrder_contexts]
@[simp] theorem raiseOrder_orders (s : State) (o : OrderNo) : (State.raiseOrder s o).orders = s.orders :=
  (changes_raiseOrder s o .orders (by decide))
@[simp] theorem raiseOrder_order (s : State) (o : OrderNo) (x : OrderNo) : (State.raiseOrder s o).order x = s.order x := by
  simp only [State.order, raiseOrder_orders]
@[simp] theorem raiseOrder_records (s : State) (o : OrderNo) : (State.raiseOrder s o).records = s.records :=
  (changes_raiseOrder s o .records (by decide))
@[simp] theorem raiseOrder_record (s : State) (o : OrderNo) (x : RecNo) : (State.raiseOrder s o).record x = s.record x := by
  simp only [State.record, raiseOrder_records]
@[simp] theorem raiseOrder_stations (s : State) (o : OrderNo) : (State.raiseOrder s o).stations = s.stations :=
  (changes_raiseOrder s o .stations (by decide))
@[simp] theorem raiseOrder_station (s : State) (o : OrderNo) (x : StationNo) : (State.raiseOrder s o).station x = s.station x := by
  simp only [State.station, raiseOrder_stations]
@[simp] theorem raiseOrder_queue (s : State) (o : OrderNo) : (State.raiseOrder s o).queue = s.queue :=
  (changes_raiseOrder s o .queue (by decide))
@[simp] theorem raiseOrder_transport (s : State) (o : OrderNo) : (State.raiseOrder s o).transport = s.transport :=
  (changes_raiseOrder s o .transport (by decide))
@[simp] theorem raiseOrder_artworks (s : State) (o : OrderNo) : (State.raiseOrder s o).artworks = s.artworks :=
  (changes_raiseOrder s o .artworks (by decide))
@[simp] theorem raiseOrder_artwork (s : State) (o : OrderNo) (x : ArtNo) : (State.raiseOrder s o).artwork x = s.artwork x := by
  simp only [State.artwork, raiseOrder_artworks]
@[simp] theorem raiseOrder_templates (s : State) (o : OrderNo) : (State.raiseOrder s o).templates = s.templates :=
  (changes_raiseOrder s o .templates (by decide))
@[simp] theorem raiseOrder_template (s : State) (o : OrderNo) (x : TmplNo) : (State.raiseOrder s o).template x = s.template x := by
  simp only [State.template, raiseOrder_templates]
@[simp] theorem raiseOrder_printer (s : State) (o : OrderNo) : (State.raiseOrder s o).printer = s.printer :=
  (changes_raiseOrder s o .printer (by decide))
@[simp] theorem raiseOrder_feed (s : State) (o : OrderNo) : (State.raiseOrder s o).feed = s.feed :=
  (changes_raiseOrder s o .feed (by decide))
@[simp] theorem raiseOrder_settings (s : State) (o : OrderNo) : (State.raiseOrder s o).settings = s.settings :=
  (changes_raiseOrder s o .settings (by decide))
@[simp] theorem raiseOrder_pending (s : State) (o : OrderNo) : (State.raiseOrder s o).pending = s.pending :=
  (changes_raiseOrder s o .pending (by decide))

@[simp] theorem raisePrinter_images (s : State) (st : PrinterState) (c : PrinterCause) : (State.raisePrinter s st c).images = s.images :=
  (changes_raisePrinter s st c .images (by decide))
@[simp] theorem raisePrinter_image (s : State) (st : PrinterState) (c : PrinterCause) (x : SlotNo) : (State.raisePrinter s st c).image x = s.image x := by
  simp only [State.image, raisePrinter_images]
@[simp] theorem raisePrinter_accs (s : State) (st : PrinterState) (c : PrinterCause) : (State.raisePrinter s st c).accs = s.accs :=
  (changes_raisePrinter s st c .accs (by decide))
@[simp] theorem raisePrinter_acc (s : State) (st : PrinterState) (c : PrinterCause) (x : WaveNo) : (State.raisePrinter s st c).acc x = s.acc x := by
  simp only [State.acc, raisePrinter_accs]
@[simp] theorem raisePrinter_waves (s : State) (st : PrinterState) (c : PrinterCause) : (State.raisePrinter s st c).waves = s.waves :=
  (changes_raisePrinter s st c .waves (by decide))
@[simp] theorem raisePrinter_wave (s : State) (st : PrinterState) (c : PrinterCause) (x : WaveNo) : (State.raisePrinter s st c).wave x = s.wave x := by
  simp only [State.wave, raisePrinter_waves]
@[simp] theorem raisePrinter_drives (s : State) (st : PrinterState) (c : PrinterCause) : (State.raisePrinter s st c).drives = s.drives :=
  (changes_raisePrinter s st c .drives (by decide))
@[simp] theorem raisePrinter_drive (s : State) (st : PrinterState) (c : PrinterCause) (x : Drive) : (State.raisePrinter s st c).drive x = s.drive x := by
  simp only [State.drive, raisePrinter_drives]
@[simp] theorem raisePrinter_ladder (s : State) (st : PrinterState) (c : PrinterCause) : (State.raisePrinter s st c).ladder = s.ladder :=
  (changes_raisePrinter s st c .ladder (by decide))
@[simp] theorem raisePrinter_code (s : State) (st : PrinterState) (c : PrinterCause) (x : Rung) : (State.raisePrinter s st c).code x = s.code x := by
  simp only [State.code, raisePrinter_ladder]
@[simp] theorem raisePrinter_saves (s : State) (st : PrinterState) (c : PrinterCause) : (State.raisePrinter s st c).saves = s.saves :=
  (changes_raisePrinter s st c .saves (by decide))
@[simp] theorem raisePrinter_save (s : State) (st : PrinterState) (c : PrinterCause) (x : Drive) : (State.raisePrinter s st c).save x = s.save x := by
  simp only [State.save, raisePrinter_saves]
@[simp] theorem raisePrinter_verifyQueue (s : State) (st : PrinterState) (c : PrinterCause) : (State.raisePrinter s st c).verifyQueue = s.verifyQueue :=
  (changes_raisePrinter s st c .verifyQueue (by decide))
@[simp] theorem raisePrinter_contexts (s : State) (st : PrinterState) (c : PrinterCause) : (State.raisePrinter s st c).contexts = s.contexts :=
  (changes_raisePrinter s st c .contexts (by decide))
@[simp] theorem raisePrinter_context (s : State) (st : PrinterState) (c : PrinterCause) (x : Fin 4) : (State.raisePrinter s st c).context x = s.context x := by
  simp only [State.context, raisePrinter_contexts]
@[simp] theorem raisePrinter_orders (s : State) (st : PrinterState) (c : PrinterCause) : (State.raisePrinter s st c).orders = s.orders :=
  (changes_raisePrinter s st c .orders (by decide))
@[simp] theorem raisePrinter_order (s : State) (st : PrinterState) (c : PrinterCause) (x : OrderNo) : (State.raisePrinter s st c).order x = s.order x := by
  simp only [State.order, raisePrinter_orders]
@[simp] theorem raisePrinter_records (s : State) (st : PrinterState) (c : PrinterCause) : (State.raisePrinter s st c).records = s.records :=
  (changes_raisePrinter s st c .records (by decide))
@[simp] theorem raisePrinter_record (s : State) (st : PrinterState) (c : PrinterCause) (x : RecNo) : (State.raisePrinter s st c).record x = s.record x := by
  simp only [State.record, raisePrinter_records]
@[simp] theorem raisePrinter_stations (s : State) (st : PrinterState) (c : PrinterCause) : (State.raisePrinter s st c).stations = s.stations :=
  (changes_raisePrinter s st c .stations (by decide))
@[simp] theorem raisePrinter_station (s : State) (st : PrinterState) (c : PrinterCause) (x : StationNo) : (State.raisePrinter s st c).station x = s.station x := by
  simp only [State.station, raisePrinter_stations]
@[simp] theorem raisePrinter_queue (s : State) (st : PrinterState) (c : PrinterCause) : (State.raisePrinter s st c).queue = s.queue :=
  (changes_raisePrinter s st c .queue (by decide))
@[simp] theorem raisePrinter_transport (s : State) (st : PrinterState) (c : PrinterCause) : (State.raisePrinter s st c).transport = s.transport :=
  (changes_raisePrinter s st c .transport (by decide))
@[simp] theorem raisePrinter_artworks (s : State) (st : PrinterState) (c : PrinterCause) : (State.raisePrinter s st c).artworks = s.artworks :=
  (changes_raisePrinter s st c .artworks (by decide))
@[simp] theorem raisePrinter_artwork (s : State) (st : PrinterState) (c : PrinterCause) (x : ArtNo) : (State.raisePrinter s st c).artwork x = s.artwork x := by
  simp only [State.artwork, raisePrinter_artworks]
@[simp] theorem raisePrinter_templates (s : State) (st : PrinterState) (c : PrinterCause) : (State.raisePrinter s st c).templates = s.templates :=
  (changes_raisePrinter s st c .templates (by decide))
@[simp] theorem raisePrinter_template (s : State) (st : PrinterState) (c : PrinterCause) (x : TmplNo) : (State.raisePrinter s st c).template x = s.template x := by
  simp only [State.template, raisePrinter_templates]
@[simp] theorem raisePrinter_printer (s : State) (st : PrinterState) (c : PrinterCause) : (State.raisePrinter s st c).printer = s.printer :=
  (changes_raisePrinter s st c .printer (by decide))
@[simp] theorem raisePrinter_feed (s : State) (st : PrinterState) (c : PrinterCause) : (State.raisePrinter s st c).feed = s.feed :=
  (changes_raisePrinter s st c .feed (by decide))
@[simp] theorem raisePrinter_settings (s : State) (st : PrinterState) (c : PrinterCause) : (State.raisePrinter s st c).settings = s.settings :=
  (changes_raisePrinter s st c .settings (by decide))
@[simp] theorem raisePrinter_pending (s : State) (st : PrinterState) (c : PrinterCause) : (State.raisePrinter s st c).pending = s.pending :=
  (changes_raisePrinter s st c .pending (by decide))

@[simp] theorem raiseDetach_images (s : State) (w : WaveNo) (mask : Word16) : (State.raiseDetach s w mask).images = s.images :=
  (changes_raiseDetach s w mask .images (by decide))
@[simp] theorem raiseDetach_image (s : State) (w : WaveNo) (mask : Word16) (x : SlotNo) : (State.raiseDetach s w mask).image x = s.image x := by
  simp only [State.image, raiseDetach_images]
@[simp] theorem raiseDetach_accs (s : State) (w : WaveNo) (mask : Word16) : (State.raiseDetach s w mask).accs = s.accs :=
  (changes_raiseDetach s w mask .accs (by decide))
@[simp] theorem raiseDetach_acc (s : State) (w : WaveNo) (mask : Word16) (x : WaveNo) : (State.raiseDetach s w mask).acc x = s.acc x := by
  simp only [State.acc, raiseDetach_accs]
@[simp] theorem raiseDetach_waves (s : State) (w : WaveNo) (mask : Word16) : (State.raiseDetach s w mask).waves = s.waves :=
  (changes_raiseDetach s w mask .waves (by decide))
@[simp] theorem raiseDetach_wave (s : State) (w : WaveNo) (mask : Word16) (x : WaveNo) : (State.raiseDetach s w mask).wave x = s.wave x := by
  simp only [State.wave, raiseDetach_waves]
@[simp] theorem raiseDetach_drives (s : State) (w : WaveNo) (mask : Word16) : (State.raiseDetach s w mask).drives = s.drives :=
  (changes_raiseDetach s w mask .drives (by decide))
@[simp] theorem raiseDetach_drive (s : State) (w : WaveNo) (mask : Word16) (x : Drive) : (State.raiseDetach s w mask).drive x = s.drive x := by
  simp only [State.drive, raiseDetach_drives]
@[simp] theorem raiseDetach_ladder (s : State) (w : WaveNo) (mask : Word16) : (State.raiseDetach s w mask).ladder = s.ladder :=
  (changes_raiseDetach s w mask .ladder (by decide))
@[simp] theorem raiseDetach_code (s : State) (w : WaveNo) (mask : Word16) (x : Rung) : (State.raiseDetach s w mask).code x = s.code x := by
  simp only [State.code, raiseDetach_ladder]
@[simp] theorem raiseDetach_saves (s : State) (w : WaveNo) (mask : Word16) : (State.raiseDetach s w mask).saves = s.saves :=
  (changes_raiseDetach s w mask .saves (by decide))
@[simp] theorem raiseDetach_save (s : State) (w : WaveNo) (mask : Word16) (x : Drive) : (State.raiseDetach s w mask).save x = s.save x := by
  simp only [State.save, raiseDetach_saves]
@[simp] theorem raiseDetach_verifyQueue (s : State) (w : WaveNo) (mask : Word16) : (State.raiseDetach s w mask).verifyQueue = s.verifyQueue :=
  (changes_raiseDetach s w mask .verifyQueue (by decide))
@[simp] theorem raiseDetach_contexts (s : State) (w : WaveNo) (mask : Word16) : (State.raiseDetach s w mask).contexts = s.contexts :=
  (changes_raiseDetach s w mask .contexts (by decide))
@[simp] theorem raiseDetach_context (s : State) (w : WaveNo) (mask : Word16) (x : Fin 4) : (State.raiseDetach s w mask).context x = s.context x := by
  simp only [State.context, raiseDetach_contexts]
@[simp] theorem raiseDetach_orders (s : State) (w : WaveNo) (mask : Word16) : (State.raiseDetach s w mask).orders = s.orders :=
  (changes_raiseDetach s w mask .orders (by decide))
@[simp] theorem raiseDetach_order (s : State) (w : WaveNo) (mask : Word16) (x : OrderNo) : (State.raiseDetach s w mask).order x = s.order x := by
  simp only [State.order, raiseDetach_orders]
@[simp] theorem raiseDetach_records (s : State) (w : WaveNo) (mask : Word16) : (State.raiseDetach s w mask).records = s.records :=
  (changes_raiseDetach s w mask .records (by decide))
@[simp] theorem raiseDetach_record (s : State) (w : WaveNo) (mask : Word16) (x : RecNo) : (State.raiseDetach s w mask).record x = s.record x := by
  simp only [State.record, raiseDetach_records]
@[simp] theorem raiseDetach_stations (s : State) (w : WaveNo) (mask : Word16) : (State.raiseDetach s w mask).stations = s.stations :=
  (changes_raiseDetach s w mask .stations (by decide))
@[simp] theorem raiseDetach_station (s : State) (w : WaveNo) (mask : Word16) (x : StationNo) : (State.raiseDetach s w mask).station x = s.station x := by
  simp only [State.station, raiseDetach_stations]
@[simp] theorem raiseDetach_queue (s : State) (w : WaveNo) (mask : Word16) : (State.raiseDetach s w mask).queue = s.queue :=
  (changes_raiseDetach s w mask .queue (by decide))
@[simp] theorem raiseDetach_transport (s : State) (w : WaveNo) (mask : Word16) : (State.raiseDetach s w mask).transport = s.transport :=
  (changes_raiseDetach s w mask .transport (by decide))
@[simp] theorem raiseDetach_artworks (s : State) (w : WaveNo) (mask : Word16) : (State.raiseDetach s w mask).artworks = s.artworks :=
  (changes_raiseDetach s w mask .artworks (by decide))
@[simp] theorem raiseDetach_artwork (s : State) (w : WaveNo) (mask : Word16) (x : ArtNo) : (State.raiseDetach s w mask).artwork x = s.artwork x := by
  simp only [State.artwork, raiseDetach_artworks]
@[simp] theorem raiseDetach_templates (s : State) (w : WaveNo) (mask : Word16) : (State.raiseDetach s w mask).templates = s.templates :=
  (changes_raiseDetach s w mask .templates (by decide))
@[simp] theorem raiseDetach_template (s : State) (w : WaveNo) (mask : Word16) (x : TmplNo) : (State.raiseDetach s w mask).template x = s.template x := by
  simp only [State.template, raiseDetach_templates]
@[simp] theorem raiseDetach_printer (s : State) (w : WaveNo) (mask : Word16) : (State.raiseDetach s w mask).printer = s.printer :=
  (changes_raiseDetach s w mask .printer (by decide))
@[simp] theorem raiseDetach_feed (s : State) (w : WaveNo) (mask : Word16) : (State.raiseDetach s w mask).feed = s.feed :=
  (changes_raiseDetach s w mask .feed (by decide))
@[simp] theorem raiseDetach_settings (s : State) (w : WaveNo) (mask : Word16) : (State.raiseDetach s w mask).settings = s.settings :=
  (changes_raiseDetach s w mask .settings (by decide))
@[simp] theorem raiseDetach_pending (s : State) (w : WaveNo) (mask : Word16) : (State.raiseDetach s w mask).pending = s.pending :=
  (changes_raiseDetach s w mask .pending (by decide))

@[simp] theorem raise_images (s : State) (c : EventClass) (m : Word16) (v : Option EventValue) : (s.raise c m v).images = s.images :=
  (changes_raise s c m v .images (by decide))
@[simp] theorem raise_image (s : State) (c : EventClass) (m : Word16) (v : Option EventValue) (x : SlotNo) : (s.raise c m v).image x = s.image x := by
  simp only [State.image, raise_images]
@[simp] theorem raise_accs (s : State) (c : EventClass) (m : Word16) (v : Option EventValue) : (s.raise c m v).accs = s.accs :=
  (changes_raise s c m v .accs (by decide))
@[simp] theorem raise_acc (s : State) (c : EventClass) (m : Word16) (v : Option EventValue) (x : WaveNo) : (s.raise c m v).acc x = s.acc x := by
  simp only [State.acc, raise_accs]
@[simp] theorem raise_waves (s : State) (c : EventClass) (m : Word16) (v : Option EventValue) : (s.raise c m v).waves = s.waves :=
  (changes_raise s c m v .waves (by decide))
@[simp] theorem raise_wave (s : State) (c : EventClass) (m : Word16) (v : Option EventValue) (x : WaveNo) : (s.raise c m v).wave x = s.wave x := by
  simp only [State.wave, raise_waves]
@[simp] theorem raise_drives (s : State) (c : EventClass) (m : Word16) (v : Option EventValue) : (s.raise c m v).drives = s.drives :=
  (changes_raise s c m v .drives (by decide))
@[simp] theorem raise_drive (s : State) (c : EventClass) (m : Word16) (v : Option EventValue) (x : Drive) : (s.raise c m v).drive x = s.drive x := by
  simp only [State.drive, raise_drives]
@[simp] theorem raise_ladder (s : State) (c : EventClass) (m : Word16) (v : Option EventValue) : (s.raise c m v).ladder = s.ladder :=
  (changes_raise s c m v .ladder (by decide))
@[simp] theorem raise_code (s : State) (c : EventClass) (m : Word16) (v : Option EventValue) (x : Rung) : (s.raise c m v).code x = s.code x := by
  simp only [State.code, raise_ladder]
@[simp] theorem raise_saves (s : State) (c : EventClass) (m : Word16) (v : Option EventValue) : (s.raise c m v).saves = s.saves :=
  (changes_raise s c m v .saves (by decide))
@[simp] theorem raise_save (s : State) (c : EventClass) (m : Word16) (v : Option EventValue) (x : Drive) : (s.raise c m v).save x = s.save x := by
  simp only [State.save, raise_saves]
@[simp] theorem raise_verifyQueue (s : State) (c : EventClass) (m : Word16) (v : Option EventValue) : (s.raise c m v).verifyQueue = s.verifyQueue :=
  (changes_raise s c m v .verifyQueue (by decide))
@[simp] theorem raise_contexts (s : State) (c : EventClass) (m : Word16) (v : Option EventValue) : (s.raise c m v).contexts = s.contexts :=
  (changes_raise s c m v .contexts (by decide))
@[simp] theorem raise_context (s : State) (c : EventClass) (m : Word16) (v : Option EventValue) (x : Fin 4) : (s.raise c m v).context x = s.context x := by
  simp only [State.context, raise_contexts]
@[simp] theorem raise_orders (s : State) (c : EventClass) (m : Word16) (v : Option EventValue) : (s.raise c m v).orders = s.orders :=
  (changes_raise s c m v .orders (by decide))
@[simp] theorem raise_order (s : State) (c : EventClass) (m : Word16) (v : Option EventValue) (x : OrderNo) : (s.raise c m v).order x = s.order x := by
  simp only [State.order, raise_orders]
@[simp] theorem raise_records (s : State) (c : EventClass) (m : Word16) (v : Option EventValue) : (s.raise c m v).records = s.records :=
  (changes_raise s c m v .records (by decide))
@[simp] theorem raise_record (s : State) (c : EventClass) (m : Word16) (v : Option EventValue) (x : RecNo) : (s.raise c m v).record x = s.record x := by
  simp only [State.record, raise_records]
@[simp] theorem raise_stations (s : State) (c : EventClass) (m : Word16) (v : Option EventValue) : (s.raise c m v).stations = s.stations :=
  (changes_raise s c m v .stations (by decide))
@[simp] theorem raise_station (s : State) (c : EventClass) (m : Word16) (v : Option EventValue) (x : StationNo) : (s.raise c m v).station x = s.station x := by
  simp only [State.station, raise_stations]
@[simp] theorem raise_queue (s : State) (c : EventClass) (m : Word16) (v : Option EventValue) : (s.raise c m v).queue = s.queue :=
  (changes_raise s c m v .queue (by decide))
@[simp] theorem raise_transport (s : State) (c : EventClass) (m : Word16) (v : Option EventValue) : (s.raise c m v).transport = s.transport :=
  (changes_raise s c m v .transport (by decide))
@[simp] theorem raise_artworks (s : State) (c : EventClass) (m : Word16) (v : Option EventValue) : (s.raise c m v).artworks = s.artworks :=
  (changes_raise s c m v .artworks (by decide))
@[simp] theorem raise_artwork (s : State) (c : EventClass) (m : Word16) (v : Option EventValue) (x : ArtNo) : (s.raise c m v).artwork x = s.artwork x := by
  simp only [State.artwork, raise_artworks]
@[simp] theorem raise_templates (s : State) (c : EventClass) (m : Word16) (v : Option EventValue) : (s.raise c m v).templates = s.templates :=
  (changes_raise s c m v .templates (by decide))
@[simp] theorem raise_template (s : State) (c : EventClass) (m : Word16) (v : Option EventValue) (x : TmplNo) : (s.raise c m v).template x = s.template x := by
  simp only [State.template, raise_templates]
@[simp] theorem raise_printer (s : State) (c : EventClass) (m : Word16) (v : Option EventValue) : (s.raise c m v).printer = s.printer :=
  (changes_raise s c m v .printer (by decide))
@[simp] theorem raise_feed (s : State) (c : EventClass) (m : Word16) (v : Option EventValue) : (s.raise c m v).feed = s.feed :=
  (changes_raise s c m v .feed (by decide))
@[simp] theorem raise_settings (s : State) (c : EventClass) (m : Word16) (v : Option EventValue) : (s.raise c m v).settings = s.settings :=
  (changes_raise s c m v .settings (by decide))
@[simp] theorem raise_pending (s : State) (c : EventClass) (m : Word16) (v : Option EventValue) : (s.raise c m v).pending = s.pending :=
  (changes_raise s c m v .pending (by decide))

@[simp] theorem replyPlain_images (s : State) (r : ReplyTo) (st : Status) : (State.replyPlain s r st).images = s.images :=
  (changes_replyPlain s r st .images (by decide))
@[simp] theorem replyPlain_image (s : State) (r : ReplyTo) (st : Status) (x : SlotNo) : (State.replyPlain s r st).image x = s.image x := by
  simp only [State.image, replyPlain_images]
@[simp] theorem replyPlain_accs (s : State) (r : ReplyTo) (st : Status) : (State.replyPlain s r st).accs = s.accs :=
  (changes_replyPlain s r st .accs (by decide))
@[simp] theorem replyPlain_acc (s : State) (r : ReplyTo) (st : Status) (x : WaveNo) : (State.replyPlain s r st).acc x = s.acc x := by
  simp only [State.acc, replyPlain_accs]
@[simp] theorem replyPlain_waves (s : State) (r : ReplyTo) (st : Status) : (State.replyPlain s r st).waves = s.waves :=
  (changes_replyPlain s r st .waves (by decide))
@[simp] theorem replyPlain_wave (s : State) (r : ReplyTo) (st : Status) (x : WaveNo) : (State.replyPlain s r st).wave x = s.wave x := by
  simp only [State.wave, replyPlain_waves]
@[simp] theorem replyPlain_drives (s : State) (r : ReplyTo) (st : Status) : (State.replyPlain s r st).drives = s.drives :=
  (changes_replyPlain s r st .drives (by decide))
@[simp] theorem replyPlain_drive (s : State) (r : ReplyTo) (st : Status) (x : Drive) : (State.replyPlain s r st).drive x = s.drive x := by
  simp only [State.drive, replyPlain_drives]
@[simp] theorem replyPlain_ladder (s : State) (r : ReplyTo) (st : Status) : (State.replyPlain s r st).ladder = s.ladder :=
  (changes_replyPlain s r st .ladder (by decide))
@[simp] theorem replyPlain_code (s : State) (r : ReplyTo) (st : Status) (x : Rung) : (State.replyPlain s r st).code x = s.code x := by
  simp only [State.code, replyPlain_ladder]
@[simp] theorem replyPlain_saves (s : State) (r : ReplyTo) (st : Status) : (State.replyPlain s r st).saves = s.saves :=
  (changes_replyPlain s r st .saves (by decide))
@[simp] theorem replyPlain_save (s : State) (r : ReplyTo) (st : Status) (x : Drive) : (State.replyPlain s r st).save x = s.save x := by
  simp only [State.save, replyPlain_saves]
@[simp] theorem replyPlain_verifyQueue (s : State) (r : ReplyTo) (st : Status) : (State.replyPlain s r st).verifyQueue = s.verifyQueue :=
  (changes_replyPlain s r st .verifyQueue (by decide))
@[simp] theorem replyPlain_contexts (s : State) (r : ReplyTo) (st : Status) : (State.replyPlain s r st).contexts = s.contexts :=
  (changes_replyPlain s r st .contexts (by decide))
@[simp] theorem replyPlain_context (s : State) (r : ReplyTo) (st : Status) (x : Fin 4) : (State.replyPlain s r st).context x = s.context x := by
  simp only [State.context, replyPlain_contexts]
@[simp] theorem replyPlain_orders (s : State) (r : ReplyTo) (st : Status) : (State.replyPlain s r st).orders = s.orders :=
  (changes_replyPlain s r st .orders (by decide))
@[simp] theorem replyPlain_order (s : State) (r : ReplyTo) (st : Status) (x : OrderNo) : (State.replyPlain s r st).order x = s.order x := by
  simp only [State.order, replyPlain_orders]
@[simp] theorem replyPlain_records (s : State) (r : ReplyTo) (st : Status) : (State.replyPlain s r st).records = s.records :=
  (changes_replyPlain s r st .records (by decide))
@[simp] theorem replyPlain_record (s : State) (r : ReplyTo) (st : Status) (x : RecNo) : (State.replyPlain s r st).record x = s.record x := by
  simp only [State.record, replyPlain_records]
@[simp] theorem replyPlain_stations (s : State) (r : ReplyTo) (st : Status) : (State.replyPlain s r st).stations = s.stations :=
  (changes_replyPlain s r st .stations (by decide))
@[simp] theorem replyPlain_station (s : State) (r : ReplyTo) (st : Status) (x : StationNo) : (State.replyPlain s r st).station x = s.station x := by
  simp only [State.station, replyPlain_stations]
@[simp] theorem replyPlain_queue (s : State) (r : ReplyTo) (st : Status) : (State.replyPlain s r st).queue = s.queue :=
  (changes_replyPlain s r st .queue (by decide))
@[simp] theorem replyPlain_transport (s : State) (r : ReplyTo) (st : Status) : (State.replyPlain s r st).transport = s.transport :=
  (changes_replyPlain s r st .transport (by decide))
@[simp] theorem replyPlain_artworks (s : State) (r : ReplyTo) (st : Status) : (State.replyPlain s r st).artworks = s.artworks :=
  (changes_replyPlain s r st .artworks (by decide))
@[simp] theorem replyPlain_artwork (s : State) (r : ReplyTo) (st : Status) (x : ArtNo) : (State.replyPlain s r st).artwork x = s.artwork x := by
  simp only [State.artwork, replyPlain_artworks]
@[simp] theorem replyPlain_templates (s : State) (r : ReplyTo) (st : Status) : (State.replyPlain s r st).templates = s.templates :=
  (changes_replyPlain s r st .templates (by decide))
@[simp] theorem replyPlain_template (s : State) (r : ReplyTo) (st : Status) (x : TmplNo) : (State.replyPlain s r st).template x = s.template x := by
  simp only [State.template, replyPlain_templates]
@[simp] theorem replyPlain_printer (s : State) (r : ReplyTo) (st : Status) : (State.replyPlain s r st).printer = s.printer :=
  (changes_replyPlain s r st .printer (by decide))
@[simp] theorem replyPlain_events (s : State) (r : ReplyTo) (st : Status) : (State.replyPlain s r st).events = s.events :=
  (changes_replyPlain s r st .events (by decide))
@[simp] theorem replyPlain_event (s : State) (r : ReplyTo) (st : Status) (x : EventClass) : (State.replyPlain s r st).event x = s.event x := by
  simp only [State.event, replyPlain_events]
@[simp] theorem replyPlain_settings (s : State) (r : ReplyTo) (st : Status) : (State.replyPlain s r st).settings = s.settings :=
  (changes_replyPlain s r st .settings (by decide))
@[simp] theorem replyPlain_pending (s : State) (r : ReplyTo) (st : Status) : (State.replyPlain s r st).pending = s.pending :=
  (changes_replyPlain s r st .pending (by decide))

@[simp] theorem reply_images (s : State) (r : ReplyTo) (st : Status) (m n : Word16) : (s.reply r st m n).images = s.images :=
  (changes_reply s r st m n .images (by decide))
@[simp] theorem reply_image (s : State) (r : ReplyTo) (st : Status) (m n : Word16) (x : SlotNo) : (s.reply r st m n).image x = s.image x := by
  simp only [State.image, reply_images]
@[simp] theorem reply_accs (s : State) (r : ReplyTo) (st : Status) (m n : Word16) : (s.reply r st m n).accs = s.accs :=
  (changes_reply s r st m n .accs (by decide))
@[simp] theorem reply_acc (s : State) (r : ReplyTo) (st : Status) (m n : Word16) (x : WaveNo) : (s.reply r st m n).acc x = s.acc x := by
  simp only [State.acc, reply_accs]
@[simp] theorem reply_waves (s : State) (r : ReplyTo) (st : Status) (m n : Word16) : (s.reply r st m n).waves = s.waves :=
  (changes_reply s r st m n .waves (by decide))
@[simp] theorem reply_wave (s : State) (r : ReplyTo) (st : Status) (m n : Word16) (x : WaveNo) : (s.reply r st m n).wave x = s.wave x := by
  simp only [State.wave, reply_waves]
@[simp] theorem reply_drives (s : State) (r : ReplyTo) (st : Status) (m n : Word16) : (s.reply r st m n).drives = s.drives :=
  (changes_reply s r st m n .drives (by decide))
@[simp] theorem reply_drive (s : State) (r : ReplyTo) (st : Status) (m n : Word16) (x : Drive) : (s.reply r st m n).drive x = s.drive x := by
  simp only [State.drive, reply_drives]
@[simp] theorem reply_ladder (s : State) (r : ReplyTo) (st : Status) (m n : Word16) : (s.reply r st m n).ladder = s.ladder :=
  (changes_reply s r st m n .ladder (by decide))
@[simp] theorem reply_code (s : State) (r : ReplyTo) (st : Status) (m n : Word16) (x : Rung) : (s.reply r st m n).code x = s.code x := by
  simp only [State.code, reply_ladder]
@[simp] theorem reply_saves (s : State) (r : ReplyTo) (st : Status) (m n : Word16) : (s.reply r st m n).saves = s.saves :=
  (changes_reply s r st m n .saves (by decide))
@[simp] theorem reply_save (s : State) (r : ReplyTo) (st : Status) (m n : Word16) (x : Drive) : (s.reply r st m n).save x = s.save x := by
  simp only [State.save, reply_saves]
@[simp] theorem reply_verifyQueue (s : State) (r : ReplyTo) (st : Status) (m n : Word16) : (s.reply r st m n).verifyQueue = s.verifyQueue :=
  (changes_reply s r st m n .verifyQueue (by decide))
@[simp] theorem reply_contexts (s : State) (r : ReplyTo) (st : Status) (m n : Word16) : (s.reply r st m n).contexts = s.contexts :=
  (changes_reply s r st m n .contexts (by decide))
@[simp] theorem reply_context (s : State) (r : ReplyTo) (st : Status) (m n : Word16) (x : Fin 4) : (s.reply r st m n).context x = s.context x := by
  simp only [State.context, reply_contexts]
@[simp] theorem reply_orders (s : State) (r : ReplyTo) (st : Status) (m n : Word16) : (s.reply r st m n).orders = s.orders :=
  (changes_reply s r st m n .orders (by decide))
@[simp] theorem reply_order (s : State) (r : ReplyTo) (st : Status) (m n : Word16) (x : OrderNo) : (s.reply r st m n).order x = s.order x := by
  simp only [State.order, reply_orders]
@[simp] theorem reply_records (s : State) (r : ReplyTo) (st : Status) (m n : Word16) : (s.reply r st m n).records = s.records :=
  (changes_reply s r st m n .records (by decide))
@[simp] theorem reply_record (s : State) (r : ReplyTo) (st : Status) (m n : Word16) (x : RecNo) : (s.reply r st m n).record x = s.record x := by
  simp only [State.record, reply_records]
@[simp] theorem reply_stations (s : State) (r : ReplyTo) (st : Status) (m n : Word16) : (s.reply r st m n).stations = s.stations :=
  (changes_reply s r st m n .stations (by decide))
@[simp] theorem reply_station (s : State) (r : ReplyTo) (st : Status) (m n : Word16) (x : StationNo) : (s.reply r st m n).station x = s.station x := by
  simp only [State.station, reply_stations]
@[simp] theorem reply_queue (s : State) (r : ReplyTo) (st : Status) (m n : Word16) : (s.reply r st m n).queue = s.queue :=
  (changes_reply s r st m n .queue (by decide))
@[simp] theorem reply_transport (s : State) (r : ReplyTo) (st : Status) (m n : Word16) : (s.reply r st m n).transport = s.transport :=
  (changes_reply s r st m n .transport (by decide))
@[simp] theorem reply_artworks (s : State) (r : ReplyTo) (st : Status) (m n : Word16) : (s.reply r st m n).artworks = s.artworks :=
  (changes_reply s r st m n .artworks (by decide))
@[simp] theorem reply_artwork (s : State) (r : ReplyTo) (st : Status) (m n : Word16) (x : ArtNo) : (s.reply r st m n).artwork x = s.artwork x := by
  simp only [State.artwork, reply_artworks]
@[simp] theorem reply_templates (s : State) (r : ReplyTo) (st : Status) (m n : Word16) : (s.reply r st m n).templates = s.templates :=
  (changes_reply s r st m n .templates (by decide))
@[simp] theorem reply_template (s : State) (r : ReplyTo) (st : Status) (m n : Word16) (x : TmplNo) : (s.reply r st m n).template x = s.template x := by
  simp only [State.template, reply_templates]
@[simp] theorem reply_printer (s : State) (r : ReplyTo) (st : Status) (m n : Word16) : (s.reply r st m n).printer = s.printer :=
  (changes_reply s r st m n .printer (by decide))
@[simp] theorem reply_events (s : State) (r : ReplyTo) (st : Status) (m n : Word16) : (s.reply r st m n).events = s.events :=
  (changes_reply s r st m n .events (by decide))
@[simp] theorem reply_event (s : State) (r : ReplyTo) (st : Status) (m n : Word16) (x : EventClass) : (s.reply r st m n).event x = s.event x := by
  simp only [State.event, reply_events]
@[simp] theorem reply_settings (s : State) (r : ReplyTo) (st : Status) (m n : Word16) : (s.reply r st m n).settings = s.settings :=
  (changes_reply s r st m n .settings (by decide))
@[simp] theorem reply_pending (s : State) (r : ReplyTo) (st : Status) (m n : Word16) : (s.reply r st m n).pending = s.pending :=
  (changes_reply s r st m n .pending (by decide))

@[simp] theorem discard_images (s : State) (c : DiscardCause) : (s.discard c).images = s.images :=
  (changes_discard s c .images (by decide))
@[simp] theorem discard_image (s : State) (c : DiscardCause) (x : SlotNo) : (s.discard c).image x = s.image x := by
  simp only [State.image, discard_images]
@[simp] theorem discard_accs (s : State) (c : DiscardCause) : (s.discard c).accs = s.accs :=
  (changes_discard s c .accs (by decide))
@[simp] theorem discard_acc (s : State) (c : DiscardCause) (x : WaveNo) : (s.discard c).acc x = s.acc x := by
  simp only [State.acc, discard_accs]
@[simp] theorem discard_waves (s : State) (c : DiscardCause) : (s.discard c).waves = s.waves :=
  (changes_discard s c .waves (by decide))
@[simp] theorem discard_wave (s : State) (c : DiscardCause) (x : WaveNo) : (s.discard c).wave x = s.wave x := by
  simp only [State.wave, discard_waves]
@[simp] theorem discard_drives (s : State) (c : DiscardCause) : (s.discard c).drives = s.drives :=
  (changes_discard s c .drives (by decide))
@[simp] theorem discard_drive (s : State) (c : DiscardCause) (x : Drive) : (s.discard c).drive x = s.drive x := by
  simp only [State.drive, discard_drives]
@[simp] theorem discard_ladder (s : State) (c : DiscardCause) : (s.discard c).ladder = s.ladder :=
  (changes_discard s c .ladder (by decide))
@[simp] theorem discard_code (s : State) (c : DiscardCause) (x : Rung) : (s.discard c).code x = s.code x := by
  simp only [State.code, discard_ladder]
@[simp] theorem discard_saves (s : State) (c : DiscardCause) : (s.discard c).saves = s.saves :=
  (changes_discard s c .saves (by decide))
@[simp] theorem discard_save (s : State) (c : DiscardCause) (x : Drive) : (s.discard c).save x = s.save x := by
  simp only [State.save, discard_saves]
@[simp] theorem discard_verifyQueue (s : State) (c : DiscardCause) : (s.discard c).verifyQueue = s.verifyQueue :=
  (changes_discard s c .verifyQueue (by decide))
@[simp] theorem discard_contexts (s : State) (c : DiscardCause) : (s.discard c).contexts = s.contexts :=
  (changes_discard s c .contexts (by decide))
@[simp] theorem discard_context (s : State) (c : DiscardCause) (x : Fin 4) : (s.discard c).context x = s.context x := by
  simp only [State.context, discard_contexts]
@[simp] theorem discard_orders (s : State) (c : DiscardCause) : (s.discard c).orders = s.orders :=
  (changes_discard s c .orders (by decide))
@[simp] theorem discard_order (s : State) (c : DiscardCause) (x : OrderNo) : (s.discard c).order x = s.order x := by
  simp only [State.order, discard_orders]
@[simp] theorem discard_records (s : State) (c : DiscardCause) : (s.discard c).records = s.records :=
  (changes_discard s c .records (by decide))
@[simp] theorem discard_record (s : State) (c : DiscardCause) (x : RecNo) : (s.discard c).record x = s.record x := by
  simp only [State.record, discard_records]
@[simp] theorem discard_stations (s : State) (c : DiscardCause) : (s.discard c).stations = s.stations :=
  (changes_discard s c .stations (by decide))
@[simp] theorem discard_station (s : State) (c : DiscardCause) (x : StationNo) : (s.discard c).station x = s.station x := by
  simp only [State.station, discard_stations]
@[simp] theorem discard_queue (s : State) (c : DiscardCause) : (s.discard c).queue = s.queue :=
  (changes_discard s c .queue (by decide))
@[simp] theorem discard_transport (s : State) (c : DiscardCause) : (s.discard c).transport = s.transport :=
  (changes_discard s c .transport (by decide))
@[simp] theorem discard_artworks (s : State) (c : DiscardCause) : (s.discard c).artworks = s.artworks :=
  (changes_discard s c .artworks (by decide))
@[simp] theorem discard_artwork (s : State) (c : DiscardCause) (x : ArtNo) : (s.discard c).artwork x = s.artwork x := by
  simp only [State.artwork, discard_artworks]
@[simp] theorem discard_templates (s : State) (c : DiscardCause) : (s.discard c).templates = s.templates :=
  (changes_discard s c .templates (by decide))
@[simp] theorem discard_template (s : State) (c : DiscardCause) (x : TmplNo) : (s.discard c).template x = s.template x := by
  simp only [State.template, discard_templates]
@[simp] theorem discard_printer (s : State) (c : DiscardCause) : (s.discard c).printer = s.printer :=
  (changes_discard s c .printer (by decide))
@[simp] theorem discard_settings (s : State) (c : DiscardCause) : (s.discard c).settings = s.settings :=
  (changes_discard s c .settings (by decide))
@[simp] theorem discard_pending (s : State) (c : DiscardCause) : (s.discard c).pending = s.pending :=
  (changes_discard s c .pending (by decide))

@[simp] theorem sendDrive_images (s : State) (d : Drive) (req : DriveRequest) : (State.sendDrive s d req).images = s.images :=
  (changes_sendDrive s d req .images (by decide))
@[simp] theorem sendDrive_image (s : State) (d : Drive) (req : DriveRequest) (x : SlotNo) : (State.sendDrive s d req).image x = s.image x := by
  simp only [State.image, sendDrive_images]
@[simp] theorem sendDrive_accs (s : State) (d : Drive) (req : DriveRequest) : (State.sendDrive s d req).accs = s.accs :=
  (changes_sendDrive s d req .accs (by decide))
@[simp] theorem sendDrive_acc (s : State) (d : Drive) (req : DriveRequest) (x : WaveNo) : (State.sendDrive s d req).acc x = s.acc x := by
  simp only [State.acc, sendDrive_accs]
@[simp] theorem sendDrive_waves (s : State) (d : Drive) (req : DriveRequest) : (State.sendDrive s d req).waves = s.waves :=
  (changes_sendDrive s d req .waves (by decide))
@[simp] theorem sendDrive_wave (s : State) (d : Drive) (req : DriveRequest) (x : WaveNo) : (State.sendDrive s d req).wave x = s.wave x := by
  simp only [State.wave, sendDrive_waves]
@[simp] theorem sendDrive_ladder (s : State) (d : Drive) (req : DriveRequest) : (State.sendDrive s d req).ladder = s.ladder :=
  (changes_sendDrive s d req .ladder (by decide))
@[simp] theorem sendDrive_code (s : State) (d : Drive) (req : DriveRequest) (x : Rung) : (State.sendDrive s d req).code x = s.code x := by
  simp only [State.code, sendDrive_ladder]
@[simp] theorem sendDrive_saves (s : State) (d : Drive) (req : DriveRequest) : (State.sendDrive s d req).saves = s.saves :=
  (changes_sendDrive s d req .saves (by decide))
@[simp] theorem sendDrive_save (s : State) (d : Drive) (req : DriveRequest) (x : Drive) : (State.sendDrive s d req).save x = s.save x := by
  simp only [State.save, sendDrive_saves]
@[simp] theorem sendDrive_verifyQueue (s : State) (d : Drive) (req : DriveRequest) : (State.sendDrive s d req).verifyQueue = s.verifyQueue :=
  (changes_sendDrive s d req .verifyQueue (by decide))
@[simp] theorem sendDrive_contexts (s : State) (d : Drive) (req : DriveRequest) : (State.sendDrive s d req).contexts = s.contexts :=
  (changes_sendDrive s d req .contexts (by decide))
@[simp] theorem sendDrive_context (s : State) (d : Drive) (req : DriveRequest) (x : Fin 4) : (State.sendDrive s d req).context x = s.context x := by
  simp only [State.context, sendDrive_contexts]
@[simp] theorem sendDrive_orders (s : State) (d : Drive) (req : DriveRequest) : (State.sendDrive s d req).orders = s.orders :=
  (changes_sendDrive s d req .orders (by decide))
@[simp] theorem sendDrive_order (s : State) (d : Drive) (req : DriveRequest) (x : OrderNo) : (State.sendDrive s d req).order x = s.order x := by
  simp only [State.order, sendDrive_orders]
@[simp] theorem sendDrive_records (s : State) (d : Drive) (req : DriveRequest) : (State.sendDrive s d req).records = s.records :=
  (changes_sendDrive s d req .records (by decide))
@[simp] theorem sendDrive_record (s : State) (d : Drive) (req : DriveRequest) (x : RecNo) : (State.sendDrive s d req).record x = s.record x := by
  simp only [State.record, sendDrive_records]
@[simp] theorem sendDrive_stations (s : State) (d : Drive) (req : DriveRequest) : (State.sendDrive s d req).stations = s.stations :=
  (changes_sendDrive s d req .stations (by decide))
@[simp] theorem sendDrive_station (s : State) (d : Drive) (req : DriveRequest) (x : StationNo) : (State.sendDrive s d req).station x = s.station x := by
  simp only [State.station, sendDrive_stations]
@[simp] theorem sendDrive_queue (s : State) (d : Drive) (req : DriveRequest) : (State.sendDrive s d req).queue = s.queue :=
  (changes_sendDrive s d req .queue (by decide))
@[simp] theorem sendDrive_transport (s : State) (d : Drive) (req : DriveRequest) : (State.sendDrive s d req).transport = s.transport :=
  (changes_sendDrive s d req .transport (by decide))
@[simp] theorem sendDrive_artworks (s : State) (d : Drive) (req : DriveRequest) : (State.sendDrive s d req).artworks = s.artworks :=
  (changes_sendDrive s d req .artworks (by decide))
@[simp] theorem sendDrive_artwork (s : State) (d : Drive) (req : DriveRequest) (x : ArtNo) : (State.sendDrive s d req).artwork x = s.artwork x := by
  simp only [State.artwork, sendDrive_artworks]
@[simp] theorem sendDrive_templates (s : State) (d : Drive) (req : DriveRequest) : (State.sendDrive s d req).templates = s.templates :=
  (changes_sendDrive s d req .templates (by decide))
@[simp] theorem sendDrive_template (s : State) (d : Drive) (req : DriveRequest) (x : TmplNo) : (State.sendDrive s d req).template x = s.template x := by
  simp only [State.template, sendDrive_templates]
@[simp] theorem sendDrive_printer (s : State) (d : Drive) (req : DriveRequest) : (State.sendDrive s d req).printer = s.printer :=
  (changes_sendDrive s d req .printer (by decide))
@[simp] theorem sendDrive_feed (s : State) (d : Drive) (req : DriveRequest) : (State.sendDrive s d req).feed = s.feed :=
  (changes_sendDrive s d req .feed (by decide))
@[simp] theorem sendDrive_outbound (s : State) (d : Drive) (req : DriveRequest) : (State.sendDrive s d req).outbound = s.outbound :=
  (changes_sendDrive s d req .outbound (by decide))
@[simp] theorem sendDrive_events (s : State) (d : Drive) (req : DriveRequest) : (State.sendDrive s d req).events = s.events :=
  (changes_sendDrive s d req .events (by decide))
@[simp] theorem sendDrive_event (s : State) (d : Drive) (req : DriveRequest) (x : EventClass) : (State.sendDrive s d req).event x = s.event x := by
  simp only [State.event, sendDrive_events]
@[simp] theorem sendDrive_settings (s : State) (d : Drive) (req : DriveRequest) : (State.sendDrive s d req).settings = s.settings :=
  (changes_sendDrive s d req .settings (by decide))
@[simp] theorem sendDrive_pending (s : State) (d : Drive) (req : DriveRequest) : (State.sendDrive s d req).pending = s.pending :=
  (changes_sendDrive s d req .pending (by decide))

@[simp] theorem endApply_images (s : State) (d : Drive) (st : ApplyStatus) : (State.endApply s d st).images = s.images :=
  (changes_endApply s d st .images (by decide))
@[simp] theorem endApply_image (s : State) (d : Drive) (st : ApplyStatus) (x : SlotNo) : (State.endApply s d st).image x = s.image x := by
  simp only [State.image, endApply_images]
@[simp] theorem endApply_accs (s : State) (d : Drive) (st : ApplyStatus) : (State.endApply s d st).accs = s.accs :=
  (changes_endApply s d st .accs (by decide))
@[simp] theorem endApply_acc (s : State) (d : Drive) (st : ApplyStatus) (x : WaveNo) : (State.endApply s d st).acc x = s.acc x := by
  simp only [State.acc, endApply_accs]
@[simp] theorem endApply_waves (s : State) (d : Drive) (st : ApplyStatus) : (State.endApply s d st).waves = s.waves :=
  (changes_endApply s d st .waves (by decide))
@[simp] theorem endApply_wave (s : State) (d : Drive) (st : ApplyStatus) (x : WaveNo) : (State.endApply s d st).wave x = s.wave x := by
  simp only [State.wave, endApply_waves]
@[simp] theorem endApply_ladder (s : State) (d : Drive) (st : ApplyStatus) : (State.endApply s d st).ladder = s.ladder :=
  (changes_endApply s d st .ladder (by decide))
@[simp] theorem endApply_code (s : State) (d : Drive) (st : ApplyStatus) (x : Rung) : (State.endApply s d st).code x = s.code x := by
  simp only [State.code, endApply_ladder]
@[simp] theorem endApply_saves (s : State) (d : Drive) (st : ApplyStatus) : (State.endApply s d st).saves = s.saves :=
  (changes_endApply s d st .saves (by decide))
@[simp] theorem endApply_save (s : State) (d : Drive) (st : ApplyStatus) (x : Drive) : (State.endApply s d st).save x = s.save x := by
  simp only [State.save, endApply_saves]
@[simp] theorem endApply_verifyQueue (s : State) (d : Drive) (st : ApplyStatus) : (State.endApply s d st).verifyQueue = s.verifyQueue :=
  (changes_endApply s d st .verifyQueue (by decide))
@[simp] theorem endApply_contexts (s : State) (d : Drive) (st : ApplyStatus) : (State.endApply s d st).contexts = s.contexts :=
  (changes_endApply s d st .contexts (by decide))
@[simp] theorem endApply_context (s : State) (d : Drive) (st : ApplyStatus) (x : Fin 4) : (State.endApply s d st).context x = s.context x := by
  simp only [State.context, endApply_contexts]
@[simp] theorem endApply_orders (s : State) (d : Drive) (st : ApplyStatus) : (State.endApply s d st).orders = s.orders :=
  (changes_endApply s d st .orders (by decide))
@[simp] theorem endApply_order (s : State) (d : Drive) (st : ApplyStatus) (x : OrderNo) : (State.endApply s d st).order x = s.order x := by
  simp only [State.order, endApply_orders]
@[simp] theorem endApply_records (s : State) (d : Drive) (st : ApplyStatus) : (State.endApply s d st).records = s.records :=
  (changes_endApply s d st .records (by decide))
@[simp] theorem endApply_record (s : State) (d : Drive) (st : ApplyStatus) (x : RecNo) : (State.endApply s d st).record x = s.record x := by
  simp only [State.record, endApply_records]
@[simp] theorem endApply_stations (s : State) (d : Drive) (st : ApplyStatus) : (State.endApply s d st).stations = s.stations :=
  (changes_endApply s d st .stations (by decide))
@[simp] theorem endApply_station (s : State) (d : Drive) (st : ApplyStatus) (x : StationNo) : (State.endApply s d st).station x = s.station x := by
  simp only [State.station, endApply_stations]
@[simp] theorem endApply_queue (s : State) (d : Drive) (st : ApplyStatus) : (State.endApply s d st).queue = s.queue :=
  (changes_endApply s d st .queue (by decide))
@[simp] theorem endApply_transport (s : State) (d : Drive) (st : ApplyStatus) : (State.endApply s d st).transport = s.transport :=
  (changes_endApply s d st .transport (by decide))
@[simp] theorem endApply_artworks (s : State) (d : Drive) (st : ApplyStatus) : (State.endApply s d st).artworks = s.artworks :=
  (changes_endApply s d st .artworks (by decide))
@[simp] theorem endApply_artwork (s : State) (d : Drive) (st : ApplyStatus) (x : ArtNo) : (State.endApply s d st).artwork x = s.artwork x := by
  simp only [State.artwork, endApply_artworks]
@[simp] theorem endApply_templates (s : State) (d : Drive) (st : ApplyStatus) : (State.endApply s d st).templates = s.templates :=
  (changes_endApply s d st .templates (by decide))
@[simp] theorem endApply_template (s : State) (d : Drive) (st : ApplyStatus) (x : TmplNo) : (State.endApply s d st).template x = s.template x := by
  simp only [State.template, endApply_templates]
@[simp] theorem endApply_printer (s : State) (d : Drive) (st : ApplyStatus) : (State.endApply s d st).printer = s.printer :=
  (changes_endApply s d st .printer (by decide))
@[simp] theorem endApply_feed (s : State) (d : Drive) (st : ApplyStatus) : (State.endApply s d st).feed = s.feed :=
  (changes_endApply s d st .feed (by decide))
@[simp] theorem endApply_settings (s : State) (d : Drive) (st : ApplyStatus) : (State.endApply s d st).settings = s.settings :=
  (changes_endApply s d st .settings (by decide))
@[simp] theorem endApply_pending (s : State) (d : Drive) (st : ApplyStatus) : (State.endApply s d st).pending = s.pending :=
  (changes_endApply s d st .pending (by decide))

@[simp] theorem dropWaiting_images (s : State) (d : Drive) : (State.dropWaiting s d).images = s.images :=
  (changes_dropWaiting s d .images (by decide))
@[simp] theorem dropWaiting_image (s : State) (d : Drive) (x : SlotNo) : (State.dropWaiting s d).image x = s.image x := by
  simp only [State.image, dropWaiting_images]
@[simp] theorem dropWaiting_accs (s : State) (d : Drive) : (State.dropWaiting s d).accs = s.accs :=
  (changes_dropWaiting s d .accs (by decide))
@[simp] theorem dropWaiting_acc (s : State) (d : Drive) (x : WaveNo) : (State.dropWaiting s d).acc x = s.acc x := by
  simp only [State.acc, dropWaiting_accs]
@[simp] theorem dropWaiting_waves (s : State) (d : Drive) : (State.dropWaiting s d).waves = s.waves :=
  (changes_dropWaiting s d .waves (by decide))
@[simp] theorem dropWaiting_wave (s : State) (d : Drive) (x : WaveNo) : (State.dropWaiting s d).wave x = s.wave x := by
  simp only [State.wave, dropWaiting_waves]
@[simp] theorem dropWaiting_ladder (s : State) (d : Drive) : (State.dropWaiting s d).ladder = s.ladder :=
  (changes_dropWaiting s d .ladder (by decide))
@[simp] theorem dropWaiting_code (s : State) (d : Drive) (x : Rung) : (State.dropWaiting s d).code x = s.code x := by
  simp only [State.code, dropWaiting_ladder]
@[simp] theorem dropWaiting_saves (s : State) (d : Drive) : (State.dropWaiting s d).saves = s.saves :=
  (changes_dropWaiting s d .saves (by decide))
@[simp] theorem dropWaiting_save (s : State) (d : Drive) (x : Drive) : (State.dropWaiting s d).save x = s.save x := by
  simp only [State.save, dropWaiting_saves]
@[simp] theorem dropWaiting_verifyQueue (s : State) (d : Drive) : (State.dropWaiting s d).verifyQueue = s.verifyQueue :=
  (changes_dropWaiting s d .verifyQueue (by decide))
@[simp] theorem dropWaiting_contexts (s : State) (d : Drive) : (State.dropWaiting s d).contexts = s.contexts :=
  (changes_dropWaiting s d .contexts (by decide))
@[simp] theorem dropWaiting_context (s : State) (d : Drive) (x : Fin 4) : (State.dropWaiting s d).context x = s.context x := by
  simp only [State.context, dropWaiting_contexts]
@[simp] theorem dropWaiting_orders (s : State) (d : Drive) : (State.dropWaiting s d).orders = s.orders :=
  (changes_dropWaiting s d .orders (by decide))
@[simp] theorem dropWaiting_order (s : State) (d : Drive) (x : OrderNo) : (State.dropWaiting s d).order x = s.order x := by
  simp only [State.order, dropWaiting_orders]
@[simp] theorem dropWaiting_records (s : State) (d : Drive) : (State.dropWaiting s d).records = s.records :=
  (changes_dropWaiting s d .records (by decide))
@[simp] theorem dropWaiting_record (s : State) (d : Drive) (x : RecNo) : (State.dropWaiting s d).record x = s.record x := by
  simp only [State.record, dropWaiting_records]
@[simp] theorem dropWaiting_stations (s : State) (d : Drive) : (State.dropWaiting s d).stations = s.stations :=
  (changes_dropWaiting s d .stations (by decide))
@[simp] theorem dropWaiting_station (s : State) (d : Drive) (x : StationNo) : (State.dropWaiting s d).station x = s.station x := by
  simp only [State.station, dropWaiting_stations]
@[simp] theorem dropWaiting_queue (s : State) (d : Drive) : (State.dropWaiting s d).queue = s.queue :=
  (changes_dropWaiting s d .queue (by decide))
@[simp] theorem dropWaiting_transport (s : State) (d : Drive) : (State.dropWaiting s d).transport = s.transport :=
  (changes_dropWaiting s d .transport (by decide))
@[simp] theorem dropWaiting_artworks (s : State) (d : Drive) : (State.dropWaiting s d).artworks = s.artworks :=
  (changes_dropWaiting s d .artworks (by decide))
@[simp] theorem dropWaiting_artwork (s : State) (d : Drive) (x : ArtNo) : (State.dropWaiting s d).artwork x = s.artwork x := by
  simp only [State.artwork, dropWaiting_artworks]
@[simp] theorem dropWaiting_templates (s : State) (d : Drive) : (State.dropWaiting s d).templates = s.templates :=
  (changes_dropWaiting s d .templates (by decide))
@[simp] theorem dropWaiting_template (s : State) (d : Drive) (x : TmplNo) : (State.dropWaiting s d).template x = s.template x := by
  simp only [State.template, dropWaiting_templates]
@[simp] theorem dropWaiting_printer (s : State) (d : Drive) : (State.dropWaiting s d).printer = s.printer :=
  (changes_dropWaiting s d .printer (by decide))
@[simp] theorem dropWaiting_feed (s : State) (d : Drive) : (State.dropWaiting s d).feed = s.feed :=
  (changes_dropWaiting s d .feed (by decide))
@[simp] theorem dropWaiting_settings (s : State) (d : Drive) : (State.dropWaiting s d).settings = s.settings :=
  (changes_dropWaiting s d .settings (by decide))
@[simp] theorem dropWaiting_pending (s : State) (d : Drive) : (State.dropWaiting s d).pending = s.pending :=
  (changes_dropWaiting s d .pending (by decide))

@[simp] theorem askDrive_images (s : State) (d : Drive) (req : DriveRequest) : (State.askDrive s d req).images = s.images :=
  (changes_askDrive s d req .images (by decide))
@[simp] theorem askDrive_image (s : State) (d : Drive) (req : DriveRequest) (x : SlotNo) : (State.askDrive s d req).image x = s.image x := by
  simp only [State.image, askDrive_images]
@[simp] theorem askDrive_accs (s : State) (d : Drive) (req : DriveRequest) : (State.askDrive s d req).accs = s.accs :=
  (changes_askDrive s d req .accs (by decide))
@[simp] theorem askDrive_acc (s : State) (d : Drive) (req : DriveRequest) (x : WaveNo) : (State.askDrive s d req).acc x = s.acc x := by
  simp only [State.acc, askDrive_accs]
@[simp] theorem askDrive_waves (s : State) (d : Drive) (req : DriveRequest) : (State.askDrive s d req).waves = s.waves :=
  (changes_askDrive s d req .waves (by decide))
@[simp] theorem askDrive_wave (s : State) (d : Drive) (req : DriveRequest) (x : WaveNo) : (State.askDrive s d req).wave x = s.wave x := by
  simp only [State.wave, askDrive_waves]
@[simp] theorem askDrive_ladder (s : State) (d : Drive) (req : DriveRequest) : (State.askDrive s d req).ladder = s.ladder :=
  (changes_askDrive s d req .ladder (by decide))
@[simp] theorem askDrive_code (s : State) (d : Drive) (req : DriveRequest) (x : Rung) : (State.askDrive s d req).code x = s.code x := by
  simp only [State.code, askDrive_ladder]
@[simp] theorem askDrive_saves (s : State) (d : Drive) (req : DriveRequest) : (State.askDrive s d req).saves = s.saves :=
  (changes_askDrive s d req .saves (by decide))
@[simp] theorem askDrive_save (s : State) (d : Drive) (req : DriveRequest) (x : Drive) : (State.askDrive s d req).save x = s.save x := by
  simp only [State.save, askDrive_saves]
@[simp] theorem askDrive_verifyQueue (s : State) (d : Drive) (req : DriveRequest) : (State.askDrive s d req).verifyQueue = s.verifyQueue :=
  (changes_askDrive s d req .verifyQueue (by decide))
@[simp] theorem askDrive_contexts (s : State) (d : Drive) (req : DriveRequest) : (State.askDrive s d req).contexts = s.contexts :=
  (changes_askDrive s d req .contexts (by decide))
@[simp] theorem askDrive_context (s : State) (d : Drive) (req : DriveRequest) (x : Fin 4) : (State.askDrive s d req).context x = s.context x := by
  simp only [State.context, askDrive_contexts]
@[simp] theorem askDrive_orders (s : State) (d : Drive) (req : DriveRequest) : (State.askDrive s d req).orders = s.orders :=
  (changes_askDrive s d req .orders (by decide))
@[simp] theorem askDrive_order (s : State) (d : Drive) (req : DriveRequest) (x : OrderNo) : (State.askDrive s d req).order x = s.order x := by
  simp only [State.order, askDrive_orders]
@[simp] theorem askDrive_records (s : State) (d : Drive) (req : DriveRequest) : (State.askDrive s d req).records = s.records :=
  (changes_askDrive s d req .records (by decide))
@[simp] theorem askDrive_record (s : State) (d : Drive) (req : DriveRequest) (x : RecNo) : (State.askDrive s d req).record x = s.record x := by
  simp only [State.record, askDrive_records]
@[simp] theorem askDrive_stations (s : State) (d : Drive) (req : DriveRequest) : (State.askDrive s d req).stations = s.stations :=
  (changes_askDrive s d req .stations (by decide))
@[simp] theorem askDrive_station (s : State) (d : Drive) (req : DriveRequest) (x : StationNo) : (State.askDrive s d req).station x = s.station x := by
  simp only [State.station, askDrive_stations]
@[simp] theorem askDrive_queue (s : State) (d : Drive) (req : DriveRequest) : (State.askDrive s d req).queue = s.queue :=
  (changes_askDrive s d req .queue (by decide))
@[simp] theorem askDrive_transport (s : State) (d : Drive) (req : DriveRequest) : (State.askDrive s d req).transport = s.transport :=
  (changes_askDrive s d req .transport (by decide))
@[simp] theorem askDrive_artworks (s : State) (d : Drive) (req : DriveRequest) : (State.askDrive s d req).artworks = s.artworks :=
  (changes_askDrive s d req .artworks (by decide))
@[simp] theorem askDrive_artwork (s : State) (d : Drive) (req : DriveRequest) (x : ArtNo) : (State.askDrive s d req).artwork x = s.artwork x := by
  simp only [State.artwork, askDrive_artworks]
@[simp] theorem askDrive_templates (s : State) (d : Drive) (req : DriveRequest) : (State.askDrive s d req).templates = s.templates :=
  (changes_askDrive s d req .templates (by decide))
@[simp] theorem askDrive_template (s : State) (d : Drive) (req : DriveRequest) (x : TmplNo) : (State.askDrive s d req).template x = s.template x := by
  simp only [State.template, askDrive_templates]
@[simp] theorem askDrive_printer (s : State) (d : Drive) (req : DriveRequest) : (State.askDrive s d req).printer = s.printer :=
  (changes_askDrive s d req .printer (by decide))
@[simp] theorem askDrive_feed (s : State) (d : Drive) (req : DriveRequest) : (State.askDrive s d req).feed = s.feed :=
  (changes_askDrive s d req .feed (by decide))
@[simp] theorem askDrive_settings (s : State) (d : Drive) (req : DriveRequest) : (State.askDrive s d req).settings = s.settings :=
  (changes_askDrive s d req .settings (by decide))
@[simp] theorem askDrive_pending (s : State) (d : Drive) (req : DriveRequest) : (State.askDrive s d req).pending = s.pending :=
  (changes_askDrive s d req .pending (by decide))

@[simp] theorem sendWaiting_images (s : State) (d : Drive) : (State.sendWaiting s d).images = s.images :=
  (changes_sendWaiting s d .images (by decide))
@[simp] theorem sendWaiting_image (s : State) (d : Drive) (x : SlotNo) : (State.sendWaiting s d).image x = s.image x := by
  simp only [State.image, sendWaiting_images]
@[simp] theorem sendWaiting_accs (s : State) (d : Drive) : (State.sendWaiting s d).accs = s.accs :=
  (changes_sendWaiting s d .accs (by decide))
@[simp] theorem sendWaiting_acc (s : State) (d : Drive) (x : WaveNo) : (State.sendWaiting s d).acc x = s.acc x := by
  simp only [State.acc, sendWaiting_accs]
@[simp] theorem sendWaiting_waves (s : State) (d : Drive) : (State.sendWaiting s d).waves = s.waves :=
  (changes_sendWaiting s d .waves (by decide))
@[simp] theorem sendWaiting_wave (s : State) (d : Drive) (x : WaveNo) : (State.sendWaiting s d).wave x = s.wave x := by
  simp only [State.wave, sendWaiting_waves]
@[simp] theorem sendWaiting_ladder (s : State) (d : Drive) : (State.sendWaiting s d).ladder = s.ladder :=
  (changes_sendWaiting s d .ladder (by decide))
@[simp] theorem sendWaiting_code (s : State) (d : Drive) (x : Rung) : (State.sendWaiting s d).code x = s.code x := by
  simp only [State.code, sendWaiting_ladder]
@[simp] theorem sendWaiting_saves (s : State) (d : Drive) : (State.sendWaiting s d).saves = s.saves :=
  (changes_sendWaiting s d .saves (by decide))
@[simp] theorem sendWaiting_save (s : State) (d : Drive) (x : Drive) : (State.sendWaiting s d).save x = s.save x := by
  simp only [State.save, sendWaiting_saves]
@[simp] theorem sendWaiting_verifyQueue (s : State) (d : Drive) : (State.sendWaiting s d).verifyQueue = s.verifyQueue :=
  (changes_sendWaiting s d .verifyQueue (by decide))
@[simp] theorem sendWaiting_contexts (s : State) (d : Drive) : (State.sendWaiting s d).contexts = s.contexts :=
  (changes_sendWaiting s d .contexts (by decide))
@[simp] theorem sendWaiting_context (s : State) (d : Drive) (x : Fin 4) : (State.sendWaiting s d).context x = s.context x := by
  simp only [State.context, sendWaiting_contexts]
@[simp] theorem sendWaiting_orders (s : State) (d : Drive) : (State.sendWaiting s d).orders = s.orders :=
  (changes_sendWaiting s d .orders (by decide))
@[simp] theorem sendWaiting_order (s : State) (d : Drive) (x : OrderNo) : (State.sendWaiting s d).order x = s.order x := by
  simp only [State.order, sendWaiting_orders]
@[simp] theorem sendWaiting_records (s : State) (d : Drive) : (State.sendWaiting s d).records = s.records :=
  (changes_sendWaiting s d .records (by decide))
@[simp] theorem sendWaiting_record (s : State) (d : Drive) (x : RecNo) : (State.sendWaiting s d).record x = s.record x := by
  simp only [State.record, sendWaiting_records]
@[simp] theorem sendWaiting_stations (s : State) (d : Drive) : (State.sendWaiting s d).stations = s.stations :=
  (changes_sendWaiting s d .stations (by decide))
@[simp] theorem sendWaiting_station (s : State) (d : Drive) (x : StationNo) : (State.sendWaiting s d).station x = s.station x := by
  simp only [State.station, sendWaiting_stations]
@[simp] theorem sendWaiting_queue (s : State) (d : Drive) : (State.sendWaiting s d).queue = s.queue :=
  (changes_sendWaiting s d .queue (by decide))
@[simp] theorem sendWaiting_transport (s : State) (d : Drive) : (State.sendWaiting s d).transport = s.transport :=
  (changes_sendWaiting s d .transport (by decide))
@[simp] theorem sendWaiting_artworks (s : State) (d : Drive) : (State.sendWaiting s d).artworks = s.artworks :=
  (changes_sendWaiting s d .artworks (by decide))
@[simp] theorem sendWaiting_artwork (s : State) (d : Drive) (x : ArtNo) : (State.sendWaiting s d).artwork x = s.artwork x := by
  simp only [State.artwork, sendWaiting_artworks]
@[simp] theorem sendWaiting_templates (s : State) (d : Drive) : (State.sendWaiting s d).templates = s.templates :=
  (changes_sendWaiting s d .templates (by decide))
@[simp] theorem sendWaiting_template (s : State) (d : Drive) (x : TmplNo) : (State.sendWaiting s d).template x = s.template x := by
  simp only [State.template, sendWaiting_templates]
@[simp] theorem sendWaiting_printer (s : State) (d : Drive) : (State.sendWaiting s d).printer = s.printer :=
  (changes_sendWaiting s d .printer (by decide))
@[simp] theorem sendWaiting_feed (s : State) (d : Drive) : (State.sendWaiting s d).feed = s.feed :=
  (changes_sendWaiting s d .feed (by decide))
@[simp] theorem sendWaiting_outbound (s : State) (d : Drive) : (State.sendWaiting s d).outbound = s.outbound :=
  (changes_sendWaiting s d .outbound (by decide))
@[simp] theorem sendWaiting_events (s : State) (d : Drive) : (State.sendWaiting s d).events = s.events :=
  (changes_sendWaiting s d .events (by decide))
@[simp] theorem sendWaiting_event (s : State) (d : Drive) (x : EventClass) : (State.sendWaiting s d).event x = s.event x := by
  simp only [State.event, sendWaiting_events]
@[simp] theorem sendWaiting_settings (s : State) (d : Drive) : (State.sendWaiting s d).settings = s.settings :=
  (changes_sendWaiting s d .settings (by decide))
@[simp] theorem sendWaiting_pending (s : State) (d : Drive) : (State.sendWaiting s d).pending = s.pending :=
  (changes_sendWaiting s d .pending (by decide))

@[simp] theorem sendPrinter_images (s : State) (req : PrinterRequest) : (State.sendPrinter s req).images = s.images :=
  (changes_sendPrinter s req .images (by decide))
@[simp] theorem sendPrinter_image (s : State) (req : PrinterRequest) (x : SlotNo) : (State.sendPrinter s req).image x = s.image x := by
  simp only [State.image, sendPrinter_images]
@[simp] theorem sendPrinter_accs (s : State) (req : PrinterRequest) : (State.sendPrinter s req).accs = s.accs :=
  (changes_sendPrinter s req .accs (by decide))
@[simp] theorem sendPrinter_acc (s : State) (req : PrinterRequest) (x : WaveNo) : (State.sendPrinter s req).acc x = s.acc x := by
  simp only [State.acc, sendPrinter_accs]
@[simp] theorem sendPrinter_waves (s : State) (req : PrinterRequest) : (State.sendPrinter s req).waves = s.waves :=
  (changes_sendPrinter s req .waves (by decide))
@[simp] theorem sendPrinter_wave (s : State) (req : PrinterRequest) (x : WaveNo) : (State.sendPrinter s req).wave x = s.wave x := by
  simp only [State.wave, sendPrinter_waves]
@[simp] theorem sendPrinter_drives (s : State) (req : PrinterRequest) : (State.sendPrinter s req).drives = s.drives :=
  (changes_sendPrinter s req .drives (by decide))
@[simp] theorem sendPrinter_drive (s : State) (req : PrinterRequest) (x : Drive) : (State.sendPrinter s req).drive x = s.drive x := by
  simp only [State.drive, sendPrinter_drives]
@[simp] theorem sendPrinter_ladder (s : State) (req : PrinterRequest) : (State.sendPrinter s req).ladder = s.ladder :=
  (changes_sendPrinter s req .ladder (by decide))
@[simp] theorem sendPrinter_code (s : State) (req : PrinterRequest) (x : Rung) : (State.sendPrinter s req).code x = s.code x := by
  simp only [State.code, sendPrinter_ladder]
@[simp] theorem sendPrinter_saves (s : State) (req : PrinterRequest) : (State.sendPrinter s req).saves = s.saves :=
  (changes_sendPrinter s req .saves (by decide))
@[simp] theorem sendPrinter_save (s : State) (req : PrinterRequest) (x : Drive) : (State.sendPrinter s req).save x = s.save x := by
  simp only [State.save, sendPrinter_saves]
@[simp] theorem sendPrinter_verifyQueue (s : State) (req : PrinterRequest) : (State.sendPrinter s req).verifyQueue = s.verifyQueue :=
  (changes_sendPrinter s req .verifyQueue (by decide))
@[simp] theorem sendPrinter_contexts (s : State) (req : PrinterRequest) : (State.sendPrinter s req).contexts = s.contexts :=
  (changes_sendPrinter s req .contexts (by decide))
@[simp] theorem sendPrinter_context (s : State) (req : PrinterRequest) (x : Fin 4) : (State.sendPrinter s req).context x = s.context x := by
  simp only [State.context, sendPrinter_contexts]
@[simp] theorem sendPrinter_orders (s : State) (req : PrinterRequest) : (State.sendPrinter s req).orders = s.orders :=
  (changes_sendPrinter s req .orders (by decide))
@[simp] theorem sendPrinter_order (s : State) (req : PrinterRequest) (x : OrderNo) : (State.sendPrinter s req).order x = s.order x := by
  simp only [State.order, sendPrinter_orders]
@[simp] theorem sendPrinter_records (s : State) (req : PrinterRequest) : (State.sendPrinter s req).records = s.records :=
  (changes_sendPrinter s req .records (by decide))
@[simp] theorem sendPrinter_record (s : State) (req : PrinterRequest) (x : RecNo) : (State.sendPrinter s req).record x = s.record x := by
  simp only [State.record, sendPrinter_records]
@[simp] theorem sendPrinter_stations (s : State) (req : PrinterRequest) : (State.sendPrinter s req).stations = s.stations :=
  (changes_sendPrinter s req .stations (by decide))
@[simp] theorem sendPrinter_station (s : State) (req : PrinterRequest) (x : StationNo) : (State.sendPrinter s req).station x = s.station x := by
  simp only [State.station, sendPrinter_stations]
@[simp] theorem sendPrinter_queue (s : State) (req : PrinterRequest) : (State.sendPrinter s req).queue = s.queue :=
  (changes_sendPrinter s req .queue (by decide))
@[simp] theorem sendPrinter_transport (s : State) (req : PrinterRequest) : (State.sendPrinter s req).transport = s.transport :=
  (changes_sendPrinter s req .transport (by decide))
@[simp] theorem sendPrinter_artworks (s : State) (req : PrinterRequest) : (State.sendPrinter s req).artworks = s.artworks :=
  (changes_sendPrinter s req .artworks (by decide))
@[simp] theorem sendPrinter_artwork (s : State) (req : PrinterRequest) (x : ArtNo) : (State.sendPrinter s req).artwork x = s.artwork x := by
  simp only [State.artwork, sendPrinter_artworks]
@[simp] theorem sendPrinter_templates (s : State) (req : PrinterRequest) : (State.sendPrinter s req).templates = s.templates :=
  (changes_sendPrinter s req .templates (by decide))
@[simp] theorem sendPrinter_template (s : State) (req : PrinterRequest) (x : TmplNo) : (State.sendPrinter s req).template x = s.template x := by
  simp only [State.template, sendPrinter_templates]
@[simp] theorem sendPrinter_feed (s : State) (req : PrinterRequest) : (State.sendPrinter s req).feed = s.feed :=
  (changes_sendPrinter s req .feed (by decide))
@[simp] theorem sendPrinter_outbound (s : State) (req : PrinterRequest) : (State.sendPrinter s req).outbound = s.outbound :=
  (changes_sendPrinter s req .outbound (by decide))
@[simp] theorem sendPrinter_events (s : State) (req : PrinterRequest) : (State.sendPrinter s req).events = s.events :=
  (changes_sendPrinter s req .events (by decide))
@[simp] theorem sendPrinter_event (s : State) (req : PrinterRequest) (x : EventClass) : (State.sendPrinter s req).event x = s.event x := by
  simp only [State.event, sendPrinter_events]
@[simp] theorem sendPrinter_settings (s : State) (req : PrinterRequest) : (State.sendPrinter s req).settings = s.settings :=
  (changes_sendPrinter s req .settings (by decide))
@[simp] theorem sendPrinter_pending (s : State) (req : PrinterRequest) : (State.sendPrinter s req).pending = s.pending :=
  (changes_sendPrinter s req .pending (by decide))

@[simp] theorem askPrinter_images (s : State) (req : PrinterRequest) : (State.askPrinter s req).images = s.images :=
  (changes_askPrinter s req .images (by decide))
@[simp] theorem askPrinter_image (s : State) (req : PrinterRequest) (x : SlotNo) : (State.askPrinter s req).image x = s.image x := by
  simp only [State.image, askPrinter_images]
@[simp] theorem askPrinter_accs (s : State) (req : PrinterRequest) : (State.askPrinter s req).accs = s.accs :=
  (changes_askPrinter s req .accs (by decide))
@[simp] theorem askPrinter_acc (s : State) (req : PrinterRequest) (x : WaveNo) : (State.askPrinter s req).acc x = s.acc x := by
  simp only [State.acc, askPrinter_accs]
@[simp] theorem askPrinter_waves (s : State) (req : PrinterRequest) : (State.askPrinter s req).waves = s.waves :=
  (changes_askPrinter s req .waves (by decide))
@[simp] theorem askPrinter_wave (s : State) (req : PrinterRequest) (x : WaveNo) : (State.askPrinter s req).wave x = s.wave x := by
  simp only [State.wave, askPrinter_waves]
@[simp] theorem askPrinter_drives (s : State) (req : PrinterRequest) : (State.askPrinter s req).drives = s.drives :=
  (changes_askPrinter s req .drives (by decide))
@[simp] theorem askPrinter_drive (s : State) (req : PrinterRequest) (x : Drive) : (State.askPrinter s req).drive x = s.drive x := by
  simp only [State.drive, askPrinter_drives]
@[simp] theorem askPrinter_ladder (s : State) (req : PrinterRequest) : (State.askPrinter s req).ladder = s.ladder :=
  (changes_askPrinter s req .ladder (by decide))
@[simp] theorem askPrinter_code (s : State) (req : PrinterRequest) (x : Rung) : (State.askPrinter s req).code x = s.code x := by
  simp only [State.code, askPrinter_ladder]
@[simp] theorem askPrinter_saves (s : State) (req : PrinterRequest) : (State.askPrinter s req).saves = s.saves :=
  (changes_askPrinter s req .saves (by decide))
@[simp] theorem askPrinter_save (s : State) (req : PrinterRequest) (x : Drive) : (State.askPrinter s req).save x = s.save x := by
  simp only [State.save, askPrinter_saves]
@[simp] theorem askPrinter_verifyQueue (s : State) (req : PrinterRequest) : (State.askPrinter s req).verifyQueue = s.verifyQueue :=
  (changes_askPrinter s req .verifyQueue (by decide))
@[simp] theorem askPrinter_contexts (s : State) (req : PrinterRequest) : (State.askPrinter s req).contexts = s.contexts :=
  (changes_askPrinter s req .contexts (by decide))
@[simp] theorem askPrinter_context (s : State) (req : PrinterRequest) (x : Fin 4) : (State.askPrinter s req).context x = s.context x := by
  simp only [State.context, askPrinter_contexts]
@[simp] theorem askPrinter_orders (s : State) (req : PrinterRequest) : (State.askPrinter s req).orders = s.orders :=
  (changes_askPrinter s req .orders (by decide))
@[simp] theorem askPrinter_order (s : State) (req : PrinterRequest) (x : OrderNo) : (State.askPrinter s req).order x = s.order x := by
  simp only [State.order, askPrinter_orders]
@[simp] theorem askPrinter_records (s : State) (req : PrinterRequest) : (State.askPrinter s req).records = s.records :=
  (changes_askPrinter s req .records (by decide))
@[simp] theorem askPrinter_record (s : State) (req : PrinterRequest) (x : RecNo) : (State.askPrinter s req).record x = s.record x := by
  simp only [State.record, askPrinter_records]
@[simp] theorem askPrinter_stations (s : State) (req : PrinterRequest) : (State.askPrinter s req).stations = s.stations :=
  (changes_askPrinter s req .stations (by decide))
@[simp] theorem askPrinter_station (s : State) (req : PrinterRequest) (x : StationNo) : (State.askPrinter s req).station x = s.station x := by
  simp only [State.station, askPrinter_stations]
@[simp] theorem askPrinter_queue (s : State) (req : PrinterRequest) : (State.askPrinter s req).queue = s.queue :=
  (changes_askPrinter s req .queue (by decide))
@[simp] theorem askPrinter_transport (s : State) (req : PrinterRequest) : (State.askPrinter s req).transport = s.transport :=
  (changes_askPrinter s req .transport (by decide))
@[simp] theorem askPrinter_artworks (s : State) (req : PrinterRequest) : (State.askPrinter s req).artworks = s.artworks :=
  (changes_askPrinter s req .artworks (by decide))
@[simp] theorem askPrinter_artwork (s : State) (req : PrinterRequest) (x : ArtNo) : (State.askPrinter s req).artwork x = s.artwork x := by
  simp only [State.artwork, askPrinter_artworks]
@[simp] theorem askPrinter_templates (s : State) (req : PrinterRequest) : (State.askPrinter s req).templates = s.templates :=
  (changes_askPrinter s req .templates (by decide))
@[simp] theorem askPrinter_template (s : State) (req : PrinterRequest) (x : TmplNo) : (State.askPrinter s req).template x = s.template x := by
  simp only [State.template, askPrinter_templates]
@[simp] theorem askPrinter_feed (s : State) (req : PrinterRequest) : (State.askPrinter s req).feed = s.feed :=
  (changes_askPrinter s req .feed (by decide))
@[simp] theorem askPrinter_outbound (s : State) (req : PrinterRequest) : (State.askPrinter s req).outbound = s.outbound :=
  (changes_askPrinter s req .outbound (by decide))
@[simp] theorem askPrinter_events (s : State) (req : PrinterRequest) : (State.askPrinter s req).events = s.events :=
  (changes_askPrinter s req .events (by decide))
@[simp] theorem askPrinter_event (s : State) (req : PrinterRequest) (x : EventClass) : (State.askPrinter s req).event x = s.event x := by
  simp only [State.event, askPrinter_events]
@[simp] theorem askPrinter_settings (s : State) (req : PrinterRequest) : (State.askPrinter s req).settings = s.settings :=
  (changes_askPrinter s req .settings (by decide))
@[simp] theorem askPrinter_pending (s : State) (req : PrinterRequest) : (State.askPrinter s req).pending = s.pending :=
  (changes_askPrinter s req .pending (by decide))

@[simp] theorem sendArm_images (s : State) (op : ArmOp) : (State.sendArm s op).images = s.images :=
  (changes_sendArm s op .images (by decide))
@[simp] theorem sendArm_image (s : State) (op : ArmOp) (x : SlotNo) : (State.sendArm s op).image x = s.image x := by
  simp only [State.image, sendArm_images]
@[simp] theorem sendArm_accs (s : State) (op : ArmOp) : (State.sendArm s op).accs = s.accs :=
  (changes_sendArm s op .accs (by decide))
@[simp] theorem sendArm_acc (s : State) (op : ArmOp) (x : WaveNo) : (State.sendArm s op).acc x = s.acc x := by
  simp only [State.acc, sendArm_accs]
@[simp] theorem sendArm_waves (s : State) (op : ArmOp) : (State.sendArm s op).waves = s.waves :=
  (changes_sendArm s op .waves (by decide))
@[simp] theorem sendArm_wave (s : State) (op : ArmOp) (x : WaveNo) : (State.sendArm s op).wave x = s.wave x := by
  simp only [State.wave, sendArm_waves]
@[simp] theorem sendArm_drives (s : State) (op : ArmOp) : (State.sendArm s op).drives = s.drives :=
  (changes_sendArm s op .drives (by decide))
@[simp] theorem sendArm_drive (s : State) (op : ArmOp) (x : Drive) : (State.sendArm s op).drive x = s.drive x := by
  simp only [State.drive, sendArm_drives]
@[simp] theorem sendArm_ladder (s : State) (op : ArmOp) : (State.sendArm s op).ladder = s.ladder :=
  (changes_sendArm s op .ladder (by decide))
@[simp] theorem sendArm_code (s : State) (op : ArmOp) (x : Rung) : (State.sendArm s op).code x = s.code x := by
  simp only [State.code, sendArm_ladder]
@[simp] theorem sendArm_saves (s : State) (op : ArmOp) : (State.sendArm s op).saves = s.saves :=
  (changes_sendArm s op .saves (by decide))
@[simp] theorem sendArm_save (s : State) (op : ArmOp) (x : Drive) : (State.sendArm s op).save x = s.save x := by
  simp only [State.save, sendArm_saves]
@[simp] theorem sendArm_verifyQueue (s : State) (op : ArmOp) : (State.sendArm s op).verifyQueue = s.verifyQueue :=
  (changes_sendArm s op .verifyQueue (by decide))
@[simp] theorem sendArm_contexts (s : State) (op : ArmOp) : (State.sendArm s op).contexts = s.contexts :=
  (changes_sendArm s op .contexts (by decide))
@[simp] theorem sendArm_context (s : State) (op : ArmOp) (x : Fin 4) : (State.sendArm s op).context x = s.context x := by
  simp only [State.context, sendArm_contexts]
@[simp] theorem sendArm_orders (s : State) (op : ArmOp) : (State.sendArm s op).orders = s.orders :=
  (changes_sendArm s op .orders (by decide))
@[simp] theorem sendArm_order (s : State) (op : ArmOp) (x : OrderNo) : (State.sendArm s op).order x = s.order x := by
  simp only [State.order, sendArm_orders]
@[simp] theorem sendArm_records (s : State) (op : ArmOp) : (State.sendArm s op).records = s.records :=
  (changes_sendArm s op .records (by decide))
@[simp] theorem sendArm_record (s : State) (op : ArmOp) (x : RecNo) : (State.sendArm s op).record x = s.record x := by
  simp only [State.record, sendArm_records]
@[simp] theorem sendArm_stations (s : State) (op : ArmOp) : (State.sendArm s op).stations = s.stations :=
  (changes_sendArm s op .stations (by decide))
@[simp] theorem sendArm_station (s : State) (op : ArmOp) (x : StationNo) : (State.sendArm s op).station x = s.station x := by
  simp only [State.station, sendArm_stations]
@[simp] theorem sendArm_queue (s : State) (op : ArmOp) : (State.sendArm s op).queue = s.queue :=
  (changes_sendArm s op .queue (by decide))
@[simp] theorem sendArm_artworks (s : State) (op : ArmOp) : (State.sendArm s op).artworks = s.artworks :=
  (changes_sendArm s op .artworks (by decide))
@[simp] theorem sendArm_artwork (s : State) (op : ArmOp) (x : ArtNo) : (State.sendArm s op).artwork x = s.artwork x := by
  simp only [State.artwork, sendArm_artworks]
@[simp] theorem sendArm_templates (s : State) (op : ArmOp) : (State.sendArm s op).templates = s.templates :=
  (changes_sendArm s op .templates (by decide))
@[simp] theorem sendArm_template (s : State) (op : ArmOp) (x : TmplNo) : (State.sendArm s op).template x = s.template x := by
  simp only [State.template, sendArm_templates]
@[simp] theorem sendArm_printer (s : State) (op : ArmOp) : (State.sendArm s op).printer = s.printer :=
  (changes_sendArm s op .printer (by decide))
@[simp] theorem sendArm_feed (s : State) (op : ArmOp) : (State.sendArm s op).feed = s.feed :=
  (changes_sendArm s op .feed (by decide))
@[simp] theorem sendArm_outbound (s : State) (op : ArmOp) : (State.sendArm s op).outbound = s.outbound :=
  (changes_sendArm s op .outbound (by decide))
@[simp] theorem sendArm_events (s : State) (op : ArmOp) : (State.sendArm s op).events = s.events :=
  (changes_sendArm s op .events (by decide))
@[simp] theorem sendArm_event (s : State) (op : ArmOp) (x : EventClass) : (State.sendArm s op).event x = s.event x := by
  simp only [State.event, sendArm_events]
@[simp] theorem sendArm_settings (s : State) (op : ArmOp) : (State.sendArm s op).settings = s.settings :=
  (changes_sendArm s op .settings (by decide))
@[simp] theorem sendArm_pending (s : State) (op : ArmOp) : (State.sendArm s op).pending = s.pending :=
  (changes_sendArm s op .pending (by decide))

@[simp] theorem askHome_images (s : State) : (State.askHome s).images = s.images :=
  (changes_askHome s .images (by decide))
@[simp] theorem askHome_image (s : State) (x : SlotNo) : (State.askHome s).image x = s.image x := by
  simp only [State.image, askHome_images]
@[simp] theorem askHome_accs (s : State) : (State.askHome s).accs = s.accs :=
  (changes_askHome s .accs (by decide))
@[simp] theorem askHome_acc (s : State) (x : WaveNo) : (State.askHome s).acc x = s.acc x := by
  simp only [State.acc, askHome_accs]
@[simp] theorem askHome_waves (s : State) : (State.askHome s).waves = s.waves :=
  (changes_askHome s .waves (by decide))
@[simp] theorem askHome_wave (s : State) (x : WaveNo) : (State.askHome s).wave x = s.wave x := by
  simp only [State.wave, askHome_waves]
@[simp] theorem askHome_drives (s : State) : (State.askHome s).drives = s.drives :=
  (changes_askHome s .drives (by decide))
@[simp] theorem askHome_drive (s : State) (x : Drive) : (State.askHome s).drive x = s.drive x := by
  simp only [State.drive, askHome_drives]
@[simp] theorem askHome_ladder (s : State) : (State.askHome s).ladder = s.ladder :=
  (changes_askHome s .ladder (by decide))
@[simp] theorem askHome_code (s : State) (x : Rung) : (State.askHome s).code x = s.code x := by
  simp only [State.code, askHome_ladder]
@[simp] theorem askHome_saves (s : State) : (State.askHome s).saves = s.saves :=
  (changes_askHome s .saves (by decide))
@[simp] theorem askHome_save (s : State) (x : Drive) : (State.askHome s).save x = s.save x := by
  simp only [State.save, askHome_saves]
@[simp] theorem askHome_verifyQueue (s : State) : (State.askHome s).verifyQueue = s.verifyQueue :=
  (changes_askHome s .verifyQueue (by decide))
@[simp] theorem askHome_contexts (s : State) : (State.askHome s).contexts = s.contexts :=
  (changes_askHome s .contexts (by decide))
@[simp] theorem askHome_context (s : State) (x : Fin 4) : (State.askHome s).context x = s.context x := by
  simp only [State.context, askHome_contexts]
@[simp] theorem askHome_orders (s : State) : (State.askHome s).orders = s.orders :=
  (changes_askHome s .orders (by decide))
@[simp] theorem askHome_order (s : State) (x : OrderNo) : (State.askHome s).order x = s.order x := by
  simp only [State.order, askHome_orders]
@[simp] theorem askHome_records (s : State) : (State.askHome s).records = s.records :=
  (changes_askHome s .records (by decide))
@[simp] theorem askHome_record (s : State) (x : RecNo) : (State.askHome s).record x = s.record x := by
  simp only [State.record, askHome_records]
@[simp] theorem askHome_stations (s : State) : (State.askHome s).stations = s.stations :=
  (changes_askHome s .stations (by decide))
@[simp] theorem askHome_station (s : State) (x : StationNo) : (State.askHome s).station x = s.station x := by
  simp only [State.station, askHome_stations]
@[simp] theorem askHome_queue (s : State) : (State.askHome s).queue = s.queue :=
  (changes_askHome s .queue (by decide))
@[simp] theorem askHome_artworks (s : State) : (State.askHome s).artworks = s.artworks :=
  (changes_askHome s .artworks (by decide))
@[simp] theorem askHome_artwork (s : State) (x : ArtNo) : (State.askHome s).artwork x = s.artwork x := by
  simp only [State.artwork, askHome_artworks]
@[simp] theorem askHome_templates (s : State) : (State.askHome s).templates = s.templates :=
  (changes_askHome s .templates (by decide))
@[simp] theorem askHome_template (s : State) (x : TmplNo) : (State.askHome s).template x = s.template x := by
  simp only [State.template, askHome_templates]
@[simp] theorem askHome_printer (s : State) : (State.askHome s).printer = s.printer :=
  (changes_askHome s .printer (by decide))
@[simp] theorem askHome_feed (s : State) : (State.askHome s).feed = s.feed :=
  (changes_askHome s .feed (by decide))
@[simp] theorem askHome_outbound (s : State) : (State.askHome s).outbound = s.outbound :=
  (changes_askHome s .outbound (by decide))
@[simp] theorem askHome_events (s : State) : (State.askHome s).events = s.events :=
  (changes_askHome s .events (by decide))
@[simp] theorem askHome_event (s : State) (x : EventClass) : (State.askHome s).event x = s.event x := by
  simp only [State.event, askHome_events]
@[simp] theorem askHome_settings (s : State) : (State.askHome s).settings = s.settings :=
  (changes_askHome s .settings (by decide))
@[simp] theorem askHome_pending (s : State) : (State.askHome s).pending = s.pending :=
  (changes_askHome s .pending (by decide))

@[simp] theorem printerTray_images (s : State) : (State.printerTray s).images = s.images :=
  (changes_printerTray s .images (by decide))
@[simp] theorem printerTray_image (s : State) (x : SlotNo) : (State.printerTray s).image x = s.image x := by
  simp only [State.image, printerTray_images]
@[simp] theorem printerTray_accs (s : State) : (State.printerTray s).accs = s.accs :=
  (changes_printerTray s .accs (by decide))
@[simp] theorem printerTray_acc (s : State) (x : WaveNo) : (State.printerTray s).acc x = s.acc x := by
  simp only [State.acc, printerTray_accs]
@[simp] theorem printerTray_waves (s : State) : (State.printerTray s).waves = s.waves :=
  (changes_printerTray s .waves (by decide))
@[simp] theorem printerTray_wave (s : State) (x : WaveNo) : (State.printerTray s).wave x = s.wave x := by
  simp only [State.wave, printerTray_waves]
@[simp] theorem printerTray_drives (s : State) : (State.printerTray s).drives = s.drives :=
  (changes_printerTray s .drives (by decide))
@[simp] theorem printerTray_drive (s : State) (x : Drive) : (State.printerTray s).drive x = s.drive x := by
  simp only [State.drive, printerTray_drives]
@[simp] theorem printerTray_ladder (s : State) : (State.printerTray s).ladder = s.ladder :=
  (changes_printerTray s .ladder (by decide))
@[simp] theorem printerTray_code (s : State) (x : Rung) : (State.printerTray s).code x = s.code x := by
  simp only [State.code, printerTray_ladder]
@[simp] theorem printerTray_saves (s : State) : (State.printerTray s).saves = s.saves :=
  (changes_printerTray s .saves (by decide))
@[simp] theorem printerTray_save (s : State) (x : Drive) : (State.printerTray s).save x = s.save x := by
  simp only [State.save, printerTray_saves]
@[simp] theorem printerTray_verifyQueue (s : State) : (State.printerTray s).verifyQueue = s.verifyQueue :=
  (changes_printerTray s .verifyQueue (by decide))
@[simp] theorem printerTray_contexts (s : State) : (State.printerTray s).contexts = s.contexts :=
  (changes_printerTray s .contexts (by decide))
@[simp] theorem printerTray_context (s : State) (x : Fin 4) : (State.printerTray s).context x = s.context x := by
  simp only [State.context, printerTray_contexts]
@[simp] theorem printerTray_orders (s : State) : (State.printerTray s).orders = s.orders :=
  (changes_printerTray s .orders (by decide))
@[simp] theorem printerTray_order (s : State) (x : OrderNo) : (State.printerTray s).order x = s.order x := by
  simp only [State.order, printerTray_orders]
@[simp] theorem printerTray_records (s : State) : (State.printerTray s).records = s.records :=
  (changes_printerTray s .records (by decide))
@[simp] theorem printerTray_record (s : State) (x : RecNo) : (State.printerTray s).record x = s.record x := by
  simp only [State.record, printerTray_records]
@[simp] theorem printerTray_stations (s : State) : (State.printerTray s).stations = s.stations :=
  (changes_printerTray s .stations (by decide))
@[simp] theorem printerTray_station (s : State) (x : StationNo) : (State.printerTray s).station x = s.station x := by
  simp only [State.station, printerTray_stations]
@[simp] theorem printerTray_queue (s : State) : (State.printerTray s).queue = s.queue :=
  (changes_printerTray s .queue (by decide))
@[simp] theorem printerTray_transport (s : State) : (State.printerTray s).transport = s.transport :=
  (changes_printerTray s .transport (by decide))
@[simp] theorem printerTray_artworks (s : State) : (State.printerTray s).artworks = s.artworks :=
  (changes_printerTray s .artworks (by decide))
@[simp] theorem printerTray_artwork (s : State) (x : ArtNo) : (State.printerTray s).artwork x = s.artwork x := by
  simp only [State.artwork, printerTray_artworks]
@[simp] theorem printerTray_templates (s : State) : (State.printerTray s).templates = s.templates :=
  (changes_printerTray s .templates (by decide))
@[simp] theorem printerTray_template (s : State) (x : TmplNo) : (State.printerTray s).template x = s.template x := by
  simp only [State.template, printerTray_templates]
@[simp] theorem printerTray_feed (s : State) : (State.printerTray s).feed = s.feed :=
  (changes_printerTray s .feed (by decide))
@[simp] theorem printerTray_outbound (s : State) : (State.printerTray s).outbound = s.outbound :=
  (changes_printerTray s .outbound (by decide))
@[simp] theorem printerTray_events (s : State) : (State.printerTray s).events = s.events :=
  (changes_printerTray s .events (by decide))
@[simp] theorem printerTray_event (s : State) (x : EventClass) : (State.printerTray s).event x = s.event x := by
  simp only [State.event, printerTray_events]
@[simp] theorem printerTray_settings (s : State) : (State.printerTray s).settings = s.settings :=
  (changes_printerTray s .settings (by decide))
@[simp] theorem printerTray_pending (s : State) : (State.printerTray s).pending = s.pending :=
  (changes_printerTray s .pending (by decide))

@[simp] theorem enqueue_images (s : State) (e : Entry) : (State.enqueue s e).images = s.images :=
  (changes_enqueue s e .images (by decide))
@[simp] theorem enqueue_image (s : State) (e : Entry) (x : SlotNo) : (State.enqueue s e).image x = s.image x := by
  simp only [State.image, enqueue_images]
@[simp] theorem enqueue_accs (s : State) (e : Entry) : (State.enqueue s e).accs = s.accs :=
  (changes_enqueue s e .accs (by decide))
@[simp] theorem enqueue_acc (s : State) (e : Entry) (x : WaveNo) : (State.enqueue s e).acc x = s.acc x := by
  simp only [State.acc, enqueue_accs]
@[simp] theorem enqueue_waves (s : State) (e : Entry) : (State.enqueue s e).waves = s.waves :=
  (changes_enqueue s e .waves (by decide))
@[simp] theorem enqueue_wave (s : State) (e : Entry) (x : WaveNo) : (State.enqueue s e).wave x = s.wave x := by
  simp only [State.wave, enqueue_waves]
@[simp] theorem enqueue_drives (s : State) (e : Entry) : (State.enqueue s e).drives = s.drives :=
  (changes_enqueue s e .drives (by decide))
@[simp] theorem enqueue_drive (s : State) (e : Entry) (x : Drive) : (State.enqueue s e).drive x = s.drive x := by
  simp only [State.drive, enqueue_drives]
@[simp] theorem enqueue_ladder (s : State) (e : Entry) : (State.enqueue s e).ladder = s.ladder :=
  (changes_enqueue s e .ladder (by decide))
@[simp] theorem enqueue_code (s : State) (e : Entry) (x : Rung) : (State.enqueue s e).code x = s.code x := by
  simp only [State.code, enqueue_ladder]
@[simp] theorem enqueue_saves (s : State) (e : Entry) : (State.enqueue s e).saves = s.saves :=
  (changes_enqueue s e .saves (by decide))
@[simp] theorem enqueue_save (s : State) (e : Entry) (x : Drive) : (State.enqueue s e).save x = s.save x := by
  simp only [State.save, enqueue_saves]
@[simp] theorem enqueue_verifyQueue (s : State) (e : Entry) : (State.enqueue s e).verifyQueue = s.verifyQueue :=
  (changes_enqueue s e .verifyQueue (by decide))
@[simp] theorem enqueue_contexts (s : State) (e : Entry) : (State.enqueue s e).contexts = s.contexts :=
  (changes_enqueue s e .contexts (by decide))
@[simp] theorem enqueue_context (s : State) (e : Entry) (x : Fin 4) : (State.enqueue s e).context x = s.context x := by
  simp only [State.context, enqueue_contexts]
@[simp] theorem enqueue_orders (s : State) (e : Entry) : (State.enqueue s e).orders = s.orders :=
  (changes_enqueue s e .orders (by decide))
@[simp] theorem enqueue_order (s : State) (e : Entry) (x : OrderNo) : (State.enqueue s e).order x = s.order x := by
  simp only [State.order, enqueue_orders]
@[simp] theorem enqueue_records (s : State) (e : Entry) : (State.enqueue s e).records = s.records :=
  (changes_enqueue s e .records (by decide))
@[simp] theorem enqueue_record (s : State) (e : Entry) (x : RecNo) : (State.enqueue s e).record x = s.record x := by
  simp only [State.record, enqueue_records]
@[simp] theorem enqueue_stations (s : State) (e : Entry) : (State.enqueue s e).stations = s.stations :=
  (changes_enqueue s e .stations (by decide))
@[simp] theorem enqueue_station (s : State) (e : Entry) (x : StationNo) : (State.enqueue s e).station x = s.station x := by
  simp only [State.station, enqueue_stations]
@[simp] theorem enqueue_transport (s : State) (e : Entry) : (State.enqueue s e).transport = s.transport :=
  (changes_enqueue s e .transport (by decide))
@[simp] theorem enqueue_artworks (s : State) (e : Entry) : (State.enqueue s e).artworks = s.artworks :=
  (changes_enqueue s e .artworks (by decide))
@[simp] theorem enqueue_artwork (s : State) (e : Entry) (x : ArtNo) : (State.enqueue s e).artwork x = s.artwork x := by
  simp only [State.artwork, enqueue_artworks]
@[simp] theorem enqueue_templates (s : State) (e : Entry) : (State.enqueue s e).templates = s.templates :=
  (changes_enqueue s e .templates (by decide))
@[simp] theorem enqueue_template (s : State) (e : Entry) (x : TmplNo) : (State.enqueue s e).template x = s.template x := by
  simp only [State.template, enqueue_templates]
@[simp] theorem enqueue_feed (s : State) (e : Entry) : (State.enqueue s e).feed = s.feed :=
  (changes_enqueue s e .feed (by decide))
@[simp] theorem enqueue_outbound (s : State) (e : Entry) : (State.enqueue s e).outbound = s.outbound :=
  (changes_enqueue s e .outbound (by decide))
@[simp] theorem enqueue_events (s : State) (e : Entry) : (State.enqueue s e).events = s.events :=
  (changes_enqueue s e .events (by decide))
@[simp] theorem enqueue_event (s : State) (e : Entry) (x : EventClass) : (State.enqueue s e).event x = s.event x := by
  simp only [State.event, enqueue_events]
@[simp] theorem enqueue_settings (s : State) (e : Entry) : (State.enqueue s e).settings = s.settings :=
  (changes_enqueue s e .settings (by decide))
@[simp] theorem enqueue_pending (s : State) (e : Entry) : (State.enqueue s e).pending = s.pending :=
  (changes_enqueue s e .pending (by decide))

@[simp] theorem retire_images (s : State) (e : Entry) : (State.retire s e).images = s.images :=
  (changes_retire s e .images (by decide))
@[simp] theorem retire_image (s : State) (e : Entry) (x : SlotNo) : (State.retire s e).image x = s.image x := by
  simp only [State.image, retire_images]
@[simp] theorem retire_accs (s : State) (e : Entry) : (State.retire s e).accs = s.accs :=
  (changes_retire s e .accs (by decide))
@[simp] theorem retire_acc (s : State) (e : Entry) (x : WaveNo) : (State.retire s e).acc x = s.acc x := by
  simp only [State.acc, retire_accs]
@[simp] theorem retire_waves (s : State) (e : Entry) : (State.retire s e).waves = s.waves :=
  (changes_retire s e .waves (by decide))
@[simp] theorem retire_wave (s : State) (e : Entry) (x : WaveNo) : (State.retire s e).wave x = s.wave x := by
  simp only [State.wave, retire_waves]
@[simp] theorem retire_drives (s : State) (e : Entry) : (State.retire s e).drives = s.drives :=
  (changes_retire s e .drives (by decide))
@[simp] theorem retire_drive (s : State) (e : Entry) (x : Drive) : (State.retire s e).drive x = s.drive x := by
  simp only [State.drive, retire_drives]
@[simp] theorem retire_ladder (s : State) (e : Entry) : (State.retire s e).ladder = s.ladder :=
  (changes_retire s e .ladder (by decide))
@[simp] theorem retire_code (s : State) (e : Entry) (x : Rung) : (State.retire s e).code x = s.code x := by
  simp only [State.code, retire_ladder]
@[simp] theorem retire_saves (s : State) (e : Entry) : (State.retire s e).saves = s.saves :=
  (changes_retire s e .saves (by decide))
@[simp] theorem retire_save (s : State) (e : Entry) (x : Drive) : (State.retire s e).save x = s.save x := by
  simp only [State.save, retire_saves]
@[simp] theorem retire_verifyQueue (s : State) (e : Entry) : (State.retire s e).verifyQueue = s.verifyQueue :=
  (changes_retire s e .verifyQueue (by decide))
@[simp] theorem retire_contexts (s : State) (e : Entry) : (State.retire s e).contexts = s.contexts :=
  (changes_retire s e .contexts (by decide))
@[simp] theorem retire_context (s : State) (e : Entry) (x : Fin 4) : (State.retire s e).context x = s.context x := by
  simp only [State.context, retire_contexts]
@[simp] theorem retire_orders (s : State) (e : Entry) : (State.retire s e).orders = s.orders :=
  (changes_retire s e .orders (by decide))
@[simp] theorem retire_order (s : State) (e : Entry) (x : OrderNo) : (State.retire s e).order x = s.order x := by
  simp only [State.order, retire_orders]
@[simp] theorem retire_stations (s : State) (e : Entry) : (State.retire s e).stations = s.stations :=
  (changes_retire s e .stations (by decide))
@[simp] theorem retire_station (s : State) (e : Entry) (x : StationNo) : (State.retire s e).station x = s.station x := by
  simp only [State.station, retire_stations]
@[simp] theorem retire_artworks (s : State) (e : Entry) : (State.retire s e).artworks = s.artworks :=
  (changes_retire s e .artworks (by decide))
@[simp] theorem retire_artwork (s : State) (e : Entry) (x : ArtNo) : (State.retire s e).artwork x = s.artwork x := by
  simp only [State.artwork, retire_artworks]
@[simp] theorem retire_templates (s : State) (e : Entry) : (State.retire s e).templates = s.templates :=
  (changes_retire s e .templates (by decide))
@[simp] theorem retire_template (s : State) (e : Entry) (x : TmplNo) : (State.retire s e).template x = s.template x := by
  simp only [State.template, retire_templates]
@[simp] theorem retire_feed (s : State) (e : Entry) : (State.retire s e).feed = s.feed :=
  (changes_retire s e .feed (by decide))
@[simp] theorem retire_outbound (s : State) (e : Entry) : (State.retire s e).outbound = s.outbound :=
  (changes_retire s e .outbound (by decide))
@[simp] theorem retire_events (s : State) (e : Entry) : (State.retire s e).events = s.events :=
  (changes_retire s e .events (by decide))
@[simp] theorem retire_event (s : State) (e : Entry) (x : EventClass) : (State.retire s e).event x = s.event x := by
  simp only [State.event, retire_events]
@[simp] theorem retire_settings (s : State) (e : Entry) : (State.retire s e).settings = s.settings :=
  (changes_retire s e .settings (by decide))
@[simp] theorem retire_pending (s : State) (e : Entry) : (State.retire s e).pending = s.pending :=
  (changes_retire s e .pending (by decide))

@[simp] theorem takePending_images (s : State) (d : Drive) : (State.takePending s d).images = s.images :=
  (changes_takePending s d .images (by decide))
@[simp] theorem takePending_image (s : State) (d : Drive) (x : SlotNo) : (State.takePending s d).image x = s.image x := by
  simp only [State.image, takePending_images]
@[simp] theorem takePending_accs (s : State) (d : Drive) : (State.takePending s d).accs = s.accs :=
  (changes_takePending s d .accs (by decide))
@[simp] theorem takePending_acc (s : State) (d : Drive) (x : WaveNo) : (State.takePending s d).acc x = s.acc x := by
  simp only [State.acc, takePending_accs]
@[simp] theorem takePending_waves (s : State) (d : Drive) : (State.takePending s d).waves = s.waves :=
  (changes_takePending s d .waves (by decide))
@[simp] theorem takePending_wave (s : State) (d : Drive) (x : WaveNo) : (State.takePending s d).wave x = s.wave x := by
  simp only [State.wave, takePending_waves]
@[simp] theorem takePending_ladder (s : State) (d : Drive) : (State.takePending s d).ladder = s.ladder :=
  (changes_takePending s d .ladder (by decide))
@[simp] theorem takePending_code (s : State) (d : Drive) (x : Rung) : (State.takePending s d).code x = s.code x := by
  simp only [State.code, takePending_ladder]
@[simp] theorem takePending_saves (s : State) (d : Drive) : (State.takePending s d).saves = s.saves :=
  (changes_takePending s d .saves (by decide))
@[simp] theorem takePending_save (s : State) (d : Drive) (x : Drive) : (State.takePending s d).save x = s.save x := by
  simp only [State.save, takePending_saves]
@[simp] theorem takePending_verifyQueue (s : State) (d : Drive) : (State.takePending s d).verifyQueue = s.verifyQueue :=
  (changes_takePending s d .verifyQueue (by decide))
@[simp] theorem takePending_contexts (s : State) (d : Drive) : (State.takePending s d).contexts = s.contexts :=
  (changes_takePending s d .contexts (by decide))
@[simp] theorem takePending_context (s : State) (d : Drive) (x : Fin 4) : (State.takePending s d).context x = s.context x := by
  simp only [State.context, takePending_contexts]
@[simp] theorem takePending_orders (s : State) (d : Drive) : (State.takePending s d).orders = s.orders :=
  (changes_takePending s d .orders (by decide))
@[simp] theorem takePending_order (s : State) (d : Drive) (x : OrderNo) : (State.takePending s d).order x = s.order x := by
  simp only [State.order, takePending_orders]
@[simp] theorem takePending_records (s : State) (d : Drive) : (State.takePending s d).records = s.records :=
  (changes_takePending s d .records (by decide))
@[simp] theorem takePending_record (s : State) (d : Drive) (x : RecNo) : (State.takePending s d).record x = s.record x := by
  simp only [State.record, takePending_records]
@[simp] theorem takePending_stations (s : State) (d : Drive) : (State.takePending s d).stations = s.stations :=
  (changes_takePending s d .stations (by decide))
@[simp] theorem takePending_station (s : State) (d : Drive) (x : StationNo) : (State.takePending s d).station x = s.station x := by
  simp only [State.station, takePending_stations]
@[simp] theorem takePending_queue (s : State) (d : Drive) : (State.takePending s d).queue = s.queue :=
  (changes_takePending s d .queue (by decide))
@[simp] theorem takePending_transport (s : State) (d : Drive) : (State.takePending s d).transport = s.transport :=
  (changes_takePending s d .transport (by decide))
@[simp] theorem takePending_artworks (s : State) (d : Drive) : (State.takePending s d).artworks = s.artworks :=
  (changes_takePending s d .artworks (by decide))
@[simp] theorem takePending_artwork (s : State) (d : Drive) (x : ArtNo) : (State.takePending s d).artwork x = s.artwork x := by
  simp only [State.artwork, takePending_artworks]
@[simp] theorem takePending_templates (s : State) (d : Drive) : (State.takePending s d).templates = s.templates :=
  (changes_takePending s d .templates (by decide))
@[simp] theorem takePending_template (s : State) (d : Drive) (x : TmplNo) : (State.takePending s d).template x = s.template x := by
  simp only [State.template, takePending_templates]
@[simp] theorem takePending_printer (s : State) (d : Drive) : (State.takePending s d).printer = s.printer :=
  (changes_takePending s d .printer (by decide))
@[simp] theorem takePending_feed (s : State) (d : Drive) : (State.takePending s d).feed = s.feed :=
  (changes_takePending s d .feed (by decide))
@[simp] theorem takePending_settings (s : State) (d : Drive) : (State.takePending s d).settings = s.settings :=
  (changes_takePending s d .settings (by decide))
@[simp] theorem takePending_pending (s : State) (d : Drive) : (State.takePending s d).pending = s.pending :=
  (changes_takePending s d .pending (by decide))

@[simp] theorem reserve_images (s : State) (o : OrderNo) : (State.reserve s o).images = s.images :=
  (changes_reserve s o .images (by decide))
@[simp] theorem reserve_image (s : State) (o : OrderNo) (x : SlotNo) : (State.reserve s o).image x = s.image x := by
  simp only [State.image, reserve_images]
@[simp] theorem reserve_accs (s : State) (o : OrderNo) : (State.reserve s o).accs = s.accs :=
  (changes_reserve s o .accs (by decide))
@[simp] theorem reserve_acc (s : State) (o : OrderNo) (x : WaveNo) : (State.reserve s o).acc x = s.acc x := by
  simp only [State.acc, reserve_accs]
@[simp] theorem reserve_waves (s : State) (o : OrderNo) : (State.reserve s o).waves = s.waves :=
  (changes_reserve s o .waves (by decide))
@[simp] theorem reserve_wave (s : State) (o : OrderNo) (x : WaveNo) : (State.reserve s o).wave x = s.wave x := by
  simp only [State.wave, reserve_waves]
@[simp] theorem reserve_drives (s : State) (o : OrderNo) : (State.reserve s o).drives = s.drives :=
  (changes_reserve s o .drives (by decide))
@[simp] theorem reserve_drive (s : State) (o : OrderNo) (x : Drive) : (State.reserve s o).drive x = s.drive x := by
  simp only [State.drive, reserve_drives]
@[simp] theorem reserve_ladder (s : State) (o : OrderNo) : (State.reserve s o).ladder = s.ladder :=
  (changes_reserve s o .ladder (by decide))
@[simp] theorem reserve_code (s : State) (o : OrderNo) (x : Rung) : (State.reserve s o).code x = s.code x := by
  simp only [State.code, reserve_ladder]
@[simp] theorem reserve_saves (s : State) (o : OrderNo) : (State.reserve s o).saves = s.saves :=
  (changes_reserve s o .saves (by decide))
@[simp] theorem reserve_save (s : State) (o : OrderNo) (x : Drive) : (State.reserve s o).save x = s.save x := by
  simp only [State.save, reserve_saves]
@[simp] theorem reserve_verifyQueue (s : State) (o : OrderNo) : (State.reserve s o).verifyQueue = s.verifyQueue :=
  (changes_reserve s o .verifyQueue (by decide))
@[simp] theorem reserve_contexts (s : State) (o : OrderNo) : (State.reserve s o).contexts = s.contexts :=
  (changes_reserve s o .contexts (by decide))
@[simp] theorem reserve_context (s : State) (o : OrderNo) (x : Fin 4) : (State.reserve s o).context x = s.context x := by
  simp only [State.context, reserve_contexts]
@[simp] theorem reserve_records (s : State) (o : OrderNo) : (State.reserve s o).records = s.records :=
  (changes_reserve s o .records (by decide))
@[simp] theorem reserve_record (s : State) (o : OrderNo) (x : RecNo) : (State.reserve s o).record x = s.record x := by
  simp only [State.record, reserve_records]
@[simp] theorem reserve_stations (s : State) (o : OrderNo) : (State.reserve s o).stations = s.stations :=
  (changes_reserve s o .stations (by decide))
@[simp] theorem reserve_station (s : State) (o : OrderNo) (x : StationNo) : (State.reserve s o).station x = s.station x := by
  simp only [State.station, reserve_stations]
@[simp] theorem reserve_queue (s : State) (o : OrderNo) : (State.reserve s o).queue = s.queue :=
  (changes_reserve s o .queue (by decide))
@[simp] theorem reserve_transport (s : State) (o : OrderNo) : (State.reserve s o).transport = s.transport :=
  (changes_reserve s o .transport (by decide))
@[simp] theorem reserve_artworks (s : State) (o : OrderNo) : (State.reserve s o).artworks = s.artworks :=
  (changes_reserve s o .artworks (by decide))
@[simp] theorem reserve_artwork (s : State) (o : OrderNo) (x : ArtNo) : (State.reserve s o).artwork x = s.artwork x := by
  simp only [State.artwork, reserve_artworks]
@[simp] theorem reserve_templates (s : State) (o : OrderNo) : (State.reserve s o).templates = s.templates :=
  (changes_reserve s o .templates (by decide))
@[simp] theorem reserve_template (s : State) (o : OrderNo) (x : TmplNo) : (State.reserve s o).template x = s.template x := by
  simp only [State.template, reserve_templates]
@[simp] theorem reserve_printer (s : State) (o : OrderNo) : (State.reserve s o).printer = s.printer :=
  (changes_reserve s o .printer (by decide))
@[simp] theorem reserve_feed (s : State) (o : OrderNo) : (State.reserve s o).feed = s.feed :=
  (changes_reserve s o .feed (by decide))
@[simp] theorem reserve_outbound (s : State) (o : OrderNo) : (State.reserve s o).outbound = s.outbound :=
  (changes_reserve s o .outbound (by decide))
@[simp] theorem reserve_events (s : State) (o : OrderNo) : (State.reserve s o).events = s.events :=
  (changes_reserve s o .events (by decide))
@[simp] theorem reserve_event (s : State) (o : OrderNo) (x : EventClass) : (State.reserve s o).event x = s.event x := by
  simp only [State.event, reserve_events]
@[simp] theorem reserve_settings (s : State) (o : OrderNo) : (State.reserve s o).settings = s.settings :=
  (changes_reserve s o .settings (by decide))
@[simp] theorem reserve_pending (s : State) (o : OrderNo) : (State.reserve s o).pending = s.pending :=
  (changes_reserve s o .pending (by decide))

@[simp] theorem unreserve_images (s : State) (o : Option OrderNo) : (State.unreserve s o).images = s.images :=
  (changes_unreserve s o .images (by decide))
@[simp] theorem unreserve_image (s : State) (o : Option OrderNo) (x : SlotNo) : (State.unreserve s o).image x = s.image x := by
  simp only [State.image, unreserve_images]
@[simp] theorem unreserve_accs (s : State) (o : Option OrderNo) : (State.unreserve s o).accs = s.accs :=
  (changes_unreserve s o .accs (by decide))
@[simp] theorem unreserve_acc (s : State) (o : Option OrderNo) (x : WaveNo) : (State.unreserve s o).acc x = s.acc x := by
  simp only [State.acc, unreserve_accs]
@[simp] theorem unreserve_waves (s : State) (o : Option OrderNo) : (State.unreserve s o).waves = s.waves :=
  (changes_unreserve s o .waves (by decide))
@[simp] theorem unreserve_wave (s : State) (o : Option OrderNo) (x : WaveNo) : (State.unreserve s o).wave x = s.wave x := by
  simp only [State.wave, unreserve_waves]
@[simp] theorem unreserve_drives (s : State) (o : Option OrderNo) : (State.unreserve s o).drives = s.drives :=
  (changes_unreserve s o .drives (by decide))
@[simp] theorem unreserve_drive (s : State) (o : Option OrderNo) (x : Drive) : (State.unreserve s o).drive x = s.drive x := by
  simp only [State.drive, unreserve_drives]
@[simp] theorem unreserve_ladder (s : State) (o : Option OrderNo) : (State.unreserve s o).ladder = s.ladder :=
  (changes_unreserve s o .ladder (by decide))
@[simp] theorem unreserve_code (s : State) (o : Option OrderNo) (x : Rung) : (State.unreserve s o).code x = s.code x := by
  simp only [State.code, unreserve_ladder]
@[simp] theorem unreserve_saves (s : State) (o : Option OrderNo) : (State.unreserve s o).saves = s.saves :=
  (changes_unreserve s o .saves (by decide))
@[simp] theorem unreserve_save (s : State) (o : Option OrderNo) (x : Drive) : (State.unreserve s o).save x = s.save x := by
  simp only [State.save, unreserve_saves]
@[simp] theorem unreserve_verifyQueue (s : State) (o : Option OrderNo) : (State.unreserve s o).verifyQueue = s.verifyQueue :=
  (changes_unreserve s o .verifyQueue (by decide))
@[simp] theorem unreserve_contexts (s : State) (o : Option OrderNo) : (State.unreserve s o).contexts = s.contexts :=
  (changes_unreserve s o .contexts (by decide))
@[simp] theorem unreserve_context (s : State) (o : Option OrderNo) (x : Fin 4) : (State.unreserve s o).context x = s.context x := by
  simp only [State.context, unreserve_contexts]
@[simp] theorem unreserve_records (s : State) (o : Option OrderNo) : (State.unreserve s o).records = s.records :=
  (changes_unreserve s o .records (by decide))
@[simp] theorem unreserve_record (s : State) (o : Option OrderNo) (x : RecNo) : (State.unreserve s o).record x = s.record x := by
  simp only [State.record, unreserve_records]
@[simp] theorem unreserve_stations (s : State) (o : Option OrderNo) : (State.unreserve s o).stations = s.stations :=
  (changes_unreserve s o .stations (by decide))
@[simp] theorem unreserve_station (s : State) (o : Option OrderNo) (x : StationNo) : (State.unreserve s o).station x = s.station x := by
  simp only [State.station, unreserve_stations]
@[simp] theorem unreserve_queue (s : State) (o : Option OrderNo) : (State.unreserve s o).queue = s.queue :=
  (changes_unreserve s o .queue (by decide))
@[simp] theorem unreserve_transport (s : State) (o : Option OrderNo) : (State.unreserve s o).transport = s.transport :=
  (changes_unreserve s o .transport (by decide))
@[simp] theorem unreserve_artworks (s : State) (o : Option OrderNo) : (State.unreserve s o).artworks = s.artworks :=
  (changes_unreserve s o .artworks (by decide))
@[simp] theorem unreserve_artwork (s : State) (o : Option OrderNo) (x : ArtNo) : (State.unreserve s o).artwork x = s.artwork x := by
  simp only [State.artwork, unreserve_artworks]
@[simp] theorem unreserve_templates (s : State) (o : Option OrderNo) : (State.unreserve s o).templates = s.templates :=
  (changes_unreserve s o .templates (by decide))
@[simp] theorem unreserve_template (s : State) (o : Option OrderNo) (x : TmplNo) : (State.unreserve s o).template x = s.template x := by
  simp only [State.template, unreserve_templates]
@[simp] theorem unreserve_printer (s : State) (o : Option OrderNo) : (State.unreserve s o).printer = s.printer :=
  (changes_unreserve s o .printer (by decide))
@[simp] theorem unreserve_feed (s : State) (o : Option OrderNo) : (State.unreserve s o).feed = s.feed :=
  (changes_unreserve s o .feed (by decide))
@[simp] theorem unreserve_outbound (s : State) (o : Option OrderNo) : (State.unreserve s o).outbound = s.outbound :=
  (changes_unreserve s o .outbound (by decide))
@[simp] theorem unreserve_events (s : State) (o : Option OrderNo) : (State.unreserve s o).events = s.events :=
  (changes_unreserve s o .events (by decide))
@[simp] theorem unreserve_event (s : State) (o : Option OrderNo) (x : EventClass) : (State.unreserve s o).event x = s.event x := by
  simp only [State.event, unreserve_events]
@[simp] theorem unreserve_settings (s : State) (o : Option OrderNo) : (State.unreserve s o).settings = s.settings :=
  (changes_unreserve s o .settings (by decide))
@[simp] theorem unreserve_pending (s : State) (o : Option OrderNo) : (State.unreserve s o).pending = s.pending :=
  (changes_unreserve s o .pending (by decide))

@[simp] theorem decideDrive_images (s : State) (d : Drive) : (State.decideDrive s d).images = s.images :=
  (changes_decideDrive s d .images (by decide))
@[simp] theorem decideDrive_image (s : State) (d : Drive) (x : SlotNo) : (State.decideDrive s d).image x = s.image x := by
  simp only [State.image, decideDrive_images]
@[simp] theorem decideDrive_accs (s : State) (d : Drive) : (State.decideDrive s d).accs = s.accs :=
  (changes_decideDrive s d .accs (by decide))
@[simp] theorem decideDrive_acc (s : State) (d : Drive) (x : WaveNo) : (State.decideDrive s d).acc x = s.acc x := by
  simp only [State.acc, decideDrive_accs]
@[simp] theorem decideDrive_waves (s : State) (d : Drive) : (State.decideDrive s d).waves = s.waves :=
  (changes_decideDrive s d .waves (by decide))
@[simp] theorem decideDrive_wave (s : State) (d : Drive) (x : WaveNo) : (State.decideDrive s d).wave x = s.wave x := by
  simp only [State.wave, decideDrive_waves]
@[simp] theorem decideDrive_ladder (s : State) (d : Drive) : (State.decideDrive s d).ladder = s.ladder :=
  (changes_decideDrive s d .ladder (by decide))
@[simp] theorem decideDrive_code (s : State) (d : Drive) (x : Rung) : (State.decideDrive s d).code x = s.code x := by
  simp only [State.code, decideDrive_ladder]
@[simp] theorem decideDrive_saves (s : State) (d : Drive) : (State.decideDrive s d).saves = s.saves :=
  (changes_decideDrive s d .saves (by decide))
@[simp] theorem decideDrive_save (s : State) (d : Drive) (x : Drive) : (State.decideDrive s d).save x = s.save x := by
  simp only [State.save, decideDrive_saves]
@[simp] theorem decideDrive_verifyQueue (s : State) (d : Drive) : (State.decideDrive s d).verifyQueue = s.verifyQueue :=
  (changes_decideDrive s d .verifyQueue (by decide))
@[simp] theorem decideDrive_contexts (s : State) (d : Drive) : (State.decideDrive s d).contexts = s.contexts :=
  (changes_decideDrive s d .contexts (by decide))
@[simp] theorem decideDrive_context (s : State) (d : Drive) (x : Fin 4) : (State.decideDrive s d).context x = s.context x := by
  simp only [State.context, decideDrive_contexts]
@[simp] theorem decideDrive_records (s : State) (d : Drive) : (State.decideDrive s d).records = s.records :=
  (changes_decideDrive s d .records (by decide))
@[simp] theorem decideDrive_record (s : State) (d : Drive) (x : RecNo) : (State.decideDrive s d).record x = s.record x := by
  simp only [State.record, decideDrive_records]
@[simp] theorem decideDrive_stations (s : State) (d : Drive) : (State.decideDrive s d).stations = s.stations :=
  (changes_decideDrive s d .stations (by decide))
@[simp] theorem decideDrive_station (s : State) (d : Drive) (x : StationNo) : (State.decideDrive s d).station x = s.station x := by
  simp only [State.station, decideDrive_stations]
@[simp] theorem decideDrive_transport (s : State) (d : Drive) : (State.decideDrive s d).transport = s.transport :=
  (changes_decideDrive s d .transport (by decide))
@[simp] theorem decideDrive_artworks (s : State) (d : Drive) : (State.decideDrive s d).artworks = s.artworks :=
  (changes_decideDrive s d .artworks (by decide))
@[simp] theorem decideDrive_artwork (s : State) (d : Drive) (x : ArtNo) : (State.decideDrive s d).artwork x = s.artwork x := by
  simp only [State.artwork, decideDrive_artworks]
@[simp] theorem decideDrive_templates (s : State) (d : Drive) : (State.decideDrive s d).templates = s.templates :=
  (changes_decideDrive s d .templates (by decide))
@[simp] theorem decideDrive_template (s : State) (d : Drive) (x : TmplNo) : (State.decideDrive s d).template x = s.template x := by
  simp only [State.template, decideDrive_templates]
@[simp] theorem decideDrive_feed (s : State) (d : Drive) : (State.decideDrive s d).feed = s.feed :=
  (changes_decideDrive s d .feed (by decide))
@[simp] theorem decideDrive_settings (s : State) (d : Drive) : (State.decideDrive s d).settings = s.settings :=
  (changes_decideDrive s d .settings (by decide))
@[simp] theorem decideDrive_pending (s : State) (d : Drive) : (State.decideDrive s d).pending = s.pending :=
  (changes_decideDrive s d .pending (by decide))

@[simp] theorem loadDecision_images (s : State) : (State.loadDecision s).images = s.images :=
  (changes_loadDecision s .images (by decide))
@[simp] theorem loadDecision_image (s : State) (x : SlotNo) : (State.loadDecision s).image x = s.image x := by
  simp only [State.image, loadDecision_images]
@[simp] theorem loadDecision_accs (s : State) : (State.loadDecision s).accs = s.accs :=
  (changes_loadDecision s .accs (by decide))
@[simp] theorem loadDecision_acc (s : State) (x : WaveNo) : (State.loadDecision s).acc x = s.acc x := by
  simp only [State.acc, loadDecision_accs]
@[simp] theorem loadDecision_waves (s : State) : (State.loadDecision s).waves = s.waves :=
  (changes_loadDecision s .waves (by decide))
@[simp] theorem loadDecision_wave (s : State) (x : WaveNo) : (State.loadDecision s).wave x = s.wave x := by
  simp only [State.wave, loadDecision_waves]
@[simp] theorem loadDecision_ladder (s : State) : (State.loadDecision s).ladder = s.ladder :=
  (changes_loadDecision s .ladder (by decide))
@[simp] theorem loadDecision_code (s : State) (x : Rung) : (State.loadDecision s).code x = s.code x := by
  simp only [State.code, loadDecision_ladder]
@[simp] theorem loadDecision_saves (s : State) : (State.loadDecision s).saves = s.saves :=
  (changes_loadDecision s .saves (by decide))
@[simp] theorem loadDecision_save (s : State) (x : Drive) : (State.loadDecision s).save x = s.save x := by
  simp only [State.save, loadDecision_saves]
@[simp] theorem loadDecision_verifyQueue (s : State) : (State.loadDecision s).verifyQueue = s.verifyQueue :=
  (changes_loadDecision s .verifyQueue (by decide))
@[simp] theorem loadDecision_contexts (s : State) : (State.loadDecision s).contexts = s.contexts :=
  (changes_loadDecision s .contexts (by decide))
@[simp] theorem loadDecision_context (s : State) (x : Fin 4) : (State.loadDecision s).context x = s.context x := by
  simp only [State.context, loadDecision_contexts]
@[simp] theorem loadDecision_records (s : State) : (State.loadDecision s).records = s.records :=
  (changes_loadDecision s .records (by decide))
@[simp] theorem loadDecision_record (s : State) (x : RecNo) : (State.loadDecision s).record x = s.record x := by
  simp only [State.record, loadDecision_records]
@[simp] theorem loadDecision_stations (s : State) : (State.loadDecision s).stations = s.stations :=
  (changes_loadDecision s .stations (by decide))
@[simp] theorem loadDecision_station (s : State) (x : StationNo) : (State.loadDecision s).station x = s.station x := by
  simp only [State.station, loadDecision_stations]
@[simp] theorem loadDecision_transport (s : State) : (State.loadDecision s).transport = s.transport :=
  (changes_loadDecision s .transport (by decide))
@[simp] theorem loadDecision_artworks (s : State) : (State.loadDecision s).artworks = s.artworks :=
  (changes_loadDecision s .artworks (by decide))
@[simp] theorem loadDecision_artwork (s : State) (x : ArtNo) : (State.loadDecision s).artwork x = s.artwork x := by
  simp only [State.artwork, loadDecision_artworks]
@[simp] theorem loadDecision_templates (s : State) : (State.loadDecision s).templates = s.templates :=
  (changes_loadDecision s .templates (by decide))
@[simp] theorem loadDecision_template (s : State) (x : TmplNo) : (State.loadDecision s).template x = s.template x := by
  simp only [State.template, loadDecision_templates]
@[simp] theorem loadDecision_feed (s : State) : (State.loadDecision s).feed = s.feed :=
  (changes_loadDecision s .feed (by decide))
@[simp] theorem loadDecision_settings (s : State) : (State.loadDecision s).settings = s.settings :=
  (changes_loadDecision s .settings (by decide))
@[simp] theorem loadDecision_pending (s : State) : (State.loadDecision s).pending = s.pending :=
  (changes_loadDecision s .pending (by decide))

@[simp] theorem loadRetired_images (s : State) (d : Option Drive) : (State.loadRetired s d).images = s.images :=
  (changes_loadRetired s d .images (by decide))
@[simp] theorem loadRetired_image (s : State) (d : Option Drive) (x : SlotNo) : (State.loadRetired s d).image x = s.image x := by
  simp only [State.image, loadRetired_images]
@[simp] theorem loadRetired_accs (s : State) (d : Option Drive) : (State.loadRetired s d).accs = s.accs :=
  (changes_loadRetired s d .accs (by decide))
@[simp] theorem loadRetired_acc (s : State) (d : Option Drive) (x : WaveNo) : (State.loadRetired s d).acc x = s.acc x := by
  simp only [State.acc, loadRetired_accs]
@[simp] theorem loadRetired_waves (s : State) (d : Option Drive) : (State.loadRetired s d).waves = s.waves :=
  (changes_loadRetired s d .waves (by decide))
@[simp] theorem loadRetired_wave (s : State) (d : Option Drive) (x : WaveNo) : (State.loadRetired s d).wave x = s.wave x := by
  simp only [State.wave, loadRetired_waves]
@[simp] theorem loadRetired_ladder (s : State) (d : Option Drive) : (State.loadRetired s d).ladder = s.ladder :=
  (changes_loadRetired s d .ladder (by decide))
@[simp] theorem loadRetired_code (s : State) (d : Option Drive) (x : Rung) : (State.loadRetired s d).code x = s.code x := by
  simp only [State.code, loadRetired_ladder]
@[simp] theorem loadRetired_saves (s : State) (d : Option Drive) : (State.loadRetired s d).saves = s.saves :=
  (changes_loadRetired s d .saves (by decide))
@[simp] theorem loadRetired_save (s : State) (d : Option Drive) (x : Drive) : (State.loadRetired s d).save x = s.save x := by
  simp only [State.save, loadRetired_saves]
@[simp] theorem loadRetired_verifyQueue (s : State) (d : Option Drive) : (State.loadRetired s d).verifyQueue = s.verifyQueue :=
  (changes_loadRetired s d .verifyQueue (by decide))
@[simp] theorem loadRetired_contexts (s : State) (d : Option Drive) : (State.loadRetired s d).contexts = s.contexts :=
  (changes_loadRetired s d .contexts (by decide))
@[simp] theorem loadRetired_context (s : State) (d : Option Drive) (x : Fin 4) : (State.loadRetired s d).context x = s.context x := by
  simp only [State.context, loadRetired_contexts]
@[simp] theorem loadRetired_orders (s : State) (d : Option Drive) : (State.loadRetired s d).orders = s.orders :=
  (changes_loadRetired s d .orders (by decide))
@[simp] theorem loadRetired_order (s : State) (d : Option Drive) (x : OrderNo) : (State.loadRetired s d).order x = s.order x := by
  simp only [State.order, loadRetired_orders]
@[simp] theorem loadRetired_records (s : State) (d : Option Drive) : (State.loadRetired s d).records = s.records :=
  (changes_loadRetired s d .records (by decide))
@[simp] theorem loadRetired_record (s : State) (d : Option Drive) (x : RecNo) : (State.loadRetired s d).record x = s.record x := by
  simp only [State.record, loadRetired_records]
@[simp] theorem loadRetired_stations (s : State) (d : Option Drive) : (State.loadRetired s d).stations = s.stations :=
  (changes_loadRetired s d .stations (by decide))
@[simp] theorem loadRetired_station (s : State) (d : Option Drive) (x : StationNo) : (State.loadRetired s d).station x = s.station x := by
  simp only [State.station, loadRetired_stations]
@[simp] theorem loadRetired_queue (s : State) (d : Option Drive) : (State.loadRetired s d).queue = s.queue :=
  (changes_loadRetired s d .queue (by decide))
@[simp] theorem loadRetired_transport (s : State) (d : Option Drive) : (State.loadRetired s d).transport = s.transport :=
  (changes_loadRetired s d .transport (by decide))
@[simp] theorem loadRetired_artworks (s : State) (d : Option Drive) : (State.loadRetired s d).artworks = s.artworks :=
  (changes_loadRetired s d .artworks (by decide))
@[simp] theorem loadRetired_artwork (s : State) (d : Option Drive) (x : ArtNo) : (State.loadRetired s d).artwork x = s.artwork x := by
  simp only [State.artwork, loadRetired_artworks]
@[simp] theorem loadRetired_templates (s : State) (d : Option Drive) : (State.loadRetired s d).templates = s.templates :=
  (changes_loadRetired s d .templates (by decide))
@[simp] theorem loadRetired_template (s : State) (d : Option Drive) (x : TmplNo) : (State.loadRetired s d).template x = s.template x := by
  simp only [State.template, loadRetired_templates]
@[simp] theorem loadRetired_printer (s : State) (d : Option Drive) : (State.loadRetired s d).printer = s.printer :=
  (changes_loadRetired s d .printer (by decide))
@[simp] theorem loadRetired_feed (s : State) (d : Option Drive) : (State.loadRetired s d).feed = s.feed :=
  (changes_loadRetired s d .feed (by decide))
@[simp] theorem loadRetired_settings (s : State) (d : Option Drive) : (State.loadRetired s d).settings = s.settings :=
  (changes_loadRetired s d .settings (by decide))
@[simp] theorem loadRetired_pending (s : State) (d : Option Drive) : (State.loadRetired s d).pending = s.pending :=
  (changes_loadRetired s d .pending (by decide))

@[simp] theorem retireLoad_images (s : State) (e : Entry) : (State.retireLoad s e).images = s.images :=
  (changes_retireLoad s e .images (by decide))
@[simp] theorem retireLoad_image (s : State) (e : Entry) (x : SlotNo) : (State.retireLoad s e).image x = s.image x := by
  simp only [State.image, retireLoad_images]
@[simp] theorem retireLoad_accs (s : State) (e : Entry) : (State.retireLoad s e).accs = s.accs :=
  (changes_retireLoad s e .accs (by decide))
@[simp] theorem retireLoad_acc (s : State) (e : Entry) (x : WaveNo) : (State.retireLoad s e).acc x = s.acc x := by
  simp only [State.acc, retireLoad_accs]
@[simp] theorem retireLoad_waves (s : State) (e : Entry) : (State.retireLoad s e).waves = s.waves :=
  (changes_retireLoad s e .waves (by decide))
@[simp] theorem retireLoad_wave (s : State) (e : Entry) (x : WaveNo) : (State.retireLoad s e).wave x = s.wave x := by
  simp only [State.wave, retireLoad_waves]
@[simp] theorem retireLoad_ladder (s : State) (e : Entry) : (State.retireLoad s e).ladder = s.ladder :=
  (changes_retireLoad s e .ladder (by decide))
@[simp] theorem retireLoad_code (s : State) (e : Entry) (x : Rung) : (State.retireLoad s e).code x = s.code x := by
  simp only [State.code, retireLoad_ladder]
@[simp] theorem retireLoad_saves (s : State) (e : Entry) : (State.retireLoad s e).saves = s.saves :=
  (changes_retireLoad s e .saves (by decide))
@[simp] theorem retireLoad_save (s : State) (e : Entry) (x : Drive) : (State.retireLoad s e).save x = s.save x := by
  simp only [State.save, retireLoad_saves]
@[simp] theorem retireLoad_verifyQueue (s : State) (e : Entry) : (State.retireLoad s e).verifyQueue = s.verifyQueue :=
  (changes_retireLoad s e .verifyQueue (by decide))
@[simp] theorem retireLoad_contexts (s : State) (e : Entry) : (State.retireLoad s e).contexts = s.contexts :=
  (changes_retireLoad s e .contexts (by decide))
@[simp] theorem retireLoad_context (s : State) (e : Entry) (x : Fin 4) : (State.retireLoad s e).context x = s.context x := by
  simp only [State.context, retireLoad_contexts]
@[simp] theorem retireLoad_stations (s : State) (e : Entry) : (State.retireLoad s e).stations = s.stations :=
  (changes_retireLoad s e .stations (by decide))
@[simp] theorem retireLoad_station (s : State) (e : Entry) (x : StationNo) : (State.retireLoad s e).station x = s.station x := by
  simp only [State.station, retireLoad_stations]
@[simp] theorem retireLoad_artworks (s : State) (e : Entry) : (State.retireLoad s e).artworks = s.artworks :=
  (changes_retireLoad s e .artworks (by decide))
@[simp] theorem retireLoad_artwork (s : State) (e : Entry) (x : ArtNo) : (State.retireLoad s e).artwork x = s.artwork x := by
  simp only [State.artwork, retireLoad_artworks]
@[simp] theorem retireLoad_templates (s : State) (e : Entry) : (State.retireLoad s e).templates = s.templates :=
  (changes_retireLoad s e .templates (by decide))
@[simp] theorem retireLoad_template (s : State) (e : Entry) (x : TmplNo) : (State.retireLoad s e).template x = s.template x := by
  simp only [State.template, retireLoad_templates]
@[simp] theorem retireLoad_feed (s : State) (e : Entry) : (State.retireLoad s e).feed = s.feed :=
  (changes_retireLoad s e .feed (by decide))
@[simp] theorem retireLoad_settings (s : State) (e : Entry) : (State.retireLoad s e).settings = s.settings :=
  (changes_retireLoad s e .settings (by decide))
@[simp] theorem retireLoad_pending (s : State) (e : Entry) : (State.retireLoad s e).pending = s.pending :=
  (changes_retireLoad s e .pending (by decide))

@[simp] theorem retireStranded_images (s : State) (lost : Nat → Bool) : (State.retireStranded s lost).images = s.images :=
  (changes_retireStranded s lost .images (by decide))
@[simp] theorem retireStranded_image (s : State) (lost : Nat → Bool) (x : SlotNo) : (State.retireStranded s lost).image x = s.image x := by
  simp only [State.image, retireStranded_images]
@[simp] theorem retireStranded_accs (s : State) (lost : Nat → Bool) : (State.retireStranded s lost).accs = s.accs :=
  (changes_retireStranded s lost .accs (by decide))
@[simp] theorem retireStranded_acc (s : State) (lost : Nat → Bool) (x : WaveNo) : (State.retireStranded s lost).acc x = s.acc x := by
  simp only [State.acc, retireStranded_accs]
@[simp] theorem retireStranded_waves (s : State) (lost : Nat → Bool) : (State.retireStranded s lost).waves = s.waves :=
  (changes_retireStranded s lost .waves (by decide))
@[simp] theorem retireStranded_wave (s : State) (lost : Nat → Bool) (x : WaveNo) : (State.retireStranded s lost).wave x = s.wave x := by
  simp only [State.wave, retireStranded_waves]
@[simp] theorem retireStranded_ladder (s : State) (lost : Nat → Bool) : (State.retireStranded s lost).ladder = s.ladder :=
  (changes_retireStranded s lost .ladder (by decide))
@[simp] theorem retireStranded_code (s : State) (lost : Nat → Bool) (x : Rung) : (State.retireStranded s lost).code x = s.code x := by
  simp only [State.code, retireStranded_ladder]
@[simp] theorem retireStranded_saves (s : State) (lost : Nat → Bool) : (State.retireStranded s lost).saves = s.saves :=
  (changes_retireStranded s lost .saves (by decide))
@[simp] theorem retireStranded_save (s : State) (lost : Nat → Bool) (x : Drive) : (State.retireStranded s lost).save x = s.save x := by
  simp only [State.save, retireStranded_saves]
@[simp] theorem retireStranded_verifyQueue (s : State) (lost : Nat → Bool) : (State.retireStranded s lost).verifyQueue = s.verifyQueue :=
  (changes_retireStranded s lost .verifyQueue (by decide))
@[simp] theorem retireStranded_contexts (s : State) (lost : Nat → Bool) : (State.retireStranded s lost).contexts = s.contexts :=
  (changes_retireStranded s lost .contexts (by decide))
@[simp] theorem retireStranded_context (s : State) (lost : Nat → Bool) (x : Fin 4) : (State.retireStranded s lost).context x = s.context x := by
  simp only [State.context, retireStranded_contexts]
@[simp] theorem retireStranded_stations (s : State) (lost : Nat → Bool) : (State.retireStranded s lost).stations = s.stations :=
  (changes_retireStranded s lost .stations (by decide))
@[simp] theorem retireStranded_station (s : State) (lost : Nat → Bool) (x : StationNo) : (State.retireStranded s lost).station x = s.station x := by
  simp only [State.station, retireStranded_stations]
@[simp] theorem retireStranded_artworks (s : State) (lost : Nat → Bool) : (State.retireStranded s lost).artworks = s.artworks :=
  (changes_retireStranded s lost .artworks (by decide))
@[simp] theorem retireStranded_artwork (s : State) (lost : Nat → Bool) (x : ArtNo) : (State.retireStranded s lost).artwork x = s.artwork x := by
  simp only [State.artwork, retireStranded_artworks]
@[simp] theorem retireStranded_templates (s : State) (lost : Nat → Bool) : (State.retireStranded s lost).templates = s.templates :=
  (changes_retireStranded s lost .templates (by decide))
@[simp] theorem retireStranded_template (s : State) (lost : Nat → Bool) (x : TmplNo) : (State.retireStranded s lost).template x = s.template x := by
  simp only [State.template, retireStranded_templates]
@[simp] theorem retireStranded_feed (s : State) (lost : Nat → Bool) : (State.retireStranded s lost).feed = s.feed :=
  (changes_retireStranded s lost .feed (by decide))
@[simp] theorem retireStranded_settings (s : State) (lost : Nat → Bool) : (State.retireStranded s lost).settings = s.settings :=
  (changes_retireStranded s lost .settings (by decide))
@[simp] theorem retireStranded_pending (s : State) (lost : Nat → Bool) : (State.retireStranded s lost).pending = s.pending :=
  (changes_retireStranded s lost .pending (by decide))
@[simp] theorem retireOthersStranded_images (s : State) (lost : Nat → Bool) : (State.retireOthersStranded s lost).images = s.images :=
  (changes_retireOthersStranded s lost .images (by decide))
@[simp] theorem retireOthersStranded_image (s : State) (lost : Nat → Bool) (x : SlotNo) : (State.retireOthersStranded s lost).image x = s.image x := by
  simp only [State.image, retireOthersStranded_images]
@[simp] theorem retireOthersStranded_accs (s : State) (lost : Nat → Bool) : (State.retireOthersStranded s lost).accs = s.accs :=
  (changes_retireOthersStranded s lost .accs (by decide))
@[simp] theorem retireOthersStranded_acc (s : State) (lost : Nat → Bool) (x : WaveNo) : (State.retireOthersStranded s lost).acc x = s.acc x := by
  simp only [State.acc, retireOthersStranded_accs]
@[simp] theorem retireOthersStranded_waves (s : State) (lost : Nat → Bool) : (State.retireOthersStranded s lost).waves = s.waves :=
  (changes_retireOthersStranded s lost .waves (by decide))
@[simp] theorem retireOthersStranded_wave (s : State) (lost : Nat → Bool) (x : WaveNo) : (State.retireOthersStranded s lost).wave x = s.wave x := by
  simp only [State.wave, retireOthersStranded_waves]
@[simp] theorem retireOthersStranded_ladder (s : State) (lost : Nat → Bool) : (State.retireOthersStranded s lost).ladder = s.ladder :=
  (changes_retireOthersStranded s lost .ladder (by decide))
@[simp] theorem retireOthersStranded_code (s : State) (lost : Nat → Bool) (x : Rung) : (State.retireOthersStranded s lost).code x = s.code x := by
  simp only [State.code, retireOthersStranded_ladder]
@[simp] theorem retireOthersStranded_saves (s : State) (lost : Nat → Bool) : (State.retireOthersStranded s lost).saves = s.saves :=
  (changes_retireOthersStranded s lost .saves (by decide))
@[simp] theorem retireOthersStranded_save (s : State) (lost : Nat → Bool) (x : Drive) : (State.retireOthersStranded s lost).save x = s.save x := by
  simp only [State.save, retireOthersStranded_saves]
@[simp] theorem retireOthersStranded_verifyQueue (s : State) (lost : Nat → Bool) : (State.retireOthersStranded s lost).verifyQueue = s.verifyQueue :=
  (changes_retireOthersStranded s lost .verifyQueue (by decide))
@[simp] theorem retireOthersStranded_contexts (s : State) (lost : Nat → Bool) : (State.retireOthersStranded s lost).contexts = s.contexts :=
  (changes_retireOthersStranded s lost .contexts (by decide))
@[simp] theorem retireOthersStranded_context (s : State) (lost : Nat → Bool) (x : Fin 4) : (State.retireOthersStranded s lost).context x = s.context x := by
  simp only [State.context, retireOthersStranded_contexts]
@[simp] theorem retireOthersStranded_stations (s : State) (lost : Nat → Bool) : (State.retireOthersStranded s lost).stations = s.stations :=
  (changes_retireOthersStranded s lost .stations (by decide))
@[simp] theorem retireOthersStranded_station (s : State) (lost : Nat → Bool) (x : StationNo) : (State.retireOthersStranded s lost).station x = s.station x := by
  simp only [State.station, retireOthersStranded_stations]
@[simp] theorem retireOthersStranded_artworks (s : State) (lost : Nat → Bool) : (State.retireOthersStranded s lost).artworks = s.artworks :=
  (changes_retireOthersStranded s lost .artworks (by decide))
@[simp] theorem retireOthersStranded_artwork (s : State) (lost : Nat → Bool) (x : ArtNo) : (State.retireOthersStranded s lost).artwork x = s.artwork x := by
  simp only [State.artwork, retireOthersStranded_artworks]
@[simp] theorem retireOthersStranded_templates (s : State) (lost : Nat → Bool) : (State.retireOthersStranded s lost).templates = s.templates :=
  (changes_retireOthersStranded s lost .templates (by decide))
@[simp] theorem retireOthersStranded_template (s : State) (lost : Nat → Bool) (x : TmplNo) : (State.retireOthersStranded s lost).template x = s.template x := by
  simp only [State.template, retireOthersStranded_templates]
@[simp] theorem retireOthersStranded_feed (s : State) (lost : Nat → Bool) : (State.retireOthersStranded s lost).feed = s.feed :=
  (changes_retireOthersStranded s lost .feed (by decide))
@[simp] theorem retireOthersStranded_settings (s : State) (lost : Nat → Bool) : (State.retireOthersStranded s lost).settings = s.settings :=
  (changes_retireOthersStranded s lost .settings (by decide))
@[simp] theorem retireOthersStranded_pending (s : State) (lost : Nat → Bool) : (State.retireOthersStranded s lost).pending = s.pending :=
  (changes_retireOthersStranded s lost .pending (by decide))

@[simp] theorem spindleEmptied_images (s : State) (i : StationNo) (lost : Nat → Bool) : (State.spindleEmptied s i lost).images = s.images :=
  (changes_spindleEmptied s i lost .images (by decide))
@[simp] theorem spindleEmptied_image (s : State) (i : StationNo) (lost : Nat → Bool) (x : SlotNo) : (State.spindleEmptied s i lost).image x = s.image x := by
  simp only [State.image, spindleEmptied_images]
@[simp] theorem spindleEmptied_accs (s : State) (i : StationNo) (lost : Nat → Bool) : (State.spindleEmptied s i lost).accs = s.accs :=
  (changes_spindleEmptied s i lost .accs (by decide))
@[simp] theorem spindleEmptied_acc (s : State) (i : StationNo) (lost : Nat → Bool) (x : WaveNo) : (State.spindleEmptied s i lost).acc x = s.acc x := by
  simp only [State.acc, spindleEmptied_accs]
@[simp] theorem spindleEmptied_waves (s : State) (i : StationNo) (lost : Nat → Bool) : (State.spindleEmptied s i lost).waves = s.waves :=
  (changes_spindleEmptied s i lost .waves (by decide))
@[simp] theorem spindleEmptied_wave (s : State) (i : StationNo) (lost : Nat → Bool) (x : WaveNo) : (State.spindleEmptied s i lost).wave x = s.wave x := by
  simp only [State.wave, spindleEmptied_waves]
@[simp] theorem spindleEmptied_ladder (s : State) (i : StationNo) (lost : Nat → Bool) : (State.spindleEmptied s i lost).ladder = s.ladder :=
  (changes_spindleEmptied s i lost .ladder (by decide))
@[simp] theorem spindleEmptied_code (s : State) (i : StationNo) (lost : Nat → Bool) (x : Rung) : (State.spindleEmptied s i lost).code x = s.code x := by
  simp only [State.code, spindleEmptied_ladder]
@[simp] theorem spindleEmptied_saves (s : State) (i : StationNo) (lost : Nat → Bool) : (State.spindleEmptied s i lost).saves = s.saves :=
  (changes_spindleEmptied s i lost .saves (by decide))
@[simp] theorem spindleEmptied_save (s : State) (i : StationNo) (lost : Nat → Bool) (x : Drive) : (State.spindleEmptied s i lost).save x = s.save x := by
  simp only [State.save, spindleEmptied_saves]
@[simp] theorem spindleEmptied_verifyQueue (s : State) (i : StationNo) (lost : Nat → Bool) : (State.spindleEmptied s i lost).verifyQueue = s.verifyQueue :=
  (changes_spindleEmptied s i lost .verifyQueue (by decide))
@[simp] theorem spindleEmptied_contexts (s : State) (i : StationNo) (lost : Nat → Bool) : (State.spindleEmptied s i lost).contexts = s.contexts :=
  (changes_spindleEmptied s i lost .contexts (by decide))
@[simp] theorem spindleEmptied_context (s : State) (i : StationNo) (lost : Nat → Bool) (x : Fin 4) : (State.spindleEmptied s i lost).context x = s.context x := by
  simp only [State.context, spindleEmptied_contexts]
@[simp] theorem spindleEmptied_stations (s : State) (i : StationNo) (lost : Nat → Bool) : (State.spindleEmptied s i lost).stations = s.stations :=
  (changes_spindleEmptied s i lost .stations (by decide))
@[simp] theorem spindleEmptied_station (s : State) (i : StationNo) (lost : Nat → Bool) (x : StationNo) : (State.spindleEmptied s i lost).station x = s.station x := by
  simp only [State.station, spindleEmptied_stations]
@[simp] theorem spindleEmptied_artworks (s : State) (i : StationNo) (lost : Nat → Bool) : (State.spindleEmptied s i lost).artworks = s.artworks :=
  (changes_spindleEmptied s i lost .artworks (by decide))
@[simp] theorem spindleEmptied_artwork (s : State) (i : StationNo) (lost : Nat → Bool) (x : ArtNo) : (State.spindleEmptied s i lost).artwork x = s.artwork x := by
  simp only [State.artwork, spindleEmptied_artworks]
@[simp] theorem spindleEmptied_templates (s : State) (i : StationNo) (lost : Nat → Bool) : (State.spindleEmptied s i lost).templates = s.templates :=
  (changes_spindleEmptied s i lost .templates (by decide))
@[simp] theorem spindleEmptied_template (s : State) (i : StationNo) (lost : Nat → Bool) (x : TmplNo) : (State.spindleEmptied s i lost).template x = s.template x := by
  simp only [State.template, spindleEmptied_templates]
@[simp] theorem spindleEmptied_feed (s : State) (i : StationNo) (lost : Nat → Bool) : (State.spindleEmptied s i lost).feed = s.feed :=
  (changes_spindleEmptied s i lost .feed (by decide))
@[simp] theorem spindleEmptied_settings (s : State) (i : StationNo) (lost : Nat → Bool) : (State.spindleEmptied s i lost).settings = s.settings :=
  (changes_spindleEmptied s i lost .settings (by decide))
@[simp] theorem spindleEmptied_pending (s : State) (i : StationNo) (lost : Nat → Bool) : (State.spindleEmptied s i lost).pending = s.pending :=
  (changes_spindleEmptied s i lost .pending (by decide))

@[simp] theorem noticeEnd_images (s : State) (d : Option Drive) (v : Verdict) (c : Option FailCause) : (State.noticeEnd s d v c).images = s.images :=
  (changes_noticeEnd s d v c .images (by decide))
@[simp] theorem noticeEnd_image (s : State) (d : Option Drive) (v : Verdict) (c : Option FailCause) (x : SlotNo) : (State.noticeEnd s d v c).image x = s.image x := by
  simp only [State.image, noticeEnd_images]
@[simp] theorem noticeEnd_accs (s : State) (d : Option Drive) (v : Verdict) (c : Option FailCause) : (State.noticeEnd s d v c).accs = s.accs :=
  (changes_noticeEnd s d v c .accs (by decide))
@[simp] theorem noticeEnd_acc (s : State) (d : Option Drive) (v : Verdict) (c : Option FailCause) (x : WaveNo) : (State.noticeEnd s d v c).acc x = s.acc x := by
  simp only [State.acc, noticeEnd_accs]
@[simp] theorem noticeEnd_waves (s : State) (d : Option Drive) (v : Verdict) (c : Option FailCause) : (State.noticeEnd s d v c).waves = s.waves :=
  (changes_noticeEnd s d v c .waves (by decide))
@[simp] theorem noticeEnd_wave (s : State) (d : Option Drive) (v : Verdict) (c : Option FailCause) (x : WaveNo) : (State.noticeEnd s d v c).wave x = s.wave x := by
  simp only [State.wave, noticeEnd_waves]
@[simp] theorem noticeEnd_ladder (s : State) (d : Option Drive) (v : Verdict) (c : Option FailCause) : (State.noticeEnd s d v c).ladder = s.ladder :=
  (changes_noticeEnd s d v c .ladder (by decide))
@[simp] theorem noticeEnd_code (s : State) (d : Option Drive) (v : Verdict) (c : Option FailCause) (x : Rung) : (State.noticeEnd s d v c).code x = s.code x := by
  simp only [State.code, noticeEnd_ladder]
@[simp] theorem noticeEnd_saves (s : State) (d : Option Drive) (v : Verdict) (c : Option FailCause) : (State.noticeEnd s d v c).saves = s.saves :=
  (changes_noticeEnd s d v c .saves (by decide))
@[simp] theorem noticeEnd_save (s : State) (d : Option Drive) (v : Verdict) (c : Option FailCause) (x : Drive) : (State.noticeEnd s d v c).save x = s.save x := by
  simp only [State.save, noticeEnd_saves]
@[simp] theorem noticeEnd_verifyQueue (s : State) (d : Option Drive) (v : Verdict) (c : Option FailCause) : (State.noticeEnd s d v c).verifyQueue = s.verifyQueue :=
  (changes_noticeEnd s d v c .verifyQueue (by decide))
@[simp] theorem noticeEnd_contexts (s : State) (d : Option Drive) (v : Verdict) (c : Option FailCause) : (State.noticeEnd s d v c).contexts = s.contexts :=
  (changes_noticeEnd s d v c .contexts (by decide))
@[simp] theorem noticeEnd_context (s : State) (d : Option Drive) (v : Verdict) (c : Option FailCause) (x : Fin 4) : (State.noticeEnd s d v c).context x = s.context x := by
  simp only [State.context, noticeEnd_contexts]
@[simp] theorem noticeEnd_orders (s : State) (d : Option Drive) (v : Verdict) (c : Option FailCause) : (State.noticeEnd s d v c).orders = s.orders :=
  (changes_noticeEnd s d v c .orders (by decide))
@[simp] theorem noticeEnd_order (s : State) (d : Option Drive) (v : Verdict) (c : Option FailCause) (x : OrderNo) : (State.noticeEnd s d v c).order x = s.order x := by
  simp only [State.order, noticeEnd_orders]
@[simp] theorem noticeEnd_records (s : State) (d : Option Drive) (v : Verdict) (c : Option FailCause) : (State.noticeEnd s d v c).records = s.records :=
  (changes_noticeEnd s d v c .records (by decide))
@[simp] theorem noticeEnd_record (s : State) (d : Option Drive) (v : Verdict) (c : Option FailCause) (x : RecNo) : (State.noticeEnd s d v c).record x = s.record x := by
  simp only [State.record, noticeEnd_records]
@[simp] theorem noticeEnd_stations (s : State) (d : Option Drive) (v : Verdict) (c : Option FailCause) : (State.noticeEnd s d v c).stations = s.stations :=
  (changes_noticeEnd s d v c .stations (by decide))
@[simp] theorem noticeEnd_station (s : State) (d : Option Drive) (v : Verdict) (c : Option FailCause) (x : StationNo) : (State.noticeEnd s d v c).station x = s.station x := by
  simp only [State.station, noticeEnd_stations]
@[simp] theorem noticeEnd_queue (s : State) (d : Option Drive) (v : Verdict) (c : Option FailCause) : (State.noticeEnd s d v c).queue = s.queue :=
  (changes_noticeEnd s d v c .queue (by decide))
@[simp] theorem noticeEnd_transport (s : State) (d : Option Drive) (v : Verdict) (c : Option FailCause) : (State.noticeEnd s d v c).transport = s.transport :=
  (changes_noticeEnd s d v c .transport (by decide))
@[simp] theorem noticeEnd_artworks (s : State) (d : Option Drive) (v : Verdict) (c : Option FailCause) : (State.noticeEnd s d v c).artworks = s.artworks :=
  (changes_noticeEnd s d v c .artworks (by decide))
@[simp] theorem noticeEnd_artwork (s : State) (d : Option Drive) (v : Verdict) (c : Option FailCause) (x : ArtNo) : (State.noticeEnd s d v c).artwork x = s.artwork x := by
  simp only [State.artwork, noticeEnd_artworks]
@[simp] theorem noticeEnd_templates (s : State) (d : Option Drive) (v : Verdict) (c : Option FailCause) : (State.noticeEnd s d v c).templates = s.templates :=
  (changes_noticeEnd s d v c .templates (by decide))
@[simp] theorem noticeEnd_template (s : State) (d : Option Drive) (v : Verdict) (c : Option FailCause) (x : TmplNo) : (State.noticeEnd s d v c).template x = s.template x := by
  simp only [State.template, noticeEnd_templates]
@[simp] theorem noticeEnd_printer (s : State) (d : Option Drive) (v : Verdict) (c : Option FailCause) : (State.noticeEnd s d v c).printer = s.printer :=
  (changes_noticeEnd s d v c .printer (by decide))
@[simp] theorem noticeEnd_feed (s : State) (d : Option Drive) (v : Verdict) (c : Option FailCause) : (State.noticeEnd s d v c).feed = s.feed :=
  (changes_noticeEnd s d v c .feed (by decide))
@[simp] theorem noticeEnd_settings (s : State) (d : Option Drive) (v : Verdict) (c : Option FailCause) : (State.noticeEnd s d v c).settings = s.settings :=
  (changes_noticeEnd s d v c .settings (by decide))
@[simp] theorem noticeEnd_pending (s : State) (d : Option Drive) (v : Verdict) (c : Option FailCause) : (State.noticeEnd s d v c).pending = s.pending :=
  (changes_noticeEnd s d v c .pending (by decide))

@[simp] theorem chargeOrder_images (s : State) (o : Option OrderNo) (v : Verdict) : (State.chargeOrder s o v).images = s.images :=
  (changes_chargeOrder s o v .images (by decide))
@[simp] theorem chargeOrder_image (s : State) (o : Option OrderNo) (v : Verdict) (x : SlotNo) : (State.chargeOrder s o v).image x = s.image x := by
  simp only [State.image, chargeOrder_images]
@[simp] theorem chargeOrder_accs (s : State) (o : Option OrderNo) (v : Verdict) : (State.chargeOrder s o v).accs = s.accs :=
  (changes_chargeOrder s o v .accs (by decide))
@[simp] theorem chargeOrder_acc (s : State) (o : Option OrderNo) (v : Verdict) (x : WaveNo) : (State.chargeOrder s o v).acc x = s.acc x := by
  simp only [State.acc, chargeOrder_accs]
@[simp] theorem chargeOrder_waves (s : State) (o : Option OrderNo) (v : Verdict) : (State.chargeOrder s o v).waves = s.waves :=
  (changes_chargeOrder s o v .waves (by decide))
@[simp] theorem chargeOrder_wave (s : State) (o : Option OrderNo) (v : Verdict) (x : WaveNo) : (State.chargeOrder s o v).wave x = s.wave x := by
  simp only [State.wave, chargeOrder_waves]
@[simp] theorem chargeOrder_drives (s : State) (o : Option OrderNo) (v : Verdict) : (State.chargeOrder s o v).drives = s.drives :=
  (changes_chargeOrder s o v .drives (by decide))
@[simp] theorem chargeOrder_drive (s : State) (o : Option OrderNo) (v : Verdict) (x : Drive) : (State.chargeOrder s o v).drive x = s.drive x := by
  simp only [State.drive, chargeOrder_drives]
@[simp] theorem chargeOrder_ladder (s : State) (o : Option OrderNo) (v : Verdict) : (State.chargeOrder s o v).ladder = s.ladder :=
  (changes_chargeOrder s o v .ladder (by decide))
@[simp] theorem chargeOrder_code (s : State) (o : Option OrderNo) (v : Verdict) (x : Rung) : (State.chargeOrder s o v).code x = s.code x := by
  simp only [State.code, chargeOrder_ladder]
@[simp] theorem chargeOrder_saves (s : State) (o : Option OrderNo) (v : Verdict) : (State.chargeOrder s o v).saves = s.saves :=
  (changes_chargeOrder s o v .saves (by decide))
@[simp] theorem chargeOrder_save (s : State) (o : Option OrderNo) (v : Verdict) (x : Drive) : (State.chargeOrder s o v).save x = s.save x := by
  simp only [State.save, chargeOrder_saves]
@[simp] theorem chargeOrder_verifyQueue (s : State) (o : Option OrderNo) (v : Verdict) : (State.chargeOrder s o v).verifyQueue = s.verifyQueue :=
  (changes_chargeOrder s o v .verifyQueue (by decide))
@[simp] theorem chargeOrder_contexts (s : State) (o : Option OrderNo) (v : Verdict) : (State.chargeOrder s o v).contexts = s.contexts :=
  (changes_chargeOrder s o v .contexts (by decide))
@[simp] theorem chargeOrder_context (s : State) (o : Option OrderNo) (v : Verdict) (x : Fin 4) : (State.chargeOrder s o v).context x = s.context x := by
  simp only [State.context, chargeOrder_contexts]
@[simp] theorem chargeOrder_records (s : State) (o : Option OrderNo) (v : Verdict) : (State.chargeOrder s o v).records = s.records :=
  (changes_chargeOrder s o v .records (by decide))
@[simp] theorem chargeOrder_record (s : State) (o : Option OrderNo) (v : Verdict) (x : RecNo) : (State.chargeOrder s o v).record x = s.record x := by
  simp only [State.record, chargeOrder_records]
@[simp] theorem chargeOrder_stations (s : State) (o : Option OrderNo) (v : Verdict) : (State.chargeOrder s o v).stations = s.stations :=
  (changes_chargeOrder s o v .stations (by decide))
@[simp] theorem chargeOrder_station (s : State) (o : Option OrderNo) (v : Verdict) (x : StationNo) : (State.chargeOrder s o v).station x = s.station x := by
  simp only [State.station, chargeOrder_stations]
@[simp] theorem chargeOrder_queue (s : State) (o : Option OrderNo) (v : Verdict) : (State.chargeOrder s o v).queue = s.queue :=
  (changes_chargeOrder s o v .queue (by decide))
@[simp] theorem chargeOrder_transport (s : State) (o : Option OrderNo) (v : Verdict) : (State.chargeOrder s o v).transport = s.transport :=
  (changes_chargeOrder s o v .transport (by decide))
@[simp] theorem chargeOrder_artworks (s : State) (o : Option OrderNo) (v : Verdict) : (State.chargeOrder s o v).artworks = s.artworks :=
  (changes_chargeOrder s o v .artworks (by decide))
@[simp] theorem chargeOrder_artwork (s : State) (o : Option OrderNo) (v : Verdict) (x : ArtNo) : (State.chargeOrder s o v).artwork x = s.artwork x := by
  simp only [State.artwork, chargeOrder_artworks]
@[simp] theorem chargeOrder_templates (s : State) (o : Option OrderNo) (v : Verdict) : (State.chargeOrder s o v).templates = s.templates :=
  (changes_chargeOrder s o v .templates (by decide))
@[simp] theorem chargeOrder_template (s : State) (o : Option OrderNo) (v : Verdict) (x : TmplNo) : (State.chargeOrder s o v).template x = s.template x := by
  simp only [State.template, chargeOrder_templates]
@[simp] theorem chargeOrder_printer (s : State) (o : Option OrderNo) (v : Verdict) : (State.chargeOrder s o v).printer = s.printer :=
  (changes_chargeOrder s o v .printer (by decide))
@[simp] theorem chargeOrder_feed (s : State) (o : Option OrderNo) (v : Verdict) : (State.chargeOrder s o v).feed = s.feed :=
  (changes_chargeOrder s o v .feed (by decide))
@[simp] theorem chargeOrder_settings (s : State) (o : Option OrderNo) (v : Verdict) : (State.chargeOrder s o v).settings = s.settings :=
  (changes_chargeOrder s o v .settings (by decide))
@[simp] theorem chargeOrder_pending (s : State) (o : Option OrderNo) (v : Verdict) : (State.chargeOrder s o v).pending = s.pending :=
  (changes_chargeOrder s o v .pending (by decide))

@[simp] theorem reloadFor_images (s : State) (o : Option OrderNo) : (State.reloadFor s o).images = s.images :=
  (changes_reloadFor s o .images (by decide))
@[simp] theorem reloadFor_image (s : State) (o : Option OrderNo) (x : SlotNo) : (State.reloadFor s o).image x = s.image x := by
  simp only [State.image, reloadFor_images]
@[simp] theorem reloadFor_accs (s : State) (o : Option OrderNo) : (State.reloadFor s o).accs = s.accs :=
  (changes_reloadFor s o .accs (by decide))
@[simp] theorem reloadFor_acc (s : State) (o : Option OrderNo) (x : WaveNo) : (State.reloadFor s o).acc x = s.acc x := by
  simp only [State.acc, reloadFor_accs]
@[simp] theorem reloadFor_waves (s : State) (o : Option OrderNo) : (State.reloadFor s o).waves = s.waves :=
  (changes_reloadFor s o .waves (by decide))
@[simp] theorem reloadFor_wave (s : State) (o : Option OrderNo) (x : WaveNo) : (State.reloadFor s o).wave x = s.wave x := by
  simp only [State.wave, reloadFor_waves]
@[simp] theorem reloadFor_ladder (s : State) (o : Option OrderNo) : (State.reloadFor s o).ladder = s.ladder :=
  (changes_reloadFor s o .ladder (by decide))
@[simp] theorem reloadFor_code (s : State) (o : Option OrderNo) (x : Rung) : (State.reloadFor s o).code x = s.code x := by
  simp only [State.code, reloadFor_ladder]
@[simp] theorem reloadFor_saves (s : State) (o : Option OrderNo) : (State.reloadFor s o).saves = s.saves :=
  (changes_reloadFor s o .saves (by decide))
@[simp] theorem reloadFor_save (s : State) (o : Option OrderNo) (x : Drive) : (State.reloadFor s o).save x = s.save x := by
  simp only [State.save, reloadFor_saves]
@[simp] theorem reloadFor_verifyQueue (s : State) (o : Option OrderNo) : (State.reloadFor s o).verifyQueue = s.verifyQueue :=
  (changes_reloadFor s o .verifyQueue (by decide))
@[simp] theorem reloadFor_contexts (s : State) (o : Option OrderNo) : (State.reloadFor s o).contexts = s.contexts :=
  (changes_reloadFor s o .contexts (by decide))
@[simp] theorem reloadFor_context (s : State) (o : Option OrderNo) (x : Fin 4) : (State.reloadFor s o).context x = s.context x := by
  simp only [State.context, reloadFor_contexts]
@[simp] theorem reloadFor_records (s : State) (o : Option OrderNo) : (State.reloadFor s o).records = s.records :=
  (changes_reloadFor s o .records (by decide))
@[simp] theorem reloadFor_record (s : State) (o : Option OrderNo) (x : RecNo) : (State.reloadFor s o).record x = s.record x := by
  simp only [State.record, reloadFor_records]
@[simp] theorem reloadFor_stations (s : State) (o : Option OrderNo) : (State.reloadFor s o).stations = s.stations :=
  (changes_reloadFor s o .stations (by decide))
@[simp] theorem reloadFor_station (s : State) (o : Option OrderNo) (x : StationNo) : (State.reloadFor s o).station x = s.station x := by
  simp only [State.station, reloadFor_stations]
@[simp] theorem reloadFor_transport (s : State) (o : Option OrderNo) : (State.reloadFor s o).transport = s.transport :=
  (changes_reloadFor s o .transport (by decide))
@[simp] theorem reloadFor_artworks (s : State) (o : Option OrderNo) : (State.reloadFor s o).artworks = s.artworks :=
  (changes_reloadFor s o .artworks (by decide))
@[simp] theorem reloadFor_artwork (s : State) (o : Option OrderNo) (x : ArtNo) : (State.reloadFor s o).artwork x = s.artwork x := by
  simp only [State.artwork, reloadFor_artworks]
@[simp] theorem reloadFor_templates (s : State) (o : Option OrderNo) : (State.reloadFor s o).templates = s.templates :=
  (changes_reloadFor s o .templates (by decide))
@[simp] theorem reloadFor_template (s : State) (o : Option OrderNo) (x : TmplNo) : (State.reloadFor s o).template x = s.template x := by
  simp only [State.template, reloadFor_templates]
@[simp] theorem reloadFor_feed (s : State) (o : Option OrderNo) : (State.reloadFor s o).feed = s.feed :=
  (changes_reloadFor s o .feed (by decide))
@[simp] theorem reloadFor_settings (s : State) (o : Option OrderNo) : (State.reloadFor s o).settings = s.settings :=
  (changes_reloadFor s o .settings (by decide))
@[simp] theorem reloadFor_pending (s : State) (o : Option OrderNo) : (State.reloadFor s o).pending = s.pending :=
  (changes_reloadFor s o .pending (by decide))

@[simp] theorem endRecord_images (s : State) (t : Token) (cause : Option FailCause) (final : Place) : (State.endRecord s t cause final).images = s.images :=
  (changes_endRecord s t cause final .images (by decide))
@[simp] theorem endRecord_image (s : State) (t : Token) (cause : Option FailCause) (final : Place) (x : SlotNo) : (State.endRecord s t cause final).image x = s.image x := by
  simp only [State.image, endRecord_images]
@[simp] theorem endRecord_accs (s : State) (t : Token) (cause : Option FailCause) (final : Place) : (State.endRecord s t cause final).accs = s.accs :=
  (changes_endRecord s t cause final .accs (by decide))
@[simp] theorem endRecord_acc (s : State) (t : Token) (cause : Option FailCause) (final : Place) (x : WaveNo) : (State.endRecord s t cause final).acc x = s.acc x := by
  simp only [State.acc, endRecord_accs]
@[simp] theorem endRecord_waves (s : State) (t : Token) (cause : Option FailCause) (final : Place) : (State.endRecord s t cause final).waves = s.waves :=
  (changes_endRecord s t cause final .waves (by decide))
@[simp] theorem endRecord_wave (s : State) (t : Token) (cause : Option FailCause) (final : Place) (x : WaveNo) : (State.endRecord s t cause final).wave x = s.wave x := by
  simp only [State.wave, endRecord_waves]
@[simp] theorem endRecord_ladder (s : State) (t : Token) (cause : Option FailCause) (final : Place) : (State.endRecord s t cause final).ladder = s.ladder :=
  (changes_endRecord s t cause final .ladder (by decide))
@[simp] theorem endRecord_code (s : State) (t : Token) (cause : Option FailCause) (final : Place) (x : Rung) : (State.endRecord s t cause final).code x = s.code x := by
  simp only [State.code, endRecord_ladder]
@[simp] theorem endRecord_saves (s : State) (t : Token) (cause : Option FailCause) (final : Place) : (State.endRecord s t cause final).saves = s.saves :=
  (changes_endRecord s t cause final .saves (by decide))
@[simp] theorem endRecord_save (s : State) (t : Token) (cause : Option FailCause) (final : Place) (x : Drive) : (State.endRecord s t cause final).save x = s.save x := by
  simp only [State.save, endRecord_saves]
@[simp] theorem endRecord_verifyQueue (s : State) (t : Token) (cause : Option FailCause) (final : Place) : (State.endRecord s t cause final).verifyQueue = s.verifyQueue :=
  (changes_endRecord s t cause final .verifyQueue (by decide))
@[simp] theorem endRecord_contexts (s : State) (t : Token) (cause : Option FailCause) (final : Place) : (State.endRecord s t cause final).contexts = s.contexts :=
  (changes_endRecord s t cause final .contexts (by decide))
@[simp] theorem endRecord_context (s : State) (t : Token) (cause : Option FailCause) (final : Place) (x : Fin 4) : (State.endRecord s t cause final).context x = s.context x := by
  simp only [State.context, endRecord_contexts]
@[simp] theorem endRecord_stations (s : State) (t : Token) (cause : Option FailCause) (final : Place) : (State.endRecord s t cause final).stations = s.stations :=
  (changes_endRecord s t cause final .stations (by decide))
@[simp] theorem endRecord_station (s : State) (t : Token) (cause : Option FailCause) (final : Place) (x : StationNo) : (State.endRecord s t cause final).station x = s.station x := by
  simp only [State.station, endRecord_stations]
@[simp] theorem endRecord_transport (s : State) (t : Token) (cause : Option FailCause) (final : Place) : (State.endRecord s t cause final).transport = s.transport :=
  (changes_endRecord s t cause final .transport (by decide))
@[simp] theorem endRecord_artworks (s : State) (t : Token) (cause : Option FailCause) (final : Place) : (State.endRecord s t cause final).artworks = s.artworks :=
  (changes_endRecord s t cause final .artworks (by decide))
@[simp] theorem endRecord_artwork (s : State) (t : Token) (cause : Option FailCause) (final : Place) (x : ArtNo) : (State.endRecord s t cause final).artwork x = s.artwork x := by
  simp only [State.artwork, endRecord_artworks]
@[simp] theorem endRecord_templates (s : State) (t : Token) (cause : Option FailCause) (final : Place) : (State.endRecord s t cause final).templates = s.templates :=
  (changes_endRecord s t cause final .templates (by decide))
@[simp] theorem endRecord_template (s : State) (t : Token) (cause : Option FailCause) (final : Place) (x : TmplNo) : (State.endRecord s t cause final).template x = s.template x := by
  simp only [State.template, endRecord_templates]
@[simp] theorem endRecord_feed (s : State) (t : Token) (cause : Option FailCause) (final : Place) : (State.endRecord s t cause final).feed = s.feed :=
  (changes_endRecord s t cause final .feed (by decide))
@[simp] theorem endRecord_settings (s : State) (t : Token) (cause : Option FailCause) (final : Place) : (State.endRecord s t cause final).settings = s.settings :=
  (changes_endRecord s t cause final .settings (by decide))
@[simp] theorem endRecord_pending (s : State) (t : Token) (cause : Option FailCause) (final : Place) : (State.endRecord s t cause final).pending = s.pending :=
  (changes_endRecord s t cause final .pending (by decide))

@[simp] theorem goEmpty_images (s : State) (d : Drive) : (State.goEmpty s d).images = s.images :=
  (changes_goEmpty s d .images (by decide))
@[simp] theorem goEmpty_image (s : State) (d : Drive) (x : SlotNo) : (State.goEmpty s d).image x = s.image x := by
  simp only [State.image, goEmpty_images]
@[simp] theorem goEmpty_accs (s : State) (d : Drive) : (State.goEmpty s d).accs = s.accs :=
  (changes_goEmpty s d .accs (by decide))
@[simp] theorem goEmpty_acc (s : State) (d : Drive) (x : WaveNo) : (State.goEmpty s d).acc x = s.acc x := by
  simp only [State.acc, goEmpty_accs]
@[simp] theorem goEmpty_waves (s : State) (d : Drive) : (State.goEmpty s d).waves = s.waves :=
  (changes_goEmpty s d .waves (by decide))
@[simp] theorem goEmpty_wave (s : State) (d : Drive) (x : WaveNo) : (State.goEmpty s d).wave x = s.wave x := by
  simp only [State.wave, goEmpty_waves]
@[simp] theorem goEmpty_ladder (s : State) (d : Drive) : (State.goEmpty s d).ladder = s.ladder :=
  (changes_goEmpty s d .ladder (by decide))
@[simp] theorem goEmpty_code (s : State) (d : Drive) (x : Rung) : (State.goEmpty s d).code x = s.code x := by
  simp only [State.code, goEmpty_ladder]
@[simp] theorem goEmpty_saves (s : State) (d : Drive) : (State.goEmpty s d).saves = s.saves :=
  (changes_goEmpty s d .saves (by decide))
@[simp] theorem goEmpty_save (s : State) (d : Drive) (x : Drive) : (State.goEmpty s d).save x = s.save x := by
  simp only [State.save, goEmpty_saves]
@[simp] theorem goEmpty_verifyQueue (s : State) (d : Drive) : (State.goEmpty s d).verifyQueue = s.verifyQueue :=
  (changes_goEmpty s d .verifyQueue (by decide))
@[simp] theorem goEmpty_contexts (s : State) (d : Drive) : (State.goEmpty s d).contexts = s.contexts :=
  (changes_goEmpty s d .contexts (by decide))
@[simp] theorem goEmpty_context (s : State) (d : Drive) (x : Fin 4) : (State.goEmpty s d).context x = s.context x := by
  simp only [State.context, goEmpty_contexts]
@[simp] theorem goEmpty_records (s : State) (d : Drive) : (State.goEmpty s d).records = s.records :=
  (changes_goEmpty s d .records (by decide))
@[simp] theorem goEmpty_record (s : State) (d : Drive) (x : RecNo) : (State.goEmpty s d).record x = s.record x := by
  simp only [State.record, goEmpty_records]
@[simp] theorem goEmpty_stations (s : State) (d : Drive) : (State.goEmpty s d).stations = s.stations :=
  (changes_goEmpty s d .stations (by decide))
@[simp] theorem goEmpty_station (s : State) (d : Drive) (x : StationNo) : (State.goEmpty s d).station x = s.station x := by
  simp only [State.station, goEmpty_stations]
@[simp] theorem goEmpty_transport (s : State) (d : Drive) : (State.goEmpty s d).transport = s.transport :=
  (changes_goEmpty s d .transport (by decide))
@[simp] theorem goEmpty_artworks (s : State) (d : Drive) : (State.goEmpty s d).artworks = s.artworks :=
  (changes_goEmpty s d .artworks (by decide))
@[simp] theorem goEmpty_artwork (s : State) (d : Drive) (x : ArtNo) : (State.goEmpty s d).artwork x = s.artwork x := by
  simp only [State.artwork, goEmpty_artworks]
@[simp] theorem goEmpty_templates (s : State) (d : Drive) : (State.goEmpty s d).templates = s.templates :=
  (changes_goEmpty s d .templates (by decide))
@[simp] theorem goEmpty_template (s : State) (d : Drive) (x : TmplNo) : (State.goEmpty s d).template x = s.template x := by
  simp only [State.template, goEmpty_templates]
@[simp] theorem goEmpty_feed (s : State) (d : Drive) : (State.goEmpty s d).feed = s.feed :=
  (changes_goEmpty s d .feed (by decide))
@[simp] theorem goEmpty_settings (s : State) (d : Drive) : (State.goEmpty s d).settings = s.settings :=
  (changes_goEmpty s d .settings (by decide))
@[simp] theorem goEmpty_pending (s : State) (d : Drive) : (State.goEmpty s d).pending = s.pending :=
  (changes_goEmpty s d .pending (by decide))

@[simp] theorem startUnloading_images (s : State) (d : Drive) (kind : EntryKind) (dest : Dest) : (State.startUnloading s d kind dest).images = s.images :=
  (changes_startUnloading s d kind dest .images (by decide))
@[simp] theorem startUnloading_image (s : State) (d : Drive) (kind : EntryKind) (dest : Dest) (x : SlotNo) : (State.startUnloading s d kind dest).image x = s.image x := by
  simp only [State.image, startUnloading_images]
@[simp] theorem startUnloading_accs (s : State) (d : Drive) (kind : EntryKind) (dest : Dest) : (State.startUnloading s d kind dest).accs = s.accs :=
  (changes_startUnloading s d kind dest .accs (by decide))
@[simp] theorem startUnloading_acc (s : State) (d : Drive) (kind : EntryKind) (dest : Dest) (x : WaveNo) : (State.startUnloading s d kind dest).acc x = s.acc x := by
  simp only [State.acc, startUnloading_accs]
@[simp] theorem startUnloading_waves (s : State) (d : Drive) (kind : EntryKind) (dest : Dest) : (State.startUnloading s d kind dest).waves = s.waves :=
  (changes_startUnloading s d kind dest .waves (by decide))
@[simp] theorem startUnloading_wave (s : State) (d : Drive) (kind : EntryKind) (dest : Dest) (x : WaveNo) : (State.startUnloading s d kind dest).wave x = s.wave x := by
  simp only [State.wave, startUnloading_waves]
@[simp] theorem startUnloading_ladder (s : State) (d : Drive) (kind : EntryKind) (dest : Dest) : (State.startUnloading s d kind dest).ladder = s.ladder :=
  (changes_startUnloading s d kind dest .ladder (by decide))
@[simp] theorem startUnloading_code (s : State) (d : Drive) (kind : EntryKind) (dest : Dest) (x : Rung) : (State.startUnloading s d kind dest).code x = s.code x := by
  simp only [State.code, startUnloading_ladder]
@[simp] theorem startUnloading_saves (s : State) (d : Drive) (kind : EntryKind) (dest : Dest) : (State.startUnloading s d kind dest).saves = s.saves :=
  (changes_startUnloading s d kind dest .saves (by decide))
@[simp] theorem startUnloading_save (s : State) (d : Drive) (kind : EntryKind) (dest : Dest) (x : Drive) : (State.startUnloading s d kind dest).save x = s.save x := by
  simp only [State.save, startUnloading_saves]
@[simp] theorem startUnloading_verifyQueue (s : State) (d : Drive) (kind : EntryKind) (dest : Dest) : (State.startUnloading s d kind dest).verifyQueue = s.verifyQueue :=
  (changes_startUnloading s d kind dest .verifyQueue (by decide))
@[simp] theorem startUnloading_contexts (s : State) (d : Drive) (kind : EntryKind) (dest : Dest) : (State.startUnloading s d kind dest).contexts = s.contexts :=
  (changes_startUnloading s d kind dest .contexts (by decide))
@[simp] theorem startUnloading_context (s : State) (d : Drive) (kind : EntryKind) (dest : Dest) (x : Fin 4) : (State.startUnloading s d kind dest).context x = s.context x := by
  simp only [State.context, startUnloading_contexts]
@[simp] theorem startUnloading_orders (s : State) (d : Drive) (kind : EntryKind) (dest : Dest) : (State.startUnloading s d kind dest).orders = s.orders :=
  (changes_startUnloading s d kind dest .orders (by decide))
@[simp] theorem startUnloading_order (s : State) (d : Drive) (kind : EntryKind) (dest : Dest) (x : OrderNo) : (State.startUnloading s d kind dest).order x = s.order x := by
  simp only [State.order, startUnloading_orders]
@[simp] theorem startUnloading_records (s : State) (d : Drive) (kind : EntryKind) (dest : Dest) : (State.startUnloading s d kind dest).records = s.records :=
  (changes_startUnloading s d kind dest .records (by decide))
@[simp] theorem startUnloading_record (s : State) (d : Drive) (kind : EntryKind) (dest : Dest) (x : RecNo) : (State.startUnloading s d kind dest).record x = s.record x := by
  simp only [State.record, startUnloading_records]
@[simp] theorem startUnloading_stations (s : State) (d : Drive) (kind : EntryKind) (dest : Dest) : (State.startUnloading s d kind dest).stations = s.stations :=
  (changes_startUnloading s d kind dest .stations (by decide))
@[simp] theorem startUnloading_station (s : State) (d : Drive) (kind : EntryKind) (dest : Dest) (x : StationNo) : (State.startUnloading s d kind dest).station x = s.station x := by
  simp only [State.station, startUnloading_stations]
@[simp] theorem startUnloading_transport (s : State) (d : Drive) (kind : EntryKind) (dest : Dest) : (State.startUnloading s d kind dest).transport = s.transport :=
  (changes_startUnloading s d kind dest .transport (by decide))
@[simp] theorem startUnloading_artworks (s : State) (d : Drive) (kind : EntryKind) (dest : Dest) : (State.startUnloading s d kind dest).artworks = s.artworks :=
  (changes_startUnloading s d kind dest .artworks (by decide))
@[simp] theorem startUnloading_artwork (s : State) (d : Drive) (kind : EntryKind) (dest : Dest) (x : ArtNo) : (State.startUnloading s d kind dest).artwork x = s.artwork x := by
  simp only [State.artwork, startUnloading_artworks]
@[simp] theorem startUnloading_templates (s : State) (d : Drive) (kind : EntryKind) (dest : Dest) : (State.startUnloading s d kind dest).templates = s.templates :=
  (changes_startUnloading s d kind dest .templates (by decide))
@[simp] theorem startUnloading_template (s : State) (d : Drive) (kind : EntryKind) (dest : Dest) (x : TmplNo) : (State.startUnloading s d kind dest).template x = s.template x := by
  simp only [State.template, startUnloading_templates]
@[simp] theorem startUnloading_feed (s : State) (d : Drive) (kind : EntryKind) (dest : Dest) : (State.startUnloading s d kind dest).feed = s.feed :=
  (changes_startUnloading s d kind dest .feed (by decide))
@[simp] theorem startUnloading_settings (s : State) (d : Drive) (kind : EntryKind) (dest : Dest) : (State.startUnloading s d kind dest).settings = s.settings :=
  (changes_startUnloading s d kind dest .settings (by decide))
@[simp] theorem startUnloading_pending (s : State) (d : Drive) (kind : EntryKind) (dest : Dest) : (State.startUnloading s d kind dest).pending = s.pending :=
  (changes_startUnloading s d kind dest .pending (by decide))

@[simp] theorem unload_images (s : State) (d : Drive) : (State.unload s d).images = s.images :=
  (changes_unload s d .images (by decide))
@[simp] theorem unload_image (s : State) (d : Drive) (x : SlotNo) : (State.unload s d).image x = s.image x := by
  simp only [State.image, unload_images]
@[simp] theorem unload_accs (s : State) (d : Drive) : (State.unload s d).accs = s.accs :=
  (changes_unload s d .accs (by decide))
@[simp] theorem unload_acc (s : State) (d : Drive) (x : WaveNo) : (State.unload s d).acc x = s.acc x := by
  simp only [State.acc, unload_accs]
@[simp] theorem unload_waves (s : State) (d : Drive) : (State.unload s d).waves = s.waves :=
  (changes_unload s d .waves (by decide))
@[simp] theorem unload_wave (s : State) (d : Drive) (x : WaveNo) : (State.unload s d).wave x = s.wave x := by
  simp only [State.wave, unload_waves]
@[simp] theorem unload_ladder (s : State) (d : Drive) : (State.unload s d).ladder = s.ladder :=
  (changes_unload s d .ladder (by decide))
@[simp] theorem unload_code (s : State) (d : Drive) (x : Rung) : (State.unload s d).code x = s.code x := by
  simp only [State.code, unload_ladder]
@[simp] theorem unload_saves (s : State) (d : Drive) : (State.unload s d).saves = s.saves :=
  (changes_unload s d .saves (by decide))
@[simp] theorem unload_save (s : State) (d : Drive) (x : Drive) : (State.unload s d).save x = s.save x := by
  simp only [State.save, unload_saves]
@[simp] theorem unload_verifyQueue (s : State) (d : Drive) : (State.unload s d).verifyQueue = s.verifyQueue :=
  (changes_unload s d .verifyQueue (by decide))
@[simp] theorem unload_contexts (s : State) (d : Drive) : (State.unload s d).contexts = s.contexts :=
  (changes_unload s d .contexts (by decide))
@[simp] theorem unload_context (s : State) (d : Drive) (x : Fin 4) : (State.unload s d).context x = s.context x := by
  simp only [State.context, unload_contexts]
@[simp] theorem unload_orders (s : State) (d : Drive) : (State.unload s d).orders = s.orders :=
  (changes_unload s d .orders (by decide))
@[simp] theorem unload_order (s : State) (d : Drive) (x : OrderNo) : (State.unload s d).order x = s.order x := by
  simp only [State.order, unload_orders]
@[simp] theorem unload_records (s : State) (d : Drive) : (State.unload s d).records = s.records :=
  (changes_unload s d .records (by decide))
@[simp] theorem unload_record (s : State) (d : Drive) (x : RecNo) : (State.unload s d).record x = s.record x := by
  simp only [State.record, unload_records]
@[simp] theorem unload_stations (s : State) (d : Drive) : (State.unload s d).stations = s.stations :=
  (changes_unload s d .stations (by decide))
@[simp] theorem unload_station (s : State) (d : Drive) (x : StationNo) : (State.unload s d).station x = s.station x := by
  simp only [State.station, unload_stations]
@[simp] theorem unload_transport (s : State) (d : Drive) : (State.unload s d).transport = s.transport :=
  (changes_unload s d .transport (by decide))
@[simp] theorem unload_artworks (s : State) (d : Drive) : (State.unload s d).artworks = s.artworks :=
  (changes_unload s d .artworks (by decide))
@[simp] theorem unload_artwork (s : State) (d : Drive) (x : ArtNo) : (State.unload s d).artwork x = s.artwork x := by
  simp only [State.artwork, unload_artworks]
@[simp] theorem unload_templates (s : State) (d : Drive) : (State.unload s d).templates = s.templates :=
  (changes_unload s d .templates (by decide))
@[simp] theorem unload_template (s : State) (d : Drive) (x : TmplNo) : (State.unload s d).template x = s.template x := by
  simp only [State.template, unload_templates]
@[simp] theorem unload_feed (s : State) (d : Drive) : (State.unload s d).feed = s.feed :=
  (changes_unload s d .feed (by decide))
@[simp] theorem unload_settings (s : State) (d : Drive) : (State.unload s d).settings = s.settings :=
  (changes_unload s d .settings (by decide))
@[simp] theorem unload_pending (s : State) (d : Drive) : (State.unload s d).pending = s.pending :=
  (changes_unload s d .pending (by decide))

@[simp] theorem withdraw_images (s : State) (d : Drive) : (State.withdraw s d).images = s.images :=
  (changes_withdraw s d .images (by decide))
@[simp] theorem withdraw_image (s : State) (d : Drive) (x : SlotNo) : (State.withdraw s d).image x = s.image x := by
  simp only [State.image, withdraw_images]
@[simp] theorem withdraw_accs (s : State) (d : Drive) : (State.withdraw s d).accs = s.accs :=
  (changes_withdraw s d .accs (by decide))
@[simp] theorem withdraw_acc (s : State) (d : Drive) (x : WaveNo) : (State.withdraw s d).acc x = s.acc x := by
  simp only [State.acc, withdraw_accs]
@[simp] theorem withdraw_waves (s : State) (d : Drive) : (State.withdraw s d).waves = s.waves :=
  (changes_withdraw s d .waves (by decide))
@[simp] theorem withdraw_wave (s : State) (d : Drive) (x : WaveNo) : (State.withdraw s d).wave x = s.wave x := by
  simp only [State.wave, withdraw_waves]
@[simp] theorem withdraw_ladder (s : State) (d : Drive) : (State.withdraw s d).ladder = s.ladder :=
  (changes_withdraw s d .ladder (by decide))
@[simp] theorem withdraw_code (s : State) (d : Drive) (x : Rung) : (State.withdraw s d).code x = s.code x := by
  simp only [State.code, withdraw_ladder]
@[simp] theorem withdraw_saves (s : State) (d : Drive) : (State.withdraw s d).saves = s.saves :=
  (changes_withdraw s d .saves (by decide))
@[simp] theorem withdraw_save (s : State) (d : Drive) (x : Drive) : (State.withdraw s d).save x = s.save x := by
  simp only [State.save, withdraw_saves]
@[simp] theorem withdraw_verifyQueue (s : State) (d : Drive) : (State.withdraw s d).verifyQueue = s.verifyQueue :=
  (changes_withdraw s d .verifyQueue (by decide))
@[simp] theorem withdraw_contexts (s : State) (d : Drive) : (State.withdraw s d).contexts = s.contexts :=
  (changes_withdraw s d .contexts (by decide))
@[simp] theorem withdraw_context (s : State) (d : Drive) (x : Fin 4) : (State.withdraw s d).context x = s.context x := by
  simp only [State.context, withdraw_contexts]
@[simp] theorem withdraw_orders (s : State) (d : Drive) : (State.withdraw s d).orders = s.orders :=
  (changes_withdraw s d .orders (by decide))
@[simp] theorem withdraw_order (s : State) (d : Drive) (x : OrderNo) : (State.withdraw s d).order x = s.order x := by
  simp only [State.order, withdraw_orders]
@[simp] theorem withdraw_records (s : State) (d : Drive) : (State.withdraw s d).records = s.records :=
  (changes_withdraw s d .records (by decide))
@[simp] theorem withdraw_record (s : State) (d : Drive) (x : RecNo) : (State.withdraw s d).record x = s.record x := by
  simp only [State.record, withdraw_records]
@[simp] theorem withdraw_stations (s : State) (d : Drive) : (State.withdraw s d).stations = s.stations :=
  (changes_withdraw s d .stations (by decide))
@[simp] theorem withdraw_station (s : State) (d : Drive) (x : StationNo) : (State.withdraw s d).station x = s.station x := by
  simp only [State.station, withdraw_stations]
@[simp] theorem withdraw_transport (s : State) (d : Drive) : (State.withdraw s d).transport = s.transport :=
  (changes_withdraw s d .transport (by decide))
@[simp] theorem withdraw_artworks (s : State) (d : Drive) : (State.withdraw s d).artworks = s.artworks :=
  (changes_withdraw s d .artworks (by decide))
@[simp] theorem withdraw_artwork (s : State) (d : Drive) (x : ArtNo) : (State.withdraw s d).artwork x = s.artwork x := by
  simp only [State.artwork, withdraw_artworks]
@[simp] theorem withdraw_templates (s : State) (d : Drive) : (State.withdraw s d).templates = s.templates :=
  (changes_withdraw s d .templates (by decide))
@[simp] theorem withdraw_template (s : State) (d : Drive) (x : TmplNo) : (State.withdraw s d).template x = s.template x := by
  simp only [State.template, withdraw_templates]
@[simp] theorem withdraw_feed (s : State) (d : Drive) : (State.withdraw s d).feed = s.feed :=
  (changes_withdraw s d .feed (by decide))
@[simp] theorem withdraw_settings (s : State) (d : Drive) : (State.withdraw s d).settings = s.settings :=
  (changes_withdraw s d .settings (by decide))
@[simp] theorem withdraw_pending (s : State) (d : Drive) : (State.withdraw s d).pending = s.pending :=
  (changes_withdraw s d .pending (by decide))

@[simp] theorem closeTray_images (s : State) (d : Drive) : (State.closeTray s d).images = s.images :=
  (changes_closeTray s d .images (by decide))
@[simp] theorem closeTray_image (s : State) (d : Drive) (x : SlotNo) : (State.closeTray s d).image x = s.image x := by
  simp only [State.image, closeTray_images]
@[simp] theorem closeTray_accs (s : State) (d : Drive) : (State.closeTray s d).accs = s.accs :=
  (changes_closeTray s d .accs (by decide))
@[simp] theorem closeTray_acc (s : State) (d : Drive) (x : WaveNo) : (State.closeTray s d).acc x = s.acc x := by
  simp only [State.acc, closeTray_accs]
@[simp] theorem closeTray_waves (s : State) (d : Drive) : (State.closeTray s d).waves = s.waves :=
  (changes_closeTray s d .waves (by decide))
@[simp] theorem closeTray_wave (s : State) (d : Drive) (x : WaveNo) : (State.closeTray s d).wave x = s.wave x := by
  simp only [State.wave, closeTray_waves]
@[simp] theorem closeTray_ladder (s : State) (d : Drive) : (State.closeTray s d).ladder = s.ladder :=
  (changes_closeTray s d .ladder (by decide))
@[simp] theorem closeTray_code (s : State) (d : Drive) (x : Rung) : (State.closeTray s d).code x = s.code x := by
  simp only [State.code, closeTray_ladder]
@[simp] theorem closeTray_saves (s : State) (d : Drive) : (State.closeTray s d).saves = s.saves :=
  (changes_closeTray s d .saves (by decide))
@[simp] theorem closeTray_save (s : State) (d : Drive) (x : Drive) : (State.closeTray s d).save x = s.save x := by
  simp only [State.save, closeTray_saves]
@[simp] theorem closeTray_verifyQueue (s : State) (d : Drive) : (State.closeTray s d).verifyQueue = s.verifyQueue :=
  (changes_closeTray s d .verifyQueue (by decide))
@[simp] theorem closeTray_contexts (s : State) (d : Drive) : (State.closeTray s d).contexts = s.contexts :=
  (changes_closeTray s d .contexts (by decide))
@[simp] theorem closeTray_context (s : State) (d : Drive) (x : Fin 4) : (State.closeTray s d).context x = s.context x := by
  simp only [State.context, closeTray_contexts]
@[simp] theorem closeTray_orders (s : State) (d : Drive) : (State.closeTray s d).orders = s.orders :=
  (changes_closeTray s d .orders (by decide))
@[simp] theorem closeTray_order (s : State) (d : Drive) (x : OrderNo) : (State.closeTray s d).order x = s.order x := by
  simp only [State.order, closeTray_orders]
@[simp] theorem closeTray_records (s : State) (d : Drive) : (State.closeTray s d).records = s.records :=
  (changes_closeTray s d .records (by decide))
@[simp] theorem closeTray_record (s : State) (d : Drive) (x : RecNo) : (State.closeTray s d).record x = s.record x := by
  simp only [State.record, closeTray_records]
@[simp] theorem closeTray_stations (s : State) (d : Drive) : (State.closeTray s d).stations = s.stations :=
  (changes_closeTray s d .stations (by decide))
@[simp] theorem closeTray_station (s : State) (d : Drive) (x : StationNo) : (State.closeTray s d).station x = s.station x := by
  simp only [State.station, closeTray_stations]
@[simp] theorem closeTray_queue (s : State) (d : Drive) : (State.closeTray s d).queue = s.queue :=
  (changes_closeTray s d .queue (by decide))
@[simp] theorem closeTray_transport (s : State) (d : Drive) : (State.closeTray s d).transport = s.transport :=
  (changes_closeTray s d .transport (by decide))
@[simp] theorem closeTray_artworks (s : State) (d : Drive) : (State.closeTray s d).artworks = s.artworks :=
  (changes_closeTray s d .artworks (by decide))
@[simp] theorem closeTray_artwork (s : State) (d : Drive) (x : ArtNo) : (State.closeTray s d).artwork x = s.artwork x := by
  simp only [State.artwork, closeTray_artworks]
@[simp] theorem closeTray_templates (s : State) (d : Drive) : (State.closeTray s d).templates = s.templates :=
  (changes_closeTray s d .templates (by decide))
@[simp] theorem closeTray_template (s : State) (d : Drive) (x : TmplNo) : (State.closeTray s d).template x = s.template x := by
  simp only [State.template, closeTray_templates]
@[simp] theorem closeTray_printer (s : State) (d : Drive) : (State.closeTray s d).printer = s.printer :=
  (changes_closeTray s d .printer (by decide))
@[simp] theorem closeTray_feed (s : State) (d : Drive) : (State.closeTray s d).feed = s.feed :=
  (changes_closeTray s d .feed (by decide))
@[simp] theorem closeTray_settings (s : State) (d : Drive) : (State.closeTray s d).settings = s.settings :=
  (changes_closeTray s d .settings (by decide))
@[simp] theorem closeTray_pending (s : State) (d : Drive) : (State.closeTray s d).pending = s.pending :=
  (changes_closeTray s d .pending (by decide))

@[simp] theorem writeSend_images (s : State) (w : WaveNo) (d : Drive) : (State.writeSend s w d).images = s.images :=
  (changes_writeSend s w d .images (by decide))
@[simp] theorem writeSend_image (s : State) (w : WaveNo) (d : Drive) (x : SlotNo) : (State.writeSend s w d).image x = s.image x := by
  simp only [State.image, writeSend_images]
@[simp] theorem writeSend_accs (s : State) (w : WaveNo) (d : Drive) : (State.writeSend s w d).accs = s.accs :=
  (changes_writeSend s w d .accs (by decide))
@[simp] theorem writeSend_acc (s : State) (w : WaveNo) (d : Drive) (x : WaveNo) : (State.writeSend s w d).acc x = s.acc x := by
  simp only [State.acc, writeSend_accs]
@[simp] theorem writeSend_ladder (s : State) (w : WaveNo) (d : Drive) : (State.writeSend s w d).ladder = s.ladder :=
  (changes_writeSend s w d .ladder (by decide))
@[simp] theorem writeSend_code (s : State) (w : WaveNo) (d : Drive) (x : Rung) : (State.writeSend s w d).code x = s.code x := by
  simp only [State.code, writeSend_ladder]
@[simp] theorem writeSend_saves (s : State) (w : WaveNo) (d : Drive) : (State.writeSend s w d).saves = s.saves :=
  (changes_writeSend s w d .saves (by decide))
@[simp] theorem writeSend_save (s : State) (w : WaveNo) (d : Drive) (x : Drive) : (State.writeSend s w d).save x = s.save x := by
  simp only [State.save, writeSend_saves]
@[simp] theorem writeSend_verifyQueue (s : State) (w : WaveNo) (d : Drive) : (State.writeSend s w d).verifyQueue = s.verifyQueue :=
  (changes_writeSend s w d .verifyQueue (by decide))
@[simp] theorem writeSend_contexts (s : State) (w : WaveNo) (d : Drive) : (State.writeSend s w d).contexts = s.contexts :=
  (changes_writeSend s w d .contexts (by decide))
@[simp] theorem writeSend_context (s : State) (w : WaveNo) (d : Drive) (x : Fin 4) : (State.writeSend s w d).context x = s.context x := by
  simp only [State.context, writeSend_contexts]
@[simp] theorem writeSend_orders (s : State) (w : WaveNo) (d : Drive) : (State.writeSend s w d).orders = s.orders :=
  (changes_writeSend s w d .orders (by decide))
@[simp] theorem writeSend_order (s : State) (w : WaveNo) (d : Drive) (x : OrderNo) : (State.writeSend s w d).order x = s.order x := by
  simp only [State.order, writeSend_orders]
@[simp] theorem writeSend_records (s : State) (w : WaveNo) (d : Drive) : (State.writeSend s w d).records = s.records :=
  (changes_writeSend s w d .records (by decide))
@[simp] theorem writeSend_record (s : State) (w : WaveNo) (d : Drive) (x : RecNo) : (State.writeSend s w d).record x = s.record x := by
  simp only [State.record, writeSend_records]
@[simp] theorem writeSend_stations (s : State) (w : WaveNo) (d : Drive) : (State.writeSend s w d).stations = s.stations :=
  (changes_writeSend s w d .stations (by decide))
@[simp] theorem writeSend_station (s : State) (w : WaveNo) (d : Drive) (x : StationNo) : (State.writeSend s w d).station x = s.station x := by
  simp only [State.station, writeSend_stations]
@[simp] theorem writeSend_queue (s : State) (w : WaveNo) (d : Drive) : (State.writeSend s w d).queue = s.queue :=
  (changes_writeSend s w d .queue (by decide))
@[simp] theorem writeSend_transport (s : State) (w : WaveNo) (d : Drive) : (State.writeSend s w d).transport = s.transport :=
  (changes_writeSend s w d .transport (by decide))
@[simp] theorem writeSend_artworks (s : State) (w : WaveNo) (d : Drive) : (State.writeSend s w d).artworks = s.artworks :=
  (changes_writeSend s w d .artworks (by decide))
@[simp] theorem writeSend_artwork (s : State) (w : WaveNo) (d : Drive) (x : ArtNo) : (State.writeSend s w d).artwork x = s.artwork x := by
  simp only [State.artwork, writeSend_artworks]
@[simp] theorem writeSend_templates (s : State) (w : WaveNo) (d : Drive) : (State.writeSend s w d).templates = s.templates :=
  (changes_writeSend s w d .templates (by decide))
@[simp] theorem writeSend_template (s : State) (w : WaveNo) (d : Drive) (x : TmplNo) : (State.writeSend s w d).template x = s.template x := by
  simp only [State.template, writeSend_templates]
@[simp] theorem writeSend_printer (s : State) (w : WaveNo) (d : Drive) : (State.writeSend s w d).printer = s.printer :=
  (changes_writeSend s w d .printer (by decide))
@[simp] theorem writeSend_feed (s : State) (w : WaveNo) (d : Drive) : (State.writeSend s w d).feed = s.feed :=
  (changes_writeSend s w d .feed (by decide))
@[simp] theorem writeSend_outbound (s : State) (w : WaveNo) (d : Drive) : (State.writeSend s w d).outbound = s.outbound :=
  (changes_writeSend s w d .outbound (by decide))
@[simp] theorem writeSend_events (s : State) (w : WaveNo) (d : Drive) : (State.writeSend s w d).events = s.events :=
  (changes_writeSend s w d .events (by decide))
@[simp] theorem writeSend_event (s : State) (w : WaveNo) (d : Drive) (x : EventClass) : (State.writeSend s w d).event x = s.event x := by
  simp only [State.event, writeSend_events]
@[simp] theorem writeSend_settings (s : State) (w : WaveNo) (d : Drive) : (State.writeSend s w d).settings = s.settings :=
  (changes_writeSend s w d .settings (by decide))
@[simp] theorem writeSend_pending (s : State) (w : WaveNo) (d : Drive) : (State.writeSend s w d).pending = s.pending :=
  (changes_writeSend s w d .pending (by decide))

@[simp] theorem attach_images (s : State) (w : WaveNo) (d : Drive) : (State.attach s w d).images = s.images :=
  (changes_attach s w d .images (by decide))
@[simp] theorem attach_image (s : State) (w : WaveNo) (d : Drive) (x : SlotNo) : (State.attach s w d).image x = s.image x := by
  simp only [State.image, attach_images]
@[simp] theorem attach_accs (s : State) (w : WaveNo) (d : Drive) : (State.attach s w d).accs = s.accs :=
  (changes_attach s w d .accs (by decide))
@[simp] theorem attach_acc (s : State) (w : WaveNo) (d : Drive) (x : WaveNo) : (State.attach s w d).acc x = s.acc x := by
  simp only [State.acc, attach_accs]
@[simp] theorem attach_ladder (s : State) (w : WaveNo) (d : Drive) : (State.attach s w d).ladder = s.ladder :=
  (changes_attach s w d .ladder (by decide))
@[simp] theorem attach_code (s : State) (w : WaveNo) (d : Drive) (x : Rung) : (State.attach s w d).code x = s.code x := by
  simp only [State.code, attach_ladder]
@[simp] theorem attach_saves (s : State) (w : WaveNo) (d : Drive) : (State.attach s w d).saves = s.saves :=
  (changes_attach s w d .saves (by decide))
@[simp] theorem attach_save (s : State) (w : WaveNo) (d : Drive) (x : Drive) : (State.attach s w d).save x = s.save x := by
  simp only [State.save, attach_saves]
@[simp] theorem attach_verifyQueue (s : State) (w : WaveNo) (d : Drive) : (State.attach s w d).verifyQueue = s.verifyQueue :=
  (changes_attach s w d .verifyQueue (by decide))
@[simp] theorem attach_contexts (s : State) (w : WaveNo) (d : Drive) : (State.attach s w d).contexts = s.contexts :=
  (changes_attach s w d .contexts (by decide))
@[simp] theorem attach_context (s : State) (w : WaveNo) (d : Drive) (x : Fin 4) : (State.attach s w d).context x = s.context x := by
  simp only [State.context, attach_contexts]
@[simp] theorem attach_orders (s : State) (w : WaveNo) (d : Drive) : (State.attach s w d).orders = s.orders :=
  (changes_attach s w d .orders (by decide))
@[simp] theorem attach_order (s : State) (w : WaveNo) (d : Drive) (x : OrderNo) : (State.attach s w d).order x = s.order x := by
  simp only [State.order, attach_orders]
@[simp] theorem attach_records (s : State) (w : WaveNo) (d : Drive) : (State.attach s w d).records = s.records :=
  (changes_attach s w d .records (by decide))
@[simp] theorem attach_record (s : State) (w : WaveNo) (d : Drive) (x : RecNo) : (State.attach s w d).record x = s.record x := by
  simp only [State.record, attach_records]
@[simp] theorem attach_stations (s : State) (w : WaveNo) (d : Drive) : (State.attach s w d).stations = s.stations :=
  (changes_attach s w d .stations (by decide))
@[simp] theorem attach_station (s : State) (w : WaveNo) (d : Drive) (x : StationNo) : (State.attach s w d).station x = s.station x := by
  simp only [State.station, attach_stations]
@[simp] theorem attach_queue (s : State) (w : WaveNo) (d : Drive) : (State.attach s w d).queue = s.queue :=
  (changes_attach s w d .queue (by decide))
@[simp] theorem attach_transport (s : State) (w : WaveNo) (d : Drive) : (State.attach s w d).transport = s.transport :=
  (changes_attach s w d .transport (by decide))
@[simp] theorem attach_artworks (s : State) (w : WaveNo) (d : Drive) : (State.attach s w d).artworks = s.artworks :=
  (changes_attach s w d .artworks (by decide))
@[simp] theorem attach_artwork (s : State) (w : WaveNo) (d : Drive) (x : ArtNo) : (State.attach s w d).artwork x = s.artwork x := by
  simp only [State.artwork, attach_artworks]
@[simp] theorem attach_templates (s : State) (w : WaveNo) (d : Drive) : (State.attach s w d).templates = s.templates :=
  (changes_attach s w d .templates (by decide))
@[simp] theorem attach_template (s : State) (w : WaveNo) (d : Drive) (x : TmplNo) : (State.attach s w d).template x = s.template x := by
  simp only [State.template, attach_templates]
@[simp] theorem attach_printer (s : State) (w : WaveNo) (d : Drive) : (State.attach s w d).printer = s.printer :=
  (changes_attach s w d .printer (by decide))
@[simp] theorem attach_feed (s : State) (w : WaveNo) (d : Drive) : (State.attach s w d).feed = s.feed :=
  (changes_attach s w d .feed (by decide))
@[simp] theorem attach_settings (s : State) (w : WaveNo) (d : Drive) : (State.attach s w d).settings = s.settings :=
  (changes_attach s w d .settings (by decide))
@[simp] theorem attach_pending (s : State) (w : WaveNo) (d : Drive) : (State.attach s w d).pending = s.pending :=
  (changes_attach s w d .pending (by decide))

@[simp] theorem giveCause_images (s : State) (t : Option Token) (c : FailCause) : (State.giveCause s t c).images = s.images :=
  (changes_giveCause s t c .images (by decide))
@[simp] theorem giveCause_image (s : State) (t : Option Token) (c : FailCause) (x : SlotNo) : (State.giveCause s t c).image x = s.image x := by
  simp only [State.image, giveCause_images]
@[simp] theorem giveCause_accs (s : State) (t : Option Token) (c : FailCause) : (State.giveCause s t c).accs = s.accs :=
  (changes_giveCause s t c .accs (by decide))
@[simp] theorem giveCause_acc (s : State) (t : Option Token) (c : FailCause) (x : WaveNo) : (State.giveCause s t c).acc x = s.acc x := by
  simp only [State.acc, giveCause_accs]
@[simp] theorem giveCause_waves (s : State) (t : Option Token) (c : FailCause) : (State.giveCause s t c).waves = s.waves :=
  (changes_giveCause s t c .waves (by decide))
@[simp] theorem giveCause_wave (s : State) (t : Option Token) (c : FailCause) (x : WaveNo) : (State.giveCause s t c).wave x = s.wave x := by
  simp only [State.wave, giveCause_waves]
@[simp] theorem giveCause_drives (s : State) (t : Option Token) (c : FailCause) : (State.giveCause s t c).drives = s.drives :=
  (changes_giveCause s t c .drives (by decide))
@[simp] theorem giveCause_drive (s : State) (t : Option Token) (c : FailCause) (x : Drive) : (State.giveCause s t c).drive x = s.drive x := by
  simp only [State.drive, giveCause_drives]
@[simp] theorem giveCause_ladder (s : State) (t : Option Token) (c : FailCause) : (State.giveCause s t c).ladder = s.ladder :=
  (changes_giveCause s t c .ladder (by decide))
@[simp] theorem giveCause_code (s : State) (t : Option Token) (c : FailCause) (x : Rung) : (State.giveCause s t c).code x = s.code x := by
  simp only [State.code, giveCause_ladder]
@[simp] theorem giveCause_saves (s : State) (t : Option Token) (c : FailCause) : (State.giveCause s t c).saves = s.saves :=
  (changes_giveCause s t c .saves (by decide))
@[simp] theorem giveCause_save (s : State) (t : Option Token) (c : FailCause) (x : Drive) : (State.giveCause s t c).save x = s.save x := by
  simp only [State.save, giveCause_saves]
@[simp] theorem giveCause_verifyQueue (s : State) (t : Option Token) (c : FailCause) : (State.giveCause s t c).verifyQueue = s.verifyQueue :=
  (changes_giveCause s t c .verifyQueue (by decide))
@[simp] theorem giveCause_contexts (s : State) (t : Option Token) (c : FailCause) : (State.giveCause s t c).contexts = s.contexts :=
  (changes_giveCause s t c .contexts (by decide))
@[simp] theorem giveCause_context (s : State) (t : Option Token) (c : FailCause) (x : Fin 4) : (State.giveCause s t c).context x = s.context x := by
  simp only [State.context, giveCause_contexts]
@[simp] theorem giveCause_orders (s : State) (t : Option Token) (c : FailCause) : (State.giveCause s t c).orders = s.orders :=
  (changes_giveCause s t c .orders (by decide))
@[simp] theorem giveCause_order (s : State) (t : Option Token) (c : FailCause) (x : OrderNo) : (State.giveCause s t c).order x = s.order x := by
  simp only [State.order, giveCause_orders]
@[simp] theorem giveCause_stations (s : State) (t : Option Token) (c : FailCause) : (State.giveCause s t c).stations = s.stations :=
  (changes_giveCause s t c .stations (by decide))
@[simp] theorem giveCause_station (s : State) (t : Option Token) (c : FailCause) (x : StationNo) : (State.giveCause s t c).station x = s.station x := by
  simp only [State.station, giveCause_stations]
@[simp] theorem giveCause_queue (s : State) (t : Option Token) (c : FailCause) : (State.giveCause s t c).queue = s.queue :=
  (changes_giveCause s t c .queue (by decide))
@[simp] theorem giveCause_transport (s : State) (t : Option Token) (c : FailCause) : (State.giveCause s t c).transport = s.transport :=
  (changes_giveCause s t c .transport (by decide))
@[simp] theorem giveCause_artworks (s : State) (t : Option Token) (c : FailCause) : (State.giveCause s t c).artworks = s.artworks :=
  (changes_giveCause s t c .artworks (by decide))
@[simp] theorem giveCause_artwork (s : State) (t : Option Token) (c : FailCause) (x : ArtNo) : (State.giveCause s t c).artwork x = s.artwork x := by
  simp only [State.artwork, giveCause_artworks]
@[simp] theorem giveCause_templates (s : State) (t : Option Token) (c : FailCause) : (State.giveCause s t c).templates = s.templates :=
  (changes_giveCause s t c .templates (by decide))
@[simp] theorem giveCause_template (s : State) (t : Option Token) (c : FailCause) (x : TmplNo) : (State.giveCause s t c).template x = s.template x := by
  simp only [State.template, giveCause_templates]
@[simp] theorem giveCause_printer (s : State) (t : Option Token) (c : FailCause) : (State.giveCause s t c).printer = s.printer :=
  (changes_giveCause s t c .printer (by decide))
@[simp] theorem giveCause_feed (s : State) (t : Option Token) (c : FailCause) : (State.giveCause s t c).feed = s.feed :=
  (changes_giveCause s t c .feed (by decide))
@[simp] theorem giveCause_outbound (s : State) (t : Option Token) (c : FailCause) : (State.giveCause s t c).outbound = s.outbound :=
  (changes_giveCause s t c .outbound (by decide))
@[simp] theorem giveCause_events (s : State) (t : Option Token) (c : FailCause) : (State.giveCause s t c).events = s.events :=
  (changes_giveCause s t c .events (by decide))
@[simp] theorem giveCause_event (s : State) (t : Option Token) (c : FailCause) (x : EventClass) : (State.giveCause s t c).event x = s.event x := by
  simp only [State.event, giveCause_events]
@[simp] theorem giveCause_settings (s : State) (t : Option Token) (c : FailCause) : (State.giveCause s t c).settings = s.settings :=
  (changes_giveCause s t c .settings (by decide))
@[simp] theorem giveCause_pending (s : State) (t : Option Token) (c : FailCause) : (State.giveCause s t c).pending = s.pending :=
  (changes_giveCause s t c .pending (by decide))

@[simp] theorem writeRecord_images (s : State) (t : Token) (f : DiscRecord → DiscRecord) : (State.writeRecord s t f).images = s.images :=
  (changes_writeRecord s t f .images (by decide))
@[simp] theorem writeRecord_image (s : State) (t : Token) (f : DiscRecord → DiscRecord) (x : SlotNo) : (State.writeRecord s t f).image x = s.image x := by
  simp only [State.image, writeRecord_images]
@[simp] theorem writeRecord_accs (s : State) (t : Token) (f : DiscRecord → DiscRecord) : (State.writeRecord s t f).accs = s.accs :=
  (changes_writeRecord s t f .accs (by decide))
@[simp] theorem writeRecord_acc (s : State) (t : Token) (f : DiscRecord → DiscRecord) (x : WaveNo) : (State.writeRecord s t f).acc x = s.acc x := by
  simp only [State.acc, writeRecord_accs]
@[simp] theorem writeRecord_waves (s : State) (t : Token) (f : DiscRecord → DiscRecord) : (State.writeRecord s t f).waves = s.waves :=
  (changes_writeRecord s t f .waves (by decide))
@[simp] theorem writeRecord_wave (s : State) (t : Token) (f : DiscRecord → DiscRecord) (x : WaveNo) : (State.writeRecord s t f).wave x = s.wave x := by
  simp only [State.wave, writeRecord_waves]
@[simp] theorem writeRecord_drives (s : State) (t : Token) (f : DiscRecord → DiscRecord) : (State.writeRecord s t f).drives = s.drives :=
  (changes_writeRecord s t f .drives (by decide))
@[simp] theorem writeRecord_drive (s : State) (t : Token) (f : DiscRecord → DiscRecord) (x : Drive) : (State.writeRecord s t f).drive x = s.drive x := by
  simp only [State.drive, writeRecord_drives]
@[simp] theorem writeRecord_ladder (s : State) (t : Token) (f : DiscRecord → DiscRecord) : (State.writeRecord s t f).ladder = s.ladder :=
  (changes_writeRecord s t f .ladder (by decide))
@[simp] theorem writeRecord_code (s : State) (t : Token) (f : DiscRecord → DiscRecord) (x : Rung) : (State.writeRecord s t f).code x = s.code x := by
  simp only [State.code, writeRecord_ladder]
@[simp] theorem writeRecord_saves (s : State) (t : Token) (f : DiscRecord → DiscRecord) : (State.writeRecord s t f).saves = s.saves :=
  (changes_writeRecord s t f .saves (by decide))
@[simp] theorem writeRecord_save (s : State) (t : Token) (f : DiscRecord → DiscRecord) (x : Drive) : (State.writeRecord s t f).save x = s.save x := by
  simp only [State.save, writeRecord_saves]
@[simp] theorem writeRecord_verifyQueue (s : State) (t : Token) (f : DiscRecord → DiscRecord) : (State.writeRecord s t f).verifyQueue = s.verifyQueue :=
  (changes_writeRecord s t f .verifyQueue (by decide))
@[simp] theorem writeRecord_contexts (s : State) (t : Token) (f : DiscRecord → DiscRecord) : (State.writeRecord s t f).contexts = s.contexts :=
  (changes_writeRecord s t f .contexts (by decide))
@[simp] theorem writeRecord_context (s : State) (t : Token) (f : DiscRecord → DiscRecord) (x : Fin 4) : (State.writeRecord s t f).context x = s.context x := by
  simp only [State.context, writeRecord_contexts]
@[simp] theorem writeRecord_orders (s : State) (t : Token) (f : DiscRecord → DiscRecord) : (State.writeRecord s t f).orders = s.orders :=
  (changes_writeRecord s t f .orders (by decide))
@[simp] theorem writeRecord_order (s : State) (t : Token) (f : DiscRecord → DiscRecord) (x : OrderNo) : (State.writeRecord s t f).order x = s.order x := by
  simp only [State.order, writeRecord_orders]
@[simp] theorem writeRecord_stations (s : State) (t : Token) (f : DiscRecord → DiscRecord) : (State.writeRecord s t f).stations = s.stations :=
  (changes_writeRecord s t f .stations (by decide))
@[simp] theorem writeRecord_station (s : State) (t : Token) (f : DiscRecord → DiscRecord) (x : StationNo) : (State.writeRecord s t f).station x = s.station x := by
  simp only [State.station, writeRecord_stations]
@[simp] theorem writeRecord_queue (s : State) (t : Token) (f : DiscRecord → DiscRecord) : (State.writeRecord s t f).queue = s.queue :=
  (changes_writeRecord s t f .queue (by decide))
@[simp] theorem writeRecord_transport (s : State) (t : Token) (f : DiscRecord → DiscRecord) : (State.writeRecord s t f).transport = s.transport :=
  (changes_writeRecord s t f .transport (by decide))
@[simp] theorem writeRecord_artworks (s : State) (t : Token) (f : DiscRecord → DiscRecord) : (State.writeRecord s t f).artworks = s.artworks :=
  (changes_writeRecord s t f .artworks (by decide))
@[simp] theorem writeRecord_artwork (s : State) (t : Token) (f : DiscRecord → DiscRecord) (x : ArtNo) : (State.writeRecord s t f).artwork x = s.artwork x := by
  simp only [State.artwork, writeRecord_artworks]
@[simp] theorem writeRecord_templates (s : State) (t : Token) (f : DiscRecord → DiscRecord) : (State.writeRecord s t f).templates = s.templates :=
  (changes_writeRecord s t f .templates (by decide))
@[simp] theorem writeRecord_template (s : State) (t : Token) (f : DiscRecord → DiscRecord) (x : TmplNo) : (State.writeRecord s t f).template x = s.template x := by
  simp only [State.template, writeRecord_templates]
@[simp] theorem writeRecord_printer (s : State) (t : Token) (f : DiscRecord → DiscRecord) : (State.writeRecord s t f).printer = s.printer :=
  (changes_writeRecord s t f .printer (by decide))
@[simp] theorem writeRecord_feed (s : State) (t : Token) (f : DiscRecord → DiscRecord) : (State.writeRecord s t f).feed = s.feed :=
  (changes_writeRecord s t f .feed (by decide))
@[simp] theorem writeRecord_outbound (s : State) (t : Token) (f : DiscRecord → DiscRecord) : (State.writeRecord s t f).outbound = s.outbound :=
  (changes_writeRecord s t f .outbound (by decide))
@[simp] theorem writeRecord_events (s : State) (t : Token) (f : DiscRecord → DiscRecord) : (State.writeRecord s t f).events = s.events :=
  (changes_writeRecord s t f .events (by decide))
@[simp] theorem writeRecord_event (s : State) (t : Token) (f : DiscRecord → DiscRecord) (x : EventClass) : (State.writeRecord s t f).event x = s.event x := by
  simp only [State.event, writeRecord_events]
@[simp] theorem writeRecord_settings (s : State) (t : Token) (f : DiscRecord → DiscRecord) : (State.writeRecord s t f).settings = s.settings :=
  (changes_writeRecord s t f .settings (by decide))
@[simp] theorem writeRecord_pending (s : State) (t : Token) (f : DiscRecord → DiscRecord) : (State.writeRecord s t f).pending = s.pending :=
  (changes_writeRecord s t f .pending (by decide))

@[simp] theorem writeRecordO_images (s : State) (t : Option Token) (f : DiscRecord → DiscRecord) : (State.writeRecord? s t f).images = s.images :=
  (changes_writeRecordO s t f .images (by decide))
@[simp] theorem writeRecordO_image (s : State) (t : Option Token) (f : DiscRecord → DiscRecord) (x : SlotNo) : (State.writeRecord? s t f).image x = s.image x := by
  simp only [State.image, writeRecordO_images]
@[simp] theorem writeRecordO_accs (s : State) (t : Option Token) (f : DiscRecord → DiscRecord) : (State.writeRecord? s t f).accs = s.accs :=
  (changes_writeRecordO s t f .accs (by decide))
@[simp] theorem writeRecordO_acc (s : State) (t : Option Token) (f : DiscRecord → DiscRecord) (x : WaveNo) : (State.writeRecord? s t f).acc x = s.acc x := by
  simp only [State.acc, writeRecordO_accs]
@[simp] theorem writeRecordO_waves (s : State) (t : Option Token) (f : DiscRecord → DiscRecord) : (State.writeRecord? s t f).waves = s.waves :=
  (changes_writeRecordO s t f .waves (by decide))
@[simp] theorem writeRecordO_wave (s : State) (t : Option Token) (f : DiscRecord → DiscRecord) (x : WaveNo) : (State.writeRecord? s t f).wave x = s.wave x := by
  simp only [State.wave, writeRecordO_waves]
@[simp] theorem writeRecordO_drives (s : State) (t : Option Token) (f : DiscRecord → DiscRecord) : (State.writeRecord? s t f).drives = s.drives :=
  (changes_writeRecordO s t f .drives (by decide))
@[simp] theorem writeRecordO_drive (s : State) (t : Option Token) (f : DiscRecord → DiscRecord) (x : Drive) : (State.writeRecord? s t f).drive x = s.drive x := by
  simp only [State.drive, writeRecordO_drives]
@[simp] theorem writeRecordO_ladder (s : State) (t : Option Token) (f : DiscRecord → DiscRecord) : (State.writeRecord? s t f).ladder = s.ladder :=
  (changes_writeRecordO s t f .ladder (by decide))
@[simp] theorem writeRecordO_code (s : State) (t : Option Token) (f : DiscRecord → DiscRecord) (x : Rung) : (State.writeRecord? s t f).code x = s.code x := by
  simp only [State.code, writeRecordO_ladder]
@[simp] theorem writeRecordO_saves (s : State) (t : Option Token) (f : DiscRecord → DiscRecord) : (State.writeRecord? s t f).saves = s.saves :=
  (changes_writeRecordO s t f .saves (by decide))
@[simp] theorem writeRecordO_save (s : State) (t : Option Token) (f : DiscRecord → DiscRecord) (x : Drive) : (State.writeRecord? s t f).save x = s.save x := by
  simp only [State.save, writeRecordO_saves]
@[simp] theorem writeRecordO_verifyQueue (s : State) (t : Option Token) (f : DiscRecord → DiscRecord) : (State.writeRecord? s t f).verifyQueue = s.verifyQueue :=
  (changes_writeRecordO s t f .verifyQueue (by decide))
@[simp] theorem writeRecordO_contexts (s : State) (t : Option Token) (f : DiscRecord → DiscRecord) : (State.writeRecord? s t f).contexts = s.contexts :=
  (changes_writeRecordO s t f .contexts (by decide))
@[simp] theorem writeRecordO_context (s : State) (t : Option Token) (f : DiscRecord → DiscRecord) (x : Fin 4) : (State.writeRecord? s t f).context x = s.context x := by
  simp only [State.context, writeRecordO_contexts]
@[simp] theorem writeRecordO_orders (s : State) (t : Option Token) (f : DiscRecord → DiscRecord) : (State.writeRecord? s t f).orders = s.orders :=
  (changes_writeRecordO s t f .orders (by decide))
@[simp] theorem writeRecordO_order (s : State) (t : Option Token) (f : DiscRecord → DiscRecord) (x : OrderNo) : (State.writeRecord? s t f).order x = s.order x := by
  simp only [State.order, writeRecordO_orders]
@[simp] theorem writeRecordO_stations (s : State) (t : Option Token) (f : DiscRecord → DiscRecord) : (State.writeRecord? s t f).stations = s.stations :=
  (changes_writeRecordO s t f .stations (by decide))
@[simp] theorem writeRecordO_station (s : State) (t : Option Token) (f : DiscRecord → DiscRecord) (x : StationNo) : (State.writeRecord? s t f).station x = s.station x := by
  simp only [State.station, writeRecordO_stations]
@[simp] theorem writeRecordO_queue (s : State) (t : Option Token) (f : DiscRecord → DiscRecord) : (State.writeRecord? s t f).queue = s.queue :=
  (changes_writeRecordO s t f .queue (by decide))
@[simp] theorem writeRecordO_transport (s : State) (t : Option Token) (f : DiscRecord → DiscRecord) : (State.writeRecord? s t f).transport = s.transport :=
  (changes_writeRecordO s t f .transport (by decide))
@[simp] theorem writeRecordO_artworks (s : State) (t : Option Token) (f : DiscRecord → DiscRecord) : (State.writeRecord? s t f).artworks = s.artworks :=
  (changes_writeRecordO s t f .artworks (by decide))
@[simp] theorem writeRecordO_artwork (s : State) (t : Option Token) (f : DiscRecord → DiscRecord) (x : ArtNo) : (State.writeRecord? s t f).artwork x = s.artwork x := by
  simp only [State.artwork, writeRecordO_artworks]
@[simp] theorem writeRecordO_templates (s : State) (t : Option Token) (f : DiscRecord → DiscRecord) : (State.writeRecord? s t f).templates = s.templates :=
  (changes_writeRecordO s t f .templates (by decide))
@[simp] theorem writeRecordO_template (s : State) (t : Option Token) (f : DiscRecord → DiscRecord) (x : TmplNo) : (State.writeRecord? s t f).template x = s.template x := by
  simp only [State.template, writeRecordO_templates]
@[simp] theorem writeRecordO_printer (s : State) (t : Option Token) (f : DiscRecord → DiscRecord) : (State.writeRecord? s t f).printer = s.printer :=
  (changes_writeRecordO s t f .printer (by decide))
@[simp] theorem writeRecordO_feed (s : State) (t : Option Token) (f : DiscRecord → DiscRecord) : (State.writeRecord? s t f).feed = s.feed :=
  (changes_writeRecordO s t f .feed (by decide))
@[simp] theorem writeRecordO_outbound (s : State) (t : Option Token) (f : DiscRecord → DiscRecord) : (State.writeRecord? s t f).outbound = s.outbound :=
  (changes_writeRecordO s t f .outbound (by decide))
@[simp] theorem writeRecordO_events (s : State) (t : Option Token) (f : DiscRecord → DiscRecord) : (State.writeRecord? s t f).events = s.events :=
  (changes_writeRecordO s t f .events (by decide))
@[simp] theorem writeRecordO_event (s : State) (t : Option Token) (f : DiscRecord → DiscRecord) (x : EventClass) : (State.writeRecord? s t f).event x = s.event x := by
  simp only [State.event, writeRecordO_events]
@[simp] theorem writeRecordO_settings (s : State) (t : Option Token) (f : DiscRecord → DiscRecord) : (State.writeRecord? s t f).settings = s.settings :=
  (changes_writeRecordO s t f .settings (by decide))
@[simp] theorem writeRecordO_pending (s : State) (t : Option Token) (f : DiscRecord → DiscRecord) : (State.writeRecord? s t f).pending = s.pending :=
  (changes_writeRecordO s t f .pending (by decide))

@[simp] theorem takeRecord_images (s : State) (n : RecNo) (init : DiscRecord) : (State.takeRecord s n init).images = s.images :=
  (changes_takeRecord s n init .images (by decide))
@[simp] theorem takeRecord_image (s : State) (n : RecNo) (init : DiscRecord) (x : SlotNo) : (State.takeRecord s n init).image x = s.image x := by
  simp only [State.image, takeRecord_images]
@[simp] theorem takeRecord_accs (s : State) (n : RecNo) (init : DiscRecord) : (State.takeRecord s n init).accs = s.accs :=
  (changes_takeRecord s n init .accs (by decide))
@[simp] theorem takeRecord_acc (s : State) (n : RecNo) (init : DiscRecord) (x : WaveNo) : (State.takeRecord s n init).acc x = s.acc x := by
  simp only [State.acc, takeRecord_accs]
@[simp] theorem takeRecord_waves (s : State) (n : RecNo) (init : DiscRecord) : (State.takeRecord s n init).waves = s.waves :=
  (changes_takeRecord s n init .waves (by decide))
@[simp] theorem takeRecord_wave (s : State) (n : RecNo) (init : DiscRecord) (x : WaveNo) : (State.takeRecord s n init).wave x = s.wave x := by
  simp only [State.wave, takeRecord_waves]
@[simp] theorem takeRecord_drives (s : State) (n : RecNo) (init : DiscRecord) : (State.takeRecord s n init).drives = s.drives :=
  (changes_takeRecord s n init .drives (by decide))
@[simp] theorem takeRecord_drive (s : State) (n : RecNo) (init : DiscRecord) (x : Drive) : (State.takeRecord s n init).drive x = s.drive x := by
  simp only [State.drive, takeRecord_drives]
@[simp] theorem takeRecord_ladder (s : State) (n : RecNo) (init : DiscRecord) : (State.takeRecord s n init).ladder = s.ladder :=
  (changes_takeRecord s n init .ladder (by decide))
@[simp] theorem takeRecord_code (s : State) (n : RecNo) (init : DiscRecord) (x : Rung) : (State.takeRecord s n init).code x = s.code x := by
  simp only [State.code, takeRecord_ladder]
@[simp] theorem takeRecord_saves (s : State) (n : RecNo) (init : DiscRecord) : (State.takeRecord s n init).saves = s.saves :=
  (changes_takeRecord s n init .saves (by decide))
@[simp] theorem takeRecord_save (s : State) (n : RecNo) (init : DiscRecord) (x : Drive) : (State.takeRecord s n init).save x = s.save x := by
  simp only [State.save, takeRecord_saves]
@[simp] theorem takeRecord_verifyQueue (s : State) (n : RecNo) (init : DiscRecord) : (State.takeRecord s n init).verifyQueue = s.verifyQueue :=
  (changes_takeRecord s n init .verifyQueue (by decide))
@[simp] theorem takeRecord_contexts (s : State) (n : RecNo) (init : DiscRecord) : (State.takeRecord s n init).contexts = s.contexts :=
  (changes_takeRecord s n init .contexts (by decide))
@[simp] theorem takeRecord_context (s : State) (n : RecNo) (init : DiscRecord) (x : Fin 4) : (State.takeRecord s n init).context x = s.context x := by
  simp only [State.context, takeRecord_contexts]
@[simp] theorem takeRecord_orders (s : State) (n : RecNo) (init : DiscRecord) : (State.takeRecord s n init).orders = s.orders :=
  (changes_takeRecord s n init .orders (by decide))
@[simp] theorem takeRecord_order (s : State) (n : RecNo) (init : DiscRecord) (x : OrderNo) : (State.takeRecord s n init).order x = s.order x := by
  simp only [State.order, takeRecord_orders]
@[simp] theorem takeRecord_stations (s : State) (n : RecNo) (init : DiscRecord) : (State.takeRecord s n init).stations = s.stations :=
  (changes_takeRecord s n init .stations (by decide))
@[simp] theorem takeRecord_station (s : State) (n : RecNo) (init : DiscRecord) (x : StationNo) : (State.takeRecord s n init).station x = s.station x := by
  simp only [State.station, takeRecord_stations]
@[simp] theorem takeRecord_queue (s : State) (n : RecNo) (init : DiscRecord) : (State.takeRecord s n init).queue = s.queue :=
  (changes_takeRecord s n init .queue (by decide))
@[simp] theorem takeRecord_transport (s : State) (n : RecNo) (init : DiscRecord) : (State.takeRecord s n init).transport = s.transport :=
  (changes_takeRecord s n init .transport (by decide))
@[simp] theorem takeRecord_artworks (s : State) (n : RecNo) (init : DiscRecord) : (State.takeRecord s n init).artworks = s.artworks :=
  (changes_takeRecord s n init .artworks (by decide))
@[simp] theorem takeRecord_artwork (s : State) (n : RecNo) (init : DiscRecord) (x : ArtNo) : (State.takeRecord s n init).artwork x = s.artwork x := by
  simp only [State.artwork, takeRecord_artworks]
@[simp] theorem takeRecord_templates (s : State) (n : RecNo) (init : DiscRecord) : (State.takeRecord s n init).templates = s.templates :=
  (changes_takeRecord s n init .templates (by decide))
@[simp] theorem takeRecord_template (s : State) (n : RecNo) (init : DiscRecord) (x : TmplNo) : (State.takeRecord s n init).template x = s.template x := by
  simp only [State.template, takeRecord_templates]
@[simp] theorem takeRecord_printer (s : State) (n : RecNo) (init : DiscRecord) : (State.takeRecord s n init).printer = s.printer :=
  (changes_takeRecord s n init .printer (by decide))
@[simp] theorem takeRecord_feed (s : State) (n : RecNo) (init : DiscRecord) : (State.takeRecord s n init).feed = s.feed :=
  (changes_takeRecord s n init .feed (by decide))
@[simp] theorem takeRecord_outbound (s : State) (n : RecNo) (init : DiscRecord) : (State.takeRecord s n init).outbound = s.outbound :=
  (changes_takeRecord s n init .outbound (by decide))
@[simp] theorem takeRecord_events (s : State) (n : RecNo) (init : DiscRecord) : (State.takeRecord s n init).events = s.events :=
  (changes_takeRecord s n init .events (by decide))
@[simp] theorem takeRecord_event (s : State) (n : RecNo) (init : DiscRecord) (x : EventClass) : (State.takeRecord s n init).event x = s.event x := by
  simp only [State.event, takeRecord_events]
@[simp] theorem takeRecord_settings (s : State) (n : RecNo) (init : DiscRecord) : (State.takeRecord s n init).settings = s.settings :=
  (changes_takeRecord s n init .settings (by decide))
@[simp] theorem takeRecord_pending (s : State) (n : RecNo) (init : DiscRecord) : (State.takeRecord s n init).pending = s.pending :=
  (changes_takeRecord s n init .pending (by decide))

@[simp] theorem returnSetAside_images (s : State) (n : Option RecNo) : (State.returnSetAside s n).images = s.images :=
  (changes_returnSetAside s n .images (by decide))
@[simp] theorem returnSetAside_image (s : State) (n : Option RecNo) (x : SlotNo) : (State.returnSetAside s n).image x = s.image x := by
  simp only [State.image, returnSetAside_images]
@[simp] theorem returnSetAside_accs (s : State) (n : Option RecNo) : (State.returnSetAside s n).accs = s.accs :=
  (changes_returnSetAside s n .accs (by decide))
@[simp] theorem returnSetAside_acc (s : State) (n : Option RecNo) (x : WaveNo) : (State.returnSetAside s n).acc x = s.acc x := by
  simp only [State.acc, returnSetAside_accs]
@[simp] theorem returnSetAside_waves (s : State) (n : Option RecNo) : (State.returnSetAside s n).waves = s.waves :=
  (changes_returnSetAside s n .waves (by decide))
@[simp] theorem returnSetAside_wave (s : State) (n : Option RecNo) (x : WaveNo) : (State.returnSetAside s n).wave x = s.wave x := by
  simp only [State.wave, returnSetAside_waves]
@[simp] theorem returnSetAside_drives (s : State) (n : Option RecNo) : (State.returnSetAside s n).drives = s.drives :=
  (changes_returnSetAside s n .drives (by decide))
@[simp] theorem returnSetAside_drive (s : State) (n : Option RecNo) (x : Drive) : (State.returnSetAside s n).drive x = s.drive x := by
  simp only [State.drive, returnSetAside_drives]
@[simp] theorem returnSetAside_ladder (s : State) (n : Option RecNo) : (State.returnSetAside s n).ladder = s.ladder :=
  (changes_returnSetAside s n .ladder (by decide))
@[simp] theorem returnSetAside_code (s : State) (n : Option RecNo) (x : Rung) : (State.returnSetAside s n).code x = s.code x := by
  simp only [State.code, returnSetAside_ladder]
@[simp] theorem returnSetAside_saves (s : State) (n : Option RecNo) : (State.returnSetAside s n).saves = s.saves :=
  (changes_returnSetAside s n .saves (by decide))
@[simp] theorem returnSetAside_save (s : State) (n : Option RecNo) (x : Drive) : (State.returnSetAside s n).save x = s.save x := by
  simp only [State.save, returnSetAside_saves]
@[simp] theorem returnSetAside_verifyQueue (s : State) (n : Option RecNo) : (State.returnSetAside s n).verifyQueue = s.verifyQueue :=
  (changes_returnSetAside s n .verifyQueue (by decide))
@[simp] theorem returnSetAside_contexts (s : State) (n : Option RecNo) : (State.returnSetAside s n).contexts = s.contexts :=
  (changes_returnSetAside s n .contexts (by decide))
@[simp] theorem returnSetAside_context (s : State) (n : Option RecNo) (x : Fin 4) : (State.returnSetAside s n).context x = s.context x := by
  simp only [State.context, returnSetAside_contexts]
@[simp] theorem returnSetAside_orders (s : State) (n : Option RecNo) : (State.returnSetAside s n).orders = s.orders :=
  (changes_returnSetAside s n .orders (by decide))
@[simp] theorem returnSetAside_order (s : State) (n : Option RecNo) (x : OrderNo) : (State.returnSetAside s n).order x = s.order x := by
  simp only [State.order, returnSetAside_orders]
@[simp] theorem returnSetAside_stations (s : State) (n : Option RecNo) : (State.returnSetAside s n).stations = s.stations :=
  (changes_returnSetAside s n .stations (by decide))
@[simp] theorem returnSetAside_station (s : State) (n : Option RecNo) (x : StationNo) : (State.returnSetAside s n).station x = s.station x := by
  simp only [State.station, returnSetAside_stations]
@[simp] theorem returnSetAside_queue (s : State) (n : Option RecNo) : (State.returnSetAside s n).queue = s.queue :=
  (changes_returnSetAside s n .queue (by decide))
@[simp] theorem returnSetAside_transport (s : State) (n : Option RecNo) : (State.returnSetAside s n).transport = s.transport :=
  (changes_returnSetAside s n .transport (by decide))
@[simp] theorem returnSetAside_artworks (s : State) (n : Option RecNo) : (State.returnSetAside s n).artworks = s.artworks :=
  (changes_returnSetAside s n .artworks (by decide))
@[simp] theorem returnSetAside_artwork (s : State) (n : Option RecNo) (x : ArtNo) : (State.returnSetAside s n).artwork x = s.artwork x := by
  simp only [State.artwork, returnSetAside_artworks]
@[simp] theorem returnSetAside_templates (s : State) (n : Option RecNo) : (State.returnSetAside s n).templates = s.templates :=
  (changes_returnSetAside s n .templates (by decide))
@[simp] theorem returnSetAside_template (s : State) (n : Option RecNo) (x : TmplNo) : (State.returnSetAside s n).template x = s.template x := by
  simp only [State.template, returnSetAside_templates]
@[simp] theorem returnSetAside_printer (s : State) (n : Option RecNo) : (State.returnSetAside s n).printer = s.printer :=
  (changes_returnSetAside s n .printer (by decide))
@[simp] theorem returnSetAside_feed (s : State) (n : Option RecNo) : (State.returnSetAside s n).feed = s.feed :=
  (changes_returnSetAside s n .feed (by decide))
@[simp] theorem returnSetAside_outbound (s : State) (n : Option RecNo) : (State.returnSetAside s n).outbound = s.outbound :=
  (changes_returnSetAside s n .outbound (by decide))
@[simp] theorem returnSetAside_events (s : State) (n : Option RecNo) : (State.returnSetAside s n).events = s.events :=
  (changes_returnSetAside s n .events (by decide))
@[simp] theorem returnSetAside_event (s : State) (n : Option RecNo) (x : EventClass) : (State.returnSetAside s n).event x = s.event x := by
  simp only [State.event, returnSetAside_events]
@[simp] theorem returnSetAside_settings (s : State) (n : Option RecNo) : (State.returnSetAside s n).settings = s.settings :=
  (changes_returnSetAside s n .settings (by decide))
@[simp] theorem returnSetAside_pending (s : State) (n : Option RecNo) : (State.returnSetAside s n).pending = s.pending :=
  (changes_returnSetAside s n .pending (by decide))

@[simp] theorem failBurn_images (s : State) (d : Drive) (c : FailCause) : (State.failBurn s d c).images = s.images :=
  (changes_failBurn s d c .images (by decide))
@[simp] theorem failBurn_image (s : State) (d : Drive) (c : FailCause) (x : SlotNo) : (State.failBurn s d c).image x = s.image x := by
  simp only [State.image, failBurn_images]
@[simp] theorem failBurn_accs (s : State) (d : Drive) (c : FailCause) : (State.failBurn s d c).accs = s.accs :=
  (changes_failBurn s d c .accs (by decide))
@[simp] theorem failBurn_acc (s : State) (d : Drive) (c : FailCause) (x : WaveNo) : (State.failBurn s d c).acc x = s.acc x := by
  simp only [State.acc, failBurn_accs]
@[simp] theorem failBurn_waves (s : State) (d : Drive) (c : FailCause) : (State.failBurn s d c).waves = s.waves :=
  (changes_failBurn s d c .waves (by decide))
@[simp] theorem failBurn_wave (s : State) (d : Drive) (c : FailCause) (x : WaveNo) : (State.failBurn s d c).wave x = s.wave x := by
  simp only [State.wave, failBurn_waves]
@[simp] theorem failBurn_drives (s : State) (d : Drive) (c : FailCause) : (State.failBurn s d c).drives = s.drives :=
  (changes_failBurn s d c .drives (by decide))
@[simp] theorem failBurn_drive (s : State) (d : Drive) (c : FailCause) (x : Drive) : (State.failBurn s d c).drive x = s.drive x := by
  simp only [State.drive, failBurn_drives]
@[simp] theorem failBurn_ladder (s : State) (d : Drive) (c : FailCause) : (State.failBurn s d c).ladder = s.ladder :=
  (changes_failBurn s d c .ladder (by decide))
@[simp] theorem failBurn_code (s : State) (d : Drive) (c : FailCause) (x : Rung) : (State.failBurn s d c).code x = s.code x := by
  simp only [State.code, failBurn_ladder]
@[simp] theorem failBurn_saves (s : State) (d : Drive) (c : FailCause) : (State.failBurn s d c).saves = s.saves :=
  (changes_failBurn s d c .saves (by decide))
@[simp] theorem failBurn_save (s : State) (d : Drive) (c : FailCause) (x : Drive) : (State.failBurn s d c).save x = s.save x := by
  simp only [State.save, failBurn_saves]
@[simp] theorem failBurn_verifyQueue (s : State) (d : Drive) (c : FailCause) : (State.failBurn s d c).verifyQueue = s.verifyQueue :=
  (changes_failBurn s d c .verifyQueue (by decide))
@[simp] theorem failBurn_contexts (s : State) (d : Drive) (c : FailCause) : (State.failBurn s d c).contexts = s.contexts :=
  (changes_failBurn s d c .contexts (by decide))
@[simp] theorem failBurn_context (s : State) (d : Drive) (c : FailCause) (x : Fin 4) : (State.failBurn s d c).context x = s.context x := by
  simp only [State.context, failBurn_contexts]
@[simp] theorem failBurn_orders (s : State) (d : Drive) (c : FailCause) : (State.failBurn s d c).orders = s.orders :=
  (changes_failBurn s d c .orders (by decide))
@[simp] theorem failBurn_order (s : State) (d : Drive) (c : FailCause) (x : OrderNo) : (State.failBurn s d c).order x = s.order x := by
  simp only [State.order, failBurn_orders]
@[simp] theorem failBurn_stations (s : State) (d : Drive) (c : FailCause) : (State.failBurn s d c).stations = s.stations :=
  (changes_failBurn s d c .stations (by decide))
@[simp] theorem failBurn_station (s : State) (d : Drive) (c : FailCause) (x : StationNo) : (State.failBurn s d c).station x = s.station x := by
  simp only [State.station, failBurn_stations]
@[simp] theorem failBurn_queue (s : State) (d : Drive) (c : FailCause) : (State.failBurn s d c).queue = s.queue :=
  (changes_failBurn s d c .queue (by decide))
@[simp] theorem failBurn_transport (s : State) (d : Drive) (c : FailCause) : (State.failBurn s d c).transport = s.transport :=
  (changes_failBurn s d c .transport (by decide))
@[simp] theorem failBurn_artworks (s : State) (d : Drive) (c : FailCause) : (State.failBurn s d c).artworks = s.artworks :=
  (changes_failBurn s d c .artworks (by decide))
@[simp] theorem failBurn_artwork (s : State) (d : Drive) (c : FailCause) (x : ArtNo) : (State.failBurn s d c).artwork x = s.artwork x := by
  simp only [State.artwork, failBurn_artworks]
@[simp] theorem failBurn_templates (s : State) (d : Drive) (c : FailCause) : (State.failBurn s d c).templates = s.templates :=
  (changes_failBurn s d c .templates (by decide))
@[simp] theorem failBurn_template (s : State) (d : Drive) (c : FailCause) (x : TmplNo) : (State.failBurn s d c).template x = s.template x := by
  simp only [State.template, failBurn_templates]
@[simp] theorem failBurn_printer (s : State) (d : Drive) (c : FailCause) : (State.failBurn s d c).printer = s.printer :=
  (changes_failBurn s d c .printer (by decide))
@[simp] theorem failBurn_feed (s : State) (d : Drive) (c : FailCause) : (State.failBurn s d c).feed = s.feed :=
  (changes_failBurn s d c .feed (by decide))
@[simp] theorem failBurn_outbound (s : State) (d : Drive) (c : FailCause) : (State.failBurn s d c).outbound = s.outbound :=
  (changes_failBurn s d c .outbound (by decide))
@[simp] theorem failBurn_events (s : State) (d : Drive) (c : FailCause) : (State.failBurn s d c).events = s.events :=
  (changes_failBurn s d c .events (by decide))
@[simp] theorem failBurn_event (s : State) (d : Drive) (c : FailCause) (x : EventClass) : (State.failBurn s d c).event x = s.event x := by
  simp only [State.event, failBurn_events]
@[simp] theorem failBurn_settings (s : State) (d : Drive) (c : FailCause) : (State.failBurn s d c).settings = s.settings :=
  (changes_failBurn s d c .settings (by decide))
@[simp] theorem failBurn_pending (s : State) (d : Drive) (c : FailCause) : (State.failBurn s d c).pending = s.pending :=
  (changes_failBurn s d c .pending (by decide))

@[simp] theorem detachToUnload_images (s : State) (d : Drive) (c : FailCause) : (State.detachToUnload s d c).images = s.images :=
  (changes_detachToUnload s d c .images (by decide))
@[simp] theorem detachToUnload_image (s : State) (d : Drive) (c : FailCause) (x : SlotNo) : (State.detachToUnload s d c).image x = s.image x := by
  simp only [State.image, detachToUnload_images]
@[simp] theorem detachToUnload_accs (s : State) (d : Drive) (c : FailCause) : (State.detachToUnload s d c).accs = s.accs :=
  (changes_detachToUnload s d c .accs (by decide))
@[simp] theorem detachToUnload_acc (s : State) (d : Drive) (c : FailCause) (x : WaveNo) : (State.detachToUnload s d c).acc x = s.acc x := by
  simp only [State.acc, detachToUnload_accs]
@[simp] theorem detachToUnload_waves (s : State) (d : Drive) (c : FailCause) : (State.detachToUnload s d c).waves = s.waves :=
  (changes_detachToUnload s d c .waves (by decide))
@[simp] theorem detachToUnload_wave (s : State) (d : Drive) (c : FailCause) (x : WaveNo) : (State.detachToUnload s d c).wave x = s.wave x := by
  simp only [State.wave, detachToUnload_waves]
@[simp] theorem detachToUnload_ladder (s : State) (d : Drive) (c : FailCause) : (State.detachToUnload s d c).ladder = s.ladder :=
  (changes_detachToUnload s d c .ladder (by decide))
@[simp] theorem detachToUnload_code (s : State) (d : Drive) (c : FailCause) (x : Rung) : (State.detachToUnload s d c).code x = s.code x := by
  simp only [State.code, detachToUnload_ladder]
@[simp] theorem detachToUnload_saves (s : State) (d : Drive) (c : FailCause) : (State.detachToUnload s d c).saves = s.saves :=
  (changes_detachToUnload s d c .saves (by decide))
@[simp] theorem detachToUnload_save (s : State) (d : Drive) (c : FailCause) (x : Drive) : (State.detachToUnload s d c).save x = s.save x := by
  simp only [State.save, detachToUnload_saves]
@[simp] theorem detachToUnload_verifyQueue (s : State) (d : Drive) (c : FailCause) : (State.detachToUnload s d c).verifyQueue = s.verifyQueue :=
  (changes_detachToUnload s d c .verifyQueue (by decide))
@[simp] theorem detachToUnload_contexts (s : State) (d : Drive) (c : FailCause) : (State.detachToUnload s d c).contexts = s.contexts :=
  (changes_detachToUnload s d c .contexts (by decide))
@[simp] theorem detachToUnload_context (s : State) (d : Drive) (c : FailCause) (x : Fin 4) : (State.detachToUnload s d c).context x = s.context x := by
  simp only [State.context, detachToUnload_contexts]
@[simp] theorem detachToUnload_orders (s : State) (d : Drive) (c : FailCause) : (State.detachToUnload s d c).orders = s.orders :=
  (changes_detachToUnload s d c .orders (by decide))
@[simp] theorem detachToUnload_order (s : State) (d : Drive) (c : FailCause) (x : OrderNo) : (State.detachToUnload s d c).order x = s.order x := by
  simp only [State.order, detachToUnload_orders]
@[simp] theorem detachToUnload_stations (s : State) (d : Drive) (c : FailCause) : (State.detachToUnload s d c).stations = s.stations :=
  (changes_detachToUnload s d c .stations (by decide))
@[simp] theorem detachToUnload_station (s : State) (d : Drive) (c : FailCause) (x : StationNo) : (State.detachToUnload s d c).station x = s.station x := by
  simp only [State.station, detachToUnload_stations]
@[simp] theorem detachToUnload_transport (s : State) (d : Drive) (c : FailCause) : (State.detachToUnload s d c).transport = s.transport :=
  (changes_detachToUnload s d c .transport (by decide))
@[simp] theorem detachToUnload_artworks (s : State) (d : Drive) (c : FailCause) : (State.detachToUnload s d c).artworks = s.artworks :=
  (changes_detachToUnload s d c .artworks (by decide))
@[simp] theorem detachToUnload_artwork (s : State) (d : Drive) (c : FailCause) (x : ArtNo) : (State.detachToUnload s d c).artwork x = s.artwork x := by
  simp only [State.artwork, detachToUnload_artworks]
@[simp] theorem detachToUnload_templates (s : State) (d : Drive) (c : FailCause) : (State.detachToUnload s d c).templates = s.templates :=
  (changes_detachToUnload s d c .templates (by decide))
@[simp] theorem detachToUnload_template (s : State) (d : Drive) (c : FailCause) (x : TmplNo) : (State.detachToUnload s d c).template x = s.template x := by
  simp only [State.template, detachToUnload_templates]
@[simp] theorem detachToUnload_feed (s : State) (d : Drive) (c : FailCause) : (State.detachToUnload s d c).feed = s.feed :=
  (changes_detachToUnload s d c .feed (by decide))
@[simp] theorem detachToUnload_settings (s : State) (d : Drive) (c : FailCause) : (State.detachToUnload s d c).settings = s.settings :=
  (changes_detachToUnload s d c .settings (by decide))
@[simp] theorem detachToUnload_pending (s : State) (d : Drive) (c : FailCause) : (State.detachToUnload s d c).pending = s.pending :=
  (changes_detachToUnload s d c .pending (by decide))

@[simp] theorem unattach_images (s : State) (w : WaveNo) (d : Drive) : (State.unattach s w d).images = s.images :=
  (changes_unattach s w d .images (by decide))
@[simp] theorem unattach_image (s : State) (w : WaveNo) (d : Drive) (x : SlotNo) : (State.unattach s w d).image x = s.image x := by
  simp only [State.image, unattach_images]
@[simp] theorem unattach_accs (s : State) (w : WaveNo) (d : Drive) : (State.unattach s w d).accs = s.accs :=
  (changes_unattach s w d .accs (by decide))
@[simp] theorem unattach_acc (s : State) (w : WaveNo) (d : Drive) (x : WaveNo) : (State.unattach s w d).acc x = s.acc x := by
  simp only [State.acc, unattach_accs]
@[simp] theorem unattach_drives (s : State) (w : WaveNo) (d : Drive) : (State.unattach s w d).drives = s.drives :=
  (changes_unattach s w d .drives (by decide))
@[simp] theorem unattach_drive (s : State) (w : WaveNo) (d : Drive) (x : Drive) : (State.unattach s w d).drive x = s.drive x := by
  simp only [State.drive, unattach_drives]
@[simp] theorem unattach_ladder (s : State) (w : WaveNo) (d : Drive) : (State.unattach s w d).ladder = s.ladder :=
  (changes_unattach s w d .ladder (by decide))
@[simp] theorem unattach_code (s : State) (w : WaveNo) (d : Drive) (x : Rung) : (State.unattach s w d).code x = s.code x := by
  simp only [State.code, unattach_ladder]
@[simp] theorem unattach_saves (s : State) (w : WaveNo) (d : Drive) : (State.unattach s w d).saves = s.saves :=
  (changes_unattach s w d .saves (by decide))
@[simp] theorem unattach_save (s : State) (w : WaveNo) (d : Drive) (x : Drive) : (State.unattach s w d).save x = s.save x := by
  simp only [State.save, unattach_saves]
@[simp] theorem unattach_verifyQueue (s : State) (w : WaveNo) (d : Drive) : (State.unattach s w d).verifyQueue = s.verifyQueue :=
  (changes_unattach s w d .verifyQueue (by decide))
@[simp] theorem unattach_contexts (s : State) (w : WaveNo) (d : Drive) : (State.unattach s w d).contexts = s.contexts :=
  (changes_unattach s w d .contexts (by decide))
@[simp] theorem unattach_context (s : State) (w : WaveNo) (d : Drive) (x : Fin 4) : (State.unattach s w d).context x = s.context x := by
  simp only [State.context, unattach_contexts]
@[simp] theorem unattach_orders (s : State) (w : WaveNo) (d : Drive) : (State.unattach s w d).orders = s.orders :=
  (changes_unattach s w d .orders (by decide))
@[simp] theorem unattach_order (s : State) (w : WaveNo) (d : Drive) (x : OrderNo) : (State.unattach s w d).order x = s.order x := by
  simp only [State.order, unattach_orders]
@[simp] theorem unattach_records (s : State) (w : WaveNo) (d : Drive) : (State.unattach s w d).records = s.records :=
  (changes_unattach s w d .records (by decide))
@[simp] theorem unattach_record (s : State) (w : WaveNo) (d : Drive) (x : RecNo) : (State.unattach s w d).record x = s.record x := by
  simp only [State.record, unattach_records]
@[simp] theorem unattach_stations (s : State) (w : WaveNo) (d : Drive) : (State.unattach s w d).stations = s.stations :=
  (changes_unattach s w d .stations (by decide))
@[simp] theorem unattach_station (s : State) (w : WaveNo) (d : Drive) (x : StationNo) : (State.unattach s w d).station x = s.station x := by
  simp only [State.station, unattach_stations]
@[simp] theorem unattach_queue (s : State) (w : WaveNo) (d : Drive) : (State.unattach s w d).queue = s.queue :=
  (changes_unattach s w d .queue (by decide))
@[simp] theorem unattach_transport (s : State) (w : WaveNo) (d : Drive) : (State.unattach s w d).transport = s.transport :=
  (changes_unattach s w d .transport (by decide))
@[simp] theorem unattach_artworks (s : State) (w : WaveNo) (d : Drive) : (State.unattach s w d).artworks = s.artworks :=
  (changes_unattach s w d .artworks (by decide))
@[simp] theorem unattach_artwork (s : State) (w : WaveNo) (d : Drive) (x : ArtNo) : (State.unattach s w d).artwork x = s.artwork x := by
  simp only [State.artwork, unattach_artworks]
@[simp] theorem unattach_templates (s : State) (w : WaveNo) (d : Drive) : (State.unattach s w d).templates = s.templates :=
  (changes_unattach s w d .templates (by decide))
@[simp] theorem unattach_template (s : State) (w : WaveNo) (d : Drive) (x : TmplNo) : (State.unattach s w d).template x = s.template x := by
  simp only [State.template, unattach_templates]
@[simp] theorem unattach_printer (s : State) (w : WaveNo) (d : Drive) : (State.unattach s w d).printer = s.printer :=
  (changes_unattach s w d .printer (by decide))
@[simp] theorem unattach_feed (s : State) (w : WaveNo) (d : Drive) : (State.unattach s w d).feed = s.feed :=
  (changes_unattach s w d .feed (by decide))
@[simp] theorem unattach_outbound (s : State) (w : WaveNo) (d : Drive) : (State.unattach s w d).outbound = s.outbound :=
  (changes_unattach s w d .outbound (by decide))
@[simp] theorem unattach_events (s : State) (w : WaveNo) (d : Drive) : (State.unattach s w d).events = s.events :=
  (changes_unattach s w d .events (by decide))
@[simp] theorem unattach_event (s : State) (w : WaveNo) (d : Drive) (x : EventClass) : (State.unattach s w d).event x = s.event x := by
  simp only [State.event, unattach_events]
@[simp] theorem unattach_settings (s : State) (w : WaveNo) (d : Drive) : (State.unattach s w d).settings = s.settings :=
  (changes_unattach s w d .settings (by decide))
@[simp] theorem unattach_pending (s : State) (w : WaveNo) (d : Drive) : (State.unattach s w d).pending = s.pending :=
  (changes_unattach s w d .pending (by decide))

@[simp] theorem detachAll_images (s : State) (w : WaveNo) (ds : List Drive) (c : FailCause) : (State.detachAll s w ds c).images = s.images :=
  (changes_detachAll s w ds c .images (by decide))
@[simp] theorem detachAll_image (s : State) (w : WaveNo) (ds : List Drive) (c : FailCause) (x : SlotNo) : (State.detachAll s w ds c).image x = s.image x := by
  simp only [State.image, detachAll_images]
@[simp] theorem detachAll_accs (s : State) (w : WaveNo) (ds : List Drive) (c : FailCause) : (State.detachAll s w ds c).accs = s.accs :=
  (changes_detachAll s w ds c .accs (by decide))
@[simp] theorem detachAll_acc (s : State) (w : WaveNo) (ds : List Drive) (c : FailCause) (x : WaveNo) : (State.detachAll s w ds c).acc x = s.acc x := by
  simp only [State.acc, detachAll_accs]
@[simp] theorem detachAll_ladder (s : State) (w : WaveNo) (ds : List Drive) (c : FailCause) : (State.detachAll s w ds c).ladder = s.ladder :=
  (changes_detachAll s w ds c .ladder (by decide))
@[simp] theorem detachAll_code (s : State) (w : WaveNo) (ds : List Drive) (c : FailCause) (x : Rung) : (State.detachAll s w ds c).code x = s.code x := by
  simp only [State.code, detachAll_ladder]
@[simp] theorem detachAll_saves (s : State) (w : WaveNo) (ds : List Drive) (c : FailCause) : (State.detachAll s w ds c).saves = s.saves :=
  (changes_detachAll s w ds c .saves (by decide))
@[simp] theorem detachAll_save (s : State) (w : WaveNo) (ds : List Drive) (c : FailCause) (x : Drive) : (State.detachAll s w ds c).save x = s.save x := by
  simp only [State.save, detachAll_saves]
@[simp] theorem detachAll_verifyQueue (s : State) (w : WaveNo) (ds : List Drive) (c : FailCause) : (State.detachAll s w ds c).verifyQueue = s.verifyQueue :=
  (changes_detachAll s w ds c .verifyQueue (by decide))
@[simp] theorem detachAll_contexts (s : State) (w : WaveNo) (ds : List Drive) (c : FailCause) : (State.detachAll s w ds c).contexts = s.contexts :=
  (changes_detachAll s w ds c .contexts (by decide))
@[simp] theorem detachAll_context (s : State) (w : WaveNo) (ds : List Drive) (c : FailCause) (x : Fin 4) : (State.detachAll s w ds c).context x = s.context x := by
  simp only [State.context, detachAll_contexts]
@[simp] theorem detachAll_orders (s : State) (w : WaveNo) (ds : List Drive) (c : FailCause) : (State.detachAll s w ds c).orders = s.orders :=
  (changes_detachAll s w ds c .orders (by decide))
@[simp] theorem detachAll_order (s : State) (w : WaveNo) (ds : List Drive) (c : FailCause) (x : OrderNo) : (State.detachAll s w ds c).order x = s.order x := by
  simp only [State.order, detachAll_orders]
@[simp] theorem detachAll_stations (s : State) (w : WaveNo) (ds : List Drive) (c : FailCause) : (State.detachAll s w ds c).stations = s.stations :=
  (changes_detachAll s w ds c .stations (by decide))
@[simp] theorem detachAll_station (s : State) (w : WaveNo) (ds : List Drive) (c : FailCause) (x : StationNo) : (State.detachAll s w ds c).station x = s.station x := by
  simp only [State.station, detachAll_stations]
@[simp] theorem detachAll_transport (s : State) (w : WaveNo) (ds : List Drive) (c : FailCause) : (State.detachAll s w ds c).transport = s.transport :=
  (changes_detachAll s w ds c .transport (by decide))
@[simp] theorem detachAll_artworks (s : State) (w : WaveNo) (ds : List Drive) (c : FailCause) : (State.detachAll s w ds c).artworks = s.artworks :=
  (changes_detachAll s w ds c .artworks (by decide))
@[simp] theorem detachAll_artwork (s : State) (w : WaveNo) (ds : List Drive) (c : FailCause) (x : ArtNo) : (State.detachAll s w ds c).artwork x = s.artwork x := by
  simp only [State.artwork, detachAll_artworks]
@[simp] theorem detachAll_templates (s : State) (w : WaveNo) (ds : List Drive) (c : FailCause) : (State.detachAll s w ds c).templates = s.templates :=
  (changes_detachAll s w ds c .templates (by decide))
@[simp] theorem detachAll_template (s : State) (w : WaveNo) (ds : List Drive) (c : FailCause) (x : TmplNo) : (State.detachAll s w ds c).template x = s.template x := by
  simp only [State.template, detachAll_templates]
@[simp] theorem detachAll_feed (s : State) (w : WaveNo) (ds : List Drive) (c : FailCause) : (State.detachAll s w ds c).feed = s.feed :=
  (changes_detachAll s w ds c .feed (by decide))
@[simp] theorem detachAll_settings (s : State) (w : WaveNo) (ds : List Drive) (c : FailCause) : (State.detachAll s w ds c).settings = s.settings :=
  (changes_detachAll s w ds c .settings (by decide))
@[simp] theorem detachAll_pending (s : State) (w : WaveNo) (ds : List Drive) (c : FailCause) : (State.detachAll s w ds c).pending = s.pending :=
  (changes_detachAll s w ds c .pending (by decide))

@[simp] theorem abortWave_ladder (s : State) (w : WaveNo) (c : AbortCause) : (State.abortWave s w c).ladder = s.ladder :=
  (changes_abortWave s w c .ladder (by decide))
@[simp] theorem abortWave_code (s : State) (w : WaveNo) (c : AbortCause) (x : Rung) : (State.abortWave s w c).code x = s.code x := by
  simp only [State.code, abortWave_ladder]
@[simp] theorem abortWave_saves (s : State) (w : WaveNo) (c : AbortCause) : (State.abortWave s w c).saves = s.saves :=
  (changes_abortWave s w c .saves (by decide))
@[simp] theorem abortWave_save (s : State) (w : WaveNo) (c : AbortCause) (x : Drive) : (State.abortWave s w c).save x = s.save x := by
  simp only [State.save, abortWave_saves]
@[simp] theorem abortWave_verifyQueue (s : State) (w : WaveNo) (c : AbortCause) : (State.abortWave s w c).verifyQueue = s.verifyQueue :=
  (changes_abortWave s w c .verifyQueue (by decide))
@[simp] theorem abortWave_contexts (s : State) (w : WaveNo) (c : AbortCause) : (State.abortWave s w c).contexts = s.contexts :=
  (changes_abortWave s w c .contexts (by decide))
@[simp] theorem abortWave_context (s : State) (w : WaveNo) (c : AbortCause) (x : Fin 4) : (State.abortWave s w c).context x = s.context x := by
  simp only [State.context, abortWave_contexts]
@[simp] theorem abortWave_orders (s : State) (w : WaveNo) (c : AbortCause) : (State.abortWave s w c).orders = s.orders :=
  (changes_abortWave s w c .orders (by decide))
@[simp] theorem abortWave_order (s : State) (w : WaveNo) (c : AbortCause) (x : OrderNo) : (State.abortWave s w c).order x = s.order x := by
  simp only [State.order, abortWave_orders]
@[simp] theorem abortWave_stations (s : State) (w : WaveNo) (c : AbortCause) : (State.abortWave s w c).stations = s.stations :=
  (changes_abortWave s w c .stations (by decide))
@[simp] theorem abortWave_station (s : State) (w : WaveNo) (c : AbortCause) (x : StationNo) : (State.abortWave s w c).station x = s.station x := by
  simp only [State.station, abortWave_stations]
@[simp] theorem abortWave_transport (s : State) (w : WaveNo) (c : AbortCause) : (State.abortWave s w c).transport = s.transport :=
  (changes_abortWave s w c .transport (by decide))
@[simp] theorem abortWave_artworks (s : State) (w : WaveNo) (c : AbortCause) : (State.abortWave s w c).artworks = s.artworks :=
  (changes_abortWave s w c .artworks (by decide))
@[simp] theorem abortWave_artwork (s : State) (w : WaveNo) (c : AbortCause) (x : ArtNo) : (State.abortWave s w c).artwork x = s.artwork x := by
  simp only [State.artwork, abortWave_artworks]
@[simp] theorem abortWave_templates (s : State) (w : WaveNo) (c : AbortCause) : (State.abortWave s w c).templates = s.templates :=
  (changes_abortWave s w c .templates (by decide))
@[simp] theorem abortWave_template (s : State) (w : WaveNo) (c : AbortCause) (x : TmplNo) : (State.abortWave s w c).template x = s.template x := by
  simp only [State.template, abortWave_templates]
@[simp] theorem abortWave_feed (s : State) (w : WaveNo) (c : AbortCause) : (State.abortWave s w c).feed = s.feed :=
  (changes_abortWave s w c .feed (by decide))
@[simp] theorem abortWave_settings (s : State) (w : WaveNo) (c : AbortCause) : (State.abortWave s w c).settings = s.settings :=
  (changes_abortWave s w c .settings (by decide))
@[simp] theorem abortWave_pending (s : State) (w : WaveNo) (c : AbortCause) : (State.abortWave s w c).pending = s.pending :=
  (changes_abortWave s w c .pending (by decide))

@[simp] theorem drainedCheck_drives (s : State) (w : WaveNo) : (State.drainedCheck s w).drives = s.drives :=
  (changes_drainedCheck s w .drives (by decide))
@[simp] theorem drainedCheck_drive (s : State) (w : WaveNo) (x : Drive) : (State.drainedCheck s w).drive x = s.drive x := by
  simp only [State.drive, drainedCheck_drives]
@[simp] theorem drainedCheck_ladder (s : State) (w : WaveNo) : (State.drainedCheck s w).ladder = s.ladder :=
  (changes_drainedCheck s w .ladder (by decide))
@[simp] theorem drainedCheck_code (s : State) (w : WaveNo) (x : Rung) : (State.drainedCheck s w).code x = s.code x := by
  simp only [State.code, drainedCheck_ladder]
@[simp] theorem drainedCheck_saves (s : State) (w : WaveNo) : (State.drainedCheck s w).saves = s.saves :=
  (changes_drainedCheck s w .saves (by decide))
@[simp] theorem drainedCheck_save (s : State) (w : WaveNo) (x : Drive) : (State.drainedCheck s w).save x = s.save x := by
  simp only [State.save, drainedCheck_saves]
@[simp] theorem drainedCheck_verifyQueue (s : State) (w : WaveNo) : (State.drainedCheck s w).verifyQueue = s.verifyQueue :=
  (changes_drainedCheck s w .verifyQueue (by decide))
@[simp] theorem drainedCheck_contexts (s : State) (w : WaveNo) : (State.drainedCheck s w).contexts = s.contexts :=
  (changes_drainedCheck s w .contexts (by decide))
@[simp] theorem drainedCheck_context (s : State) (w : WaveNo) (x : Fin 4) : (State.drainedCheck s w).context x = s.context x := by
  simp only [State.context, drainedCheck_contexts]
@[simp] theorem drainedCheck_orders (s : State) (w : WaveNo) : (State.drainedCheck s w).orders = s.orders :=
  (changes_drainedCheck s w .orders (by decide))
@[simp] theorem drainedCheck_order (s : State) (w : WaveNo) (x : OrderNo) : (State.drainedCheck s w).order x = s.order x := by
  simp only [State.order, drainedCheck_orders]
@[simp] theorem drainedCheck_records (s : State) (w : WaveNo) : (State.drainedCheck s w).records = s.records :=
  (changes_drainedCheck s w .records (by decide))
@[simp] theorem drainedCheck_record (s : State) (w : WaveNo) (x : RecNo) : (State.drainedCheck s w).record x = s.record x := by
  simp only [State.record, drainedCheck_records]
@[simp] theorem drainedCheck_stations (s : State) (w : WaveNo) : (State.drainedCheck s w).stations = s.stations :=
  (changes_drainedCheck s w .stations (by decide))
@[simp] theorem drainedCheck_station (s : State) (w : WaveNo) (x : StationNo) : (State.drainedCheck s w).station x = s.station x := by
  simp only [State.station, drainedCheck_stations]
@[simp] theorem drainedCheck_queue (s : State) (w : WaveNo) : (State.drainedCheck s w).queue = s.queue :=
  (changes_drainedCheck s w .queue (by decide))
@[simp] theorem drainedCheck_transport (s : State) (w : WaveNo) : (State.drainedCheck s w).transport = s.transport :=
  (changes_drainedCheck s w .transport (by decide))
@[simp] theorem drainedCheck_artworks (s : State) (w : WaveNo) : (State.drainedCheck s w).artworks = s.artworks :=
  (changes_drainedCheck s w .artworks (by decide))
@[simp] theorem drainedCheck_artwork (s : State) (w : WaveNo) (x : ArtNo) : (State.drainedCheck s w).artwork x = s.artwork x := by
  simp only [State.artwork, drainedCheck_artworks]
@[simp] theorem drainedCheck_templates (s : State) (w : WaveNo) : (State.drainedCheck s w).templates = s.templates :=
  (changes_drainedCheck s w .templates (by decide))
@[simp] theorem drainedCheck_template (s : State) (w : WaveNo) (x : TmplNo) : (State.drainedCheck s w).template x = s.template x := by
  simp only [State.template, drainedCheck_templates]
@[simp] theorem drainedCheck_printer (s : State) (w : WaveNo) : (State.drainedCheck s w).printer = s.printer :=
  (changes_drainedCheck s w .printer (by decide))
@[simp] theorem drainedCheck_feed (s : State) (w : WaveNo) : (State.drainedCheck s w).feed = s.feed :=
  (changes_drainedCheck s w .feed (by decide))
@[simp] theorem drainedCheck_settings (s : State) (w : WaveNo) : (State.drainedCheck s w).settings = s.settings :=
  (changes_drainedCheck s w .settings (by decide))
@[simp] theorem drainedCheck_pending (s : State) (w : WaveNo) : (State.drainedCheck s w).pending = s.pending :=
  (changes_drainedCheck s w .pending (by decide))

@[simp] theorem closeGate_images (s : State) (w : WaveNo) : (State.closeGate s w).images = s.images :=
  (changes_closeGate s w .images (by decide))
@[simp] theorem closeGate_image (s : State) (w : WaveNo) (x : SlotNo) : (State.closeGate s w).image x = s.image x := by
  simp only [State.image, closeGate_images]
@[simp] theorem closeGate_accs (s : State) (w : WaveNo) : (State.closeGate s w).accs = s.accs :=
  (changes_closeGate s w .accs (by decide))
@[simp] theorem closeGate_acc (s : State) (w : WaveNo) (x : WaveNo) : (State.closeGate s w).acc x = s.acc x := by
  simp only [State.acc, closeGate_accs]
@[simp] theorem closeGate_drives (s : State) (w : WaveNo) : (State.closeGate s w).drives = s.drives :=
  (changes_closeGate s w .drives (by decide))
@[simp] theorem closeGate_drive (s : State) (w : WaveNo) (x : Drive) : (State.closeGate s w).drive x = s.drive x := by
  simp only [State.drive, closeGate_drives]
@[simp] theorem closeGate_ladder (s : State) (w : WaveNo) : (State.closeGate s w).ladder = s.ladder :=
  (changes_closeGate s w .ladder (by decide))
@[simp] theorem closeGate_code (s : State) (w : WaveNo) (x : Rung) : (State.closeGate s w).code x = s.code x := by
  simp only [State.code, closeGate_ladder]
@[simp] theorem closeGate_saves (s : State) (w : WaveNo) : (State.closeGate s w).saves = s.saves :=
  (changes_closeGate s w .saves (by decide))
@[simp] theorem closeGate_save (s : State) (w : WaveNo) (x : Drive) : (State.closeGate s w).save x = s.save x := by
  simp only [State.save, closeGate_saves]
@[simp] theorem closeGate_verifyQueue (s : State) (w : WaveNo) : (State.closeGate s w).verifyQueue = s.verifyQueue :=
  (changes_closeGate s w .verifyQueue (by decide))
@[simp] theorem closeGate_contexts (s : State) (w : WaveNo) : (State.closeGate s w).contexts = s.contexts :=
  (changes_closeGate s w .contexts (by decide))
@[simp] theorem closeGate_context (s : State) (w : WaveNo) (x : Fin 4) : (State.closeGate s w).context x = s.context x := by
  simp only [State.context, closeGate_contexts]
@[simp] theorem closeGate_orders (s : State) (w : WaveNo) : (State.closeGate s w).orders = s.orders :=
  (changes_closeGate s w .orders (by decide))
@[simp] theorem closeGate_order (s : State) (w : WaveNo) (x : OrderNo) : (State.closeGate s w).order x = s.order x := by
  simp only [State.order, closeGate_orders]
@[simp] theorem closeGate_records (s : State) (w : WaveNo) : (State.closeGate s w).records = s.records :=
  (changes_closeGate s w .records (by decide))
@[simp] theorem closeGate_record (s : State) (w : WaveNo) (x : RecNo) : (State.closeGate s w).record x = s.record x := by
  simp only [State.record, closeGate_records]
@[simp] theorem closeGate_stations (s : State) (w : WaveNo) : (State.closeGate s w).stations = s.stations :=
  (changes_closeGate s w .stations (by decide))
@[simp] theorem closeGate_station (s : State) (w : WaveNo) (x : StationNo) : (State.closeGate s w).station x = s.station x := by
  simp only [State.station, closeGate_stations]
@[simp] theorem closeGate_queue (s : State) (w : WaveNo) : (State.closeGate s w).queue = s.queue :=
  (changes_closeGate s w .queue (by decide))
@[simp] theorem closeGate_transport (s : State) (w : WaveNo) : (State.closeGate s w).transport = s.transport :=
  (changes_closeGate s w .transport (by decide))
@[simp] theorem closeGate_artworks (s : State) (w : WaveNo) : (State.closeGate s w).artworks = s.artworks :=
  (changes_closeGate s w .artworks (by decide))
@[simp] theorem closeGate_artwork (s : State) (w : WaveNo) (x : ArtNo) : (State.closeGate s w).artwork x = s.artwork x := by
  simp only [State.artwork, closeGate_artworks]
@[simp] theorem closeGate_templates (s : State) (w : WaveNo) : (State.closeGate s w).templates = s.templates :=
  (changes_closeGate s w .templates (by decide))
@[simp] theorem closeGate_template (s : State) (w : WaveNo) (x : TmplNo) : (State.closeGate s w).template x = s.template x := by
  simp only [State.template, closeGate_templates]
@[simp] theorem closeGate_printer (s : State) (w : WaveNo) : (State.closeGate s w).printer = s.printer :=
  (changes_closeGate s w .printer (by decide))
@[simp] theorem closeGate_feed (s : State) (w : WaveNo) : (State.closeGate s w).feed = s.feed :=
  (changes_closeGate s w .feed (by decide))
@[simp] theorem closeGate_settings (s : State) (w : WaveNo) : (State.closeGate s w).settings = s.settings :=
  (changes_closeGate s w .settings (by decide))
@[simp] theorem closeGate_pending (s : State) (w : WaveNo) : (State.closeGate s w).pending = s.pending :=
  (changes_closeGate s w .pending (by decide))

@[simp] theorem sendCredit_images (s : State) (w : WaveNo) : (State.sendCredit s w).images = s.images :=
  (changes_sendCredit s w .images (by decide))
@[simp] theorem sendCredit_image (s : State) (w : WaveNo) (x : SlotNo) : (State.sendCredit s w).image x = s.image x := by
  simp only [State.image, sendCredit_images]
@[simp] theorem sendCredit_accs (s : State) (w : WaveNo) : (State.sendCredit s w).accs = s.accs :=
  (changes_sendCredit s w .accs (by decide))
@[simp] theorem sendCredit_acc (s : State) (w : WaveNo) (x : WaveNo) : (State.sendCredit s w).acc x = s.acc x := by
  simp only [State.acc, sendCredit_accs]
@[simp] theorem sendCredit_drives (s : State) (w : WaveNo) : (State.sendCredit s w).drives = s.drives :=
  (changes_sendCredit s w .drives (by decide))
@[simp] theorem sendCredit_drive (s : State) (w : WaveNo) (x : Drive) : (State.sendCredit s w).drive x = s.drive x := by
  simp only [State.drive, sendCredit_drives]
@[simp] theorem sendCredit_ladder (s : State) (w : WaveNo) : (State.sendCredit s w).ladder = s.ladder :=
  (changes_sendCredit s w .ladder (by decide))
@[simp] theorem sendCredit_code (s : State) (w : WaveNo) (x : Rung) : (State.sendCredit s w).code x = s.code x := by
  simp only [State.code, sendCredit_ladder]
@[simp] theorem sendCredit_saves (s : State) (w : WaveNo) : (State.sendCredit s w).saves = s.saves :=
  (changes_sendCredit s w .saves (by decide))
@[simp] theorem sendCredit_save (s : State) (w : WaveNo) (x : Drive) : (State.sendCredit s w).save x = s.save x := by
  simp only [State.save, sendCredit_saves]
@[simp] theorem sendCredit_verifyQueue (s : State) (w : WaveNo) : (State.sendCredit s w).verifyQueue = s.verifyQueue :=
  (changes_sendCredit s w .verifyQueue (by decide))
@[simp] theorem sendCredit_contexts (s : State) (w : WaveNo) : (State.sendCredit s w).contexts = s.contexts :=
  (changes_sendCredit s w .contexts (by decide))
@[simp] theorem sendCredit_context (s : State) (w : WaveNo) (x : Fin 4) : (State.sendCredit s w).context x = s.context x := by
  simp only [State.context, sendCredit_contexts]
@[simp] theorem sendCredit_orders (s : State) (w : WaveNo) : (State.sendCredit s w).orders = s.orders :=
  (changes_sendCredit s w .orders (by decide))
@[simp] theorem sendCredit_order (s : State) (w : WaveNo) (x : OrderNo) : (State.sendCredit s w).order x = s.order x := by
  simp only [State.order, sendCredit_orders]
@[simp] theorem sendCredit_records (s : State) (w : WaveNo) : (State.sendCredit s w).records = s.records :=
  (changes_sendCredit s w .records (by decide))
@[simp] theorem sendCredit_record (s : State) (w : WaveNo) (x : RecNo) : (State.sendCredit s w).record x = s.record x := by
  simp only [State.record, sendCredit_records]
@[simp] theorem sendCredit_stations (s : State) (w : WaveNo) : (State.sendCredit s w).stations = s.stations :=
  (changes_sendCredit s w .stations (by decide))
@[simp] theorem sendCredit_station (s : State) (w : WaveNo) (x : StationNo) : (State.sendCredit s w).station x = s.station x := by
  simp only [State.station, sendCredit_stations]
@[simp] theorem sendCredit_queue (s : State) (w : WaveNo) : (State.sendCredit s w).queue = s.queue :=
  (changes_sendCredit s w .queue (by decide))
@[simp] theorem sendCredit_transport (s : State) (w : WaveNo) : (State.sendCredit s w).transport = s.transport :=
  (changes_sendCredit s w .transport (by decide))
@[simp] theorem sendCredit_artworks (s : State) (w : WaveNo) : (State.sendCredit s w).artworks = s.artworks :=
  (changes_sendCredit s w .artworks (by decide))
@[simp] theorem sendCredit_artwork (s : State) (w : WaveNo) (x : ArtNo) : (State.sendCredit s w).artwork x = s.artwork x := by
  simp only [State.artwork, sendCredit_artworks]
@[simp] theorem sendCredit_templates (s : State) (w : WaveNo) : (State.sendCredit s w).templates = s.templates :=
  (changes_sendCredit s w .templates (by decide))
@[simp] theorem sendCredit_template (s : State) (w : WaveNo) (x : TmplNo) : (State.sendCredit s w).template x = s.template x := by
  simp only [State.template, sendCredit_templates]
@[simp] theorem sendCredit_printer (s : State) (w : WaveNo) : (State.sendCredit s w).printer = s.printer :=
  (changes_sendCredit s w .printer (by decide))
@[simp] theorem sendCredit_feed (s : State) (w : WaveNo) : (State.sendCredit s w).feed = s.feed :=
  (changes_sendCredit s w .feed (by decide))
@[simp] theorem sendCredit_events (s : State) (w : WaveNo) : (State.sendCredit s w).events = s.events :=
  (changes_sendCredit s w .events (by decide))
@[simp] theorem sendCredit_event (s : State) (w : WaveNo) (x : EventClass) : (State.sendCredit s w).event x = s.event x := by
  simp only [State.event, sendCredit_events]
@[simp] theorem sendCredit_settings (s : State) (w : WaveNo) : (State.sendCredit s w).settings = s.settings :=
  (changes_sendCredit s w .settings (by decide))
@[simp] theorem sendCredit_pending (s : State) (w : WaveNo) : (State.sendCredit s w).pending = s.pending :=
  (changes_sendCredit s w .pending (by decide))

@[simp] theorem creditIfDue_images (s : State) (w : WaveNo) : (State.creditIfDue s w).images = s.images :=
  (changes_creditIfDue s w .images (by decide))
@[simp] theorem creditIfDue_image (s : State) (w : WaveNo) (x : SlotNo) : (State.creditIfDue s w).image x = s.image x := by
  simp only [State.image, creditIfDue_images]
@[simp] theorem creditIfDue_accs (s : State) (w : WaveNo) : (State.creditIfDue s w).accs = s.accs :=
  (changes_creditIfDue s w .accs (by decide))
@[simp] theorem creditIfDue_acc (s : State) (w : WaveNo) (x : WaveNo) : (State.creditIfDue s w).acc x = s.acc x := by
  simp only [State.acc, creditIfDue_accs]
@[simp] theorem creditIfDue_drives (s : State) (w : WaveNo) : (State.creditIfDue s w).drives = s.drives :=
  (changes_creditIfDue s w .drives (by decide))
@[simp] theorem creditIfDue_drive (s : State) (w : WaveNo) (x : Drive) : (State.creditIfDue s w).drive x = s.drive x := by
  simp only [State.drive, creditIfDue_drives]
@[simp] theorem creditIfDue_ladder (s : State) (w : WaveNo) : (State.creditIfDue s w).ladder = s.ladder :=
  (changes_creditIfDue s w .ladder (by decide))
@[simp] theorem creditIfDue_code (s : State) (w : WaveNo) (x : Rung) : (State.creditIfDue s w).code x = s.code x := by
  simp only [State.code, creditIfDue_ladder]
@[simp] theorem creditIfDue_saves (s : State) (w : WaveNo) : (State.creditIfDue s w).saves = s.saves :=
  (changes_creditIfDue s w .saves (by decide))
@[simp] theorem creditIfDue_save (s : State) (w : WaveNo) (x : Drive) : (State.creditIfDue s w).save x = s.save x := by
  simp only [State.save, creditIfDue_saves]
@[simp] theorem creditIfDue_verifyQueue (s : State) (w : WaveNo) : (State.creditIfDue s w).verifyQueue = s.verifyQueue :=
  (changes_creditIfDue s w .verifyQueue (by decide))
@[simp] theorem creditIfDue_contexts (s : State) (w : WaveNo) : (State.creditIfDue s w).contexts = s.contexts :=
  (changes_creditIfDue s w .contexts (by decide))
@[simp] theorem creditIfDue_context (s : State) (w : WaveNo) (x : Fin 4) : (State.creditIfDue s w).context x = s.context x := by
  simp only [State.context, creditIfDue_contexts]
@[simp] theorem creditIfDue_orders (s : State) (w : WaveNo) : (State.creditIfDue s w).orders = s.orders :=
  (changes_creditIfDue s w .orders (by decide))
@[simp] theorem creditIfDue_order (s : State) (w : WaveNo) (x : OrderNo) : (State.creditIfDue s w).order x = s.order x := by
  simp only [State.order, creditIfDue_orders]
@[simp] theorem creditIfDue_records (s : State) (w : WaveNo) : (State.creditIfDue s w).records = s.records :=
  (changes_creditIfDue s w .records (by decide))
@[simp] theorem creditIfDue_record (s : State) (w : WaveNo) (x : RecNo) : (State.creditIfDue s w).record x = s.record x := by
  simp only [State.record, creditIfDue_records]
@[simp] theorem creditIfDue_stations (s : State) (w : WaveNo) : (State.creditIfDue s w).stations = s.stations :=
  (changes_creditIfDue s w .stations (by decide))
@[simp] theorem creditIfDue_station (s : State) (w : WaveNo) (x : StationNo) : (State.creditIfDue s w).station x = s.station x := by
  simp only [State.station, creditIfDue_stations]
@[simp] theorem creditIfDue_queue (s : State) (w : WaveNo) : (State.creditIfDue s w).queue = s.queue :=
  (changes_creditIfDue s w .queue (by decide))
@[simp] theorem creditIfDue_transport (s : State) (w : WaveNo) : (State.creditIfDue s w).transport = s.transport :=
  (changes_creditIfDue s w .transport (by decide))
@[simp] theorem creditIfDue_artworks (s : State) (w : WaveNo) : (State.creditIfDue s w).artworks = s.artworks :=
  (changes_creditIfDue s w .artworks (by decide))
@[simp] theorem creditIfDue_artwork (s : State) (w : WaveNo) (x : ArtNo) : (State.creditIfDue s w).artwork x = s.artwork x := by
  simp only [State.artwork, creditIfDue_artworks]
@[simp] theorem creditIfDue_templates (s : State) (w : WaveNo) : (State.creditIfDue s w).templates = s.templates :=
  (changes_creditIfDue s w .templates (by decide))
@[simp] theorem creditIfDue_template (s : State) (w : WaveNo) (x : TmplNo) : (State.creditIfDue s w).template x = s.template x := by
  simp only [State.template, creditIfDue_templates]
@[simp] theorem creditIfDue_printer (s : State) (w : WaveNo) : (State.creditIfDue s w).printer = s.printer :=
  (changes_creditIfDue s w .printer (by decide))
@[simp] theorem creditIfDue_feed (s : State) (w : WaveNo) : (State.creditIfDue s w).feed = s.feed :=
  (changes_creditIfDue s w .feed (by decide))
@[simp] theorem creditIfDue_events (s : State) (w : WaveNo) : (State.creditIfDue s w).events = s.events :=
  (changes_creditIfDue s w .events (by decide))
@[simp] theorem creditIfDue_event (s : State) (w : WaveNo) (x : EventClass) : (State.creditIfDue s w).event x = s.event x := by
  simp only [State.event, creditIfDue_events]
@[simp] theorem creditIfDue_settings (s : State) (w : WaveNo) : (State.creditIfDue s w).settings = s.settings :=
  (changes_creditIfDue s w .settings (by decide))
@[simp] theorem creditIfDue_pending (s : State) (w : WaveNo) : (State.creditIfDue s w).pending = s.pending :=
  (changes_creditIfDue s w .pending (by decide))

@[simp] theorem releaseRule_images (s : State) (w : WaveNo) : (State.releaseRule s w).images = s.images :=
  (changes_releaseRule s w .images (by decide))
@[simp] theorem releaseRule_image (s : State) (w : WaveNo) (x : SlotNo) : (State.releaseRule s w).image x = s.image x := by
  simp only [State.image, releaseRule_images]
@[simp] theorem releaseRule_accs (s : State) (w : WaveNo) : (State.releaseRule s w).accs = s.accs :=
  (changes_releaseRule s w .accs (by decide))
@[simp] theorem releaseRule_acc (s : State) (w : WaveNo) (x : WaveNo) : (State.releaseRule s w).acc x = s.acc x := by
  simp only [State.acc, releaseRule_accs]
@[simp] theorem releaseRule_drives (s : State) (w : WaveNo) : (State.releaseRule s w).drives = s.drives :=
  (changes_releaseRule s w .drives (by decide))
@[simp] theorem releaseRule_drive (s : State) (w : WaveNo) (x : Drive) : (State.releaseRule s w).drive x = s.drive x := by
  simp only [State.drive, releaseRule_drives]
@[simp] theorem releaseRule_ladder (s : State) (w : WaveNo) : (State.releaseRule s w).ladder = s.ladder :=
  (changes_releaseRule s w .ladder (by decide))
@[simp] theorem releaseRule_code (s : State) (w : WaveNo) (x : Rung) : (State.releaseRule s w).code x = s.code x := by
  simp only [State.code, releaseRule_ladder]
@[simp] theorem releaseRule_saves (s : State) (w : WaveNo) : (State.releaseRule s w).saves = s.saves :=
  (changes_releaseRule s w .saves (by decide))
@[simp] theorem releaseRule_save (s : State) (w : WaveNo) (x : Drive) : (State.releaseRule s w).save x = s.save x := by
  simp only [State.save, releaseRule_saves]
@[simp] theorem releaseRule_verifyQueue (s : State) (w : WaveNo) : (State.releaseRule s w).verifyQueue = s.verifyQueue :=
  (changes_releaseRule s w .verifyQueue (by decide))
@[simp] theorem releaseRule_contexts (s : State) (w : WaveNo) : (State.releaseRule s w).contexts = s.contexts :=
  (changes_releaseRule s w .contexts (by decide))
@[simp] theorem releaseRule_context (s : State) (w : WaveNo) (x : Fin 4) : (State.releaseRule s w).context x = s.context x := by
  simp only [State.context, releaseRule_contexts]
@[simp] theorem releaseRule_orders (s : State) (w : WaveNo) : (State.releaseRule s w).orders = s.orders :=
  (changes_releaseRule s w .orders (by decide))
@[simp] theorem releaseRule_order (s : State) (w : WaveNo) (x : OrderNo) : (State.releaseRule s w).order x = s.order x := by
  simp only [State.order, releaseRule_orders]
@[simp] theorem releaseRule_records (s : State) (w : WaveNo) : (State.releaseRule s w).records = s.records :=
  (changes_releaseRule s w .records (by decide))
@[simp] theorem releaseRule_record (s : State) (w : WaveNo) (x : RecNo) : (State.releaseRule s w).record x = s.record x := by
  simp only [State.record, releaseRule_records]
@[simp] theorem releaseRule_stations (s : State) (w : WaveNo) : (State.releaseRule s w).stations = s.stations :=
  (changes_releaseRule s w .stations (by decide))
@[simp] theorem releaseRule_station (s : State) (w : WaveNo) (x : StationNo) : (State.releaseRule s w).station x = s.station x := by
  simp only [State.station, releaseRule_stations]
@[simp] theorem releaseRule_queue (s : State) (w : WaveNo) : (State.releaseRule s w).queue = s.queue :=
  (changes_releaseRule s w .queue (by decide))
@[simp] theorem releaseRule_transport (s : State) (w : WaveNo) : (State.releaseRule s w).transport = s.transport :=
  (changes_releaseRule s w .transport (by decide))
@[simp] theorem releaseRule_artworks (s : State) (w : WaveNo) : (State.releaseRule s w).artworks = s.artworks :=
  (changes_releaseRule s w .artworks (by decide))
@[simp] theorem releaseRule_artwork (s : State) (w : WaveNo) (x : ArtNo) : (State.releaseRule s w).artwork x = s.artwork x := by
  simp only [State.artwork, releaseRule_artworks]
@[simp] theorem releaseRule_templates (s : State) (w : WaveNo) : (State.releaseRule s w).templates = s.templates :=
  (changes_releaseRule s w .templates (by decide))
@[simp] theorem releaseRule_template (s : State) (w : WaveNo) (x : TmplNo) : (State.releaseRule s w).template x = s.template x := by
  simp only [State.template, releaseRule_templates]
@[simp] theorem releaseRule_printer (s : State) (w : WaveNo) : (State.releaseRule s w).printer = s.printer :=
  (changes_releaseRule s w .printer (by decide))
@[simp] theorem releaseRule_feed (s : State) (w : WaveNo) : (State.releaseRule s w).feed = s.feed :=
  (changes_releaseRule s w .feed (by decide))
@[simp] theorem releaseRule_settings (s : State) (w : WaveNo) : (State.releaseRule s w).settings = s.settings :=
  (changes_releaseRule s w .settings (by decide))
@[simp] theorem releaseRule_pending (s : State) (w : WaveNo) : (State.releaseRule s w).pending = s.pending :=
  (changes_releaseRule s w .pending (by decide))

@[simp] theorem abortIfEmpty_ladder (s : State) (w : WaveNo) : (State.abortIfEmpty s w).ladder = s.ladder :=
  (changes_abortIfEmpty s w .ladder (by decide))
@[simp] theorem abortIfEmpty_code (s : State) (w : WaveNo) (x : Rung) : (State.abortIfEmpty s w).code x = s.code x := by
  simp only [State.code, abortIfEmpty_ladder]
@[simp] theorem abortIfEmpty_saves (s : State) (w : WaveNo) : (State.abortIfEmpty s w).saves = s.saves :=
  (changes_abortIfEmpty s w .saves (by decide))
@[simp] theorem abortIfEmpty_save (s : State) (w : WaveNo) (x : Drive) : (State.abortIfEmpty s w).save x = s.save x := by
  simp only [State.save, abortIfEmpty_saves]
@[simp] theorem abortIfEmpty_verifyQueue (s : State) (w : WaveNo) : (State.abortIfEmpty s w).verifyQueue = s.verifyQueue :=
  (changes_abortIfEmpty s w .verifyQueue (by decide))
@[simp] theorem abortIfEmpty_contexts (s : State) (w : WaveNo) : (State.abortIfEmpty s w).contexts = s.contexts :=
  (changes_abortIfEmpty s w .contexts (by decide))
@[simp] theorem abortIfEmpty_context (s : State) (w : WaveNo) (x : Fin 4) : (State.abortIfEmpty s w).context x = s.context x := by
  simp only [State.context, abortIfEmpty_contexts]
@[simp] theorem abortIfEmpty_orders (s : State) (w : WaveNo) : (State.abortIfEmpty s w).orders = s.orders :=
  (changes_abortIfEmpty s w .orders (by decide))
@[simp] theorem abortIfEmpty_order (s : State) (w : WaveNo) (x : OrderNo) : (State.abortIfEmpty s w).order x = s.order x := by
  simp only [State.order, abortIfEmpty_orders]
@[simp] theorem abortIfEmpty_stations (s : State) (w : WaveNo) : (State.abortIfEmpty s w).stations = s.stations :=
  (changes_abortIfEmpty s w .stations (by decide))
@[simp] theorem abortIfEmpty_station (s : State) (w : WaveNo) (x : StationNo) : (State.abortIfEmpty s w).station x = s.station x := by
  simp only [State.station, abortIfEmpty_stations]
@[simp] theorem abortIfEmpty_transport (s : State) (w : WaveNo) : (State.abortIfEmpty s w).transport = s.transport :=
  (changes_abortIfEmpty s w .transport (by decide))
@[simp] theorem abortIfEmpty_artworks (s : State) (w : WaveNo) : (State.abortIfEmpty s w).artworks = s.artworks :=
  (changes_abortIfEmpty s w .artworks (by decide))
@[simp] theorem abortIfEmpty_artwork (s : State) (w : WaveNo) (x : ArtNo) : (State.abortIfEmpty s w).artwork x = s.artwork x := by
  simp only [State.artwork, abortIfEmpty_artworks]
@[simp] theorem abortIfEmpty_templates (s : State) (w : WaveNo) : (State.abortIfEmpty s w).templates = s.templates :=
  (changes_abortIfEmpty s w .templates (by decide))
@[simp] theorem abortIfEmpty_template (s : State) (w : WaveNo) (x : TmplNo) : (State.abortIfEmpty s w).template x = s.template x := by
  simp only [State.template, abortIfEmpty_templates]
@[simp] theorem abortIfEmpty_feed (s : State) (w : WaveNo) : (State.abortIfEmpty s w).feed = s.feed :=
  (changes_abortIfEmpty s w .feed (by decide))
@[simp] theorem abortIfEmpty_settings (s : State) (w : WaveNo) : (State.abortIfEmpty s w).settings = s.settings :=
  (changes_abortIfEmpty s w .settings (by decide))
@[simp] theorem abortIfEmpty_pending (s : State) (w : WaveNo) : (State.abortIfEmpty s w).pending = s.pending :=
  (changes_abortIfEmpty s w .pending (by decide))

@[simp] theorem contextRule_images (s : State) : (State.contextRule s).images = s.images :=
  (changes_contextRule s .images (by decide))
@[simp] theorem contextRule_image (s : State) (x : SlotNo) : (State.contextRule s).image x = s.image x := by
  simp only [State.image, contextRule_images]
@[simp] theorem contextRule_accs (s : State) : (State.contextRule s).accs = s.accs :=
  (changes_contextRule s .accs (by decide))
@[simp] theorem contextRule_acc (s : State) (x : WaveNo) : (State.contextRule s).acc x = s.acc x := by
  simp only [State.acc, contextRule_accs]
@[simp] theorem contextRule_waves (s : State) : (State.contextRule s).waves = s.waves :=
  (changes_contextRule s .waves (by decide))
@[simp] theorem contextRule_wave (s : State) (x : WaveNo) : (State.contextRule s).wave x = s.wave x := by
  simp only [State.wave, contextRule_waves]
@[simp] theorem contextRule_ladder (s : State) : (State.contextRule s).ladder = s.ladder :=
  (changes_contextRule s .ladder (by decide))
@[simp] theorem contextRule_code (s : State) (x : Rung) : (State.contextRule s).code x = s.code x := by
  simp only [State.code, contextRule_ladder]
@[simp] theorem contextRule_orders (s : State) : (State.contextRule s).orders = s.orders :=
  (changes_contextRule s .orders (by decide))
@[simp] theorem contextRule_order (s : State) (x : OrderNo) : (State.contextRule s).order x = s.order x := by
  simp only [State.order, contextRule_orders]
@[simp] theorem contextRule_records (s : State) : (State.contextRule s).records = s.records :=
  (changes_contextRule s .records (by decide))
@[simp] theorem contextRule_record (s : State) (x : RecNo) : (State.contextRule s).record x = s.record x := by
  simp only [State.record, contextRule_records]
@[simp] theorem contextRule_stations (s : State) : (State.contextRule s).stations = s.stations :=
  (changes_contextRule s .stations (by decide))
@[simp] theorem contextRule_station (s : State) (x : StationNo) : (State.contextRule s).station x = s.station x := by
  simp only [State.station, contextRule_stations]
@[simp] theorem contextRule_queue (s : State) : (State.contextRule s).queue = s.queue :=
  (changes_contextRule s .queue (by decide))
@[simp] theorem contextRule_transport (s : State) : (State.contextRule s).transport = s.transport :=
  (changes_contextRule s .transport (by decide))
@[simp] theorem contextRule_artworks (s : State) : (State.contextRule s).artworks = s.artworks :=
  (changes_contextRule s .artworks (by decide))
@[simp] theorem contextRule_artwork (s : State) (x : ArtNo) : (State.contextRule s).artwork x = s.artwork x := by
  simp only [State.artwork, contextRule_artworks]
@[simp] theorem contextRule_templates (s : State) : (State.contextRule s).templates = s.templates :=
  (changes_contextRule s .templates (by decide))
@[simp] theorem contextRule_template (s : State) (x : TmplNo) : (State.contextRule s).template x = s.template x := by
  simp only [State.template, contextRule_templates]
@[simp] theorem contextRule_printer (s : State) : (State.contextRule s).printer = s.printer :=
  (changes_contextRule s .printer (by decide))
@[simp] theorem contextRule_feed (s : State) : (State.contextRule s).feed = s.feed :=
  (changes_contextRule s .feed (by decide))
@[simp] theorem contextRule_settings (s : State) : (State.contextRule s).settings = s.settings :=
  (changes_contextRule s .settings (by decide))
@[simp] theorem contextRule_pending (s : State) : (State.contextRule s).pending = s.pending :=
  (changes_contextRule s .pending (by decide))

@[simp] theorem readSend_images (s : State) (c : Fin 4) : (State.readSend s c).images = s.images :=
  (changes_readSend s c .images (by decide))
@[simp] theorem readSend_image (s : State) (c : Fin 4) (x : SlotNo) : (State.readSend s c).image x = s.image x := by
  simp only [State.image, readSend_images]
@[simp] theorem readSend_accs (s : State) (c : Fin 4) : (State.readSend s c).accs = s.accs :=
  (changes_readSend s c .accs (by decide))
@[simp] theorem readSend_acc (s : State) (c : Fin 4) (x : WaveNo) : (State.readSend s c).acc x = s.acc x := by
  simp only [State.acc, readSend_accs]
@[simp] theorem readSend_waves (s : State) (c : Fin 4) : (State.readSend s c).waves = s.waves :=
  (changes_readSend s c .waves (by decide))
@[simp] theorem readSend_wave (s : State) (c : Fin 4) (x : WaveNo) : (State.readSend s c).wave x = s.wave x := by
  simp only [State.wave, readSend_waves]
@[simp] theorem readSend_ladder (s : State) (c : Fin 4) : (State.readSend s c).ladder = s.ladder :=
  (changes_readSend s c .ladder (by decide))
@[simp] theorem readSend_code (s : State) (c : Fin 4) (x : Rung) : (State.readSend s c).code x = s.code x := by
  simp only [State.code, readSend_ladder]
@[simp] theorem readSend_saves (s : State) (c : Fin 4) : (State.readSend s c).saves = s.saves :=
  (changes_readSend s c .saves (by decide))
@[simp] theorem readSend_save (s : State) (c : Fin 4) (x : Drive) : (State.readSend s c).save x = s.save x := by
  simp only [State.save, readSend_saves]
@[simp] theorem readSend_verifyQueue (s : State) (c : Fin 4) : (State.readSend s c).verifyQueue = s.verifyQueue :=
  (changes_readSend s c .verifyQueue (by decide))
@[simp] theorem readSend_orders (s : State) (c : Fin 4) : (State.readSend s c).orders = s.orders :=
  (changes_readSend s c .orders (by decide))
@[simp] theorem readSend_order (s : State) (c : Fin 4) (x : OrderNo) : (State.readSend s c).order x = s.order x := by
  simp only [State.order, readSend_orders]
@[simp] theorem readSend_records (s : State) (c : Fin 4) : (State.readSend s c).records = s.records :=
  (changes_readSend s c .records (by decide))
@[simp] theorem readSend_record (s : State) (c : Fin 4) (x : RecNo) : (State.readSend s c).record x = s.record x := by
  simp only [State.record, readSend_records]
@[simp] theorem readSend_stations (s : State) (c : Fin 4) : (State.readSend s c).stations = s.stations :=
  (changes_readSend s c .stations (by decide))
@[simp] theorem readSend_station (s : State) (c : Fin 4) (x : StationNo) : (State.readSend s c).station x = s.station x := by
  simp only [State.station, readSend_stations]
@[simp] theorem readSend_queue (s : State) (c : Fin 4) : (State.readSend s c).queue = s.queue :=
  (changes_readSend s c .queue (by decide))
@[simp] theorem readSend_transport (s : State) (c : Fin 4) : (State.readSend s c).transport = s.transport :=
  (changes_readSend s c .transport (by decide))
@[simp] theorem readSend_artworks (s : State) (c : Fin 4) : (State.readSend s c).artworks = s.artworks :=
  (changes_readSend s c .artworks (by decide))
@[simp] theorem readSend_artwork (s : State) (c : Fin 4) (x : ArtNo) : (State.readSend s c).artwork x = s.artwork x := by
  simp only [State.artwork, readSend_artworks]
@[simp] theorem readSend_templates (s : State) (c : Fin 4) : (State.readSend s c).templates = s.templates :=
  (changes_readSend s c .templates (by decide))
@[simp] theorem readSend_template (s : State) (c : Fin 4) (x : TmplNo) : (State.readSend s c).template x = s.template x := by
  simp only [State.template, readSend_templates]
@[simp] theorem readSend_printer (s : State) (c : Fin 4) : (State.readSend s c).printer = s.printer :=
  (changes_readSend s c .printer (by decide))
@[simp] theorem readSend_feed (s : State) (c : Fin 4) : (State.readSend s c).feed = s.feed :=
  (changes_readSend s c .feed (by decide))
@[simp] theorem readSend_settings (s : State) (c : Fin 4) : (State.readSend s c).settings = s.settings :=
  (changes_readSend s c .settings (by decide))
@[simp] theorem readSend_pending (s : State) (c : Fin 4) : (State.readSend s c).pending = s.pending :=
  (changes_readSend s c .pending (by decide))

@[simp] theorem modContext_images (s : State) (c : Fin 4) (f : Context → Context) : (State.modContext s c f).images = s.images :=
  (changes_modContext s c f .images (by decide))
@[simp] theorem modContext_image (s : State) (c : Fin 4) (f : Context → Context) (x : SlotNo) : (State.modContext s c f).image x = s.image x := by
  simp only [State.image, modContext_images]
@[simp] theorem modContext_accs (s : State) (c : Fin 4) (f : Context → Context) : (State.modContext s c f).accs = s.accs :=
  (changes_modContext s c f .accs (by decide))
@[simp] theorem modContext_acc (s : State) (c : Fin 4) (f : Context → Context) (x : WaveNo) : (State.modContext s c f).acc x = s.acc x := by
  simp only [State.acc, modContext_accs]
@[simp] theorem modContext_waves (s : State) (c : Fin 4) (f : Context → Context) : (State.modContext s c f).waves = s.waves :=
  (changes_modContext s c f .waves (by decide))
@[simp] theorem modContext_wave (s : State) (c : Fin 4) (f : Context → Context) (x : WaveNo) : (State.modContext s c f).wave x = s.wave x := by
  simp only [State.wave, modContext_waves]
@[simp] theorem modContext_drives (s : State) (c : Fin 4) (f : Context → Context) : (State.modContext s c f).drives = s.drives :=
  (changes_modContext s c f .drives (by decide))
@[simp] theorem modContext_drive (s : State) (c : Fin 4) (f : Context → Context) (x : Drive) : (State.modContext s c f).drive x = s.drive x := by
  simp only [State.drive, modContext_drives]
@[simp] theorem modContext_ladder (s : State) (c : Fin 4) (f : Context → Context) : (State.modContext s c f).ladder = s.ladder :=
  (changes_modContext s c f .ladder (by decide))
@[simp] theorem modContext_code (s : State) (c : Fin 4) (f : Context → Context) (x : Rung) : (State.modContext s c f).code x = s.code x := by
  simp only [State.code, modContext_ladder]
@[simp] theorem modContext_saves (s : State) (c : Fin 4) (f : Context → Context) : (State.modContext s c f).saves = s.saves :=
  (changes_modContext s c f .saves (by decide))
@[simp] theorem modContext_save (s : State) (c : Fin 4) (f : Context → Context) (x : Drive) : (State.modContext s c f).save x = s.save x := by
  simp only [State.save, modContext_saves]
@[simp] theorem modContext_verifyQueue (s : State) (c : Fin 4) (f : Context → Context) : (State.modContext s c f).verifyQueue = s.verifyQueue :=
  (changes_modContext s c f .verifyQueue (by decide))
@[simp] theorem modContext_orders (s : State) (c : Fin 4) (f : Context → Context) : (State.modContext s c f).orders = s.orders :=
  (changes_modContext s c f .orders (by decide))
@[simp] theorem modContext_order (s : State) (c : Fin 4) (f : Context → Context) (x : OrderNo) : (State.modContext s c f).order x = s.order x := by
  simp only [State.order, modContext_orders]
@[simp] theorem modContext_records (s : State) (c : Fin 4) (f : Context → Context) : (State.modContext s c f).records = s.records :=
  (changes_modContext s c f .records (by decide))
@[simp] theorem modContext_record (s : State) (c : Fin 4) (f : Context → Context) (x : RecNo) : (State.modContext s c f).record x = s.record x := by
  simp only [State.record, modContext_records]
@[simp] theorem modContext_stations (s : State) (c : Fin 4) (f : Context → Context) : (State.modContext s c f).stations = s.stations :=
  (changes_modContext s c f .stations (by decide))
@[simp] theorem modContext_station (s : State) (c : Fin 4) (f : Context → Context) (x : StationNo) : (State.modContext s c f).station x = s.station x := by
  simp only [State.station, modContext_stations]
@[simp] theorem modContext_queue (s : State) (c : Fin 4) (f : Context → Context) : (State.modContext s c f).queue = s.queue :=
  (changes_modContext s c f .queue (by decide))
@[simp] theorem modContext_transport (s : State) (c : Fin 4) (f : Context → Context) : (State.modContext s c f).transport = s.transport :=
  (changes_modContext s c f .transport (by decide))
@[simp] theorem modContext_artworks (s : State) (c : Fin 4) (f : Context → Context) : (State.modContext s c f).artworks = s.artworks :=
  (changes_modContext s c f .artworks (by decide))
@[simp] theorem modContext_artwork (s : State) (c : Fin 4) (f : Context → Context) (x : ArtNo) : (State.modContext s c f).artwork x = s.artwork x := by
  simp only [State.artwork, modContext_artworks]
@[simp] theorem modContext_templates (s : State) (c : Fin 4) (f : Context → Context) : (State.modContext s c f).templates = s.templates :=
  (changes_modContext s c f .templates (by decide))
@[simp] theorem modContext_template (s : State) (c : Fin 4) (f : Context → Context) (x : TmplNo) : (State.modContext s c f).template x = s.template x := by
  simp only [State.template, modContext_templates]
@[simp] theorem modContext_printer (s : State) (c : Fin 4) (f : Context → Context) : (State.modContext s c f).printer = s.printer :=
  (changes_modContext s c f .printer (by decide))
@[simp] theorem modContext_feed (s : State) (c : Fin 4) (f : Context → Context) : (State.modContext s c f).feed = s.feed :=
  (changes_modContext s c f .feed (by decide))
@[simp] theorem modContext_outbound (s : State) (c : Fin 4) (f : Context → Context) : (State.modContext s c f).outbound = s.outbound :=
  (changes_modContext s c f .outbound (by decide))
@[simp] theorem modContext_events (s : State) (c : Fin 4) (f : Context → Context) : (State.modContext s c f).events = s.events :=
  (changes_modContext s c f .events (by decide))
@[simp] theorem modContext_event (s : State) (c : Fin 4) (f : Context → Context) (x : EventClass) : (State.modContext s c f).event x = s.event x := by
  simp only [State.event, modContext_events]
@[simp] theorem modContext_settings (s : State) (c : Fin 4) (f : Context → Context) : (State.modContext s c f).settings = s.settings :=
  (changes_modContext s c f .settings (by decide))
@[simp] theorem modContext_pending (s : State) (c : Fin 4) (f : Context → Context) : (State.modContext s c f).pending = s.pending :=
  (changes_modContext s c f .pending (by decide))

@[simp] theorem leaveQueue_images (s : State) (d : Drive) : (State.leaveQueue s d).images = s.images :=
  (changes_leaveQueue s d .images (by decide))
@[simp] theorem leaveQueue_image (s : State) (d : Drive) (x : SlotNo) : (State.leaveQueue s d).image x = s.image x := by
  simp only [State.image, leaveQueue_images]
@[simp] theorem leaveQueue_accs (s : State) (d : Drive) : (State.leaveQueue s d).accs = s.accs :=
  (changes_leaveQueue s d .accs (by decide))
@[simp] theorem leaveQueue_acc (s : State) (d : Drive) (x : WaveNo) : (State.leaveQueue s d).acc x = s.acc x := by
  simp only [State.acc, leaveQueue_accs]
@[simp] theorem leaveQueue_waves (s : State) (d : Drive) : (State.leaveQueue s d).waves = s.waves :=
  (changes_leaveQueue s d .waves (by decide))
@[simp] theorem leaveQueue_wave (s : State) (d : Drive) (x : WaveNo) : (State.leaveQueue s d).wave x = s.wave x := by
  simp only [State.wave, leaveQueue_waves]
@[simp] theorem leaveQueue_drives (s : State) (d : Drive) : (State.leaveQueue s d).drives = s.drives :=
  (changes_leaveQueue s d .drives (by decide))
@[simp] theorem leaveQueue_drive (s : State) (d : Drive) (x : Drive) : (State.leaveQueue s d).drive x = s.drive x := by
  simp only [State.drive, leaveQueue_drives]
@[simp] theorem leaveQueue_ladder (s : State) (d : Drive) : (State.leaveQueue s d).ladder = s.ladder :=
  (changes_leaveQueue s d .ladder (by decide))
@[simp] theorem leaveQueue_code (s : State) (d : Drive) (x : Rung) : (State.leaveQueue s d).code x = s.code x := by
  simp only [State.code, leaveQueue_ladder]
@[simp] theorem leaveQueue_saves (s : State) (d : Drive) : (State.leaveQueue s d).saves = s.saves :=
  (changes_leaveQueue s d .saves (by decide))
@[simp] theorem leaveQueue_save (s : State) (d : Drive) (x : Drive) : (State.leaveQueue s d).save x = s.save x := by
  simp only [State.save, leaveQueue_saves]
@[simp] theorem leaveQueue_contexts (s : State) (d : Drive) : (State.leaveQueue s d).contexts = s.contexts :=
  (changes_leaveQueue s d .contexts (by decide))
@[simp] theorem leaveQueue_context (s : State) (d : Drive) (x : Fin 4) : (State.leaveQueue s d).context x = s.context x := by
  simp only [State.context, leaveQueue_contexts]
@[simp] theorem leaveQueue_orders (s : State) (d : Drive) : (State.leaveQueue s d).orders = s.orders :=
  (changes_leaveQueue s d .orders (by decide))
@[simp] theorem leaveQueue_order (s : State) (d : Drive) (x : OrderNo) : (State.leaveQueue s d).order x = s.order x := by
  simp only [State.order, leaveQueue_orders]
@[simp] theorem leaveQueue_records (s : State) (d : Drive) : (State.leaveQueue s d).records = s.records :=
  (changes_leaveQueue s d .records (by decide))
@[simp] theorem leaveQueue_record (s : State) (d : Drive) (x : RecNo) : (State.leaveQueue s d).record x = s.record x := by
  simp only [State.record, leaveQueue_records]
@[simp] theorem leaveQueue_stations (s : State) (d : Drive) : (State.leaveQueue s d).stations = s.stations :=
  (changes_leaveQueue s d .stations (by decide))
@[simp] theorem leaveQueue_station (s : State) (d : Drive) (x : StationNo) : (State.leaveQueue s d).station x = s.station x := by
  simp only [State.station, leaveQueue_stations]
@[simp] theorem leaveQueue_queue (s : State) (d : Drive) : (State.leaveQueue s d).queue = s.queue :=
  (changes_leaveQueue s d .queue (by decide))
@[simp] theorem leaveQueue_transport (s : State) (d : Drive) : (State.leaveQueue s d).transport = s.transport :=
  (changes_leaveQueue s d .transport (by decide))
@[simp] theorem leaveQueue_artworks (s : State) (d : Drive) : (State.leaveQueue s d).artworks = s.artworks :=
  (changes_leaveQueue s d .artworks (by decide))
@[simp] theorem leaveQueue_artwork (s : State) (d : Drive) (x : ArtNo) : (State.leaveQueue s d).artwork x = s.artwork x := by
  simp only [State.artwork, leaveQueue_artworks]
@[simp] theorem leaveQueue_templates (s : State) (d : Drive) : (State.leaveQueue s d).templates = s.templates :=
  (changes_leaveQueue s d .templates (by decide))
@[simp] theorem leaveQueue_template (s : State) (d : Drive) (x : TmplNo) : (State.leaveQueue s d).template x = s.template x := by
  simp only [State.template, leaveQueue_templates]
@[simp] theorem leaveQueue_printer (s : State) (d : Drive) : (State.leaveQueue s d).printer = s.printer :=
  (changes_leaveQueue s d .printer (by decide))
@[simp] theorem leaveQueue_feed (s : State) (d : Drive) : (State.leaveQueue s d).feed = s.feed :=
  (changes_leaveQueue s d .feed (by decide))
@[simp] theorem leaveQueue_outbound (s : State) (d : Drive) : (State.leaveQueue s d).outbound = s.outbound :=
  (changes_leaveQueue s d .outbound (by decide))
@[simp] theorem leaveQueue_events (s : State) (d : Drive) : (State.leaveQueue s d).events = s.events :=
  (changes_leaveQueue s d .events (by decide))
@[simp] theorem leaveQueue_event (s : State) (d : Drive) (x : EventClass) : (State.leaveQueue s d).event x = s.event x := by
  simp only [State.event, leaveQueue_events]
@[simp] theorem leaveQueue_settings (s : State) (d : Drive) : (State.leaveQueue s d).settings = s.settings :=
  (changes_leaveQueue s d .settings (by decide))
@[simp] theorem leaveQueue_pending (s : State) (d : Drive) : (State.leaveQueue s d).pending = s.pending :=
  (changes_leaveQueue s d .pending (by decide))

@[simp] theorem giveBack_images (s : State) (d : Drive) : (State.giveBack s d).images = s.images :=
  (changes_giveBack s d .images (by decide))
@[simp] theorem giveBack_image (s : State) (d : Drive) (x : SlotNo) : (State.giveBack s d).image x = s.image x := by
  simp only [State.image, giveBack_images]
@[simp] theorem giveBack_accs (s : State) (d : Drive) : (State.giveBack s d).accs = s.accs :=
  (changes_giveBack s d .accs (by decide))
@[simp] theorem giveBack_acc (s : State) (d : Drive) (x : WaveNo) : (State.giveBack s d).acc x = s.acc x := by
  simp only [State.acc, giveBack_accs]
@[simp] theorem giveBack_waves (s : State) (d : Drive) : (State.giveBack s d).waves = s.waves :=
  (changes_giveBack s d .waves (by decide))
@[simp] theorem giveBack_wave (s : State) (d : Drive) (x : WaveNo) : (State.giveBack s d).wave x = s.wave x := by
  simp only [State.wave, giveBack_waves]
@[simp] theorem giveBack_drives (s : State) (d : Drive) : (State.giveBack s d).drives = s.drives :=
  (changes_giveBack s d .drives (by decide))
@[simp] theorem giveBack_drive (s : State) (d : Drive) (x : Drive) : (State.giveBack s d).drive x = s.drive x := by
  simp only [State.drive, giveBack_drives]
@[simp] theorem giveBack_ladder (s : State) (d : Drive) : (State.giveBack s d).ladder = s.ladder :=
  (changes_giveBack s d .ladder (by decide))
@[simp] theorem giveBack_code (s : State) (d : Drive) (x : Rung) : (State.giveBack s d).code x = s.code x := by
  simp only [State.code, giveBack_ladder]
@[simp] theorem giveBack_verifyQueue (s : State) (d : Drive) : (State.giveBack s d).verifyQueue = s.verifyQueue :=
  (changes_giveBack s d .verifyQueue (by decide))
@[simp] theorem giveBack_orders (s : State) (d : Drive) : (State.giveBack s d).orders = s.orders :=
  (changes_giveBack s d .orders (by decide))
@[simp] theorem giveBack_order (s : State) (d : Drive) (x : OrderNo) : (State.giveBack s d).order x = s.order x := by
  simp only [State.order, giveBack_orders]
@[simp] theorem giveBack_records (s : State) (d : Drive) : (State.giveBack s d).records = s.records :=
  (changes_giveBack s d .records (by decide))
@[simp] theorem giveBack_record (s : State) (d : Drive) (x : RecNo) : (State.giveBack s d).record x = s.record x := by
  simp only [State.record, giveBack_records]
@[simp] theorem giveBack_stations (s : State) (d : Drive) : (State.giveBack s d).stations = s.stations :=
  (changes_giveBack s d .stations (by decide))
@[simp] theorem giveBack_station (s : State) (d : Drive) (x : StationNo) : (State.giveBack s d).station x = s.station x := by
  simp only [State.station, giveBack_stations]
@[simp] theorem giveBack_queue (s : State) (d : Drive) : (State.giveBack s d).queue = s.queue :=
  (changes_giveBack s d .queue (by decide))
@[simp] theorem giveBack_transport (s : State) (d : Drive) : (State.giveBack s d).transport = s.transport :=
  (changes_giveBack s d .transport (by decide))
@[simp] theorem giveBack_artworks (s : State) (d : Drive) : (State.giveBack s d).artworks = s.artworks :=
  (changes_giveBack s d .artworks (by decide))
@[simp] theorem giveBack_artwork (s : State) (d : Drive) (x : ArtNo) : (State.giveBack s d).artwork x = s.artwork x := by
  simp only [State.artwork, giveBack_artworks]
@[simp] theorem giveBack_templates (s : State) (d : Drive) : (State.giveBack s d).templates = s.templates :=
  (changes_giveBack s d .templates (by decide))
@[simp] theorem giveBack_template (s : State) (d : Drive) (x : TmplNo) : (State.giveBack s d).template x = s.template x := by
  simp only [State.template, giveBack_templates]
@[simp] theorem giveBack_printer (s : State) (d : Drive) : (State.giveBack s d).printer = s.printer :=
  (changes_giveBack s d .printer (by decide))
@[simp] theorem giveBack_feed (s : State) (d : Drive) : (State.giveBack s d).feed = s.feed :=
  (changes_giveBack s d .feed (by decide))
@[simp] theorem giveBack_outbound (s : State) (d : Drive) : (State.giveBack s d).outbound = s.outbound :=
  (changes_giveBack s d .outbound (by decide))
@[simp] theorem giveBack_events (s : State) (d : Drive) : (State.giveBack s d).events = s.events :=
  (changes_giveBack s d .events (by decide))
@[simp] theorem giveBack_event (s : State) (d : Drive) (x : EventClass) : (State.giveBack s d).event x = s.event x := by
  simp only [State.event, giveBack_events]
@[simp] theorem giveBack_settings (s : State) (d : Drive) : (State.giveBack s d).settings = s.settings :=
  (changes_giveBack s d .settings (by decide))
@[simp] theorem giveBack_pending (s : State) (d : Drive) : (State.giveBack s d).pending = s.pending :=
  (changes_giveBack s d .pending (by decide))

@[simp] theorem leaveVerify_images (s : State) (d : Drive) (e : LastEnding) : (State.leaveVerify s d e).images = s.images :=
  (changes_leaveVerify s d e .images (by decide))
@[simp] theorem leaveVerify_image (s : State) (d : Drive) (e : LastEnding) (x : SlotNo) : (State.leaveVerify s d e).image x = s.image x := by
  simp only [State.image, leaveVerify_images]
@[simp] theorem leaveVerify_accs (s : State) (d : Drive) (e : LastEnding) : (State.leaveVerify s d e).accs = s.accs :=
  (changes_leaveVerify s d e .accs (by decide))
@[simp] theorem leaveVerify_acc (s : State) (d : Drive) (e : LastEnding) (x : WaveNo) : (State.leaveVerify s d e).acc x = s.acc x := by
  simp only [State.acc, leaveVerify_accs]
@[simp] theorem leaveVerify_waves (s : State) (d : Drive) (e : LastEnding) : (State.leaveVerify s d e).waves = s.waves :=
  (changes_leaveVerify s d e .waves (by decide))
@[simp] theorem leaveVerify_wave (s : State) (d : Drive) (e : LastEnding) (x : WaveNo) : (State.leaveVerify s d e).wave x = s.wave x := by
  simp only [State.wave, leaveVerify_waves]
@[simp] theorem leaveVerify_drives (s : State) (d : Drive) (e : LastEnding) : (State.leaveVerify s d e).drives = s.drives :=
  (changes_leaveVerify s d e .drives (by decide))
@[simp] theorem leaveVerify_drive (s : State) (d : Drive) (e : LastEnding) (x : Drive) : (State.leaveVerify s d e).drive x = s.drive x := by
  simp only [State.drive, leaveVerify_drives]
@[simp] theorem leaveVerify_ladder (s : State) (d : Drive) (e : LastEnding) : (State.leaveVerify s d e).ladder = s.ladder :=
  (changes_leaveVerify s d e .ladder (by decide))
@[simp] theorem leaveVerify_code (s : State) (d : Drive) (e : LastEnding) (x : Rung) : (State.leaveVerify s d e).code x = s.code x := by
  simp only [State.code, leaveVerify_ladder]
@[simp] theorem leaveVerify_orders (s : State) (d : Drive) (e : LastEnding) : (State.leaveVerify s d e).orders = s.orders :=
  (changes_leaveVerify s d e .orders (by decide))
@[simp] theorem leaveVerify_order (s : State) (d : Drive) (e : LastEnding) (x : OrderNo) : (State.leaveVerify s d e).order x = s.order x := by
  simp only [State.order, leaveVerify_orders]
@[simp] theorem leaveVerify_records (s : State) (d : Drive) (e : LastEnding) : (State.leaveVerify s d e).records = s.records :=
  (changes_leaveVerify s d e .records (by decide))
@[simp] theorem leaveVerify_record (s : State) (d : Drive) (e : LastEnding) (x : RecNo) : (State.leaveVerify s d e).record x = s.record x := by
  simp only [State.record, leaveVerify_records]
@[simp] theorem leaveVerify_stations (s : State) (d : Drive) (e : LastEnding) : (State.leaveVerify s d e).stations = s.stations :=
  (changes_leaveVerify s d e .stations (by decide))
@[simp] theorem leaveVerify_station (s : State) (d : Drive) (e : LastEnding) (x : StationNo) : (State.leaveVerify s d e).station x = s.station x := by
  simp only [State.station, leaveVerify_stations]
@[simp] theorem leaveVerify_queue (s : State) (d : Drive) (e : LastEnding) : (State.leaveVerify s d e).queue = s.queue :=
  (changes_leaveVerify s d e .queue (by decide))
@[simp] theorem leaveVerify_transport (s : State) (d : Drive) (e : LastEnding) : (State.leaveVerify s d e).transport = s.transport :=
  (changes_leaveVerify s d e .transport (by decide))
@[simp] theorem leaveVerify_artworks (s : State) (d : Drive) (e : LastEnding) : (State.leaveVerify s d e).artworks = s.artworks :=
  (changes_leaveVerify s d e .artworks (by decide))
@[simp] theorem leaveVerify_artwork (s : State) (d : Drive) (e : LastEnding) (x : ArtNo) : (State.leaveVerify s d e).artwork x = s.artwork x := by
  simp only [State.artwork, leaveVerify_artworks]
@[simp] theorem leaveVerify_templates (s : State) (d : Drive) (e : LastEnding) : (State.leaveVerify s d e).templates = s.templates :=
  (changes_leaveVerify s d e .templates (by decide))
@[simp] theorem leaveVerify_template (s : State) (d : Drive) (e : LastEnding) (x : TmplNo) : (State.leaveVerify s d e).template x = s.template x := by
  simp only [State.template, leaveVerify_templates]
@[simp] theorem leaveVerify_printer (s : State) (d : Drive) (e : LastEnding) : (State.leaveVerify s d e).printer = s.printer :=
  (changes_leaveVerify s d e .printer (by decide))
@[simp] theorem leaveVerify_feed (s : State) (d : Drive) (e : LastEnding) : (State.leaveVerify s d e).feed = s.feed :=
  (changes_leaveVerify s d e .feed (by decide))
@[simp] theorem leaveVerify_outbound (s : State) (d : Drive) (e : LastEnding) : (State.leaveVerify s d e).outbound = s.outbound :=
  (changes_leaveVerify s d e .outbound (by decide))
@[simp] theorem leaveVerify_events (s : State) (d : Drive) (e : LastEnding) : (State.leaveVerify s d e).events = s.events :=
  (changes_leaveVerify s d e .events (by decide))
@[simp] theorem leaveVerify_event (s : State) (d : Drive) (e : LastEnding) (x : EventClass) : (State.leaveVerify s d e).event x = s.event x := by
  simp only [State.event, leaveVerify_events]
@[simp] theorem leaveVerify_settings (s : State) (d : Drive) (e : LastEnding) : (State.leaveVerify s d e).settings = s.settings :=
  (changes_leaveVerify s d e .settings (by decide))
@[simp] theorem leaveVerify_pending (s : State) (d : Drive) (e : LastEnding) : (State.leaveVerify s d e).pending = s.pending :=
  (changes_leaveVerify s d e .pending (by decide))

@[simp] theorem verifyDown_accs (s : State) (d : Drive) : (State.verifyDown s d).accs = s.accs :=
  (changes_verifyDown s d .accs (by decide))
@[simp] theorem verifyDown_acc (s : State) (d : Drive) (x : WaveNo) : (State.verifyDown s d).acc x = s.acc x := by
  simp only [State.acc, verifyDown_accs]
@[simp] theorem verifyDown_waves (s : State) (d : Drive) : (State.verifyDown s d).waves = s.waves :=
  (changes_verifyDown s d .waves (by decide))
@[simp] theorem verifyDown_wave (s : State) (d : Drive) (x : WaveNo) : (State.verifyDown s d).wave x = s.wave x := by
  simp only [State.wave, verifyDown_waves]
@[simp] theorem verifyDown_drives (s : State) (d : Drive) : (State.verifyDown s d).drives = s.drives :=
  (changes_verifyDown s d .drives (by decide))
@[simp] theorem verifyDown_drive (s : State) (d : Drive) (x : Drive) : (State.verifyDown s d).drive x = s.drive x := by
  simp only [State.drive, verifyDown_drives]
@[simp] theorem verifyDown_ladder (s : State) (d : Drive) : (State.verifyDown s d).ladder = s.ladder :=
  (changes_verifyDown s d .ladder (by decide))
@[simp] theorem verifyDown_code (s : State) (d : Drive) (x : Rung) : (State.verifyDown s d).code x = s.code x := by
  simp only [State.code, verifyDown_ladder]
@[simp] theorem verifyDown_saves (s : State) (d : Drive) : (State.verifyDown s d).saves = s.saves :=
  (changes_verifyDown s d .saves (by decide))
@[simp] theorem verifyDown_save (s : State) (d : Drive) (x : Drive) : (State.verifyDown s d).save x = s.save x := by
  simp only [State.save, verifyDown_saves]
@[simp] theorem verifyDown_verifyQueue (s : State) (d : Drive) : (State.verifyDown s d).verifyQueue = s.verifyQueue :=
  (changes_verifyDown s d .verifyQueue (by decide))
@[simp] theorem verifyDown_contexts (s : State) (d : Drive) : (State.verifyDown s d).contexts = s.contexts :=
  (changes_verifyDown s d .contexts (by decide))
@[simp] theorem verifyDown_context (s : State) (d : Drive) (x : Fin 4) : (State.verifyDown s d).context x = s.context x := by
  simp only [State.context, verifyDown_contexts]
@[simp] theorem verifyDown_orders (s : State) (d : Drive) : (State.verifyDown s d).orders = s.orders :=
  (changes_verifyDown s d .orders (by decide))
@[simp] theorem verifyDown_order (s : State) (d : Drive) (x : OrderNo) : (State.verifyDown s d).order x = s.order x := by
  simp only [State.order, verifyDown_orders]
@[simp] theorem verifyDown_records (s : State) (d : Drive) : (State.verifyDown s d).records = s.records :=
  (changes_verifyDown s d .records (by decide))
@[simp] theorem verifyDown_record (s : State) (d : Drive) (x : RecNo) : (State.verifyDown s d).record x = s.record x := by
  simp only [State.record, verifyDown_records]
@[simp] theorem verifyDown_stations (s : State) (d : Drive) : (State.verifyDown s d).stations = s.stations :=
  (changes_verifyDown s d .stations (by decide))
@[simp] theorem verifyDown_station (s : State) (d : Drive) (x : StationNo) : (State.verifyDown s d).station x = s.station x := by
  simp only [State.station, verifyDown_stations]
@[simp] theorem verifyDown_queue (s : State) (d : Drive) : (State.verifyDown s d).queue = s.queue :=
  (changes_verifyDown s d .queue (by decide))
@[simp] theorem verifyDown_transport (s : State) (d : Drive) : (State.verifyDown s d).transport = s.transport :=
  (changes_verifyDown s d .transport (by decide))
@[simp] theorem verifyDown_artworks (s : State) (d : Drive) : (State.verifyDown s d).artworks = s.artworks :=
  (changes_verifyDown s d .artworks (by decide))
@[simp] theorem verifyDown_artwork (s : State) (d : Drive) (x : ArtNo) : (State.verifyDown s d).artwork x = s.artwork x := by
  simp only [State.artwork, verifyDown_artworks]
@[simp] theorem verifyDown_templates (s : State) (d : Drive) : (State.verifyDown s d).templates = s.templates :=
  (changes_verifyDown s d .templates (by decide))
@[simp] theorem verifyDown_template (s : State) (d : Drive) (x : TmplNo) : (State.verifyDown s d).template x = s.template x := by
  simp only [State.template, verifyDown_templates]
@[simp] theorem verifyDown_printer (s : State) (d : Drive) : (State.verifyDown s d).printer = s.printer :=
  (changes_verifyDown s d .printer (by decide))
@[simp] theorem verifyDown_feed (s : State) (d : Drive) : (State.verifyDown s d).feed = s.feed :=
  (changes_verifyDown s d .feed (by decide))
@[simp] theorem verifyDown_outbound (s : State) (d : Drive) : (State.verifyDown s d).outbound = s.outbound :=
  (changes_verifyDown s d .outbound (by decide))
@[simp] theorem verifyDown_events (s : State) (d : Drive) : (State.verifyDown s d).events = s.events :=
  (changes_verifyDown s d .events (by decide))
@[simp] theorem verifyDown_event (s : State) (d : Drive) (x : EventClass) : (State.verifyDown s d).event x = s.event x := by
  simp only [State.event, verifyDown_events]
@[simp] theorem verifyDown_settings (s : State) (d : Drive) : (State.verifyDown s d).settings = s.settings :=
  (changes_verifyDown s d .settings (by decide))
@[simp] theorem verifyDown_pending (s : State) (d : Drive) : (State.verifyDown s d).pending = s.pending :=
  (changes_verifyDown s d .pending (by decide))

@[simp] theorem writeVerify_images (s : State) (d : Drive) (o : VerifyOutcome) : (State.writeVerify s d o).images = s.images :=
  (changes_writeVerify s d o .images (by decide))
@[simp] theorem writeVerify_image (s : State) (d : Drive) (o : VerifyOutcome) (x : SlotNo) : (State.writeVerify s d o).image x = s.image x := by
  simp only [State.image, writeVerify_images]
@[simp] theorem writeVerify_accs (s : State) (d : Drive) (o : VerifyOutcome) : (State.writeVerify s d o).accs = s.accs :=
  (changes_writeVerify s d o .accs (by decide))
@[simp] theorem writeVerify_acc (s : State) (d : Drive) (o : VerifyOutcome) (x : WaveNo) : (State.writeVerify s d o).acc x = s.acc x := by
  simp only [State.acc, writeVerify_accs]
@[simp] theorem writeVerify_waves (s : State) (d : Drive) (o : VerifyOutcome) : (State.writeVerify s d o).waves = s.waves :=
  (changes_writeVerify s d o .waves (by decide))
@[simp] theorem writeVerify_wave (s : State) (d : Drive) (o : VerifyOutcome) (x : WaveNo) : (State.writeVerify s d o).wave x = s.wave x := by
  simp only [State.wave, writeVerify_waves]
@[simp] theorem writeVerify_drives (s : State) (d : Drive) (o : VerifyOutcome) : (State.writeVerify s d o).drives = s.drives :=
  (changes_writeVerify s d o .drives (by decide))
@[simp] theorem writeVerify_drive (s : State) (d : Drive) (o : VerifyOutcome) (x : Drive) : (State.writeVerify s d o).drive x = s.drive x := by
  simp only [State.drive, writeVerify_drives]
@[simp] theorem writeVerify_ladder (s : State) (d : Drive) (o : VerifyOutcome) : (State.writeVerify s d o).ladder = s.ladder :=
  (changes_writeVerify s d o .ladder (by decide))
@[simp] theorem writeVerify_code (s : State) (d : Drive) (o : VerifyOutcome) (x : Rung) : (State.writeVerify s d o).code x = s.code x := by
  simp only [State.code, writeVerify_ladder]
@[simp] theorem writeVerify_saves (s : State) (d : Drive) (o : VerifyOutcome) : (State.writeVerify s d o).saves = s.saves :=
  (changes_writeVerify s d o .saves (by decide))
@[simp] theorem writeVerify_save (s : State) (d : Drive) (o : VerifyOutcome) (x : Drive) : (State.writeVerify s d o).save x = s.save x := by
  simp only [State.save, writeVerify_saves]
@[simp] theorem writeVerify_verifyQueue (s : State) (d : Drive) (o : VerifyOutcome) : (State.writeVerify s d o).verifyQueue = s.verifyQueue :=
  (changes_writeVerify s d o .verifyQueue (by decide))
@[simp] theorem writeVerify_contexts (s : State) (d : Drive) (o : VerifyOutcome) : (State.writeVerify s d o).contexts = s.contexts :=
  (changes_writeVerify s d o .contexts (by decide))
@[simp] theorem writeVerify_context (s : State) (d : Drive) (o : VerifyOutcome) (x : Fin 4) : (State.writeVerify s d o).context x = s.context x := by
  simp only [State.context, writeVerify_contexts]
@[simp] theorem writeVerify_orders (s : State) (d : Drive) (o : VerifyOutcome) : (State.writeVerify s d o).orders = s.orders :=
  (changes_writeVerify s d o .orders (by decide))
@[simp] theorem writeVerify_order (s : State) (d : Drive) (o : VerifyOutcome) (x : OrderNo) : (State.writeVerify s d o).order x = s.order x := by
  simp only [State.order, writeVerify_orders]
@[simp] theorem writeVerify_stations (s : State) (d : Drive) (o : VerifyOutcome) : (State.writeVerify s d o).stations = s.stations :=
  (changes_writeVerify s d o .stations (by decide))
@[simp] theorem writeVerify_station (s : State) (d : Drive) (o : VerifyOutcome) (x : StationNo) : (State.writeVerify s d o).station x = s.station x := by
  simp only [State.station, writeVerify_stations]
@[simp] theorem writeVerify_queue (s : State) (d : Drive) (o : VerifyOutcome) : (State.writeVerify s d o).queue = s.queue :=
  (changes_writeVerify s d o .queue (by decide))
@[simp] theorem writeVerify_transport (s : State) (d : Drive) (o : VerifyOutcome) : (State.writeVerify s d o).transport = s.transport :=
  (changes_writeVerify s d o .transport (by decide))
@[simp] theorem writeVerify_artworks (s : State) (d : Drive) (o : VerifyOutcome) : (State.writeVerify s d o).artworks = s.artworks :=
  (changes_writeVerify s d o .artworks (by decide))
@[simp] theorem writeVerify_artwork (s : State) (d : Drive) (o : VerifyOutcome) (x : ArtNo) : (State.writeVerify s d o).artwork x = s.artwork x := by
  simp only [State.artwork, writeVerify_artworks]
@[simp] theorem writeVerify_templates (s : State) (d : Drive) (o : VerifyOutcome) : (State.writeVerify s d o).templates = s.templates :=
  (changes_writeVerify s d o .templates (by decide))
@[simp] theorem writeVerify_template (s : State) (d : Drive) (o : VerifyOutcome) (x : TmplNo) : (State.writeVerify s d o).template x = s.template x := by
  simp only [State.template, writeVerify_templates]
@[simp] theorem writeVerify_printer (s : State) (d : Drive) (o : VerifyOutcome) : (State.writeVerify s d o).printer = s.printer :=
  (changes_writeVerify s d o .printer (by decide))
@[simp] theorem writeVerify_feed (s : State) (d : Drive) (o : VerifyOutcome) : (State.writeVerify s d o).feed = s.feed :=
  (changes_writeVerify s d o .feed (by decide))
@[simp] theorem writeVerify_outbound (s : State) (d : Drive) (o : VerifyOutcome) : (State.writeVerify s d o).outbound = s.outbound :=
  (changes_writeVerify s d o .outbound (by decide))
@[simp] theorem writeVerify_events (s : State) (d : Drive) (o : VerifyOutcome) : (State.writeVerify s d o).events = s.events :=
  (changes_writeVerify s d o .events (by decide))
@[simp] theorem writeVerify_event (s : State) (d : Drive) (o : VerifyOutcome) (x : EventClass) : (State.writeVerify s d o).event x = s.event x := by
  simp only [State.event, writeVerify_events]
@[simp] theorem writeVerify_settings (s : State) (d : Drive) (o : VerifyOutcome) : (State.writeVerify s d o).settings = s.settings :=
  (changes_writeVerify s d o .settings (by decide))
@[simp] theorem writeVerify_pending (s : State) (d : Drive) (o : VerifyOutcome) : (State.writeVerify s d o).pending = s.pending :=
  (changes_writeVerify s d o .pending (by decide))

@[simp] theorem giveEnding_images (s : State) (d : Drive) (e : LastEnding) : (State.giveEnding s d e).images = s.images :=
  (changes_giveEnding s d e .images (by decide))
@[simp] theorem giveEnding_image (s : State) (d : Drive) (e : LastEnding) (x : SlotNo) : (State.giveEnding s d e).image x = s.image x := by
  simp only [State.image, giveEnding_images]
@[simp] theorem giveEnding_accs (s : State) (d : Drive) (e : LastEnding) : (State.giveEnding s d e).accs = s.accs :=
  (changes_giveEnding s d e .accs (by decide))
@[simp] theorem giveEnding_acc (s : State) (d : Drive) (e : LastEnding) (x : WaveNo) : (State.giveEnding s d e).acc x = s.acc x := by
  simp only [State.acc, giveEnding_accs]
@[simp] theorem giveEnding_waves (s : State) (d : Drive) (e : LastEnding) : (State.giveEnding s d e).waves = s.waves :=
  (changes_giveEnding s d e .waves (by decide))
@[simp] theorem giveEnding_wave (s : State) (d : Drive) (e : LastEnding) (x : WaveNo) : (State.giveEnding s d e).wave x = s.wave x := by
  simp only [State.wave, giveEnding_waves]
@[simp] theorem giveEnding_drives (s : State) (d : Drive) (e : LastEnding) : (State.giveEnding s d e).drives = s.drives :=
  (changes_giveEnding s d e .drives (by decide))
@[simp] theorem giveEnding_drive (s : State) (d : Drive) (e : LastEnding) (x : Drive) : (State.giveEnding s d e).drive x = s.drive x := by
  simp only [State.drive, giveEnding_drives]
@[simp] theorem giveEnding_ladder (s : State) (d : Drive) (e : LastEnding) : (State.giveEnding s d e).ladder = s.ladder :=
  (changes_giveEnding s d e .ladder (by decide))
@[simp] theorem giveEnding_code (s : State) (d : Drive) (e : LastEnding) (x : Rung) : (State.giveEnding s d e).code x = s.code x := by
  simp only [State.code, giveEnding_ladder]
@[simp] theorem giveEnding_saves (s : State) (d : Drive) (e : LastEnding) : (State.giveEnding s d e).saves = s.saves :=
  (changes_giveEnding s d e .saves (by decide))
@[simp] theorem giveEnding_save (s : State) (d : Drive) (e : LastEnding) (x : Drive) : (State.giveEnding s d e).save x = s.save x := by
  simp only [State.save, giveEnding_saves]
@[simp] theorem giveEnding_verifyQueue (s : State) (d : Drive) (e : LastEnding) : (State.giveEnding s d e).verifyQueue = s.verifyQueue :=
  (changes_giveEnding s d e .verifyQueue (by decide))
@[simp] theorem giveEnding_contexts (s : State) (d : Drive) (e : LastEnding) : (State.giveEnding s d e).contexts = s.contexts :=
  (changes_giveEnding s d e .contexts (by decide))
@[simp] theorem giveEnding_context (s : State) (d : Drive) (e : LastEnding) (x : Fin 4) : (State.giveEnding s d e).context x = s.context x := by
  simp only [State.context, giveEnding_contexts]
@[simp] theorem giveEnding_orders (s : State) (d : Drive) (e : LastEnding) : (State.giveEnding s d e).orders = s.orders :=
  (changes_giveEnding s d e .orders (by decide))
@[simp] theorem giveEnding_order (s : State) (d : Drive) (e : LastEnding) (x : OrderNo) : (State.giveEnding s d e).order x = s.order x := by
  simp only [State.order, giveEnding_orders]
@[simp] theorem giveEnding_stations (s : State) (d : Drive) (e : LastEnding) : (State.giveEnding s d e).stations = s.stations :=
  (changes_giveEnding s d e .stations (by decide))
@[simp] theorem giveEnding_station (s : State) (d : Drive) (e : LastEnding) (x : StationNo) : (State.giveEnding s d e).station x = s.station x := by
  simp only [State.station, giveEnding_stations]
@[simp] theorem giveEnding_queue (s : State) (d : Drive) (e : LastEnding) : (State.giveEnding s d e).queue = s.queue :=
  (changes_giveEnding s d e .queue (by decide))
@[simp] theorem giveEnding_transport (s : State) (d : Drive) (e : LastEnding) : (State.giveEnding s d e).transport = s.transport :=
  (changes_giveEnding s d e .transport (by decide))
@[simp] theorem giveEnding_artworks (s : State) (d : Drive) (e : LastEnding) : (State.giveEnding s d e).artworks = s.artworks :=
  (changes_giveEnding s d e .artworks (by decide))
@[simp] theorem giveEnding_artwork (s : State) (d : Drive) (e : LastEnding) (x : ArtNo) : (State.giveEnding s d e).artwork x = s.artwork x := by
  simp only [State.artwork, giveEnding_artworks]
@[simp] theorem giveEnding_templates (s : State) (d : Drive) (e : LastEnding) : (State.giveEnding s d e).templates = s.templates :=
  (changes_giveEnding s d e .templates (by decide))
@[simp] theorem giveEnding_template (s : State) (d : Drive) (e : LastEnding) (x : TmplNo) : (State.giveEnding s d e).template x = s.template x := by
  simp only [State.template, giveEnding_templates]
@[simp] theorem giveEnding_printer (s : State) (d : Drive) (e : LastEnding) : (State.giveEnding s d e).printer = s.printer :=
  (changes_giveEnding s d e .printer (by decide))
@[simp] theorem giveEnding_feed (s : State) (d : Drive) (e : LastEnding) : (State.giveEnding s d e).feed = s.feed :=
  (changes_giveEnding s d e .feed (by decide))
@[simp] theorem giveEnding_outbound (s : State) (d : Drive) (e : LastEnding) : (State.giveEnding s d e).outbound = s.outbound :=
  (changes_giveEnding s d e .outbound (by decide))
@[simp] theorem giveEnding_events (s : State) (d : Drive) (e : LastEnding) : (State.giveEnding s d e).events = s.events :=
  (changes_giveEnding s d e .events (by decide))
@[simp] theorem giveEnding_event (s : State) (d : Drive) (e : LastEnding) (x : EventClass) : (State.giveEnding s d e).event x = s.event x := by
  simp only [State.event, giveEnding_events]
@[simp] theorem giveEnding_settings (s : State) (d : Drive) (e : LastEnding) : (State.giveEnding s d e).settings = s.settings :=
  (changes_giveEnding s d e .settings (by decide))
@[simp] theorem giveEnding_pending (s : State) (d : Drive) (e : LastEnding) : (State.giveEnding s d e).pending = s.pending :=
  (changes_giveEnding s d e .pending (by decide))

@[simp] theorem setAside_images (s : State) (n : Option RecNo) : (State.setAside s n).images = s.images :=
  (changes_setAside s n .images (by decide))
@[simp] theorem setAside_image (s : State) (n : Option RecNo) (x : SlotNo) : (State.setAside s n).image x = s.image x := by
  simp only [State.image, setAside_images]
@[simp] theorem setAside_accs (s : State) (n : Option RecNo) : (State.setAside s n).accs = s.accs :=
  (changes_setAside s n .accs (by decide))
@[simp] theorem setAside_acc (s : State) (n : Option RecNo) (x : WaveNo) : (State.setAside s n).acc x = s.acc x := by
  simp only [State.acc, setAside_accs]
@[simp] theorem setAside_waves (s : State) (n : Option RecNo) : (State.setAside s n).waves = s.waves :=
  (changes_setAside s n .waves (by decide))
@[simp] theorem setAside_wave (s : State) (n : Option RecNo) (x : WaveNo) : (State.setAside s n).wave x = s.wave x := by
  simp only [State.wave, setAside_waves]
@[simp] theorem setAside_drives (s : State) (n : Option RecNo) : (State.setAside s n).drives = s.drives :=
  (changes_setAside s n .drives (by decide))
@[simp] theorem setAside_drive (s : State) (n : Option RecNo) (x : Drive) : (State.setAside s n).drive x = s.drive x := by
  simp only [State.drive, setAside_drives]
@[simp] theorem setAside_ladder (s : State) (n : Option RecNo) : (State.setAside s n).ladder = s.ladder :=
  (changes_setAside s n .ladder (by decide))
@[simp] theorem setAside_code (s : State) (n : Option RecNo) (x : Rung) : (State.setAside s n).code x = s.code x := by
  simp only [State.code, setAside_ladder]
@[simp] theorem setAside_saves (s : State) (n : Option RecNo) : (State.setAside s n).saves = s.saves :=
  (changes_setAside s n .saves (by decide))
@[simp] theorem setAside_save (s : State) (n : Option RecNo) (x : Drive) : (State.setAside s n).save x = s.save x := by
  simp only [State.save, setAside_saves]
@[simp] theorem setAside_verifyQueue (s : State) (n : Option RecNo) : (State.setAside s n).verifyQueue = s.verifyQueue :=
  (changes_setAside s n .verifyQueue (by decide))
@[simp] theorem setAside_contexts (s : State) (n : Option RecNo) : (State.setAside s n).contexts = s.contexts :=
  (changes_setAside s n .contexts (by decide))
@[simp] theorem setAside_context (s : State) (n : Option RecNo) (x : Fin 4) : (State.setAside s n).context x = s.context x := by
  simp only [State.context, setAside_contexts]
@[simp] theorem setAside_orders (s : State) (n : Option RecNo) : (State.setAside s n).orders = s.orders :=
  (changes_setAside s n .orders (by decide))
@[simp] theorem setAside_order (s : State) (n : Option RecNo) (x : OrderNo) : (State.setAside s n).order x = s.order x := by
  simp only [State.order, setAside_orders]
@[simp] theorem setAside_stations (s : State) (n : Option RecNo) : (State.setAside s n).stations = s.stations :=
  (changes_setAside s n .stations (by decide))
@[simp] theorem setAside_station (s : State) (n : Option RecNo) (x : StationNo) : (State.setAside s n).station x = s.station x := by
  simp only [State.station, setAside_stations]
@[simp] theorem setAside_queue (s : State) (n : Option RecNo) : (State.setAside s n).queue = s.queue :=
  (changes_setAside s n .queue (by decide))
@[simp] theorem setAside_transport (s : State) (n : Option RecNo) : (State.setAside s n).transport = s.transport :=
  (changes_setAside s n .transport (by decide))
@[simp] theorem setAside_artworks (s : State) (n : Option RecNo) : (State.setAside s n).artworks = s.artworks :=
  (changes_setAside s n .artworks (by decide))
@[simp] theorem setAside_artwork (s : State) (n : Option RecNo) (x : ArtNo) : (State.setAside s n).artwork x = s.artwork x := by
  simp only [State.artwork, setAside_artworks]
@[simp] theorem setAside_templates (s : State) (n : Option RecNo) : (State.setAside s n).templates = s.templates :=
  (changes_setAside s n .templates (by decide))
@[simp] theorem setAside_template (s : State) (n : Option RecNo) (x : TmplNo) : (State.setAside s n).template x = s.template x := by
  simp only [State.template, setAside_templates]
@[simp] theorem setAside_printer (s : State) (n : Option RecNo) : (State.setAside s n).printer = s.printer :=
  (changes_setAside s n .printer (by decide))
@[simp] theorem setAside_feed (s : State) (n : Option RecNo) : (State.setAside s n).feed = s.feed :=
  (changes_setAside s n .feed (by decide))
@[simp] theorem setAside_outbound (s : State) (n : Option RecNo) : (State.setAside s n).outbound = s.outbound :=
  (changes_setAside s n .outbound (by decide))
@[simp] theorem setAside_events (s : State) (n : Option RecNo) : (State.setAside s n).events = s.events :=
  (changes_setAside s n .events (by decide))
@[simp] theorem setAside_event (s : State) (n : Option RecNo) (x : EventClass) : (State.setAside s n).event x = s.event x := by
  simp only [State.event, setAside_events]
@[simp] theorem setAside_settings (s : State) (n : Option RecNo) : (State.setAside s n).settings = s.settings :=
  (changes_setAside s n .settings (by decide))
@[simp] theorem setAside_pending (s : State) (n : Option RecNo) : (State.setAside s n).pending = s.pending :=
  (changes_setAside s n .pending (by decide))

@[simp] theorem arbiter_images (s : State) : (State.arbiter s).images = s.images :=
  (changes_arbiter s .images (by decide))
@[simp] theorem arbiter_image (s : State) (x : SlotNo) : (State.arbiter s).image x = s.image x := by
  simp only [State.image, arbiter_images]
@[simp] theorem arbiter_accs (s : State) : (State.arbiter s).accs = s.accs :=
  (changes_arbiter s .accs (by decide))
@[simp] theorem arbiter_acc (s : State) (x : WaveNo) : (State.arbiter s).acc x = s.acc x := by
  simp only [State.acc, arbiter_accs]
@[simp] theorem arbiter_waves (s : State) : (State.arbiter s).waves = s.waves :=
  (changes_arbiter s .waves (by decide))
@[simp] theorem arbiter_wave (s : State) (x : WaveNo) : (State.arbiter s).wave x = s.wave x := by
  simp only [State.wave, arbiter_waves]
@[simp] theorem arbiter_drives (s : State) : (State.arbiter s).drives = s.drives :=
  (changes_arbiter s .drives (by decide))
@[simp] theorem arbiter_drive (s : State) (x : Drive) : (State.arbiter s).drive x = s.drive x := by
  simp only [State.drive, arbiter_drives]
@[simp] theorem arbiter_ladder (s : State) : (State.arbiter s).ladder = s.ladder :=
  (changes_arbiter s .ladder (by decide))
@[simp] theorem arbiter_code (s : State) (x : Rung) : (State.arbiter s).code x = s.code x := by
  simp only [State.code, arbiter_ladder]
@[simp] theorem arbiter_saves (s : State) : (State.arbiter s).saves = s.saves :=
  (changes_arbiter s .saves (by decide))
@[simp] theorem arbiter_save (s : State) (x : Drive) : (State.arbiter s).save x = s.save x := by
  simp only [State.save, arbiter_saves]
@[simp] theorem arbiter_verifyQueue (s : State) : (State.arbiter s).verifyQueue = s.verifyQueue :=
  (changes_arbiter s .verifyQueue (by decide))
@[simp] theorem arbiter_contexts (s : State) : (State.arbiter s).contexts = s.contexts :=
  (changes_arbiter s .contexts (by decide))
@[simp] theorem arbiter_context (s : State) (x : Fin 4) : (State.arbiter s).context x = s.context x := by
  simp only [State.context, arbiter_contexts]
@[simp] theorem arbiter_orders (s : State) : (State.arbiter s).orders = s.orders :=
  (changes_arbiter s .orders (by decide))
@[simp] theorem arbiter_order (s : State) (x : OrderNo) : (State.arbiter s).order x = s.order x := by
  simp only [State.order, arbiter_orders]
@[simp] theorem arbiter_stations (s : State) : (State.arbiter s).stations = s.stations :=
  (changes_arbiter s .stations (by decide))
@[simp] theorem arbiter_station (s : State) (x : StationNo) : (State.arbiter s).station x = s.station x := by
  simp only [State.station, arbiter_stations]
@[simp] theorem arbiter_artworks (s : State) : (State.arbiter s).artworks = s.artworks :=
  (changes_arbiter s .artworks (by decide))
@[simp] theorem arbiter_artwork (s : State) (x : ArtNo) : (State.arbiter s).artwork x = s.artwork x := by
  simp only [State.artwork, arbiter_artworks]
@[simp] theorem arbiter_templates (s : State) : (State.arbiter s).templates = s.templates :=
  (changes_arbiter s .templates (by decide))
@[simp] theorem arbiter_template (s : State) (x : TmplNo) : (State.arbiter s).template x = s.template x := by
  simp only [State.template, arbiter_templates]
@[simp] theorem arbiter_printer (s : State) : (State.arbiter s).printer = s.printer :=
  (changes_arbiter s .printer (by decide))
@[simp] theorem arbiter_feed (s : State) : (State.arbiter s).feed = s.feed :=
  (changes_arbiter s .feed (by decide))
@[simp] theorem arbiter_outbound (s : State) : (State.arbiter s).outbound = s.outbound :=
  (changes_arbiter s .outbound (by decide))
@[simp] theorem arbiter_events (s : State) : (State.arbiter s).events = s.events :=
  (changes_arbiter s .events (by decide))
@[simp] theorem arbiter_event (s : State) (x : EventClass) : (State.arbiter s).event x = s.event x := by
  simp only [State.event, arbiter_events]
@[simp] theorem arbiter_settings (s : State) : (State.arbiter s).settings = s.settings :=
  (changes_arbiter s .settings (by decide))
@[simp] theorem arbiter_pending (s : State) : (State.arbiter s).pending = s.pending :=
  (changes_arbiter s .pending (by decide))

@[simp] theorem enterHeld_images (s : State) (c : HeldCause) : (State.enterHeld s c).images = s.images :=
  (changes_enterHeld s c .images (by decide))
@[simp] theorem enterHeld_image (s : State) (c : HeldCause) (x : SlotNo) : (State.enterHeld s c).image x = s.image x := by
  simp only [State.image, enterHeld_images]
@[simp] theorem enterHeld_accs (s : State) (c : HeldCause) : (State.enterHeld s c).accs = s.accs :=
  (changes_enterHeld s c .accs (by decide))
@[simp] theorem enterHeld_acc (s : State) (c : HeldCause) (x : WaveNo) : (State.enterHeld s c).acc x = s.acc x := by
  simp only [State.acc, enterHeld_accs]
@[simp] theorem enterHeld_waves (s : State) (c : HeldCause) : (State.enterHeld s c).waves = s.waves :=
  (changes_enterHeld s c .waves (by decide))
@[simp] theorem enterHeld_wave (s : State) (c : HeldCause) (x : WaveNo) : (State.enterHeld s c).wave x = s.wave x := by
  simp only [State.wave, enterHeld_waves]
@[simp] theorem enterHeld_drives (s : State) (c : HeldCause) : (State.enterHeld s c).drives = s.drives :=
  (changes_enterHeld s c .drives (by decide))
@[simp] theorem enterHeld_drive (s : State) (c : HeldCause) (x : Drive) : (State.enterHeld s c).drive x = s.drive x := by
  simp only [State.drive, enterHeld_drives]
@[simp] theorem enterHeld_ladder (s : State) (c : HeldCause) : (State.enterHeld s c).ladder = s.ladder :=
  (changes_enterHeld s c .ladder (by decide))
@[simp] theorem enterHeld_code (s : State) (c : HeldCause) (x : Rung) : (State.enterHeld s c).code x = s.code x := by
  simp only [State.code, enterHeld_ladder]
@[simp] theorem enterHeld_saves (s : State) (c : HeldCause) : (State.enterHeld s c).saves = s.saves :=
  (changes_enterHeld s c .saves (by decide))
@[simp] theorem enterHeld_save (s : State) (c : HeldCause) (x : Drive) : (State.enterHeld s c).save x = s.save x := by
  simp only [State.save, enterHeld_saves]
@[simp] theorem enterHeld_verifyQueue (s : State) (c : HeldCause) : (State.enterHeld s c).verifyQueue = s.verifyQueue :=
  (changes_enterHeld s c .verifyQueue (by decide))
@[simp] theorem enterHeld_contexts (s : State) (c : HeldCause) : (State.enterHeld s c).contexts = s.contexts :=
  (changes_enterHeld s c .contexts (by decide))
@[simp] theorem enterHeld_context (s : State) (c : HeldCause) (x : Fin 4) : (State.enterHeld s c).context x = s.context x := by
  simp only [State.context, enterHeld_contexts]
@[simp] theorem enterHeld_orders (s : State) (c : HeldCause) : (State.enterHeld s c).orders = s.orders :=
  (changes_enterHeld s c .orders (by decide))
@[simp] theorem enterHeld_order (s : State) (c : HeldCause) (x : OrderNo) : (State.enterHeld s c).order x = s.order x := by
  simp only [State.order, enterHeld_orders]
@[simp] theorem enterHeld_records (s : State) (c : HeldCause) : (State.enterHeld s c).records = s.records :=
  (changes_enterHeld s c .records (by decide))
@[simp] theorem enterHeld_record (s : State) (c : HeldCause) (x : RecNo) : (State.enterHeld s c).record x = s.record x := by
  simp only [State.record, enterHeld_records]
@[simp] theorem enterHeld_stations (s : State) (c : HeldCause) : (State.enterHeld s c).stations = s.stations :=
  (changes_enterHeld s c .stations (by decide))
@[simp] theorem enterHeld_station (s : State) (c : HeldCause) (x : StationNo) : (State.enterHeld s c).station x = s.station x := by
  simp only [State.station, enterHeld_stations]
@[simp] theorem enterHeld_queue (s : State) (c : HeldCause) : (State.enterHeld s c).queue = s.queue :=
  (changes_enterHeld s c .queue (by decide))
@[simp] theorem enterHeld_artworks (s : State) (c : HeldCause) : (State.enterHeld s c).artworks = s.artworks :=
  (changes_enterHeld s c .artworks (by decide))
@[simp] theorem enterHeld_artwork (s : State) (c : HeldCause) (x : ArtNo) : (State.enterHeld s c).artwork x = s.artwork x := by
  simp only [State.artwork, enterHeld_artworks]
@[simp] theorem enterHeld_templates (s : State) (c : HeldCause) : (State.enterHeld s c).templates = s.templates :=
  (changes_enterHeld s c .templates (by decide))
@[simp] theorem enterHeld_template (s : State) (c : HeldCause) (x : TmplNo) : (State.enterHeld s c).template x = s.template x := by
  simp only [State.template, enterHeld_templates]
@[simp] theorem enterHeld_printer (s : State) (c : HeldCause) : (State.enterHeld s c).printer = s.printer :=
  (changes_enterHeld s c .printer (by decide))
@[simp] theorem enterHeld_feed (s : State) (c : HeldCause) : (State.enterHeld s c).feed = s.feed :=
  (changes_enterHeld s c .feed (by decide))
@[simp] theorem enterHeld_settings (s : State) (c : HeldCause) : (State.enterHeld s c).settings = s.settings :=
  (changes_enterHeld s c .settings (by decide))
@[simp] theorem enterHeld_pending (s : State) (c : HeldCause) : (State.enterHeld s c).pending = s.pending :=
  (changes_enterHeld s c .pending (by decide))

@[simp] theorem modCurrent_images (s : State) (f : Entry → Entry) : (State.modCurrent s f).images = s.images :=
  (changes_modCurrent s f .images (by decide))
@[simp] theorem modCurrent_image (s : State) (f : Entry → Entry) (x : SlotNo) : (State.modCurrent s f).image x = s.image x := by
  simp only [State.image, modCurrent_images]
@[simp] theorem modCurrent_accs (s : State) (f : Entry → Entry) : (State.modCurrent s f).accs = s.accs :=
  (changes_modCurrent s f .accs (by decide))
@[simp] theorem modCurrent_acc (s : State) (f : Entry → Entry) (x : WaveNo) : (State.modCurrent s f).acc x = s.acc x := by
  simp only [State.acc, modCurrent_accs]
@[simp] theorem modCurrent_waves (s : State) (f : Entry → Entry) : (State.modCurrent s f).waves = s.waves :=
  (changes_modCurrent s f .waves (by decide))
@[simp] theorem modCurrent_wave (s : State) (f : Entry → Entry) (x : WaveNo) : (State.modCurrent s f).wave x = s.wave x := by
  simp only [State.wave, modCurrent_waves]
@[simp] theorem modCurrent_drives (s : State) (f : Entry → Entry) : (State.modCurrent s f).drives = s.drives :=
  (changes_modCurrent s f .drives (by decide))
@[simp] theorem modCurrent_drive (s : State) (f : Entry → Entry) (x : Drive) : (State.modCurrent s f).drive x = s.drive x := by
  simp only [State.drive, modCurrent_drives]
@[simp] theorem modCurrent_ladder (s : State) (f : Entry → Entry) : (State.modCurrent s f).ladder = s.ladder :=
  (changes_modCurrent s f .ladder (by decide))
@[simp] theorem modCurrent_code (s : State) (f : Entry → Entry) (x : Rung) : (State.modCurrent s f).code x = s.code x := by
  simp only [State.code, modCurrent_ladder]
@[simp] theorem modCurrent_saves (s : State) (f : Entry → Entry) : (State.modCurrent s f).saves = s.saves :=
  (changes_modCurrent s f .saves (by decide))
@[simp] theorem modCurrent_save (s : State) (f : Entry → Entry) (x : Drive) : (State.modCurrent s f).save x = s.save x := by
  simp only [State.save, modCurrent_saves]
@[simp] theorem modCurrent_verifyQueue (s : State) (f : Entry → Entry) : (State.modCurrent s f).verifyQueue = s.verifyQueue :=
  (changes_modCurrent s f .verifyQueue (by decide))
@[simp] theorem modCurrent_contexts (s : State) (f : Entry → Entry) : (State.modCurrent s f).contexts = s.contexts :=
  (changes_modCurrent s f .contexts (by decide))
@[simp] theorem modCurrent_context (s : State) (f : Entry → Entry) (x : Fin 4) : (State.modCurrent s f).context x = s.context x := by
  simp only [State.context, modCurrent_contexts]
@[simp] theorem modCurrent_orders (s : State) (f : Entry → Entry) : (State.modCurrent s f).orders = s.orders :=
  (changes_modCurrent s f .orders (by decide))
@[simp] theorem modCurrent_order (s : State) (f : Entry → Entry) (x : OrderNo) : (State.modCurrent s f).order x = s.order x := by
  simp only [State.order, modCurrent_orders]
@[simp] theorem modCurrent_records (s : State) (f : Entry → Entry) : (State.modCurrent s f).records = s.records :=
  (changes_modCurrent s f .records (by decide))
@[simp] theorem modCurrent_record (s : State) (f : Entry → Entry) (x : RecNo) : (State.modCurrent s f).record x = s.record x := by
  simp only [State.record, modCurrent_records]
@[simp] theorem modCurrent_stations (s : State) (f : Entry → Entry) : (State.modCurrent s f).stations = s.stations :=
  (changes_modCurrent s f .stations (by decide))
@[simp] theorem modCurrent_station (s : State) (f : Entry → Entry) (x : StationNo) : (State.modCurrent s f).station x = s.station x := by
  simp only [State.station, modCurrent_stations]
@[simp] theorem modCurrent_transport (s : State) (f : Entry → Entry) : (State.modCurrent s f).transport = s.transport :=
  (changes_modCurrent s f .transport (by decide))
@[simp] theorem modCurrent_artworks (s : State) (f : Entry → Entry) : (State.modCurrent s f).artworks = s.artworks :=
  (changes_modCurrent s f .artworks (by decide))
@[simp] theorem modCurrent_artwork (s : State) (f : Entry → Entry) (x : ArtNo) : (State.modCurrent s f).artwork x = s.artwork x := by
  simp only [State.artwork, modCurrent_artworks]
@[simp] theorem modCurrent_templates (s : State) (f : Entry → Entry) : (State.modCurrent s f).templates = s.templates :=
  (changes_modCurrent s f .templates (by decide))
@[simp] theorem modCurrent_template (s : State) (f : Entry → Entry) (x : TmplNo) : (State.modCurrent s f).template x = s.template x := by
  simp only [State.template, modCurrent_templates]
@[simp] theorem modCurrent_printer (s : State) (f : Entry → Entry) : (State.modCurrent s f).printer = s.printer :=
  (changes_modCurrent s f .printer (by decide))
@[simp] theorem modCurrent_feed (s : State) (f : Entry → Entry) : (State.modCurrent s f).feed = s.feed :=
  (changes_modCurrent s f .feed (by decide))
@[simp] theorem modCurrent_outbound (s : State) (f : Entry → Entry) : (State.modCurrent s f).outbound = s.outbound :=
  (changes_modCurrent s f .outbound (by decide))
@[simp] theorem modCurrent_events (s : State) (f : Entry → Entry) : (State.modCurrent s f).events = s.events :=
  (changes_modCurrent s f .events (by decide))
@[simp] theorem modCurrent_event (s : State) (f : Entry → Entry) (x : EventClass) : (State.modCurrent s f).event x = s.event x := by
  simp only [State.event, modCurrent_events]
@[simp] theorem modCurrent_settings (s : State) (f : Entry → Entry) : (State.modCurrent s f).settings = s.settings :=
  (changes_modCurrent s f .settings (by decide))
@[simp] theorem modCurrent_pending (s : State) (f : Entry → Entry) : (State.modCurrent s f).pending = s.pending :=
  (changes_modCurrent s f .pending (by decide))

@[simp] theorem printerFaulted_images (s : State) (c : PrinterCause) : (State.printerFaulted s c).images = s.images :=
  (changes_printerFaulted s c .images (by decide))
@[simp] theorem printerFaulted_image (s : State) (c : PrinterCause) (x : SlotNo) : (State.printerFaulted s c).image x = s.image x := by
  simp only [State.image, printerFaulted_images]
@[simp] theorem printerFaulted_accs (s : State) (c : PrinterCause) : (State.printerFaulted s c).accs = s.accs :=
  (changes_printerFaulted s c .accs (by decide))
@[simp] theorem printerFaulted_acc (s : State) (c : PrinterCause) (x : WaveNo) : (State.printerFaulted s c).acc x = s.acc x := by
  simp only [State.acc, printerFaulted_accs]
@[simp] theorem printerFaulted_waves (s : State) (c : PrinterCause) : (State.printerFaulted s c).waves = s.waves :=
  (changes_printerFaulted s c .waves (by decide))
@[simp] theorem printerFaulted_wave (s : State) (c : PrinterCause) (x : WaveNo) : (State.printerFaulted s c).wave x = s.wave x := by
  simp only [State.wave, printerFaulted_waves]
@[simp] theorem printerFaulted_drives (s : State) (c : PrinterCause) : (State.printerFaulted s c).drives = s.drives :=
  (changes_printerFaulted s c .drives (by decide))
@[simp] theorem printerFaulted_drive (s : State) (c : PrinterCause) (x : Drive) : (State.printerFaulted s c).drive x = s.drive x := by
  simp only [State.drive, printerFaulted_drives]
@[simp] theorem printerFaulted_ladder (s : State) (c : PrinterCause) : (State.printerFaulted s c).ladder = s.ladder :=
  (changes_printerFaulted s c .ladder (by decide))
@[simp] theorem printerFaulted_code (s : State) (c : PrinterCause) (x : Rung) : (State.printerFaulted s c).code x = s.code x := by
  simp only [State.code, printerFaulted_ladder]
@[simp] theorem printerFaulted_saves (s : State) (c : PrinterCause) : (State.printerFaulted s c).saves = s.saves :=
  (changes_printerFaulted s c .saves (by decide))
@[simp] theorem printerFaulted_save (s : State) (c : PrinterCause) (x : Drive) : (State.printerFaulted s c).save x = s.save x := by
  simp only [State.save, printerFaulted_saves]
@[simp] theorem printerFaulted_verifyQueue (s : State) (c : PrinterCause) : (State.printerFaulted s c).verifyQueue = s.verifyQueue :=
  (changes_printerFaulted s c .verifyQueue (by decide))
@[simp] theorem printerFaulted_contexts (s : State) (c : PrinterCause) : (State.printerFaulted s c).contexts = s.contexts :=
  (changes_printerFaulted s c .contexts (by decide))
@[simp] theorem printerFaulted_context (s : State) (c : PrinterCause) (x : Fin 4) : (State.printerFaulted s c).context x = s.context x := by
  simp only [State.context, printerFaulted_contexts]
@[simp] theorem printerFaulted_orders (s : State) (c : PrinterCause) : (State.printerFaulted s c).orders = s.orders :=
  (changes_printerFaulted s c .orders (by decide))
@[simp] theorem printerFaulted_order (s : State) (c : PrinterCause) (x : OrderNo) : (State.printerFaulted s c).order x = s.order x := by
  simp only [State.order, printerFaulted_orders]
@[simp] theorem printerFaulted_records (s : State) (c : PrinterCause) : (State.printerFaulted s c).records = s.records :=
  (changes_printerFaulted s c .records (by decide))
@[simp] theorem printerFaulted_record (s : State) (c : PrinterCause) (x : RecNo) : (State.printerFaulted s c).record x = s.record x := by
  simp only [State.record, printerFaulted_records]
@[simp] theorem printerFaulted_stations (s : State) (c : PrinterCause) : (State.printerFaulted s c).stations = s.stations :=
  (changes_printerFaulted s c .stations (by decide))
@[simp] theorem printerFaulted_station (s : State) (c : PrinterCause) (x : StationNo) : (State.printerFaulted s c).station x = s.station x := by
  simp only [State.station, printerFaulted_stations]
@[simp] theorem printerFaulted_queue (s : State) (c : PrinterCause) : (State.printerFaulted s c).queue = s.queue :=
  (changes_printerFaulted s c .queue (by decide))
@[simp] theorem printerFaulted_transport (s : State) (c : PrinterCause) : (State.printerFaulted s c).transport = s.transport :=
  (changes_printerFaulted s c .transport (by decide))
@[simp] theorem printerFaulted_artworks (s : State) (c : PrinterCause) : (State.printerFaulted s c).artworks = s.artworks :=
  (changes_printerFaulted s c .artworks (by decide))
@[simp] theorem printerFaulted_artwork (s : State) (c : PrinterCause) (x : ArtNo) : (State.printerFaulted s c).artwork x = s.artwork x := by
  simp only [State.artwork, printerFaulted_artworks]
@[simp] theorem printerFaulted_templates (s : State) (c : PrinterCause) : (State.printerFaulted s c).templates = s.templates :=
  (changes_printerFaulted s c .templates (by decide))
@[simp] theorem printerFaulted_template (s : State) (c : PrinterCause) (x : TmplNo) : (State.printerFaulted s c).template x = s.template x := by
  simp only [State.template, printerFaulted_templates]
@[simp] theorem printerFaulted_feed (s : State) (c : PrinterCause) : (State.printerFaulted s c).feed = s.feed :=
  (changes_printerFaulted s c .feed (by decide))
@[simp] theorem printerFaulted_settings (s : State) (c : PrinterCause) : (State.printerFaulted s c).settings = s.settings :=
  (changes_printerFaulted s c .settings (by decide))
@[simp] theorem printerFaulted_pending (s : State) (c : PrinterCause) : (State.printerFaulted s c).pending = s.pending :=
  (changes_printerFaulted s c .pending (by decide))

@[simp] theorem printerClose_images (s : State) : (State.printerClose s).images = s.images :=
  (changes_printerClose s .images (by decide))
@[simp] theorem printerClose_image (s : State) (x : SlotNo) : (State.printerClose s).image x = s.image x := by
  simp only [State.image, printerClose_images]
@[simp] theorem printerClose_accs (s : State) : (State.printerClose s).accs = s.accs :=
  (changes_printerClose s .accs (by decide))
@[simp] theorem printerClose_acc (s : State) (x : WaveNo) : (State.printerClose s).acc x = s.acc x := by
  simp only [State.acc, printerClose_accs]
@[simp] theorem printerClose_waves (s : State) : (State.printerClose s).waves = s.waves :=
  (changes_printerClose s .waves (by decide))
@[simp] theorem printerClose_wave (s : State) (x : WaveNo) : (State.printerClose s).wave x = s.wave x := by
  simp only [State.wave, printerClose_waves]
@[simp] theorem printerClose_drives (s : State) : (State.printerClose s).drives = s.drives :=
  (changes_printerClose s .drives (by decide))
@[simp] theorem printerClose_drive (s : State) (x : Drive) : (State.printerClose s).drive x = s.drive x := by
  simp only [State.drive, printerClose_drives]
@[simp] theorem printerClose_ladder (s : State) : (State.printerClose s).ladder = s.ladder :=
  (changes_printerClose s .ladder (by decide))
@[simp] theorem printerClose_code (s : State) (x : Rung) : (State.printerClose s).code x = s.code x := by
  simp only [State.code, printerClose_ladder]
@[simp] theorem printerClose_saves (s : State) : (State.printerClose s).saves = s.saves :=
  (changes_printerClose s .saves (by decide))
@[simp] theorem printerClose_save (s : State) (x : Drive) : (State.printerClose s).save x = s.save x := by
  simp only [State.save, printerClose_saves]
@[simp] theorem printerClose_verifyQueue (s : State) : (State.printerClose s).verifyQueue = s.verifyQueue :=
  (changes_printerClose s .verifyQueue (by decide))
@[simp] theorem printerClose_contexts (s : State) : (State.printerClose s).contexts = s.contexts :=
  (changes_printerClose s .contexts (by decide))
@[simp] theorem printerClose_context (s : State) (x : Fin 4) : (State.printerClose s).context x = s.context x := by
  simp only [State.context, printerClose_contexts]
@[simp] theorem printerClose_orders (s : State) : (State.printerClose s).orders = s.orders :=
  (changes_printerClose s .orders (by decide))
@[simp] theorem printerClose_order (s : State) (x : OrderNo) : (State.printerClose s).order x = s.order x := by
  simp only [State.order, printerClose_orders]
@[simp] theorem printerClose_records (s : State) : (State.printerClose s).records = s.records :=
  (changes_printerClose s .records (by decide))
@[simp] theorem printerClose_record (s : State) (x : RecNo) : (State.printerClose s).record x = s.record x := by
  simp only [State.record, printerClose_records]
@[simp] theorem printerClose_stations (s : State) : (State.printerClose s).stations = s.stations :=
  (changes_printerClose s .stations (by decide))
@[simp] theorem printerClose_station (s : State) (x : StationNo) : (State.printerClose s).station x = s.station x := by
  simp only [State.station, printerClose_stations]
@[simp] theorem printerClose_queue (s : State) : (State.printerClose s).queue = s.queue :=
  (changes_printerClose s .queue (by decide))
@[simp] theorem printerClose_transport (s : State) : (State.printerClose s).transport = s.transport :=
  (changes_printerClose s .transport (by decide))
@[simp] theorem printerClose_artworks (s : State) : (State.printerClose s).artworks = s.artworks :=
  (changes_printerClose s .artworks (by decide))
@[simp] theorem printerClose_artwork (s : State) (x : ArtNo) : (State.printerClose s).artwork x = s.artwork x := by
  simp only [State.artwork, printerClose_artworks]
@[simp] theorem printerClose_templates (s : State) : (State.printerClose s).templates = s.templates :=
  (changes_printerClose s .templates (by decide))
@[simp] theorem printerClose_template (s : State) (x : TmplNo) : (State.printerClose s).template x = s.template x := by
  simp only [State.template, printerClose_templates]
@[simp] theorem printerClose_feed (s : State) : (State.printerClose s).feed = s.feed :=
  (changes_printerClose s .feed (by decide))
@[simp] theorem printerClose_outbound (s : State) : (State.printerClose s).outbound = s.outbound :=
  (changes_printerClose s .outbound (by decide))
@[simp] theorem printerClose_events (s : State) : (State.printerClose s).events = s.events :=
  (changes_printerClose s .events (by decide))
@[simp] theorem printerClose_event (s : State) (x : EventClass) : (State.printerClose s).event x = s.event x := by
  simp only [State.event, printerClose_events]
@[simp] theorem printerClose_settings (s : State) : (State.printerClose s).settings = s.settings :=
  (changes_printerClose s .settings (by decide))
@[simp] theorem printerClose_pending (s : State) : (State.printerClose s).pending = s.pending :=
  (changes_printerClose s .pending (by decide))

@[simp] theorem printerEject_images (s : State) : (State.printerEject s).images = s.images :=
  (changes_printerEject s .images (by decide))
@[simp] theorem printerEject_image (s : State) (x : SlotNo) : (State.printerEject s).image x = s.image x := by
  simp only [State.image, printerEject_images]
@[simp] theorem printerEject_accs (s : State) : (State.printerEject s).accs = s.accs :=
  (changes_printerEject s .accs (by decide))
@[simp] theorem printerEject_acc (s : State) (x : WaveNo) : (State.printerEject s).acc x = s.acc x := by
  simp only [State.acc, printerEject_accs]
@[simp] theorem printerEject_waves (s : State) : (State.printerEject s).waves = s.waves :=
  (changes_printerEject s .waves (by decide))
@[simp] theorem printerEject_wave (s : State) (x : WaveNo) : (State.printerEject s).wave x = s.wave x := by
  simp only [State.wave, printerEject_waves]
@[simp] theorem printerEject_drives (s : State) : (State.printerEject s).drives = s.drives :=
  (changes_printerEject s .drives (by decide))
@[simp] theorem printerEject_drive (s : State) (x : Drive) : (State.printerEject s).drive x = s.drive x := by
  simp only [State.drive, printerEject_drives]
@[simp] theorem printerEject_ladder (s : State) : (State.printerEject s).ladder = s.ladder :=
  (changes_printerEject s .ladder (by decide))
@[simp] theorem printerEject_code (s : State) (x : Rung) : (State.printerEject s).code x = s.code x := by
  simp only [State.code, printerEject_ladder]
@[simp] theorem printerEject_saves (s : State) : (State.printerEject s).saves = s.saves :=
  (changes_printerEject s .saves (by decide))
@[simp] theorem printerEject_save (s : State) (x : Drive) : (State.printerEject s).save x = s.save x := by
  simp only [State.save, printerEject_saves]
@[simp] theorem printerEject_verifyQueue (s : State) : (State.printerEject s).verifyQueue = s.verifyQueue :=
  (changes_printerEject s .verifyQueue (by decide))
@[simp] theorem printerEject_contexts (s : State) : (State.printerEject s).contexts = s.contexts :=
  (changes_printerEject s .contexts (by decide))
@[simp] theorem printerEject_context (s : State) (x : Fin 4) : (State.printerEject s).context x = s.context x := by
  simp only [State.context, printerEject_contexts]
@[simp] theorem printerEject_orders (s : State) : (State.printerEject s).orders = s.orders :=
  (changes_printerEject s .orders (by decide))
@[simp] theorem printerEject_order (s : State) (x : OrderNo) : (State.printerEject s).order x = s.order x := by
  simp only [State.order, printerEject_orders]
@[simp] theorem printerEject_records (s : State) : (State.printerEject s).records = s.records :=
  (changes_printerEject s .records (by decide))
@[simp] theorem printerEject_record (s : State) (x : RecNo) : (State.printerEject s).record x = s.record x := by
  simp only [State.record, printerEject_records]
@[simp] theorem printerEject_stations (s : State) : (State.printerEject s).stations = s.stations :=
  (changes_printerEject s .stations (by decide))
@[simp] theorem printerEject_station (s : State) (x : StationNo) : (State.printerEject s).station x = s.station x := by
  simp only [State.station, printerEject_stations]
@[simp] theorem printerEject_queue (s : State) : (State.printerEject s).queue = s.queue :=
  (changes_printerEject s .queue (by decide))
@[simp] theorem printerEject_transport (s : State) : (State.printerEject s).transport = s.transport :=
  (changes_printerEject s .transport (by decide))
@[simp] theorem printerEject_artworks (s : State) : (State.printerEject s).artworks = s.artworks :=
  (changes_printerEject s .artworks (by decide))
@[simp] theorem printerEject_artwork (s : State) (x : ArtNo) : (State.printerEject s).artwork x = s.artwork x := by
  simp only [State.artwork, printerEject_artworks]
@[simp] theorem printerEject_templates (s : State) : (State.printerEject s).templates = s.templates :=
  (changes_printerEject s .templates (by decide))
@[simp] theorem printerEject_template (s : State) (x : TmplNo) : (State.printerEject s).template x = s.template x := by
  simp only [State.template, printerEject_templates]
@[simp] theorem printerEject_feed (s : State) : (State.printerEject s).feed = s.feed :=
  (changes_printerEject s .feed (by decide))
@[simp] theorem printerEject_outbound (s : State) : (State.printerEject s).outbound = s.outbound :=
  (changes_printerEject s .outbound (by decide))
@[simp] theorem printerEject_events (s : State) : (State.printerEject s).events = s.events :=
  (changes_printerEject s .events (by decide))
@[simp] theorem printerEject_event (s : State) (x : EventClass) : (State.printerEject s).event x = s.event x := by
  simp only [State.event, printerEject_events]
@[simp] theorem printerEject_settings (s : State) : (State.printerEject s).settings = s.settings :=
  (changes_printerEject s .settings (by decide))
@[simp] theorem printerEject_pending (s : State) : (State.printerEject s).pending = s.pending :=
  (changes_printerEject s .pending (by decide))

@[simp] theorem resetEnded_images (s : State) (st : PrinterState) : (State.resetEnded s st).images = s.images :=
  (changes_resetEnded s st .images (by decide))
@[simp] theorem resetEnded_image (s : State) (st : PrinterState) (x : SlotNo) : (State.resetEnded s st).image x = s.image x := by
  simp only [State.image, resetEnded_images]
@[simp] theorem resetEnded_accs (s : State) (st : PrinterState) : (State.resetEnded s st).accs = s.accs :=
  (changes_resetEnded s st .accs (by decide))
@[simp] theorem resetEnded_acc (s : State) (st : PrinterState) (x : WaveNo) : (State.resetEnded s st).acc x = s.acc x := by
  simp only [State.acc, resetEnded_accs]
@[simp] theorem resetEnded_waves (s : State) (st : PrinterState) : (State.resetEnded s st).waves = s.waves :=
  (changes_resetEnded s st .waves (by decide))
@[simp] theorem resetEnded_wave (s : State) (st : PrinterState) (x : WaveNo) : (State.resetEnded s st).wave x = s.wave x := by
  simp only [State.wave, resetEnded_waves]
@[simp] theorem resetEnded_drives (s : State) (st : PrinterState) : (State.resetEnded s st).drives = s.drives :=
  (changes_resetEnded s st .drives (by decide))
@[simp] theorem resetEnded_drive (s : State) (st : PrinterState) (x : Drive) : (State.resetEnded s st).drive x = s.drive x := by
  simp only [State.drive, resetEnded_drives]
@[simp] theorem resetEnded_ladder (s : State) (st : PrinterState) : (State.resetEnded s st).ladder = s.ladder :=
  (changes_resetEnded s st .ladder (by decide))
@[simp] theorem resetEnded_code (s : State) (st : PrinterState) (x : Rung) : (State.resetEnded s st).code x = s.code x := by
  simp only [State.code, resetEnded_ladder]
@[simp] theorem resetEnded_saves (s : State) (st : PrinterState) : (State.resetEnded s st).saves = s.saves :=
  (changes_resetEnded s st .saves (by decide))
@[simp] theorem resetEnded_save (s : State) (st : PrinterState) (x : Drive) : (State.resetEnded s st).save x = s.save x := by
  simp only [State.save, resetEnded_saves]
@[simp] theorem resetEnded_verifyQueue (s : State) (st : PrinterState) : (State.resetEnded s st).verifyQueue = s.verifyQueue :=
  (changes_resetEnded s st .verifyQueue (by decide))
@[simp] theorem resetEnded_contexts (s : State) (st : PrinterState) : (State.resetEnded s st).contexts = s.contexts :=
  (changes_resetEnded s st .contexts (by decide))
@[simp] theorem resetEnded_context (s : State) (st : PrinterState) (x : Fin 4) : (State.resetEnded s st).context x = s.context x := by
  simp only [State.context, resetEnded_contexts]
@[simp] theorem resetEnded_orders (s : State) (st : PrinterState) : (State.resetEnded s st).orders = s.orders :=
  (changes_resetEnded s st .orders (by decide))
@[simp] theorem resetEnded_order (s : State) (st : PrinterState) (x : OrderNo) : (State.resetEnded s st).order x = s.order x := by
  simp only [State.order, resetEnded_orders]
@[simp] theorem resetEnded_records (s : State) (st : PrinterState) : (State.resetEnded s st).records = s.records :=
  (changes_resetEnded s st .records (by decide))
@[simp] theorem resetEnded_record (s : State) (st : PrinterState) (x : RecNo) : (State.resetEnded s st).record x = s.record x := by
  simp only [State.record, resetEnded_records]
@[simp] theorem resetEnded_stations (s : State) (st : PrinterState) : (State.resetEnded s st).stations = s.stations :=
  (changes_resetEnded s st .stations (by decide))
@[simp] theorem resetEnded_station (s : State) (st : PrinterState) (x : StationNo) : (State.resetEnded s st).station x = s.station x := by
  simp only [State.station, resetEnded_stations]
@[simp] theorem resetEnded_queue (s : State) (st : PrinterState) : (State.resetEnded s st).queue = s.queue :=
  (changes_resetEnded s st .queue (by decide))
@[simp] theorem resetEnded_transport (s : State) (st : PrinterState) : (State.resetEnded s st).transport = s.transport :=
  (changes_resetEnded s st .transport (by decide))
@[simp] theorem resetEnded_artworks (s : State) (st : PrinterState) : (State.resetEnded s st).artworks = s.artworks :=
  (changes_resetEnded s st .artworks (by decide))
@[simp] theorem resetEnded_artwork (s : State) (st : PrinterState) (x : ArtNo) : (State.resetEnded s st).artwork x = s.artwork x := by
  simp only [State.artwork, resetEnded_artworks]
@[simp] theorem resetEnded_templates (s : State) (st : PrinterState) : (State.resetEnded s st).templates = s.templates :=
  (changes_resetEnded s st .templates (by decide))
@[simp] theorem resetEnded_template (s : State) (st : PrinterState) (x : TmplNo) : (State.resetEnded s st).template x = s.template x := by
  simp only [State.template, resetEnded_templates]
@[simp] theorem resetEnded_feed (s : State) (st : PrinterState) : (State.resetEnded s st).feed = s.feed :=
  (changes_resetEnded s st .feed (by decide))
@[simp] theorem resetEnded_settings (s : State) (st : PrinterState) : (State.resetEnded s st).settings = s.settings :=
  (changes_resetEnded s st .settings (by decide))
@[simp] theorem resetEnded_pending (s : State) (st : PrinterState) : (State.resetEnded s st).pending = s.pending :=
  (changes_resetEnded s st .pending (by decide))

@[simp] theorem waitPick_images (s : State) : (State.waitPick s).images = s.images :=
  (changes_waitPick s .images (by decide))
@[simp] theorem waitPick_image (s : State) (x : SlotNo) : (State.waitPick s).image x = s.image x := by
  simp only [State.image, waitPick_images]
@[simp] theorem waitPick_accs (s : State) : (State.waitPick s).accs = s.accs :=
  (changes_waitPick s .accs (by decide))
@[simp] theorem waitPick_acc (s : State) (x : WaveNo) : (State.waitPick s).acc x = s.acc x := by
  simp only [State.acc, waitPick_accs]
@[simp] theorem waitPick_waves (s : State) : (State.waitPick s).waves = s.waves :=
  (changes_waitPick s .waves (by decide))
@[simp] theorem waitPick_wave (s : State) (x : WaveNo) : (State.waitPick s).wave x = s.wave x := by
  simp only [State.wave, waitPick_waves]
@[simp] theorem waitPick_drives (s : State) : (State.waitPick s).drives = s.drives :=
  (changes_waitPick s .drives (by decide))
@[simp] theorem waitPick_drive (s : State) (x : Drive) : (State.waitPick s).drive x = s.drive x := by
  simp only [State.drive, waitPick_drives]
@[simp] theorem waitPick_ladder (s : State) : (State.waitPick s).ladder = s.ladder :=
  (changes_waitPick s .ladder (by decide))
@[simp] theorem waitPick_code (s : State) (x : Rung) : (State.waitPick s).code x = s.code x := by
  simp only [State.code, waitPick_ladder]
@[simp] theorem waitPick_saves (s : State) : (State.waitPick s).saves = s.saves :=
  (changes_waitPick s .saves (by decide))
@[simp] theorem waitPick_save (s : State) (x : Drive) : (State.waitPick s).save x = s.save x := by
  simp only [State.save, waitPick_saves]
@[simp] theorem waitPick_verifyQueue (s : State) : (State.waitPick s).verifyQueue = s.verifyQueue :=
  (changes_waitPick s .verifyQueue (by decide))
@[simp] theorem waitPick_contexts (s : State) : (State.waitPick s).contexts = s.contexts :=
  (changes_waitPick s .contexts (by decide))
@[simp] theorem waitPick_context (s : State) (x : Fin 4) : (State.waitPick s).context x = s.context x := by
  simp only [State.context, waitPick_contexts]
@[simp] theorem waitPick_orders (s : State) : (State.waitPick s).orders = s.orders :=
  (changes_waitPick s .orders (by decide))
@[simp] theorem waitPick_order (s : State) (x : OrderNo) : (State.waitPick s).order x = s.order x := by
  simp only [State.order, waitPick_orders]
@[simp] theorem waitPick_records (s : State) : (State.waitPick s).records = s.records :=
  (changes_waitPick s .records (by decide))
@[simp] theorem waitPick_record (s : State) (x : RecNo) : (State.waitPick s).record x = s.record x := by
  simp only [State.record, waitPick_records]
@[simp] theorem waitPick_stations (s : State) : (State.waitPick s).stations = s.stations :=
  (changes_waitPick s .stations (by decide))
@[simp] theorem waitPick_station (s : State) (x : StationNo) : (State.waitPick s).station x = s.station x := by
  simp only [State.station, waitPick_stations]
@[simp] theorem waitPick_transport (s : State) : (State.waitPick s).transport = s.transport :=
  (changes_waitPick s .transport (by decide))
@[simp] theorem waitPick_artworks (s : State) : (State.waitPick s).artworks = s.artworks :=
  (changes_waitPick s .artworks (by decide))
@[simp] theorem waitPick_artwork (s : State) (x : ArtNo) : (State.waitPick s).artwork x = s.artwork x := by
  simp only [State.artwork, waitPick_artworks]
@[simp] theorem waitPick_templates (s : State) : (State.waitPick s).templates = s.templates :=
  (changes_waitPick s .templates (by decide))
@[simp] theorem waitPick_template (s : State) (x : TmplNo) : (State.waitPick s).template x = s.template x := by
  simp only [State.template, waitPick_templates]
@[simp] theorem waitPick_feed (s : State) : (State.waitPick s).feed = s.feed :=
  (changes_waitPick s .feed (by decide))
@[simp] theorem waitPick_settings (s : State) : (State.waitPick s).settings = s.settings :=
  (changes_waitPick s .settings (by decide))
@[simp] theorem waitPick_pending (s : State) : (State.waitPick s).pending = s.pending :=
  (changes_waitPick s .pending (by decide))

@[simp] theorem printerPicked_images (s : State) : (State.printerPicked s).images = s.images :=
  (changes_printerPicked s .images (by decide))
@[simp] theorem printerPicked_image (s : State) (x : SlotNo) : (State.printerPicked s).image x = s.image x := by
  simp only [State.image, printerPicked_images]
@[simp] theorem printerPicked_accs (s : State) : (State.printerPicked s).accs = s.accs :=
  (changes_printerPicked s .accs (by decide))
@[simp] theorem printerPicked_acc (s : State) (x : WaveNo) : (State.printerPicked s).acc x = s.acc x := by
  simp only [State.acc, printerPicked_accs]
@[simp] theorem printerPicked_waves (s : State) : (State.printerPicked s).waves = s.waves :=
  (changes_printerPicked s .waves (by decide))
@[simp] theorem printerPicked_wave (s : State) (x : WaveNo) : (State.printerPicked s).wave x = s.wave x := by
  simp only [State.wave, printerPicked_waves]
@[simp] theorem printerPicked_drives (s : State) : (State.printerPicked s).drives = s.drives :=
  (changes_printerPicked s .drives (by decide))
@[simp] theorem printerPicked_drive (s : State) (x : Drive) : (State.printerPicked s).drive x = s.drive x := by
  simp only [State.drive, printerPicked_drives]
@[simp] theorem printerPicked_ladder (s : State) : (State.printerPicked s).ladder = s.ladder :=
  (changes_printerPicked s .ladder (by decide))
@[simp] theorem printerPicked_code (s : State) (x : Rung) : (State.printerPicked s).code x = s.code x := by
  simp only [State.code, printerPicked_ladder]
@[simp] theorem printerPicked_saves (s : State) : (State.printerPicked s).saves = s.saves :=
  (changes_printerPicked s .saves (by decide))
@[simp] theorem printerPicked_save (s : State) (x : Drive) : (State.printerPicked s).save x = s.save x := by
  simp only [State.save, printerPicked_saves]
@[simp] theorem printerPicked_verifyQueue (s : State) : (State.printerPicked s).verifyQueue = s.verifyQueue :=
  (changes_printerPicked s .verifyQueue (by decide))
@[simp] theorem printerPicked_contexts (s : State) : (State.printerPicked s).contexts = s.contexts :=
  (changes_printerPicked s .contexts (by decide))
@[simp] theorem printerPicked_context (s : State) (x : Fin 4) : (State.printerPicked s).context x = s.context x := by
  simp only [State.context, printerPicked_contexts]
@[simp] theorem printerPicked_orders (s : State) : (State.printerPicked s).orders = s.orders :=
  (changes_printerPicked s .orders (by decide))
@[simp] theorem printerPicked_order (s : State) (x : OrderNo) : (State.printerPicked s).order x = s.order x := by
  simp only [State.order, printerPicked_orders]
@[simp] theorem printerPicked_records (s : State) : (State.printerPicked s).records = s.records :=
  (changes_printerPicked s .records (by decide))
@[simp] theorem printerPicked_record (s : State) (x : RecNo) : (State.printerPicked s).record x = s.record x := by
  simp only [State.record, printerPicked_records]
@[simp] theorem printerPicked_stations (s : State) : (State.printerPicked s).stations = s.stations :=
  (changes_printerPicked s .stations (by decide))
@[simp] theorem printerPicked_station (s : State) (x : StationNo) : (State.printerPicked s).station x = s.station x := by
  simp only [State.station, printerPicked_stations]
@[simp] theorem printerPicked_queue (s : State) : (State.printerPicked s).queue = s.queue :=
  (changes_printerPicked s .queue (by decide))
@[simp] theorem printerPicked_transport (s : State) : (State.printerPicked s).transport = s.transport :=
  (changes_printerPicked s .transport (by decide))
@[simp] theorem printerPicked_artworks (s : State) : (State.printerPicked s).artworks = s.artworks :=
  (changes_printerPicked s .artworks (by decide))
@[simp] theorem printerPicked_artwork (s : State) (x : ArtNo) : (State.printerPicked s).artwork x = s.artwork x := by
  simp only [State.artwork, printerPicked_artworks]
@[simp] theorem printerPicked_templates (s : State) : (State.printerPicked s).templates = s.templates :=
  (changes_printerPicked s .templates (by decide))
@[simp] theorem printerPicked_template (s : State) (x : TmplNo) : (State.printerPicked s).template x = s.template x := by
  simp only [State.template, printerPicked_templates]
@[simp] theorem printerPicked_feed (s : State) : (State.printerPicked s).feed = s.feed :=
  (changes_printerPicked s .feed (by decide))
@[simp] theorem printerPicked_settings (s : State) : (State.printerPicked s).settings = s.settings :=
  (changes_printerPicked s .settings (by decide))
@[simp] theorem printerPicked_pending (s : State) : (State.printerPicked s).pending = s.pending :=
  (changes_printerPicked s .pending (by decide))

@[simp] theorem takeFrom_images (s : State) (i : StationNo) (n : Nat) : (State.takeFrom s i n).images = s.images :=
  (changes_takeFrom s i n .images (by decide))
@[simp] theorem takeFrom_image (s : State) (i : StationNo) (n : Nat) (x : SlotNo) : (State.takeFrom s i n).image x = s.image x := by
  simp only [State.image, takeFrom_images]
@[simp] theorem takeFrom_accs (s : State) (i : StationNo) (n : Nat) : (State.takeFrom s i n).accs = s.accs :=
  (changes_takeFrom s i n .accs (by decide))
@[simp] theorem takeFrom_acc (s : State) (i : StationNo) (n : Nat) (x : WaveNo) : (State.takeFrom s i n).acc x = s.acc x := by
  simp only [State.acc, takeFrom_accs]
@[simp] theorem takeFrom_waves (s : State) (i : StationNo) (n : Nat) : (State.takeFrom s i n).waves = s.waves :=
  (changes_takeFrom s i n .waves (by decide))
@[simp] theorem takeFrom_wave (s : State) (i : StationNo) (n : Nat) (x : WaveNo) : (State.takeFrom s i n).wave x = s.wave x := by
  simp only [State.wave, takeFrom_waves]
@[simp] theorem takeFrom_ladder (s : State) (i : StationNo) (n : Nat) : (State.takeFrom s i n).ladder = s.ladder :=
  (changes_takeFrom s i n .ladder (by decide))
@[simp] theorem takeFrom_code (s : State) (i : StationNo) (n : Nat) (x : Rung) : (State.takeFrom s i n).code x = s.code x := by
  simp only [State.code, takeFrom_ladder]
@[simp] theorem takeFrom_saves (s : State) (i : StationNo) (n : Nat) : (State.takeFrom s i n).saves = s.saves :=
  (changes_takeFrom s i n .saves (by decide))
@[simp] theorem takeFrom_save (s : State) (i : StationNo) (n : Nat) (x : Drive) : (State.takeFrom s i n).save x = s.save x := by
  simp only [State.save, takeFrom_saves]
@[simp] theorem takeFrom_verifyQueue (s : State) (i : StationNo) (n : Nat) : (State.takeFrom s i n).verifyQueue = s.verifyQueue :=
  (changes_takeFrom s i n .verifyQueue (by decide))
@[simp] theorem takeFrom_contexts (s : State) (i : StationNo) (n : Nat) : (State.takeFrom s i n).contexts = s.contexts :=
  (changes_takeFrom s i n .contexts (by decide))
@[simp] theorem takeFrom_context (s : State) (i : StationNo) (n : Nat) (x : Fin 4) : (State.takeFrom s i n).context x = s.context x := by
  simp only [State.context, takeFrom_contexts]
@[simp] theorem takeFrom_artworks (s : State) (i : StationNo) (n : Nat) : (State.takeFrom s i n).artworks = s.artworks :=
  (changes_takeFrom s i n .artworks (by decide))
@[simp] theorem takeFrom_artwork (s : State) (i : StationNo) (n : Nat) (x : ArtNo) : (State.takeFrom s i n).artwork x = s.artwork x := by
  simp only [State.artwork, takeFrom_artworks]
@[simp] theorem takeFrom_templates (s : State) (i : StationNo) (n : Nat) : (State.takeFrom s i n).templates = s.templates :=
  (changes_takeFrom s i n .templates (by decide))
@[simp] theorem takeFrom_template (s : State) (i : StationNo) (n : Nat) (x : TmplNo) : (State.takeFrom s i n).template x = s.template x := by
  simp only [State.template, takeFrom_templates]
@[simp] theorem takeFrom_feed (s : State) (i : StationNo) (n : Nat) : (State.takeFrom s i n).feed = s.feed :=
  (changes_takeFrom s i n .feed (by decide))
@[simp] theorem takeFrom_settings (s : State) (i : StationNo) (n : Nat) : (State.takeFrom s i n).settings = s.settings :=
  (changes_takeFrom s i n .settings (by decide))
@[simp] theorem takeFrom_pending (s : State) (i : StationNo) (n : Nat) : (State.takeFrom s i n).pending = s.pending :=
  (changes_takeFrom s i n .pending (by decide))

@[simp] theorem armIdle_images (s : State) : (State.armIdle s).images = s.images :=
  (changes_armIdle s .images (by decide))
@[simp] theorem armIdle_image (s : State) (x : SlotNo) : (State.armIdle s).image x = s.image x := by
  simp only [State.image, armIdle_images]
@[simp] theorem armIdle_accs (s : State) : (State.armIdle s).accs = s.accs :=
  (changes_armIdle s .accs (by decide))
@[simp] theorem armIdle_acc (s : State) (x : WaveNo) : (State.armIdle s).acc x = s.acc x := by
  simp only [State.acc, armIdle_accs]
@[simp] theorem armIdle_waves (s : State) : (State.armIdle s).waves = s.waves :=
  (changes_armIdle s .waves (by decide))
@[simp] theorem armIdle_wave (s : State) (x : WaveNo) : (State.armIdle s).wave x = s.wave x := by
  simp only [State.wave, armIdle_waves]
@[simp] theorem armIdle_drives (s : State) : (State.armIdle s).drives = s.drives :=
  (changes_armIdle s .drives (by decide))
@[simp] theorem armIdle_drive (s : State) (x : Drive) : (State.armIdle s).drive x = s.drive x := by
  simp only [State.drive, armIdle_drives]
@[simp] theorem armIdle_ladder (s : State) : (State.armIdle s).ladder = s.ladder :=
  (changes_armIdle s .ladder (by decide))
@[simp] theorem armIdle_code (s : State) (x : Rung) : (State.armIdle s).code x = s.code x := by
  simp only [State.code, armIdle_ladder]
@[simp] theorem armIdle_saves (s : State) : (State.armIdle s).saves = s.saves :=
  (changes_armIdle s .saves (by decide))
@[simp] theorem armIdle_save (s : State) (x : Drive) : (State.armIdle s).save x = s.save x := by
  simp only [State.save, armIdle_saves]
@[simp] theorem armIdle_verifyQueue (s : State) : (State.armIdle s).verifyQueue = s.verifyQueue :=
  (changes_armIdle s .verifyQueue (by decide))
@[simp] theorem armIdle_contexts (s : State) : (State.armIdle s).contexts = s.contexts :=
  (changes_armIdle s .contexts (by decide))
@[simp] theorem armIdle_context (s : State) (x : Fin 4) : (State.armIdle s).context x = s.context x := by
  simp only [State.context, armIdle_contexts]
@[simp] theorem armIdle_orders (s : State) : (State.armIdle s).orders = s.orders :=
  (changes_armIdle s .orders (by decide))
@[simp] theorem armIdle_order (s : State) (x : OrderNo) : (State.armIdle s).order x = s.order x := by
  simp only [State.order, armIdle_orders]
@[simp] theorem armIdle_records (s : State) : (State.armIdle s).records = s.records :=
  (changes_armIdle s .records (by decide))
@[simp] theorem armIdle_record (s : State) (x : RecNo) : (State.armIdle s).record x = s.record x := by
  simp only [State.record, armIdle_records]
@[simp] theorem armIdle_stations (s : State) : (State.armIdle s).stations = s.stations :=
  (changes_armIdle s .stations (by decide))
@[simp] theorem armIdle_station (s : State) (x : StationNo) : (State.armIdle s).station x = s.station x := by
  simp only [State.station, armIdle_stations]
@[simp] theorem armIdle_queue (s : State) : (State.armIdle s).queue = s.queue :=
  (changes_armIdle s .queue (by decide))
@[simp] theorem armIdle_artworks (s : State) : (State.armIdle s).artworks = s.artworks :=
  (changes_armIdle s .artworks (by decide))
@[simp] theorem armIdle_artwork (s : State) (x : ArtNo) : (State.armIdle s).artwork x = s.artwork x := by
  simp only [State.artwork, armIdle_artworks]
@[simp] theorem armIdle_templates (s : State) : (State.armIdle s).templates = s.templates :=
  (changes_armIdle s .templates (by decide))
@[simp] theorem armIdle_template (s : State) (x : TmplNo) : (State.armIdle s).template x = s.template x := by
  simp only [State.template, armIdle_templates]
@[simp] theorem armIdle_printer (s : State) : (State.armIdle s).printer = s.printer :=
  (changes_armIdle s .printer (by decide))
@[simp] theorem armIdle_feed (s : State) : (State.armIdle s).feed = s.feed :=
  (changes_armIdle s .feed (by decide))
@[simp] theorem armIdle_outbound (s : State) : (State.armIdle s).outbound = s.outbound :=
  (changes_armIdle s .outbound (by decide))
@[simp] theorem armIdle_events (s : State) : (State.armIdle s).events = s.events :=
  (changes_armIdle s .events (by decide))
@[simp] theorem armIdle_event (s : State) (x : EventClass) : (State.armIdle s).event x = s.event x := by
  simp only [State.event, armIdle_events]
@[simp] theorem armIdle_settings (s : State) : (State.armIdle s).settings = s.settings :=
  (changes_armIdle s .settings (by decide))
@[simp] theorem armIdle_pending (s : State) : (State.armIdle s).pending = s.pending :=
  (changes_armIdle s .pending (by decide))

@[simp] theorem clearOp_images (s : State) : (State.clearOp s).images = s.images :=
  (changes_clearOp s .images (by decide))
@[simp] theorem clearOp_image (s : State) (x : SlotNo) : (State.clearOp s).image x = s.image x := by
  simp only [State.image, clearOp_images]
@[simp] theorem clearOp_accs (s : State) : (State.clearOp s).accs = s.accs :=
  (changes_clearOp s .accs (by decide))
@[simp] theorem clearOp_acc (s : State) (x : WaveNo) : (State.clearOp s).acc x = s.acc x := by
  simp only [State.acc, clearOp_accs]
@[simp] theorem clearOp_waves (s : State) : (State.clearOp s).waves = s.waves :=
  (changes_clearOp s .waves (by decide))
@[simp] theorem clearOp_wave (s : State) (x : WaveNo) : (State.clearOp s).wave x = s.wave x := by
  simp only [State.wave, clearOp_waves]
@[simp] theorem clearOp_drives (s : State) : (State.clearOp s).drives = s.drives :=
  (changes_clearOp s .drives (by decide))
@[simp] theorem clearOp_drive (s : State) (x : Drive) : (State.clearOp s).drive x = s.drive x := by
  simp only [State.drive, clearOp_drives]
@[simp] theorem clearOp_ladder (s : State) : (State.clearOp s).ladder = s.ladder :=
  (changes_clearOp s .ladder (by decide))
@[simp] theorem clearOp_code (s : State) (x : Rung) : (State.clearOp s).code x = s.code x := by
  simp only [State.code, clearOp_ladder]
@[simp] theorem clearOp_saves (s : State) : (State.clearOp s).saves = s.saves :=
  (changes_clearOp s .saves (by decide))
@[simp] theorem clearOp_save (s : State) (x : Drive) : (State.clearOp s).save x = s.save x := by
  simp only [State.save, clearOp_saves]
@[simp] theorem clearOp_verifyQueue (s : State) : (State.clearOp s).verifyQueue = s.verifyQueue :=
  (changes_clearOp s .verifyQueue (by decide))
@[simp] theorem clearOp_contexts (s : State) : (State.clearOp s).contexts = s.contexts :=
  (changes_clearOp s .contexts (by decide))
@[simp] theorem clearOp_context (s : State) (x : Fin 4) : (State.clearOp s).context x = s.context x := by
  simp only [State.context, clearOp_contexts]
@[simp] theorem clearOp_orders (s : State) : (State.clearOp s).orders = s.orders :=
  (changes_clearOp s .orders (by decide))
@[simp] theorem clearOp_order (s : State) (x : OrderNo) : (State.clearOp s).order x = s.order x := by
  simp only [State.order, clearOp_orders]
@[simp] theorem clearOp_records (s : State) : (State.clearOp s).records = s.records :=
  (changes_clearOp s .records (by decide))
@[simp] theorem clearOp_record (s : State) (x : RecNo) : (State.clearOp s).record x = s.record x := by
  simp only [State.record, clearOp_records]
@[simp] theorem clearOp_stations (s : State) : (State.clearOp s).stations = s.stations :=
  (changes_clearOp s .stations (by decide))
@[simp] theorem clearOp_station (s : State) (x : StationNo) : (State.clearOp s).station x = s.station x := by
  simp only [State.station, clearOp_stations]
@[simp] theorem clearOp_queue (s : State) : (State.clearOp s).queue = s.queue :=
  (changes_clearOp s .queue (by decide))
@[simp] theorem clearOp_artworks (s : State) : (State.clearOp s).artworks = s.artworks :=
  (changes_clearOp s .artworks (by decide))
@[simp] theorem clearOp_artwork (s : State) (x : ArtNo) : (State.clearOp s).artwork x = s.artwork x := by
  simp only [State.artwork, clearOp_artworks]
@[simp] theorem clearOp_templates (s : State) : (State.clearOp s).templates = s.templates :=
  (changes_clearOp s .templates (by decide))
@[simp] theorem clearOp_template (s : State) (x : TmplNo) : (State.clearOp s).template x = s.template x := by
  simp only [State.template, clearOp_templates]
@[simp] theorem clearOp_printer (s : State) : (State.clearOp s).printer = s.printer :=
  (changes_clearOp s .printer (by decide))
@[simp] theorem clearOp_feed (s : State) : (State.clearOp s).feed = s.feed :=
  (changes_clearOp s .feed (by decide))
@[simp] theorem clearOp_outbound (s : State) : (State.clearOp s).outbound = s.outbound :=
  (changes_clearOp s .outbound (by decide))
@[simp] theorem clearOp_events (s : State) : (State.clearOp s).events = s.events :=
  (changes_clearOp s .events (by decide))
@[simp] theorem clearOp_event (s : State) (x : EventClass) : (State.clearOp s).event x = s.event x := by
  simp only [State.event, clearOp_events]
@[simp] theorem clearOp_settings (s : State) : (State.clearOp s).settings = s.settings :=
  (changes_clearOp s .settings (by decide))
@[simp] theorem clearOp_pending (s : State) : (State.clearOp s).pending = s.pending :=
  (changes_clearOp s .pending (by decide))

@[simp] theorem accountSerial_images (s : State) (f : Template → Template) : (State.accountSerial s f).images = s.images :=
  (changes_accountSerial s f .images (by decide))
@[simp] theorem accountSerial_image (s : State) (f : Template → Template) (x : SlotNo) : (State.accountSerial s f).image x = s.image x := by
  simp only [State.image, accountSerial_images]
@[simp] theorem accountSerial_accs (s : State) (f : Template → Template) : (State.accountSerial s f).accs = s.accs :=
  (changes_accountSerial s f .accs (by decide))
@[simp] theorem accountSerial_acc (s : State) (f : Template → Template) (x : WaveNo) : (State.accountSerial s f).acc x = s.acc x := by
  simp only [State.acc, accountSerial_accs]
@[simp] theorem accountSerial_waves (s : State) (f : Template → Template) : (State.accountSerial s f).waves = s.waves :=
  (changes_accountSerial s f .waves (by decide))
@[simp] theorem accountSerial_wave (s : State) (f : Template → Template) (x : WaveNo) : (State.accountSerial s f).wave x = s.wave x := by
  simp only [State.wave, accountSerial_waves]
@[simp] theorem accountSerial_drives (s : State) (f : Template → Template) : (State.accountSerial s f).drives = s.drives :=
  (changes_accountSerial s f .drives (by decide))
@[simp] theorem accountSerial_drive (s : State) (f : Template → Template) (x : Drive) : (State.accountSerial s f).drive x = s.drive x := by
  simp only [State.drive, accountSerial_drives]
@[simp] theorem accountSerial_ladder (s : State) (f : Template → Template) : (State.accountSerial s f).ladder = s.ladder :=
  (changes_accountSerial s f .ladder (by decide))
@[simp] theorem accountSerial_code (s : State) (f : Template → Template) (x : Rung) : (State.accountSerial s f).code x = s.code x := by
  simp only [State.code, accountSerial_ladder]
@[simp] theorem accountSerial_saves (s : State) (f : Template → Template) : (State.accountSerial s f).saves = s.saves :=
  (changes_accountSerial s f .saves (by decide))
@[simp] theorem accountSerial_save (s : State) (f : Template → Template) (x : Drive) : (State.accountSerial s f).save x = s.save x := by
  simp only [State.save, accountSerial_saves]
@[simp] theorem accountSerial_verifyQueue (s : State) (f : Template → Template) : (State.accountSerial s f).verifyQueue = s.verifyQueue :=
  (changes_accountSerial s f .verifyQueue (by decide))
@[simp] theorem accountSerial_contexts (s : State) (f : Template → Template) : (State.accountSerial s f).contexts = s.contexts :=
  (changes_accountSerial s f .contexts (by decide))
@[simp] theorem accountSerial_context (s : State) (f : Template → Template) (x : Fin 4) : (State.accountSerial s f).context x = s.context x := by
  simp only [State.context, accountSerial_contexts]
@[simp] theorem accountSerial_orders (s : State) (f : Template → Template) : (State.accountSerial s f).orders = s.orders :=
  (changes_accountSerial s f .orders (by decide))
@[simp] theorem accountSerial_order (s : State) (f : Template → Template) (x : OrderNo) : (State.accountSerial s f).order x = s.order x := by
  simp only [State.order, accountSerial_orders]
@[simp] theorem accountSerial_records (s : State) (f : Template → Template) : (State.accountSerial s f).records = s.records :=
  (changes_accountSerial s f .records (by decide))
@[simp] theorem accountSerial_record (s : State) (f : Template → Template) (x : RecNo) : (State.accountSerial s f).record x = s.record x := by
  simp only [State.record, accountSerial_records]
@[simp] theorem accountSerial_stations (s : State) (f : Template → Template) : (State.accountSerial s f).stations = s.stations :=
  (changes_accountSerial s f .stations (by decide))
@[simp] theorem accountSerial_station (s : State) (f : Template → Template) (x : StationNo) : (State.accountSerial s f).station x = s.station x := by
  simp only [State.station, accountSerial_stations]
@[simp] theorem accountSerial_queue (s : State) (f : Template → Template) : (State.accountSerial s f).queue = s.queue :=
  (changes_accountSerial s f .queue (by decide))
@[simp] theorem accountSerial_transport (s : State) (f : Template → Template) : (State.accountSerial s f).transport = s.transport :=
  (changes_accountSerial s f .transport (by decide))
@[simp] theorem accountSerial_artworks (s : State) (f : Template → Template) : (State.accountSerial s f).artworks = s.artworks :=
  (changes_accountSerial s f .artworks (by decide))
@[simp] theorem accountSerial_artwork (s : State) (f : Template → Template) (x : ArtNo) : (State.accountSerial s f).artwork x = s.artwork x := by
  simp only [State.artwork, accountSerial_artworks]
@[simp] theorem accountSerial_printer (s : State) (f : Template → Template) : (State.accountSerial s f).printer = s.printer :=
  (changes_accountSerial s f .printer (by decide))
@[simp] theorem accountSerial_feed (s : State) (f : Template → Template) : (State.accountSerial s f).feed = s.feed :=
  (changes_accountSerial s f .feed (by decide))
@[simp] theorem accountSerial_outbound (s : State) (f : Template → Template) : (State.accountSerial s f).outbound = s.outbound :=
  (changes_accountSerial s f .outbound (by decide))
@[simp] theorem accountSerial_events (s : State) (f : Template → Template) : (State.accountSerial s f).events = s.events :=
  (changes_accountSerial s f .events (by decide))
@[simp] theorem accountSerial_event (s : State) (f : Template → Template) (x : EventClass) : (State.accountSerial s f).event x = s.event x := by
  simp only [State.event, accountSerial_events]
@[simp] theorem accountSerial_settings (s : State) (f : Template → Template) : (State.accountSerial s f).settings = s.settings :=
  (changes_accountSerial s f .settings (by decide))
@[simp] theorem accountSerial_pending (s : State) (f : Template → Template) : (State.accountSerial s f).pending = s.pending :=
  (changes_accountSerial s f .pending (by decide))

@[simp] theorem clearSnapshot_images (s : State) : (State.clearSnapshot s).images = s.images :=
  (changes_clearSnapshot s .images (by decide))
@[simp] theorem clearSnapshot_image (s : State) (x : SlotNo) : (State.clearSnapshot s).image x = s.image x := by
  simp only [State.image, clearSnapshot_images]
@[simp] theorem clearSnapshot_accs (s : State) : (State.clearSnapshot s).accs = s.accs :=
  (changes_clearSnapshot s .accs (by decide))
@[simp] theorem clearSnapshot_acc (s : State) (x : WaveNo) : (State.clearSnapshot s).acc x = s.acc x := by
  simp only [State.acc, clearSnapshot_accs]
@[simp] theorem clearSnapshot_waves (s : State) : (State.clearSnapshot s).waves = s.waves :=
  (changes_clearSnapshot s .waves (by decide))
@[simp] theorem clearSnapshot_wave (s : State) (x : WaveNo) : (State.clearSnapshot s).wave x = s.wave x := by
  simp only [State.wave, clearSnapshot_waves]
@[simp] theorem clearSnapshot_drives (s : State) : (State.clearSnapshot s).drives = s.drives :=
  (changes_clearSnapshot s .drives (by decide))
@[simp] theorem clearSnapshot_drive (s : State) (x : Drive) : (State.clearSnapshot s).drive x = s.drive x := by
  simp only [State.drive, clearSnapshot_drives]
@[simp] theorem clearSnapshot_ladder (s : State) : (State.clearSnapshot s).ladder = s.ladder :=
  (changes_clearSnapshot s .ladder (by decide))
@[simp] theorem clearSnapshot_code (s : State) (x : Rung) : (State.clearSnapshot s).code x = s.code x := by
  simp only [State.code, clearSnapshot_ladder]
@[simp] theorem clearSnapshot_saves (s : State) : (State.clearSnapshot s).saves = s.saves :=
  (changes_clearSnapshot s .saves (by decide))
@[simp] theorem clearSnapshot_save (s : State) (x : Drive) : (State.clearSnapshot s).save x = s.save x := by
  simp only [State.save, clearSnapshot_saves]
@[simp] theorem clearSnapshot_verifyQueue (s : State) : (State.clearSnapshot s).verifyQueue = s.verifyQueue :=
  (changes_clearSnapshot s .verifyQueue (by decide))
@[simp] theorem clearSnapshot_contexts (s : State) : (State.clearSnapshot s).contexts = s.contexts :=
  (changes_clearSnapshot s .contexts (by decide))
@[simp] theorem clearSnapshot_context (s : State) (x : Fin 4) : (State.clearSnapshot s).context x = s.context x := by
  simp only [State.context, clearSnapshot_contexts]
@[simp] theorem clearSnapshot_orders (s : State) : (State.clearSnapshot s).orders = s.orders :=
  (changes_clearSnapshot s .orders (by decide))
@[simp] theorem clearSnapshot_order (s : State) (x : OrderNo) : (State.clearSnapshot s).order x = s.order x := by
  simp only [State.order, clearSnapshot_orders]
@[simp] theorem clearSnapshot_records (s : State) : (State.clearSnapshot s).records = s.records :=
  (changes_clearSnapshot s .records (by decide))
@[simp] theorem clearSnapshot_record (s : State) (x : RecNo) : (State.clearSnapshot s).record x = s.record x := by
  simp only [State.record, clearSnapshot_records]
@[simp] theorem clearSnapshot_stations (s : State) : (State.clearSnapshot s).stations = s.stations :=
  (changes_clearSnapshot s .stations (by decide))
@[simp] theorem clearSnapshot_station (s : State) (x : StationNo) : (State.clearSnapshot s).station x = s.station x := by
  simp only [State.station, clearSnapshot_stations]
@[simp] theorem clearSnapshot_queue (s : State) : (State.clearSnapshot s).queue = s.queue :=
  (changes_clearSnapshot s .queue (by decide))
@[simp] theorem clearSnapshot_transport (s : State) : (State.clearSnapshot s).transport = s.transport :=
  (changes_clearSnapshot s .transport (by decide))
@[simp] theorem clearSnapshot_templates (s : State) : (State.clearSnapshot s).templates = s.templates :=
  (changes_clearSnapshot s .templates (by decide))
@[simp] theorem clearSnapshot_template (s : State) (x : TmplNo) : (State.clearSnapshot s).template x = s.template x := by
  simp only [State.template, clearSnapshot_templates]
@[simp] theorem clearSnapshot_feed (s : State) : (State.clearSnapshot s).feed = s.feed :=
  (changes_clearSnapshot s .feed (by decide))
@[simp] theorem clearSnapshot_outbound (s : State) : (State.clearSnapshot s).outbound = s.outbound :=
  (changes_clearSnapshot s .outbound (by decide))
@[simp] theorem clearSnapshot_events (s : State) : (State.clearSnapshot s).events = s.events :=
  (changes_clearSnapshot s .events (by decide))
@[simp] theorem clearSnapshot_event (s : State) (x : EventClass) : (State.clearSnapshot s).event x = s.event x := by
  simp only [State.event, clearSnapshot_events]
@[simp] theorem clearSnapshot_settings (s : State) : (State.clearSnapshot s).settings = s.settings :=
  (changes_clearSnapshot s .settings (by decide))
@[simp] theorem clearSnapshot_pending (s : State) : (State.clearSnapshot s).pending = s.pending :=
  (changes_clearSnapshot s .pending (by decide))

@[simp] theorem settingsEnd_images (s : State) (r : SettingsResult) : (State.settingsEnd s r).images = s.images :=
  (changes_settingsEnd s r .images (by decide))
@[simp] theorem settingsEnd_image (s : State) (r : SettingsResult) (x : SlotNo) : (State.settingsEnd s r).image x = s.image x := by
  simp only [State.image, settingsEnd_images]
@[simp] theorem settingsEnd_accs (s : State) (r : SettingsResult) : (State.settingsEnd s r).accs = s.accs :=
  (changes_settingsEnd s r .accs (by decide))
@[simp] theorem settingsEnd_acc (s : State) (r : SettingsResult) (x : WaveNo) : (State.settingsEnd s r).acc x = s.acc x := by
  simp only [State.acc, settingsEnd_accs]
@[simp] theorem settingsEnd_waves (s : State) (r : SettingsResult) : (State.settingsEnd s r).waves = s.waves :=
  (changes_settingsEnd s r .waves (by decide))
@[simp] theorem settingsEnd_wave (s : State) (r : SettingsResult) (x : WaveNo) : (State.settingsEnd s r).wave x = s.wave x := by
  simp only [State.wave, settingsEnd_waves]
@[simp] theorem settingsEnd_drives (s : State) (r : SettingsResult) : (State.settingsEnd s r).drives = s.drives :=
  (changes_settingsEnd s r .drives (by decide))
@[simp] theorem settingsEnd_drive (s : State) (r : SettingsResult) (x : Drive) : (State.settingsEnd s r).drive x = s.drive x := by
  simp only [State.drive, settingsEnd_drives]
@[simp] theorem settingsEnd_ladder (s : State) (r : SettingsResult) : (State.settingsEnd s r).ladder = s.ladder :=
  (changes_settingsEnd s r .ladder (by decide))
@[simp] theorem settingsEnd_code (s : State) (r : SettingsResult) (x : Rung) : (State.settingsEnd s r).code x = s.code x := by
  simp only [State.code, settingsEnd_ladder]
@[simp] theorem settingsEnd_saves (s : State) (r : SettingsResult) : (State.settingsEnd s r).saves = s.saves :=
  (changes_settingsEnd s r .saves (by decide))
@[simp] theorem settingsEnd_save (s : State) (r : SettingsResult) (x : Drive) : (State.settingsEnd s r).save x = s.save x := by
  simp only [State.save, settingsEnd_saves]
@[simp] theorem settingsEnd_verifyQueue (s : State) (r : SettingsResult) : (State.settingsEnd s r).verifyQueue = s.verifyQueue :=
  (changes_settingsEnd s r .verifyQueue (by decide))
@[simp] theorem settingsEnd_contexts (s : State) (r : SettingsResult) : (State.settingsEnd s r).contexts = s.contexts :=
  (changes_settingsEnd s r .contexts (by decide))
@[simp] theorem settingsEnd_context (s : State) (r : SettingsResult) (x : Fin 4) : (State.settingsEnd s r).context x = s.context x := by
  simp only [State.context, settingsEnd_contexts]
@[simp] theorem settingsEnd_orders (s : State) (r : SettingsResult) : (State.settingsEnd s r).orders = s.orders :=
  (changes_settingsEnd s r .orders (by decide))
@[simp] theorem settingsEnd_order (s : State) (r : SettingsResult) (x : OrderNo) : (State.settingsEnd s r).order x = s.order x := by
  simp only [State.order, settingsEnd_orders]
@[simp] theorem settingsEnd_records (s : State) (r : SettingsResult) : (State.settingsEnd s r).records = s.records :=
  (changes_settingsEnd s r .records (by decide))
@[simp] theorem settingsEnd_record (s : State) (r : SettingsResult) (x : RecNo) : (State.settingsEnd s r).record x = s.record x := by
  simp only [State.record, settingsEnd_records]
@[simp] theorem settingsEnd_stations (s : State) (r : SettingsResult) : (State.settingsEnd s r).stations = s.stations :=
  (changes_settingsEnd s r .stations (by decide))
@[simp] theorem settingsEnd_station (s : State) (r : SettingsResult) (x : StationNo) : (State.settingsEnd s r).station x = s.station x := by
  simp only [State.station, settingsEnd_stations]
@[simp] theorem settingsEnd_queue (s : State) (r : SettingsResult) : (State.settingsEnd s r).queue = s.queue :=
  (changes_settingsEnd s r .queue (by decide))
@[simp] theorem settingsEnd_transport (s : State) (r : SettingsResult) : (State.settingsEnd s r).transport = s.transport :=
  (changes_settingsEnd s r .transport (by decide))
@[simp] theorem settingsEnd_artworks (s : State) (r : SettingsResult) : (State.settingsEnd s r).artworks = s.artworks :=
  (changes_settingsEnd s r .artworks (by decide))
@[simp] theorem settingsEnd_artwork (s : State) (r : SettingsResult) (x : ArtNo) : (State.settingsEnd s r).artwork x = s.artwork x := by
  simp only [State.artwork, settingsEnd_artworks]
@[simp] theorem settingsEnd_templates (s : State) (r : SettingsResult) : (State.settingsEnd s r).templates = s.templates :=
  (changes_settingsEnd s r .templates (by decide))
@[simp] theorem settingsEnd_template (s : State) (r : SettingsResult) (x : TmplNo) : (State.settingsEnd s r).template x = s.template x := by
  simp only [State.template, settingsEnd_templates]
@[simp] theorem settingsEnd_printer (s : State) (r : SettingsResult) : (State.settingsEnd s r).printer = s.printer :=
  (changes_settingsEnd s r .printer (by decide))
@[simp] theorem settingsEnd_feed (s : State) (r : SettingsResult) : (State.settingsEnd s r).feed = s.feed :=
  (changes_settingsEnd s r .feed (by decide))
@[simp] theorem settingsEnd_pending (s : State) (r : SettingsResult) : (State.settingsEnd s r).pending = s.pending :=
  (changes_settingsEnd s r .pending (by decide))

@[simp] theorem waveEndAtImage_waves (s : State) (w : WaveNo) (slot : Option SlotNo) (c : Option ImageCause) : (State.waveEndAtImage s w slot c).waves = s.waves :=
  (changes_waveEndAtImage s w slot c .waves (by decide))
@[simp] theorem waveEndAtImage_wave (s : State) (w : WaveNo) (slot : Option SlotNo) (c : Option ImageCause) (x : WaveNo) : (State.waveEndAtImage s w slot c).wave x = s.wave x := by
  simp only [State.wave, waveEndAtImage_waves]
@[simp] theorem waveEndAtImage_drives (s : State) (w : WaveNo) (slot : Option SlotNo) (c : Option ImageCause) : (State.waveEndAtImage s w slot c).drives = s.drives :=
  (changes_waveEndAtImage s w slot c .drives (by decide))
@[simp] theorem waveEndAtImage_drive (s : State) (w : WaveNo) (slot : Option SlotNo) (c : Option ImageCause) (x : Drive) : (State.waveEndAtImage s w slot c).drive x = s.drive x := by
  simp only [State.drive, waveEndAtImage_drives]
@[simp] theorem waveEndAtImage_ladder (s : State) (w : WaveNo) (slot : Option SlotNo) (c : Option ImageCause) : (State.waveEndAtImage s w slot c).ladder = s.ladder :=
  (changes_waveEndAtImage s w slot c .ladder (by decide))
@[simp] theorem waveEndAtImage_code (s : State) (w : WaveNo) (slot : Option SlotNo) (c : Option ImageCause) (x : Rung) : (State.waveEndAtImage s w slot c).code x = s.code x := by
  simp only [State.code, waveEndAtImage_ladder]
@[simp] theorem waveEndAtImage_saves (s : State) (w : WaveNo) (slot : Option SlotNo) (c : Option ImageCause) : (State.waveEndAtImage s w slot c).saves = s.saves :=
  (changes_waveEndAtImage s w slot c .saves (by decide))
@[simp] theorem waveEndAtImage_save (s : State) (w : WaveNo) (slot : Option SlotNo) (c : Option ImageCause) (x : Drive) : (State.waveEndAtImage s w slot c).save x = s.save x := by
  simp only [State.save, waveEndAtImage_saves]
@[simp] theorem waveEndAtImage_verifyQueue (s : State) (w : WaveNo) (slot : Option SlotNo) (c : Option ImageCause) : (State.waveEndAtImage s w slot c).verifyQueue = s.verifyQueue :=
  (changes_waveEndAtImage s w slot c .verifyQueue (by decide))
@[simp] theorem waveEndAtImage_contexts (s : State) (w : WaveNo) (slot : Option SlotNo) (c : Option ImageCause) : (State.waveEndAtImage s w slot c).contexts = s.contexts :=
  (changes_waveEndAtImage s w slot c .contexts (by decide))
@[simp] theorem waveEndAtImage_context (s : State) (w : WaveNo) (slot : Option SlotNo) (c : Option ImageCause) (x : Fin 4) : (State.waveEndAtImage s w slot c).context x = s.context x := by
  simp only [State.context, waveEndAtImage_contexts]
@[simp] theorem waveEndAtImage_orders (s : State) (w : WaveNo) (slot : Option SlotNo) (c : Option ImageCause) : (State.waveEndAtImage s w slot c).orders = s.orders :=
  (changes_waveEndAtImage s w slot c .orders (by decide))
@[simp] theorem waveEndAtImage_order (s : State) (w : WaveNo) (slot : Option SlotNo) (c : Option ImageCause) (x : OrderNo) : (State.waveEndAtImage s w slot c).order x = s.order x := by
  simp only [State.order, waveEndAtImage_orders]
@[simp] theorem waveEndAtImage_records (s : State) (w : WaveNo) (slot : Option SlotNo) (c : Option ImageCause) : (State.waveEndAtImage s w slot c).records = s.records :=
  (changes_waveEndAtImage s w slot c .records (by decide))
@[simp] theorem waveEndAtImage_record (s : State) (w : WaveNo) (slot : Option SlotNo) (c : Option ImageCause) (x : RecNo) : (State.waveEndAtImage s w slot c).record x = s.record x := by
  simp only [State.record, waveEndAtImage_records]
@[simp] theorem waveEndAtImage_stations (s : State) (w : WaveNo) (slot : Option SlotNo) (c : Option ImageCause) : (State.waveEndAtImage s w slot c).stations = s.stations :=
  (changes_waveEndAtImage s w slot c .stations (by decide))
@[simp] theorem waveEndAtImage_station (s : State) (w : WaveNo) (slot : Option SlotNo) (c : Option ImageCause) (x : StationNo) : (State.waveEndAtImage s w slot c).station x = s.station x := by
  simp only [State.station, waveEndAtImage_stations]
@[simp] theorem waveEndAtImage_queue (s : State) (w : WaveNo) (slot : Option SlotNo) (c : Option ImageCause) : (State.waveEndAtImage s w slot c).queue = s.queue :=
  (changes_waveEndAtImage s w slot c .queue (by decide))
@[simp] theorem waveEndAtImage_transport (s : State) (w : WaveNo) (slot : Option SlotNo) (c : Option ImageCause) : (State.waveEndAtImage s w slot c).transport = s.transport :=
  (changes_waveEndAtImage s w slot c .transport (by decide))
@[simp] theorem waveEndAtImage_artworks (s : State) (w : WaveNo) (slot : Option SlotNo) (c : Option ImageCause) : (State.waveEndAtImage s w slot c).artworks = s.artworks :=
  (changes_waveEndAtImage s w slot c .artworks (by decide))
@[simp] theorem waveEndAtImage_artwork (s : State) (w : WaveNo) (slot : Option SlotNo) (c : Option ImageCause) (x : ArtNo) : (State.waveEndAtImage s w slot c).artwork x = s.artwork x := by
  simp only [State.artwork, waveEndAtImage_artworks]
@[simp] theorem waveEndAtImage_templates (s : State) (w : WaveNo) (slot : Option SlotNo) (c : Option ImageCause) : (State.waveEndAtImage s w slot c).templates = s.templates :=
  (changes_waveEndAtImage s w slot c .templates (by decide))
@[simp] theorem waveEndAtImage_template (s : State) (w : WaveNo) (slot : Option SlotNo) (c : Option ImageCause) (x : TmplNo) : (State.waveEndAtImage s w slot c).template x = s.template x := by
  simp only [State.template, waveEndAtImage_templates]
@[simp] theorem waveEndAtImage_printer (s : State) (w : WaveNo) (slot : Option SlotNo) (c : Option ImageCause) : (State.waveEndAtImage s w slot c).printer = s.printer :=
  (changes_waveEndAtImage s w slot c .printer (by decide))
@[simp] theorem waveEndAtImage_feed (s : State) (w : WaveNo) (slot : Option SlotNo) (c : Option ImageCause) : (State.waveEndAtImage s w slot c).feed = s.feed :=
  (changes_waveEndAtImage s w slot c .feed (by decide))
@[simp] theorem waveEndAtImage_settings (s : State) (w : WaveNo) (slot : Option SlotNo) (c : Option ImageCause) : (State.waveEndAtImage s w slot c).settings = s.settings :=
  (changes_waveEndAtImage s w slot c .settings (by decide))
@[simp] theorem waveEndAtImage_pending (s : State) (w : WaveNo) (slot : Option SlotNo) (c : Option ImageCause) : (State.waveEndAtImage s w slot c).pending = s.pending :=
  (changes_waveEndAtImage s w slot c .pending (by decide))

@[simp] theorem faultWork_ladder (s : State) (d : Drive) (before : DriveState) : (State.faultWork s d before).ladder = s.ladder :=
  (changes_faultWork s d before .ladder (by decide))
@[simp] theorem faultWork_code (s : State) (d : Drive) (before : DriveState) (x : Rung) : (State.faultWork s d before).code x = s.code x := by
  simp only [State.code, faultWork_ladder]
@[simp] theorem faultWork_orders (s : State) (d : Drive) (before : DriveState) : (State.faultWork s d before).orders = s.orders :=
  (changes_faultWork s d before .orders (by decide))
@[simp] theorem faultWork_order (s : State) (d : Drive) (before : DriveState) (x : OrderNo) : (State.faultWork s d before).order x = s.order x := by
  simp only [State.order, faultWork_orders]
@[simp] theorem faultWork_stations (s : State) (d : Drive) (before : DriveState) : (State.faultWork s d before).stations = s.stations :=
  (changes_faultWork s d before .stations (by decide))
@[simp] theorem faultWork_station (s : State) (d : Drive) (before : DriveState) (x : StationNo) : (State.faultWork s d before).station x = s.station x := by
  simp only [State.station, faultWork_stations]
@[simp] theorem faultWork_transport (s : State) (d : Drive) (before : DriveState) : (State.faultWork s d before).transport = s.transport :=
  (changes_faultWork s d before .transport (by decide))
@[simp] theorem faultWork_artworks (s : State) (d : Drive) (before : DriveState) : (State.faultWork s d before).artworks = s.artworks :=
  (changes_faultWork s d before .artworks (by decide))
@[simp] theorem faultWork_artwork (s : State) (d : Drive) (before : DriveState) (x : ArtNo) : (State.faultWork s d before).artwork x = s.artwork x := by
  simp only [State.artwork, faultWork_artworks]
@[simp] theorem faultWork_templates (s : State) (d : Drive) (before : DriveState) : (State.faultWork s d before).templates = s.templates :=
  (changes_faultWork s d before .templates (by decide))
@[simp] theorem faultWork_template (s : State) (d : Drive) (before : DriveState) (x : TmplNo) : (State.faultWork s d before).template x = s.template x := by
  simp only [State.template, faultWork_templates]
@[simp] theorem faultWork_feed (s : State) (d : Drive) (before : DriveState) : (State.faultWork s d before).feed = s.feed :=
  (changes_faultWork s d before .feed (by decide))
@[simp] theorem faultWork_settings (s : State) (d : Drive) (before : DriveState) : (State.faultWork s d before).settings = s.settings :=
  (changes_faultWork s d before .settings (by decide))
@[simp] theorem faultWork_pending (s : State) (d : Drive) (before : DriveState) : (State.faultWork s d before).pending = s.pending :=
  (changes_faultWork s d before .pending (by decide))

@[simp] theorem dropEntry_images (s : State) (d : Drive) : (State.dropEntry s d).images = s.images :=
  (changes_dropEntry s d .images (by decide))
@[simp] theorem dropEntry_image (s : State) (d : Drive) (x : SlotNo) : (State.dropEntry s d).image x = s.image x := by
  simp only [State.image, dropEntry_images]
@[simp] theorem dropEntry_accs (s : State) (d : Drive) : (State.dropEntry s d).accs = s.accs :=
  (changes_dropEntry s d .accs (by decide))
@[simp] theorem dropEntry_acc (s : State) (d : Drive) (x : WaveNo) : (State.dropEntry s d).acc x = s.acc x := by
  simp only [State.acc, dropEntry_accs]
@[simp] theorem dropEntry_waves (s : State) (d : Drive) : (State.dropEntry s d).waves = s.waves :=
  (changes_dropEntry s d .waves (by decide))
@[simp] theorem dropEntry_wave (s : State) (d : Drive) (x : WaveNo) : (State.dropEntry s d).wave x = s.wave x := by
  simp only [State.wave, dropEntry_waves]
@[simp] theorem dropEntry_drives (s : State) (d : Drive) : (State.dropEntry s d).drives = s.drives :=
  (changes_dropEntry s d .drives (by decide))
@[simp] theorem dropEntry_drive (s : State) (d : Drive) (x : Drive) : (State.dropEntry s d).drive x = s.drive x := by
  simp only [State.drive, dropEntry_drives]
@[simp] theorem dropEntry_ladder (s : State) (d : Drive) : (State.dropEntry s d).ladder = s.ladder :=
  (changes_dropEntry s d .ladder (by decide))
@[simp] theorem dropEntry_code (s : State) (d : Drive) (x : Rung) : (State.dropEntry s d).code x = s.code x := by
  simp only [State.code, dropEntry_ladder]
@[simp] theorem dropEntry_saves (s : State) (d : Drive) : (State.dropEntry s d).saves = s.saves :=
  (changes_dropEntry s d .saves (by decide))
@[simp] theorem dropEntry_save (s : State) (d : Drive) (x : Drive) : (State.dropEntry s d).save x = s.save x := by
  simp only [State.save, dropEntry_saves]
@[simp] theorem dropEntry_verifyQueue (s : State) (d : Drive) : (State.dropEntry s d).verifyQueue = s.verifyQueue :=
  (changes_dropEntry s d .verifyQueue (by decide))
@[simp] theorem dropEntry_contexts (s : State) (d : Drive) : (State.dropEntry s d).contexts = s.contexts :=
  (changes_dropEntry s d .contexts (by decide))
@[simp] theorem dropEntry_context (s : State) (d : Drive) (x : Fin 4) : (State.dropEntry s d).context x = s.context x := by
  simp only [State.context, dropEntry_contexts]
@[simp] theorem dropEntry_stations (s : State) (d : Drive) : (State.dropEntry s d).stations = s.stations :=
  (changes_dropEntry s d .stations (by decide))
@[simp] theorem dropEntry_station (s : State) (d : Drive) (x : StationNo) : (State.dropEntry s d).station x = s.station x := by
  simp only [State.station, dropEntry_stations]
@[simp] theorem dropEntry_artworks (s : State) (d : Drive) : (State.dropEntry s d).artworks = s.artworks :=
  (changes_dropEntry s d .artworks (by decide))
@[simp] theorem dropEntry_artwork (s : State) (d : Drive) (x : ArtNo) : (State.dropEntry s d).artwork x = s.artwork x := by
  simp only [State.artwork, dropEntry_artworks]
@[simp] theorem dropEntry_templates (s : State) (d : Drive) : (State.dropEntry s d).templates = s.templates :=
  (changes_dropEntry s d .templates (by decide))
@[simp] theorem dropEntry_template (s : State) (d : Drive) (x : TmplNo) : (State.dropEntry s d).template x = s.template x := by
  simp only [State.template, dropEntry_templates]
@[simp] theorem dropEntry_feed (s : State) (d : Drive) : (State.dropEntry s d).feed = s.feed :=
  (changes_dropEntry s d .feed (by decide))
@[simp] theorem dropEntry_outbound (s : State) (d : Drive) : (State.dropEntry s d).outbound = s.outbound :=
  (changes_dropEntry s d .outbound (by decide))
@[simp] theorem dropEntry_events (s : State) (d : Drive) : (State.dropEntry s d).events = s.events :=
  (changes_dropEntry s d .events (by decide))
@[simp] theorem dropEntry_event (s : State) (d : Drive) (x : EventClass) : (State.dropEntry s d).event x = s.event x := by
  simp only [State.event, dropEntry_events]
@[simp] theorem dropEntry_settings (s : State) (d : Drive) : (State.dropEntry s d).settings = s.settings :=
  (changes_dropEntry s d .settings (by decide))
@[simp] theorem dropEntry_pending (s : State) (d : Drive) : (State.dropEntry s d).pending = s.pending :=
  (changes_dropEntry s d .pending (by decide))

@[simp] theorem driveFaulted_ladder (s : State) (d : Drive) : (State.driveFaulted s d).ladder = s.ladder :=
  (changes_driveFaulted s d .ladder (by decide))
@[simp] theorem driveFaulted_code (s : State) (d : Drive) (x : Rung) : (State.driveFaulted s d).code x = s.code x := by
  simp only [State.code, driveFaulted_ladder]
@[simp] theorem driveFaulted_stations (s : State) (d : Drive) : (State.driveFaulted s d).stations = s.stations :=
  (changes_driveFaulted s d .stations (by decide))
@[simp] theorem driveFaulted_station (s : State) (d : Drive) (x : StationNo) : (State.driveFaulted s d).station x = s.station x := by
  simp only [State.station, driveFaulted_stations]
@[simp] theorem driveFaulted_artworks (s : State) (d : Drive) : (State.driveFaulted s d).artworks = s.artworks :=
  (changes_driveFaulted s d .artworks (by decide))
@[simp] theorem driveFaulted_artwork (s : State) (d : Drive) (x : ArtNo) : (State.driveFaulted s d).artwork x = s.artwork x := by
  simp only [State.artwork, driveFaulted_artworks]
@[simp] theorem driveFaulted_templates (s : State) (d : Drive) : (State.driveFaulted s d).templates = s.templates :=
  (changes_driveFaulted s d .templates (by decide))
@[simp] theorem driveFaulted_template (s : State) (d : Drive) (x : TmplNo) : (State.driveFaulted s d).template x = s.template x := by
  simp only [State.template, driveFaulted_templates]
@[simp] theorem driveFaulted_feed (s : State) (d : Drive) : (State.driveFaulted s d).feed = s.feed :=
  (changes_driveFaulted s d .feed (by decide))
@[simp] theorem driveFaulted_settings (s : State) (d : Drive) : (State.driveFaulted s d).settings = s.settings :=
  (changes_driveFaulted s d .settings (by decide))
@[simp] theorem driveFaulted_pending (s : State) (d : Drive) : (State.driveFaulted s d).pending = s.pending :=
  (changes_driveFaulted s d .pending (by decide))

@[simp] theorem faultedClose_images (s : State) (d : Drive) (req : DriveRequest) : (State.faultedClose s d req).images = s.images :=
  (changes_faultedClose s d req .images (by decide))
@[simp] theorem faultedClose_image (s : State) (d : Drive) (req : DriveRequest) (x : SlotNo) : (State.faultedClose s d req).image x = s.image x := by
  simp only [State.image, faultedClose_images]
@[simp] theorem faultedClose_accs (s : State) (d : Drive) (req : DriveRequest) : (State.faultedClose s d req).accs = s.accs :=
  (changes_faultedClose s d req .accs (by decide))
@[simp] theorem faultedClose_acc (s : State) (d : Drive) (req : DriveRequest) (x : WaveNo) : (State.faultedClose s d req).acc x = s.acc x := by
  simp only [State.acc, faultedClose_accs]
@[simp] theorem faultedClose_waves (s : State) (d : Drive) (req : DriveRequest) : (State.faultedClose s d req).waves = s.waves :=
  (changes_faultedClose s d req .waves (by decide))
@[simp] theorem faultedClose_wave (s : State) (d : Drive) (req : DriveRequest) (x : WaveNo) : (State.faultedClose s d req).wave x = s.wave x := by
  simp only [State.wave, faultedClose_waves]
@[simp] theorem faultedClose_drives (s : State) (d : Drive) (req : DriveRequest) : (State.faultedClose s d req).drives = s.drives :=
  (changes_faultedClose s d req .drives (by decide))
@[simp] theorem faultedClose_drive (s : State) (d : Drive) (req : DriveRequest) (x : Drive) : (State.faultedClose s d req).drive x = s.drive x := by
  simp only [State.drive, faultedClose_drives]
@[simp] theorem faultedClose_ladder (s : State) (d : Drive) (req : DriveRequest) : (State.faultedClose s d req).ladder = s.ladder :=
  (changes_faultedClose s d req .ladder (by decide))
@[simp] theorem faultedClose_code (s : State) (d : Drive) (req : DriveRequest) (x : Rung) : (State.faultedClose s d req).code x = s.code x := by
  simp only [State.code, faultedClose_ladder]
@[simp] theorem faultedClose_saves (s : State) (d : Drive) (req : DriveRequest) : (State.faultedClose s d req).saves = s.saves :=
  (changes_faultedClose s d req .saves (by decide))
@[simp] theorem faultedClose_save (s : State) (d : Drive) (req : DriveRequest) (x : Drive) : (State.faultedClose s d req).save x = s.save x := by
  simp only [State.save, faultedClose_saves]
@[simp] theorem faultedClose_verifyQueue (s : State) (d : Drive) (req : DriveRequest) : (State.faultedClose s d req).verifyQueue = s.verifyQueue :=
  (changes_faultedClose s d req .verifyQueue (by decide))
@[simp] theorem faultedClose_contexts (s : State) (d : Drive) (req : DriveRequest) : (State.faultedClose s d req).contexts = s.contexts :=
  (changes_faultedClose s d req .contexts (by decide))
@[simp] theorem faultedClose_context (s : State) (d : Drive) (req : DriveRequest) (x : Fin 4) : (State.faultedClose s d req).context x = s.context x := by
  simp only [State.context, faultedClose_contexts]
@[simp] theorem faultedClose_orders (s : State) (d : Drive) (req : DriveRequest) : (State.faultedClose s d req).orders = s.orders :=
  (changes_faultedClose s d req .orders (by decide))
@[simp] theorem faultedClose_order (s : State) (d : Drive) (req : DriveRequest) (x : OrderNo) : (State.faultedClose s d req).order x = s.order x := by
  simp only [State.order, faultedClose_orders]
@[simp] theorem faultedClose_stations (s : State) (d : Drive) (req : DriveRequest) : (State.faultedClose s d req).stations = s.stations :=
  (changes_faultedClose s d req .stations (by decide))
@[simp] theorem faultedClose_station (s : State) (d : Drive) (req : DriveRequest) (x : StationNo) : (State.faultedClose s d req).station x = s.station x := by
  simp only [State.station, faultedClose_stations]
@[simp] theorem faultedClose_queue (s : State) (d : Drive) (req : DriveRequest) : (State.faultedClose s d req).queue = s.queue :=
  (changes_faultedClose s d req .queue (by decide))
@[simp] theorem faultedClose_transport (s : State) (d : Drive) (req : DriveRequest) : (State.faultedClose s d req).transport = s.transport :=
  (changes_faultedClose s d req .transport (by decide))
@[simp] theorem faultedClose_artworks (s : State) (d : Drive) (req : DriveRequest) : (State.faultedClose s d req).artworks = s.artworks :=
  (changes_faultedClose s d req .artworks (by decide))
@[simp] theorem faultedClose_artwork (s : State) (d : Drive) (req : DriveRequest) (x : ArtNo) : (State.faultedClose s d req).artwork x = s.artwork x := by
  simp only [State.artwork, faultedClose_artworks]
@[simp] theorem faultedClose_templates (s : State) (d : Drive) (req : DriveRequest) : (State.faultedClose s d req).templates = s.templates :=
  (changes_faultedClose s d req .templates (by decide))
@[simp] theorem faultedClose_template (s : State) (d : Drive) (req : DriveRequest) (x : TmplNo) : (State.faultedClose s d req).template x = s.template x := by
  simp only [State.template, faultedClose_templates]
@[simp] theorem faultedClose_printer (s : State) (d : Drive) (req : DriveRequest) : (State.faultedClose s d req).printer = s.printer :=
  (changes_faultedClose s d req .printer (by decide))
@[simp] theorem faultedClose_feed (s : State) (d : Drive) (req : DriveRequest) : (State.faultedClose s d req).feed = s.feed :=
  (changes_faultedClose s d req .feed (by decide))
@[simp] theorem faultedClose_outbound (s : State) (d : Drive) (req : DriveRequest) : (State.faultedClose s d req).outbound = s.outbound :=
  (changes_faultedClose s d req .outbound (by decide))
@[simp] theorem faultedClose_events (s : State) (d : Drive) (req : DriveRequest) : (State.faultedClose s d req).events = s.events :=
  (changes_faultedClose s d req .events (by decide))
@[simp] theorem faultedClose_event (s : State) (d : Drive) (req : DriveRequest) (x : EventClass) : (State.faultedClose s d req).event x = s.event x := by
  simp only [State.event, faultedClose_events]
@[simp] theorem faultedClose_settings (s : State) (d : Drive) (req : DriveRequest) : (State.faultedClose s d req).settings = s.settings :=
  (changes_faultedClose s d req .settings (by decide))
@[simp] theorem faultedClose_pending (s : State) (d : Drive) (req : DriveRequest) : (State.faultedClose s d req).pending = s.pending :=
  (changes_faultedClose s d req .pending (by decide))

@[simp] theorem orderTo_images (s : State) (o : OrderNo) (st : OrderState) : (State.orderTo s o st).images = s.images :=
  (changes_orderTo s o st .images (by decide))
@[simp] theorem orderTo_image (s : State) (o : OrderNo) (st : OrderState) (x : SlotNo) : (State.orderTo s o st).image x = s.image x := by
  simp only [State.image, orderTo_images]
@[simp] theorem orderTo_accs (s : State) (o : OrderNo) (st : OrderState) : (State.orderTo s o st).accs = s.accs :=
  (changes_orderTo s o st .accs (by decide))
@[simp] theorem orderTo_acc (s : State) (o : OrderNo) (st : OrderState) (x : WaveNo) : (State.orderTo s o st).acc x = s.acc x := by
  simp only [State.acc, orderTo_accs]
@[simp] theorem orderTo_waves (s : State) (o : OrderNo) (st : OrderState) : (State.orderTo s o st).waves = s.waves :=
  (changes_orderTo s o st .waves (by decide))
@[simp] theorem orderTo_wave (s : State) (o : OrderNo) (st : OrderState) (x : WaveNo) : (State.orderTo s o st).wave x = s.wave x := by
  simp only [State.wave, orderTo_waves]
@[simp] theorem orderTo_drives (s : State) (o : OrderNo) (st : OrderState) : (State.orderTo s o st).drives = s.drives :=
  (changes_orderTo s o st .drives (by decide))
@[simp] theorem orderTo_drive (s : State) (o : OrderNo) (st : OrderState) (x : Drive) : (State.orderTo s o st).drive x = s.drive x := by
  simp only [State.drive, orderTo_drives]
@[simp] theorem orderTo_ladder (s : State) (o : OrderNo) (st : OrderState) : (State.orderTo s o st).ladder = s.ladder :=
  (changes_orderTo s o st .ladder (by decide))
@[simp] theorem orderTo_code (s : State) (o : OrderNo) (st : OrderState) (x : Rung) : (State.orderTo s o st).code x = s.code x := by
  simp only [State.code, orderTo_ladder]
@[simp] theorem orderTo_saves (s : State) (o : OrderNo) (st : OrderState) : (State.orderTo s o st).saves = s.saves :=
  (changes_orderTo s o st .saves (by decide))
@[simp] theorem orderTo_save (s : State) (o : OrderNo) (st : OrderState) (x : Drive) : (State.orderTo s o st).save x = s.save x := by
  simp only [State.save, orderTo_saves]
@[simp] theorem orderTo_verifyQueue (s : State) (o : OrderNo) (st : OrderState) : (State.orderTo s o st).verifyQueue = s.verifyQueue :=
  (changes_orderTo s o st .verifyQueue (by decide))
@[simp] theorem orderTo_contexts (s : State) (o : OrderNo) (st : OrderState) : (State.orderTo s o st).contexts = s.contexts :=
  (changes_orderTo s o st .contexts (by decide))
@[simp] theorem orderTo_context (s : State) (o : OrderNo) (st : OrderState) (x : Fin 4) : (State.orderTo s o st).context x = s.context x := by
  simp only [State.context, orderTo_contexts]
@[simp] theorem orderTo_records (s : State) (o : OrderNo) (st : OrderState) : (State.orderTo s o st).records = s.records :=
  (changes_orderTo s o st .records (by decide))
@[simp] theorem orderTo_record (s : State) (o : OrderNo) (st : OrderState) (x : RecNo) : (State.orderTo s o st).record x = s.record x := by
  simp only [State.record, orderTo_records]
@[simp] theorem orderTo_stations (s : State) (o : OrderNo) (st : OrderState) : (State.orderTo s o st).stations = s.stations :=
  (changes_orderTo s o st .stations (by decide))
@[simp] theorem orderTo_station (s : State) (o : OrderNo) (st : OrderState) (x : StationNo) : (State.orderTo s o st).station x = s.station x := by
  simp only [State.station, orderTo_stations]
@[simp] theorem orderTo_queue (s : State) (o : OrderNo) (st : OrderState) : (State.orderTo s o st).queue = s.queue :=
  (changes_orderTo s o st .queue (by decide))
@[simp] theorem orderTo_transport (s : State) (o : OrderNo) (st : OrderState) : (State.orderTo s o st).transport = s.transport :=
  (changes_orderTo s o st .transport (by decide))
@[simp] theorem orderTo_artworks (s : State) (o : OrderNo) (st : OrderState) : (State.orderTo s o st).artworks = s.artworks :=
  (changes_orderTo s o st .artworks (by decide))
@[simp] theorem orderTo_artwork (s : State) (o : OrderNo) (st : OrderState) (x : ArtNo) : (State.orderTo s o st).artwork x = s.artwork x := by
  simp only [State.artwork, orderTo_artworks]
@[simp] theorem orderTo_templates (s : State) (o : OrderNo) (st : OrderState) : (State.orderTo s o st).templates = s.templates :=
  (changes_orderTo s o st .templates (by decide))
@[simp] theorem orderTo_template (s : State) (o : OrderNo) (st : OrderState) (x : TmplNo) : (State.orderTo s o st).template x = s.template x := by
  simp only [State.template, orderTo_templates]
@[simp] theorem orderTo_printer (s : State) (o : OrderNo) (st : OrderState) : (State.orderTo s o st).printer = s.printer :=
  (changes_orderTo s o st .printer (by decide))
@[simp] theorem orderTo_feed (s : State) (o : OrderNo) (st : OrderState) : (State.orderTo s o st).feed = s.feed :=
  (changes_orderTo s o st .feed (by decide))
@[simp] theorem orderTo_settings (s : State) (o : OrderNo) (st : OrderState) : (State.orderTo s o st).settings = s.settings :=
  (changes_orderTo s o st .settings (by decide))
@[simp] theorem orderTo_pending (s : State) (o : OrderNo) (st : OrderState) : (State.orderTo s o st).pending = s.pending :=
  (changes_orderTo s o st .pending (by decide))

end Sys2Proof.Machine.Untouched
end

