-- ==== Sys2Proof/Tests/Slice0.lean ====
section
/-! SUPPORT. The tests of slice 0: a smoke test of each check of well-formedness, one step of each command on a small
state, and, for every obligation with hypotheses, concrete states and operands that meet them, clause by clause. -/

namespace Sys2Proof.Tests

open Sys2Proof Sys2Proof.Machine

-- One theorem at a time: a kernel evaluation that waits for others would hold a thread of its own.
set_option Elab.async false

/-! ### Helpers -/

/-- Bytes from numbers. -/
def bytes (l : List Nat) : List Byte := l.map (BitVec.ofNat 8)
/-- A sector of one byte value. -/
def sec (b : Nat) : List Byte := List.replicate 2048 (BitVec.ofNat 8 b)
/-- A COMMAND frame with tag 7. -/
def cmd (body : List Nat) : CmdFrame := { tag := 7, resend := false, body := bytes body }
/-- A TABLE frame with tag 7. -/
def tbl (entry : Nat) (body : List Nat) : TableFrame :=
  { tag := 7, resend := false, entry := BitVec.ofNat 8 entry, body := bytes body }
/-- The state after a command; every command answers one. -/
def after (c : Instr) (s : State) : State :=
  match exec c s with
  | .next t => t
  | _ => s
/-- The status of the last REPLY. -/
def status (s : State) : Option Status := s.feed.lastStatus

/-- A written station of `rig`: its kind, a target of its own, fifty discs of class 3 on a spindle, a bin for two. -/
def station (i : StationNo) : Station :=
  { kind := kindOfStation i, lift := 256 + i.val, rotate := i.val, mediaClass := if i.val < 4 then 3 else 0,
    count := if i.val < 4 then 50 else 0, loaded := decide (i.val < 4), capacity := if 21 ≤ i.val then 2 else 0 }

/-- A machine at work: every station written, four loaded spindles of class 3, every rung with code 24, image 0 DEFINED
with 40 sectors and one order counted, order 1 OPEN for it, template 2 on artwork 5. -/
def rig : State :=
  { State.reset with
    stations := Vector.ofFn station
    ladder := Vector.replicate 8 24#8
    images := State.reset.images.set 0 { ImageSlot.reset with state := .defined, length := 40, orderCount := 1 }
    orders := State.reset.orders.set 1 { Order.reset with state := .opened, mediaClass := 3, quantity := 5 }
    templates := State.reset.templates.set 2 { Template.reset with art := 5 }
    settings := { Settings.reset with access := .idle } }

/-- The assignment of the drives of the tests: order 1, rungs 2 to 3, threshold 2, every block verified. -/
def work : Assignment :=
  { order := 1, start := 2, floor := 3, threshold := 2, mode := .full, stride := 0, tolerance := 1 }
/-- A drive with that assignment, its port checked, nothing sent. -/
def slot : DriveSlot := { DriveSlot.reset with state := .empty, checkPhase := .idle, active := some work, rung := 2 }
/-- Drive 4 of `rig` in a state of its own. -/
def withDrive (x : DriveSlot) : State := rig.modDrive 4 (fun _ => x)
/-- Token 9.1: the disc of the tests. -/
def tok : Token := { num := 9, gen := 1 }
/-- A disc of order 1 in the tray of drive 4. -/
def disc : DiscRecord :=
  { DiscRecord.reset with use := .inUse, gen := 1, origin := .spindle 1, mediaClass := 3, order := some 1,
                          drive := some 4, slot := some 0, location := .station (trayOf 4), print := .notRequired }
/-- Drive 4 with the disc in its tray and a request sent with number 6. -/
def busy (st : DriveState) (ph : DrivePhase) (req : DriveRequest) : DriveSlot :=
  { slot with state := st, phase := ph, trayRecord := some tok, outstanding := some { req := req, number := 6 },
              nextNumber := 7 }
/-- `rig` with that drive and that disc. -/
def loaded (st : DriveState) (ph : DrivePhase) (req : DriveRequest) : State :=
  (withDrive (busy st ph req)).modRecord 9 (fun _ => disc)

/-! ### Well-formedness: each check refuses an ill-formed term -/

theorem test_wf_sectors_none : (Instr.sector 0 0 []).wf = false := by decide
theorem test_wf_sectors_five : (Instr.sector 0 0 (List.replicate 5 (sec 1))).wf = false := by decide +kernel
theorem test_wf_sectors_short : (Instr.sector 0 0 [(sec 1).tail]).wf = false := by decide +kernel
theorem test_wf_sectors_four : (Instr.sector 0 0 (List.replicate 4 (sec 1))).wf = true := by decide +kernel
theorem test_wf_run_repeat : (Instr.run 0 0 4096 (sec 1)).wf = false := by decide +kernel
theorem test_wf_run_payload : (Instr.run 0 0 0 (0 :: sec 1)).wf = false := by decide +kernel
theorem test_wf_run : (Instr.run 0 0 4095 (sec 1)).wf = true := by decide +kernel
theorem test_wf_artwork_none : (Instr.artworkFrame 0 0 []).wf = false := by decide
theorem test_wf_artwork_long : (Instr.artworkFrame 0 0 (List.replicate 8237 0)).wf = false := by decide +kernel
theorem test_wf_artwork : (Instr.artworkFrame 0 0 (List.replicate 8236 0)).wf = true := by decide +kernel
theorem test_wf_unknown_table : (Instr.unknown .table 4 (tbl 0 [])).wf = false := by decide
theorem test_wf_unknown_command : (Instr.unknown .command 26 (tbl 0 [])).wf = false := by decide
theorem test_wf_unknown_entry : (Instr.unknown .command 27 (tbl 1 [])).wf = false := by decide
theorem test_wf_unknown : (Instr.unknown .table 5 (tbl 9 [])).wf = true := by decide
theorem test_wf_body : (Instr.query (cmd (List.replicate 8237 0))).wf = false := by decide +kernel

/-! ### The machine as a whole, the feed link and events -/

theorem witness_StepRunsTheFrontCommand : State.reset.pending = [] := rfl
theorem test_step_runs_front : step (rig.withPending [.eventFrameSend, .dropped]) = exec .eventFrameSend (rig.withPending [.dropped]) := rfl
theorem test_powerOn : (after .powerOn rig).images = State.reset.images ∧ (after .powerOn rig).printer = .reset := by
  decide +kernel

/-- A frame sent again after its answer. -/
def again : CmdFrame := { tag := 7, resend := true, body := [] }
/-- A state whose last tag is 7, answered BUSY. -/
def answered : State := rig.modFeed (fun p => { p with lastTag := some 7, lastStatus := some .busy })

theorem witness_FramesNotHandedOn_resend :
    answeredFrame (.park again) = some (cmdReply again 14, true) ∧ answered.feed.lastTag = some (cmdReply again 14).tag := by
  decide +kernel
theorem test_resend_ignored : (after (.park again) answered).outbound = [.reply 7 .command 14 .ignored (some .busy) 0 0] := by
  decide +kernel
theorem witness_FramesNotHandedOn_number :
    (∀ n ∈ [(0 : Byte), 5, 255], numberExists .table n = false) ∧ (∀ n ∈ [(0 : Byte), 27, 255], numberExists .command n = false) ∧
      rig.handlesAsNew 7 false := by
  unfold State.handlesAsNew; decide +kernel
theorem test_unknown : (after (.unknown .table 5 (tbl 0 [])) rig).outbound = [.reply 7 .table 5 .unknown none 0 0] := by
  decide +kernel
theorem witness_FramesNotHandedOn_body :
    malformed (.imageRelease (cmd [4])) = true ∧
      answeredFrame (.imageRelease (cmd [4])) = some (cmdReply (cmd [4]) 2, false) ∧
      rig.handlesAsNew (cmdReply (cmd [4]) 2).tag false := by
  unfold State.handlesAsNew; decide +kernel
/-- One malformed frame of every row that is answered, each at the first value that its field does not admit. -/
def badFrames : List Instr :=
  [.speedLadderWrite (tbl 8 [1]), .stationMapWrite (tbl 24 [1, 0, 0, 0, 0, 1]), .stationMapWrite (tbl 0 [5, 0, 0, 0, 0, 1]),
   .stagedAssignmentWrite (tbl 16 [0, 0, 0, 0, 0, 0]), .stagedAssignmentWrite (tbl 0 [8, 0, 0, 0, 0, 0]),
   .stagedAssignmentWrite (tbl 0 [0, 0, 64, 0, 0, 0]), .templateWrite (tbl 8 (List.replicate 23 0)),
   .templateWrite (tbl 0 (8 :: List.replicate 22 0)), .templateWrite (tbl 0 (0 :: 2 :: List.replicate 21 0)),
   .imageDefine (cmd [4, 0, 0, 0, 0, 0, 0, 0, 1]), .imageRelease (cmd []), .waveOpen (cmd [4, 0, 0, 0, 0, 64, 0]),
   .waveAbort (cmd [4]), .applyNow (cmd [1]), .applyAtLoad (cmd [1, 2, 3]), .orderDefine (cmd [1, 0, 3, 0, 5, 8]),
   .orderHold (cmd [8]), .orderResume (cmd [8]), .orderQuantity (cmd [8, 0, 1]), .orderCancel (cmd [8]),
   .feedEnable (cmd [2]), .transportStart (cmd [0]), .park (cmd [0]), .resume (cmd [0]), .discRemove (cmd [64, 1]),
   .spindleRefill (cmd [4, 3, 50]), .binEmptied (cmd [3]), .portCheck (cmd [1]), .portReset (cmd [16]),
   .printerReset (cmd [0]), .artworkBegin (cmd [8, 0, 0, 0, 1, 0, 0, 0, 0]), .eventEnable (cmd [0x80, 0]),
   .query (cmd [12, 0]), .storeSettings (cmd [0]), .abortAll (cmd [0])]
theorem test_malformed : ∀ c ∈ badFrames, malformed c = true ∧ status (after c rig) = some .format := by decide +kernel
theorem witness_FramesNotHandedOn_data :
    sectorsOk [] = false ∧ sectorsOk (List.replicate 5 (sec 0)) = false ∧ runOk 4096 (sec 0) = false ∧
      artworkBodyOk [] = false ∧ artworkBodyOk (List.replicate 8237 0) = false := by decide +kernel

theorem witness_OneReplyPerAnsweredFrame :
    answeredFrame (.park (cmd [])) = some (cmdReply (cmd []) 14, false) ∧ answeredFrame (.park again) = some (cmdReply again 14, true) := by
  decide +kernel

/-- The frame of Store Settings with tag 7. -/
def storeFrame : List Byte := commandBytes 25 (cmd [])
theorem test_storeFrame_bytes : storeFrame.take 16 = bytes [5, 0, 0, 7, 0, 0, 0, 20, 0, 25, 0, 0, 0, 0, 0, 0] := by decide +kernel
theorem test_crc32_check_value : crc32 (bytes [0x31, 0x32, 0x33, 0x34, 0x35, 0x36, 0x37, 0x38, 0x39]) = 0xCBF43926#32 := by
  decide +kernel
theorem witness_InboundFrame_length : (storeFrame.take 19).length < 20 ∧ 8256 < (List.replicate 8257 (0 : Byte)).length := by
  decide +kernel
theorem witness_InboundFrame_crc :
    let b := storeFrame.take 19 ++ [0]
    20 ≤ b.length ∧ b.length ≤ 8256 ∧ b.drop (b.length - 4) ≠ enc32w (crc32 (b.take (b.length - 4))) := by decide +kernel
theorem witness_InboundFrame_discard : checkFrame (storeFrame.take 19) = .discard .format ∧
    checkFrame (storeFrame.take 19 ++ [0]) = .discard .badCheck := by decide +kernel
/-- A frame with these bytes before its trailer and the right trailer. -/
def sealed (front : List Nat) : List Byte := bytes front ++ enc32w (crc32 (bytes front))
/-- Frames that pass checks 1 and 2 of R184: by check 3 to 7, those that fail it, at its boundaries. -/
def badFronts : List (List (List Nat)) :=
  [[[5, 0, 0, 7, 0, 0, 0, 19, 0, 25, 0, 0, 0, 0, 0, 0], [5, 0, 0, 7, 0, 0, 0, 21, 0, 25, 0, 0, 0, 0, 0, 0]],
   [[0, 0, 0, 7, 0, 0, 0, 20, 0, 25, 0, 0, 0, 0, 0, 0], [6, 0, 0, 7, 0, 0, 0, 20, 0, 25, 0, 0, 0, 0, 0, 0]],
   [[5, 2, 0, 7, 0, 0, 0, 20, 0, 25, 0, 0, 0, 0, 0, 0], [3, 1, 0, 7, 0, 0, 0, 21, 7, 0, 0, 0, 0, 0, 0, 0, 1]],
   [[1, 0, 0, 7, 0, 0, 0, 20, 4, 1, 0, 0, 0, 0, 0, 0], [1, 0, 0, 7, 0, 0, 0, 20, 0, 0, 0, 0, 0, 0, 0, 0],
    [1, 0, 0, 7, 0, 0, 0, 20, 0, 5, 0, 0, 0, 0, 0, 0], [2, 0, 0, 7, 0, 0, 0, 20, 0, 1, 16, 0, 0, 0, 0, 0],
    [2, 0, 0, 7, 0, 0, 0, 20, 0, 2, 0, 0, 0, 0, 0, 0], [3, 0, 0, 7, 0, 0, 0, 21, 8, 0, 0, 0, 0, 0, 0, 0, 1],
    [3, 0, 0, 7, 0, 0, 0, 21, 7, 1, 0, 0, 0, 0, 0, 0, 1], [4, 0, 0, 7, 0, 0, 0, 20, 9, 9, 0, 1, 0, 0, 0, 0],
    [4, 0, 0, 7, 0, 0, 0, 20, 9, 9, 0, 0, 1, 0, 0, 0], [5, 0, 0, 7, 0, 0, 0, 20, 1, 25, 0, 0, 0, 0, 0, 0],
    [5, 0, 0, 7, 0, 0, 0, 20, 0, 25, 0, 0, 0, 0, 0, 1]],
   [[1, 0, 0, 7, 0, 0, 0, 20, 3, 1, 0, 0, 0, 0, 0, 0], [2, 0, 0, 7, 0, 0, 0, 21, 3, 1, 15, 255, 0, 0, 0, 0, 1],
    [3, 0, 0, 7, 0, 0, 0, 20, 7, 0, 0, 0, 0, 0, 0, 0]]]
theorem witness_InboundFrame_checks : ∀ l ∈ badFronts.flatten,
    let b := sealed l
    20 ≤ b.length ∧ b.length ≤ 8256 ∧ b.drop (b.length - 4) = enc32w (crc32 (b.take (b.length - 4))) ∧
      checkFrame b = .discard .format := by decide +kernel
theorem witness_InboundFrame_passes :
    checkFrame (sealed [4, 1, 0, 7, 0, 0, 0, 20, 255, 9, 0, 0, 0, 0, 0, 0]) =
        .pass (.unknown .table 9 { tag := 7, resend := true, entry := 255, body := [] }) ∧
      checkFrame (sealed [3, 0, 0, 7, 0, 0, 0, 21, 7, 0, 0, 0, 0, 0, 1, 2, 1]) = .pass (.artworkFrame 7 258 [1]) := by
  decide +kernel
theorem witness_InboundFrame_pass : checkFrame storeFrame = .pass (.storeSettings (cmd [])) := by decide +kernel
theorem test_inboundFrame_discard : (after (.inboundFrameDiscard []) rig).feed.discards[1] = 1 := by decide +kernel
theorem witness_CheckedFrameIsTheEncodedCommand :
    (Instr.storeSettings (cmd [])).wf = true ∧ encodeFrame (.storeSettings (cmd [])) = some storeFrame := by decide +kernel

theorem witness_FirstFrameIsSent :
    (rig.emit (.credit 2 300 400)).outbound = [.credit 2 300 400] ∧ (rig.emit (.event .binFull)).outbound = [.event .binFull] := by
  decide +kernel
theorem test_outboundFrameSend :
    let t := after .outboundFrameSend (rig.emit (.credit 2 300 400))
    t.outbound = [] ∧ t.feed.restartPending = false ∧ (t.feed.sent.getD []).take 2 = bytes [0x83, 1] := by decide +kernel
theorem test_eventFrameSend :
    let t := after .eventFrameSend (rig.raise .binFull 2 none)
    t.outbound = [] ∧ t.event .binFull = .reset ∧ (t.feed.sent.getD []).take 2 = bytes [0x82, 1] := by decide +kernel

/-- Class BIN-FULL disabled, its record pending or not. -/
def quiet (pending : Bool) : State :=
  rig.modEvent .binFull (fun r => { r with enabled := false, pending := pending, mask := if pending then 1 else 0 })
theorem witness_RaiseMergesAndPlaces :
    ((rig.event .binFull).pending = false ∧ (rig.event .binFull).enabled = true) ∧
      (((quiet false).event .binFull).pending = false ∧ ((quiet false).event .binFull).enabled = false) ∧
      ((quiet true).event .binFull).pending = true ∧ ((rig.raise .binFull 1 none).event .binFull).pending = true ∧
      EventClass.armHeld ≠ .binFull := by decide +kernel

theorem witness_EventEnable :
    parseClassMask (cmd [0x7F, 0xFF]).body = some 0x7FFF#16 ∧ parseClassMask (cmd [0, 0]).body = some 0#16 ∧
      rig.handlesAsNew 7 false := by
  unfold State.handlesAsNew; decide +kernel
theorem witness_EventEnable_class :
    (rig.event .binFull).enabled = (0x7FFF#16).getLsbD EventClass.binFull.ctorIdx ∧
      (((quiet true).event .binFull).enabled = false ∧ (0x7FFF#16).getLsbD EventClass.binFull.ctorIdx = true ∧
        ((quiet true).event .binFull).pending = true) ∧
      (((rig.raise .binFull 1 none).event .binFull).enabled = true ∧ (0#16).getLsbD EventClass.binFull.ctorIdx = false ∧
        ((rig.raise .binFull 1 none).event .binFull).placed = true) := by decide +kernel
theorem test_eventEnable :
    (after (.eventEnable (cmd [0x7F, 0xFF])) (quiet true)).outbound = [.reply 7 .command 23 .ok none 0 0, .event .binFull] ∧
      ((after (.eventEnable (cmd [0, 0])) rig).event .binFull).enabled = false := by decide +kernel

theorem witness_QueryAnswersOrRefuses :
    (∀ i ∈ [0, 23], parseQuery (cmd [5, i]).body = some (.station, BitVec.ofNat 8 i) ∧ i < Selector.station.indexes) ∧
      parseQuery (cmd [5, 24]).body = some (.station, 24) ∧ Selector.station.indexes ≤ 24 ∧
      parseQuery (cmd [11, 0]).body = some (.feed, 0) ∧ rig.handlesAsNew 7 false := by
  unfold State.handlesAsNew; decide +kernel
theorem test_query : status (after (.query (cmd [5, 24])) rig) = some .range ∧
    (∀ n ∈ List.range 12, (after (.query (cmd [n, 0])) rig).outbound.length = 2) := by decide +kernel

/-! ### Images, waves and artwork -/

theorem witness_ImageDefineAndRelease :
    parseImageDefine (cmd [3, 0, 0, 0, 9, 0, 255, 255, 255]).body = some (3, 9, 16777215) ∧
      parseImageDefine (cmd [3, 0, 0, 0, 9, 0, 0, 0, 1]).body = some (3, 9, 1) ∧ (rig.image 3).state = .undefined ∧
      (rig.image 0).state ≠ .undefined ∧ parseName 4 (cmd [3]).body = some (3 : Fin 4) ∧
      parseName 4 (cmd [0]).body = some (0 : Fin 4) ∧ (rig.image 0).orderCount = 1 ∧ rig.handlesAsNew 7 false := by
  unfold State.handlesAsNew; decide +kernel
theorem test_imageDefine :
    ((after (.imageDefine (cmd [3, 0, 0, 0, 9, 0, 255, 255, 255])) rig).image 3).state = .defined ∧
      status (after (.imageDefine (cmd [3, 0, 0, 0, 9, 1, 0, 0, 0])) rig) = some .range ∧
      status (after (.imageDefine (cmd [3, 0, 0, 0, 9, 0, 0, 0, 0])) rig) = some .range ∧
      status (after (.imageDefine (cmd [0, 0, 0, 0, 9, 0, 0, 0, 1])) rig) = some .state := by decide +kernel
theorem test_imageRelease :
    status (after (.imageRelease (cmd [3])) rig) = some .state ∧ status (after (.imageRelease (cmd [0])) rig) = some .busy ∧
      ((after (.imageRelease (cmd [0])) (rig.modImage 0 (fun x => { x with orderCount := 0 }))).image 0).state = .undefined := by
  decide +kernel

/-- Wave 2 is open for image 0 with a window of 64, drive 4 attached at cursor 0 and at work there. -/
def wave : State :=
  let s := loaded .burning .noPhase .sense
  ((((s.modDrive 4 (fun x => { x with outstanding := none })).modImage 0
    (fun x => { x with state := .filling, fillingWave := some 2, waveCount := 1 })).modAcc 2
    (fun _ => .start .fill 0)).modWave 2 (fun x => { x with
      state := .opened, slot := some 0, capacity := 64, attachments := [{ drive := 4, cursor := 0, inFlight := none }] }))

theorem witness_WaveOpenEffect :
    parseWaveOpen (cmd [1, 0, 0, 0, 0, 64, 60]).body = some { wave := 1, slot := 0, capacity := 64, limit := 60 } ∧
      parseWaveOpen (cmd [1, 0, 0, 1, 0, 0, 0]).body = some { wave := 1, slot := 0, capacity := 65536, limit := 0 } ∧
      (rig.wave 1).state = .idle ∧ (rig.image 0).state = .defined ∧ rig.otherCapacity 1 = 0 ∧
      wave.otherCapacity 1 = 64 ∧ (wave.wave 2).state ≠ .idle ∧ (wave.image 0).state = .filling ∧
      (wave.image 1).state = .undefined ∧ 4 ∈ (loaded .ready .noPhase .sense).waitingDrives 0 ∧
      rig.handlesAsNew 7 false ∧ wave.handlesAsNew 7 false := by
  unfold State.handlesAsNew; decide +kernel
theorem test_waveOpen_refused :
    status (after (.waveOpen (cmd [2, 0, 0, 0, 0, 64, 0])) wave) = some .state ∧
      status (after (.waveOpen (cmd [1, 0, 0, 0, 0, 63, 0])) wave) = some .range ∧
      status (after (.waveOpen (cmd [1, 0, 0, 1, 0, 1, 0])) wave) = some .range ∧
      status (after (.waveOpen (cmd [1, 0, 0, 0, 0, 64, 61])) wave) = some .range ∧
      status (after (.waveOpen (cmd [1, 1, 0, 0, 0, 64, 0])) wave) = some .state ∧
      status (after (.waveOpen (cmd [1, 0, 0, 0, 0, 64, 0])) wave) = some .busy ∧
      status (after (.waveOpen (cmd [1, 0, 0, 1, 0, 0, 0])) (wave.modImage 0 (fun x => { x with state := .complete }))) =
        some .noSpace := by decide +kernel
theorem test_waveOpen :
    let t := after (.waveOpen (cmd [1, 0, 0, 0, 0, 64, 0])) (loaded .ready .noPhase .sense)
    (t.wave 1).state = .opened ∧ (t.wave 1).attachments = [{ drive := 4, cursor := 0, inFlight := none }] ∧
      (t.drive 4).state = .burning ∧ (t.image 0).state = .filling ∧ (t.image 0).waveCount = 1 ∧
      (t.event .waveState).value = some (.wave 1 .opened .command) := by decide +kernel

theorem witness_WaveAbortEffect :
    parseName 4 (cmd [2]).body = some (2 : Fin 4) ∧ (wave.wave 2).state = .opened ∧ (rig.wave 2).state = .idle ∧
      (wave.wave 2).attachment 4 ≠ none ∧ (wave.wave 2).attachment 5 = none ∧ (wave.wave 2).slot = some 0 ∧
      (wave.image 0).fillingWave = some 2 ∧ (wave.drive 4).trayRecord = some tok ∧ wave.live tok = true ∧
      wave.handlesAsNew 7 false := by
  unfold State.handlesAsNew; decide +kernel
/-- A DRIVE answer shows the in-flight run of a drive in BURNING. -/
theorem test_answerDrive_inFlight :
    attachedBytes (2, { drive := 4, cursor := 5, inFlight := some { first := 5, count := 3 } }) =
        bytes [2, 0, 0, 0, 5, 0, 0, 0, 5, 3] ∧
      (let s := wave.modWave 2 (fun x => x.modAttachment 4 (fun a => { a with inFlight := some { first := 0, count := 3 } }))
       bytes [2, 0, 0, 0, 0, 0, 0, 0, 0, 3] <:+: s.answerDrive 4 ∧
         (s.answerDrive 4).length = (rig.answerDrive 4).length) := by decide +kernel
theorem test_waveAbort :
    let t := after (.waveAbort (cmd [2])) wave
    (t.wave 2).state = .idle ∧ (t.drive 4).state = .unloading ∧ (t.record 9).cause = some .waveAborted ∧
      (t.image 0).state = .defined ∧ (t.wave 2).capacity = 0 ∧ (t.event .detach).mask = 16 ∧
      (t.event .waveState).value = some (.wave 2 .idle .waveAborted) ∧
      (t.event .imageState).value = some (.image 0 .defined .waveAborted) := by decide +kernel

theorem witness_DataFrameChecks :
    sectorsOk [sec 5] = true ∧ runOk 4095 (sec 5) = true ∧ (4095#16).toNat + 1 = 4096 ∧
      (rig.wave 2).state ≠ .opened ∧ (rig.wave 2).state ≠ .streaming ∧ (wave.wave 2).head = 0 ∧
      wave.waveLength 2 = 40 ∧ (wave.wave 2).capacity = 64 := by decide +kernel
/-- The window of wave 2 is full but for one slot. -/
def nearlyFull : State :=
  wave.modWave 2 (fun x => { x with
    held := List.replicate 63 { first := 0, last := 0, isRun := false, payload := [] } })
theorem test_frameCause :
    rig.frameCause 2 0 1 1 = some .noWave ∧ wave.frameCause 2 1 1 1 = some .sequence ∧
      wave.frameCause 2 0 41 1 = some .length ∧ wave.frameCause 2 0 40 1 = none ∧
      nearlyFull.frameCause 2 0 2 2 = some .overrun ∧ nearlyFull.frameCause 2 0 1 1 = none := by decide +kernel
theorem witness_DataFrameAccepted :
    (wave.wave 2).state = .opened ∧ (0#32).toNat = (wave.wave 2).head ∧ sectorsOk [sec 5] = true ∧
      (0#32).toNat + 1 ≤ wave.waveLength 2 ∧ (wave.wave 2).held.length + 1 ≤ (wave.wave 2).capacity ∧
      runOk 39 (sec 5) = true ∧ (0#32).toNat + ((39#16).toNat + 1) = wave.waveLength 2 := by decide +kernel
/-- The outstanding WRITE of a drive: its first sector, its sectors and its bytes. -/
def written (x : DriveSlot) : Option (Nat × Nat × Nat) :=
  match x.outstanding with
  | some { req := .write first count data, number := _ } => some (first, count, data.length)
  | _ => none
theorem test_sector :
    let t := after (.sector 2 0 [sec 5]) wave
    (t.wave 2).head = 1 ∧ (t.wave 2).held.length = 1 ∧ (t.acc 2).taken = 1 ∧ t.feed.accepted = 1 ∧
      written (t.drive 4) = some (0, 1, 2048) ∧ (t.drive 4).nextNumber = 8 := by decide +kernel
theorem test_run :
    let t := after (.run 2 0 1 (sec 5)) wave
    (t.wave 2).head = 2 ∧ (t.wave 2).held.length = 1 ∧ (t.acc 2).taken = 2 ∧
      written (t.drive 4) = some (0, 2, 4096) := by decide +kernel

/-- Image 0 has one sector; drive 4 stays attached to wave 2 when `joined` is set. -/
def lastSector (joined : Bool) : State :=
  let s := wave.modImage 0 (fun x => { x with length := 1 })
  if joined then s else s.modWave 2 (fun x => { x with attachments := [] })
/-- The same in check mode, with a digest that no sector of the tests has. -/
def conflicting : State :=
  ((lastSector true).modAcc 2 (fun a => { a with mode := .check })).modImage 0
    (fun x => { x with state := .complete, digests := [0] })
set_option maxRecDepth 100000 in
theorem witness_DataFrameAccepted_ends :
    (0#32).toNat + 1 = (lastSector true).waveLength 2 ∧ ((lastSector true).wave 2).attachments ≠ [] ∧
      ((lastSector false).wave 2).attachments = [] ∧ ((lastSector true).takeSectors 2 [sec 5]).2 = false ∧
      (conflicting.takeSectors 2 [sec 5]).2 = true ∧ (0#32).toNat + 1 ≤ conflicting.waveLength 2 ∧
      (wave.wave 2).attachment 4 = some { drive := 4, cursor := 0, inFlight := none } ∧ (wave.drive 4).outstanding = none ∧
      (wave.wave 2).attachment 5 = none := by decide +kernel
set_option maxRecDepth 100000 in
theorem test_sector_ends :
    let t := after (.sector 2 0 [sec 5]) (lastSector true)
    let u := after (.sector 2 0 [sec 5]) (lastSector false)
    let v := after (.sector 2 0 [sec 5]) conflicting
    (t.wave 2).state = .draining ∧ (t.event .waveState).value = some (.wave 2 .draining .headAtLength) ∧
      written (t.drive 4) = some (0, 1, 2048) ∧ (u.wave 2).endCause = .noDrives ∧
      (u.event .waveState).value = some (.wave 2 .idle .noDrives) ∧ (u.event .waveState).overwritten = true ∧
      (v.wave 2).endCause = .conflict ∧ (v.event .waveState).value = some (.wave 2 .idle .conflict) ∧
      (v.event .detach).mask = 16 := by decide +kernel

theorem witness_BlockDigest_fill :
    (wave.acc 2).slot = some 0 ∧ (wave.acc 2).crc = crcRun crcInit [] ∧ (wave.acc 2).mode = .fill ∧
      (wave.acc 2).taken < min 16 ((wave.image 0).length - 16 * (wave.acc 2).block) ∧
      (wave.acc 2).taken + (List.replicate 16 (bytes [1])).length =
        min 16 ((wave.image 0).length - 16 * (wave.acc 2).block) ∧
      (wave.acc 2).block + 1 ≠ blocksOf (wave.image 0).length := by decide +kernel
/-- Three sectors of the last block of image 0, which has 8, have been taken; its digest is that of all of them. -/
def begun (m : AccMode) : State :=
  (wave.modAcc 2 (fun a => { a with mode := m, block := 2, taken := 3, crc := crcRun crcInit (bytes [9]) })).modImage 0
    (fun x => { x with digests := [0, 0] ++ (if m = .check then [crc32 (bytes [9, 1, 1, 1, 1, 1])] else []) })
theorem witness_BlockDigest_begun :
    ∀ m ∈ [AccMode.fill, .check], ((begun m).acc 2).slot = some 0 ∧ ((begun m).acc 2).mode = m ∧
      ((begun m).acc 2).crc = crcRun crcInit (bytes [9]) ∧ ((begun m).acc 2).taken = 3 ∧
      min 16 (((begun m).image 0).length - 16 * ((begun m).acc 2).block) = 8 ∧
      ((begun m).acc 2).block + 1 = blocksOf ((begun m).image 0).length := by decide +kernel
theorem test_block_in_two_frames :
    let takes := fun (m : AccMode) (n b : Nat) => (begun m).takeSectors 2 (List.replicate n (bytes [b]))
    let t := (takes .fill 5 1).1
    ((takes .fill 4 1).1.acc 2).taken = 7 ∧ (takes .fill 4 1).1.images = (begun .fill).images ∧
      (t.image 0).digests = [0, 0, crc32 (bytes [9, 1, 1, 1, 1, 1])] ∧ (t.image 0).state = .complete ∧
      (t.event .imageState).value = some (.image 0 .complete .filled) ∧
      (takes .check 5 1).2 = false ∧ (takes .check 5 2).2 = true ∧
      ((takes .check 5 2).1.event .imageState).value = some (.image 0 .complete .conflict) := by decide +kernel

/-- Two sectors are held, drive 4 is past the first of them. -/
def held : State :=
  wave.modWave 2 (fun x => { x with
    head := 2, held := [{ first := 0, last := 0, isRun := false, payload := [] }, { first := 1, last := 1, isRun := false, payload := [] }],
    attachments := [{ drive := 4, cursor := 1, inFlight := none }] })
/-- The same with the drive past both. -/
def passed : State := held.modWave 2 (fun x => { x with attachments := [{ drive := 4, cursor := 2, inFlight := none }] })
theorem witness_ReleaseRule :
    let t := held.releaseRule 2
    let u := passed.releaseRule 2
    (t.wave 2).held.length = 1 ∧ (t.wave 2).state = .streaming ∧ (t.wave 2).releasedTotal = 1 ∧
      (t.wave 2).lastCredited = 0 ∧ (u.wave 2).held = [] ∧ (u.wave 2).lastCredited = 2 ∧
      (wave.releaseRule 2).outbound = [] := by decide +kernel

/-- The window of wave 2 is full with a run that drive 4 stands in, and its timer runs. -/
def starved : State :=
  wave.modWave 2 (fun x => { x with
    capacity := 1, head := 9, held := [{ first := 0, last := 8, isRun := true, payload := [] }], timerRunning := true })
theorem witness_StarvationDetachesLaggards :
    (wave.wave 2).timerRunning = false ∧ (starved.wave 2).timerRunning = true ∧ (starved.wave 2).lawful ∧
      4 ∈ (starved.wave 2).starving ∧ (∀ a ∈ (starved.wave 2).attachments, a.drive ∈ (starved.wave 2).starving) := by
  unfold Wave.lawful; decide +kernel
/-- Drive 5 has passed the oldest entry, and a later entry is held when `more` is set. -/
def lagging (more : Bool) : State :=
  starved.modWave 2 (fun x => { x with
    capacity := if more then 2 else 1, head := 10
    held := x.held ++ (if more then [{ first := 9, last := 9, isRun := false, payload := [] }] else [])
    attachments := x.attachments ++ [{ drive := 5, cursor := 9, inFlight := none }] })
theorem witness_StarvationDetachesLaggards_stays :
    ∀ more : Bool, ((lagging more).wave 2).timerRunning = true ∧ ((lagging more).wave 2).lawful ∧
      ((lagging more).wave 2).starving = [4] ∧
      ¬ (∀ a ∈ ((lagging more).wave 2).attachments, a.drive ∈ ((lagging more).wave 2).starving) ∧
      ((lagging more).wave 2).held.head? = some { first := 0, last := 8, isRun := true, payload := [] } ∧
      (∀ a ∈ ((lagging more).wave 2).attachments, 0 ≤ a.cursor) := by
  unfold Wave.lawful; decide +kernel
theorem test_starvationExpiry_stays :
    let t := after (.starvationExpiry 2) (lagging true)
    let u := after (.starvationExpiry 2) (lagging false)
    (t.wave 2).held.map (·.first) = [9] ∧ (t.wave 2).releasedTotal = 1 ∧ (t.wave 2).lastCredited = 0 ∧
      (t.wave 2).attachments.map (·.drive) = [5] ∧ (t.wave 2).state = .streaming ∧ (t.wave 2).timerRunning = false ∧
      (t.event .waveState).value = some (.wave 2 .streaming .gateClosed) ∧ (t.event .detach).mask = 16 ∧
      (u.wave 2).held = [] ∧ (u.wave 2).lastCredited = 1 ∧ .credit 2 1 10 ∈ u.outbound := by decide +kernel
theorem test_starvationExpiry :
    let t := after (.starvationExpiry 2) starved
    (t.drive 4).state = .unloading ∧ (t.record 9).cause = some .detached ∧ (t.wave 2).endCause = .noDrives ∧
      (t.event .detach).mask = 16 := by decide +kernel

/-- Artwork slot 5 waits for three bytes with the CRC-32 of 1, 2, 3. -/
def filling : State :=
  rig.modArtwork 5 (fun x => { x with state := .filling, length := 3, check := crc32 (bytes [1, 2, 3]) })
theorem witness_ArtworkTransferEffect :
    parseArtworkBegin (cmd [5, 0, 128, 0, 0, 0, 0, 0, 9]).body = some (5, 8388608, 9) ∧
      (rig.artwork 5).inUse = false ∧ ((rig.modArtwork 5 (fun x => { x with inUse := true })).artwork 5).inUse = true ∧
      rig.handlesAsNew 7 false ∧ artworkBodyOk [1] = true ∧ artworkBodyOk (List.replicate 8236 1) = true ∧
      (rig.artwork 5).state ≠ .filling ∧ (filling.artwork 5).state = .filling ∧ (filling.artwork 5).fillPoint = 0 ∧
      (filling.artwork 5).fillPoint + (bytes [1, 2, 3]).length = (filling.artwork 5).length := by
  unfold State.handlesAsNew; decide +kernel
theorem test_artworkBegin :
    ((after (.artworkBegin (cmd [5, 0, 128, 0, 0, 0, 0, 0, 9])) rig).artwork 5).state = .filling ∧
      status (after (.artworkBegin (cmd [5, 0, 128, 0, 1, 0, 0, 0, 9])) rig) = some .range ∧
      status (after (.artworkBegin (cmd [5, 0, 0, 0, 0, 0, 0, 0, 9])) rig) = some .range := by decide +kernel
theorem test_artworkFrame :
    ((after (.artworkFrame 5 0 (bytes [1, 2, 3])) filling).artwork 5).state = .ready ∧
      ((after (.artworkFrame 5 0 (bytes [1, 2, 4])) filling).artwork 5).state = .empty ∧
      ((after (.artworkFrame 5 0 (bytes [1, 2])) filling).artwork 5).fillPoint = 2 ∧
      (after (.artworkFrame 5 1 (bytes [1])) filling).feed.discards[DiscardCause.sequence.idx.val] = 1 ∧
      (after (.artworkFrame 5 0 (bytes [1, 2, 3, 4])) filling).feed.discards[DiscardCause.length.idx.val] = 1 ∧
      (after (.artworkFrame 4 0 (bytes [1])) filling).feed.discards[DiscardCause.artwork.idx.val] = 1 := by decide +kernel

/-! ### Speeds, assignments and orders -/

theorem witness_LadderStagedAndTemplateWrite :
    (tbl 7 [9]).entry.toNat = 7 ∧ (tbl 7 [9]).body = [9#8] ∧ (tbl 15 [7, 0x32, 63, 64, 3, 255]).entry.toNat = 15 ∧
      (63#8).toNat < 64 ∧ (7#8).toNat = 7 ∧ rig.handlesAsNew 7 false := by
  unfold State.handlesAsNew; decide +kernel
theorem test_speedLadderWrite :
    (after (.speedLadderWrite (tbl 7 [9])) rig).code 7 = 9 ∧ (after (.speedLadderWrite (tbl 7 [9])) rig).code 6 = 24 ∧
      (after (.speedLadderWrite (tbl 7 [9])) rig).settings.ladderWritten[7] = true := by decide +kernel
theorem test_stagedAssignmentWrite :
    ((after (.stagedAssignmentWrite (tbl 15 [7, 0x32, 63, 64, 3, 255])) rig).drive 15).staged =
      { order := 7, start := 2, floor := 3, threshold := 15, mode := 3, stride := 64, tolerance := 1023 } := by
  decide +kernel
/-- A template write for template 7 on artwork 5: serial enabled, a text of `n` bytes `c`, the next serial 999,999 or
one above. -/
def templateBody (n c extra : Nat) : List Nat := [5, 1, n] ++ List.replicate 16 c ++ [0, 15, 66, 63 + extra]
theorem witness_TemplateWrite :
    parseTemplate (tbl 7 (templateBody 16 0x7E 0)) =
        some (7, { art := 5, serialEnabled := true, textLength := 16, textBytes := List.replicate 16 0x7E,
                   nextSerial := 999999 }) ∧
      (parseTemplate (tbl 7 (templateBody 17 0x20 0))).map (·.2.textLength) = some 17 ∧
      (parseTemplate (tbl 7 (templateBody 1 0x1F 0))).map (·.2.textBytes.head?) = some (some 0x1F#8) ∧
      (parseTemplate (tbl 7 (templateBody 0 0x7F 1))).map (·.2.nextSerial) = some 1000000 := by decide +kernel
theorem test_templateWrite :
    ((after (.templateWrite (tbl 7 (templateBody 16 0x7E 0))) rig).template 7).nextSerial = 999999 ∧
      ((after (.templateWrite (tbl 7 (templateBody 0 0x7F 0))) rig).template 7).text = [] ∧
      status (after (.templateWrite (tbl 7 (templateBody 17 0x20 0))) rig) = some .range ∧
      status (after (.templateWrite (tbl 7 (templateBody 1 0x1F 0))) rig) = some .range ∧
      status (after (.templateWrite (tbl 7 (templateBody 0 0x7F 1))) rig) = some .range := by decide +kernel

/-- A staged entry for order 1 with every field inside its range. -/
def staged : StagedEntry := { order := 1, start := 2, floor := 7, threshold := 0, mode := 2, stride := 64, tolerance := 1023 }
theorem witness_ApplyChecksInOrder :
    rig.validate staged = none ∧ rig.validate { staged with order := 2 } = some .rejOrder ∧
      rig.validate { staged with floor := 8 } = some .rejRung ∧ rig.validate { staged with start := 8, floor := 8 } = some .rejRung ∧
      rig.validate { staged with floor := 1 } = some .rejRung ∧ rig.validate { staged with threshold := 8 } = some .rejRung ∧
      (rig.setCode 7 0).validate staged = some .rejRung ∧ (rig.setCode 4 0).validate staged = none ∧
      rig.validate { staged with mode := 3 } = some .rejVerify ∧ rig.validate { staged with stride := 1 } = some .rejVerify ∧
      rig.validate { staged with stride := 65 } = some .rejVerify ∧ rig.validate { staged with tolerance := 1024 } = some .rejVerify ∧
      staged.inForce.threshold = 3 := by decide +kernel

/-- Drive 4 with the staged entry, drive 15 with one that no order backs. -/
def stages (x : DriveSlot) : State :=
  (withDrive { x with staged := staged }).modDrive 15 (fun _ => { slot with staged := { staged with order := 2 } })
theorem witness_ApplyNow :
    parseMask (cmd [0x80, 0x10]).body = some 0x8010#16 ∧ (stages slot).handlesAsNew 7 false ∧
      (0x8010#16).getLsbD 4 = true ∧ (0x8010#16).getLsbD 15 = true ∧ (0x8010#16).getLsbD 0 = false ∧
      ((stages { slot with applyStatus := .inProgress }).drive 4).applyStatus = .inProgress ∧
      (stages slot).validate ((stages slot).drive 4).staged = none ∧
      (stages slot).validate ((stages slot).drive 15).staged = some .rejOrder ∧ ((stages slot).drive 4).state = .empty ∧
      ((stages slot).drive 4).outstanding = none ∧ ((stages slot).drive 4).checkPhase = .idle ∧
      ((stages { slot with state := .faulted }).drive 4).state ≠ .empty ∧
      ((stages { slot with checkPhase := .checking }).drive 4).checkPhase ≠ .idle ∧
      ((stages { slot with checkPhase := .checking }).drive 4).waiting = none ∧
      ((stages { slot with state := .ready }).drive 4).state = .ready := by
  unfold State.handlesAsNew; decide +kernel
theorem test_applyNow :
    let t := after (.applyNow (cmd [0x80, 0x10])) (stages slot)
    (t.drive 4).applyStatus = .inProgress ∧ (t.drive 4).outstanding = some { req := .speed 24 2 .apply, number := 0 } ∧
      (t.drive 15).applyStatus = .rejOrder ∧ t.outbound = [.reply 7 .command 5 .ok none 0x8000 0] := by decide +kernel
theorem test_applyNow_other_states :
    ((after (.applyNow (cmd [0, 0x10])) (stages { slot with state := .ready })).drive 4).applyStatus = .rejBusy ∧
      ((after (.applyNow (cmd [0, 0x10])) (stages { slot with state := .faulted })).drive 4).applyStatus = .success ∧
      (after (.applyNow (cmd [0, 0x10])) (stages { slot with applyStatus := .inProgress })).outbound =
        [.reply 7 .command 5 .ok none 0 0x10] ∧
      ((after (.applyNow (cmd [0, 0x10])) (stages { slot with checkPhase := .checking })).drive 4).waiting =
        some (.speed 24 2 .apply) := by decide +kernel
theorem test_applyAtLoad :
    let t := after (.applyAtLoad (cmd [0x80, 0x10])) (stages { slot with state := .ready })
    (t.drive 4).applyStatus = .pending ∧ (t.drive 4).pendingCopy = some staged.inForce ∧
      t.outbound = [.reply 7 .command 6 .ok none 0x8000 0] := by decide +kernel

/-- Auto-feed is set and drive 4 may load for order 1. -/
def feeding (x : DriveSlot) : State := (withDrive x).modTransport (fun y => { y with autoFeed := true })
theorem witness_LoadDecisionOfOneDrive :
    ((feeding slot).drive 4).state = .empty ∧ ((feeding slot).drive 4).checkPhase = .idle ∧
      (feeding slot).transport.autoFeed = true ∧ ((feeding slot).drive 4).applyStatus ≠ .inProgress ∧
      rig.transport.autoFeed = false ∧ ((feeding slot).drive 4).active = some work ∧
      (feeding slot).loadAllowed 4 1 = true ∧ ((feeding slot).setCode 2 0).loadAllowed 4 1 = false ∧
      (((feeding slot).modOrder 1 (fun o => { o with inProgress := 5 })).loadAllowed 4 1 = false) ∧
      ((feeding { slot with pendingCopy := some work }).drive 4).pendingCopy = some work ∧
      (((feeding slot).modOrder 1 (fun o => { o with inProgress := 4 })).decideDrive 4).queue.length = 1 ∧
      ((feeding { slot with pendingCopy := some work, active := none }).decideDrive 4).queue.length = 1 := by decide +kernel

theorem witness_OrderDefine :
    parseOrderDefine (cmd [7, 0, 15, 255, 255, 255]).body =
        some { order := 7, slot := 0, mediaClass := 15, quantity := 65535, template := none } ∧
      parseOrderDefine (cmd [7, 0, 1, 0, 1, 7]).body =
        some { order := 7, slot := 0, mediaClass := 1, quantity := 1, template := some 7 } ∧
      (rig.order 7).state = .free ∧ (rig.order 1).state ≠ .free ∧ (rig.image 0).state ≠ .undefined ∧
      (rig.image 1).state = .undefined ∧ rig.handlesAsNew 7 false := by
  unfold State.handlesAsNew; decide +kernel
theorem test_orderDefine :
    ((after (.orderDefine (cmd [7, 0, 15, 255, 255, 255])) rig).order 7).state = .opened ∧
      ((after (.orderDefine (cmd [7, 0, 1, 0, 1, 7])) rig).image 0).orderCount = 2 ∧
      status (after (.orderDefine (cmd [1, 0, 3, 0, 1, 255])) rig) = some .state ∧
      status (after (.orderDefine (cmd [7, 0, 0, 0, 1, 255])) rig) = some .range ∧
      status (after (.orderDefine (cmd [7, 0, 16, 0, 1, 255])) rig) = some .range ∧
      status (after (.orderDefine (cmd [7, 0, 3, 0, 0, 255])) rig) = some .range ∧
      status (after (.orderDefine (cmd [7, 1, 3, 0, 1, 255])) rig) = some .state := by decide +kernel

/-- Drive 4 is READY with a blank of order 1. -/
def ready : State := (loaded .ready .noPhase .sense).modDrive 4 (fun x => { x with outstanding := none })
/-- The same with the order HELD. -/
def onHold : State := ready.modOrder 1 (fun o => { o with state := .held })
theorem witness_OrderHoldAndResume :
    parseName 8 (cmd [1]).body = some (1 : Fin 8) ∧ (ready.order 1).state = .opened ∧ (ready.drive 4).state = .ready ∧
      ready.orderOf (ready.drive 4).trayRecord = some 1 ∧ ready.trayRecordOf 4 = some disc ∧
      disc.origin = .spindle 1 ∧ (onHold.order 1).state = .held ∧ (onHold.order 1).state ≠ .opened ∧
      (ready.drive 5).state ≠ .ready ∧ ready.handlesAsNew 7 false ∧ onHold.handlesAsNew 7 false := by
  unfold State.handlesAsNew; decide +kernel
theorem test_orderHold :
    let t := after (.orderHold (cmd [1])) ready
    (t.order 1).state = .held ∧ (t.drive 4).state = .unloading ∧ (t.drive 4).entry = some .return ∧
      t.queue.map (·.dest) = [.station (spindleStation 1)] ∧ status (after (.orderHold (cmd [1])) onHold) = some .state := by
  decide +kernel
theorem test_orderResume :
    ((after (.orderResume (cmd [1])) onHold).order 1).state = .opened ∧
      status (after (.orderResume (cmd [1])) ready) = some .state := by decide +kernel

/-- Order 1 with two discs passed and one in progress. -/
def counted (st : OrderState) : State :=
  rig.modOrder 1 (fun o => { o with state := st, quantity := 4, passed := 2, inProgress := if st = .complete then 0 else 1 })
theorem witness_OrderQuantityAndCancel :
    parseOrderQuantity (cmd [1, 255, 255]).body = some (1, 65535) ∧ parseOrderQuantity (cmd [1, 0, 3]).body = some (1, 3) ∧
      ((counted .opened).order 1).state = .opened ∧ ((counted .complete).order 1).state = .complete ∧
      (rig.order 2).state = .free ∧ ((counted .opened).order 1).inProgress ≠ 0 ∧ ((counted .complete).order 1).inProgress = 0 ∧
      parseName 8 (cmd [1]).body = some (1 : Fin 8) ∧ ((withDrive slot).drive 4).active.map (·.order) = some 1 ∧
      (∀ d, ¬ ((rig.drive d).active.map (·.order) = some 1 ∨ (rig.drive d).pendingCopy.map (·.order) = some 1)) ∧
      (counted .opened).handlesAsNew 7 false ∧ rig.handlesAsNew 7 false := by
  unfold State.handlesAsNew; decide +kernel
theorem test_orderQuantity :
    ((after (.orderQuantity (cmd [1, 0, 3])) (counted .opened)).order 1).quantity = 3 ∧
      status (after (.orderQuantity (cmd [1, 0, 2])) (counted .opened)) = some .range ∧
      status (after (.orderQuantity (cmd [1, 0, 0])) (counted .complete)) = some .range ∧
      status (after (.orderQuantity (cmd [2, 0, 1])) (counted .opened)) = some .state ∧
      ((after (.orderQuantity (cmd [1, 0, 3])) (counted .complete)).order 1).state = .opened ∧
      ((after (.orderQuantity (cmd [1, 0, 2])) ((counted .complete).modOrder 1 (fun o => { o with state := .held }))).order
        1).state = .complete := by decide +kernel
theorem test_orderCancel :
    ((after (.orderCancel (cmd [1])) rig).order 1).state = .free ∧ ((after (.orderCancel (cmd [1])) rig).image 0).orderCount = 0 ∧
      status (after (.orderCancel (cmd [2])) rig) = some .state ∧
      status (after (.orderCancel (cmd [1])) (counted .opened)) = some .busy ∧
      status (after (.orderCancel (cmd [1])) (withDrive slot)) = some .busy := by decide +kernel

theorem witness_EndOfRecordAndDownshift_record :
    ready.live tok = true ∧ (ready.record 9).cause = none ∧ (ready.record 9).order = some 1 ∧ (ready.order 1).state = .opened ∧
      (let t := ready.endRecord tok none (.station (spindleStation 1))
       (t.record 9).use = .free ∧ t.outbound.length = 1) ∧
      (let u := ready.modRecord 9 (fun r => { r with burn := .pass, verify := .skipped, order := none })
       u.live tok = true ∧ (u.record 9).order = none) := by decide +kernel
/-- Order 1 one disc short of its quantity, the disc of the tests a PASS. -/
def nearlyDone : State :=
  (ready.modRecord 9 (fun r => { r with burn := .pass, verify := .pass })).modOrder 1
    (fun o => { o with passed := 4, inProgress := 1 })
theorem witness_EndOfRecordAndDownshift_complete :
    nearlyDone.live tok = true ∧ (nearlyDone.order 1).passed + 1 = (nearlyDone.order 1).quantity ∧
      ((nearlyDone.endRecord tok none (.station stationB0)).order 1).state = .complete ∧
      ((nearlyDone.endRecord tok (some .lost) (.station stationB0)).order 1).failed = 1 := by decide +kernel
/-- The end of a record of a HELD order runs the load decision: a drive that another order can serve takes its pending copy
and loads. -/
theorem test_endRecord_held :
    let s := ((onHold.modOrder 2 (fun o => { o with state := .opened, mediaClass := 3, quantity := 5 })).modDrive 5 (fun _ =>
      { slot with pendingCopy := some { work with order := 2 } })).modTransport (fun x => { x with autoFeed := true })
    let t := s.endRecord tok none (.station stationB0)
    (t.order 1).state = .held ∧ (t.drive 5).state = .loading ∧ (t.drive 5).active = some { work with order := 2 } ∧
      (t.order 2).inProgress = 1 := by decide +kernel
theorem witness_EndOfRecordAndDownshift_count :
    (slot.active = some work ∧ slot.failCount + 1 < work.threshold ∧ slot.rung < work.floor) ∧
      (let s := withDrive { slot with failCount := 1 }
       (s.drive 4).active = some work ∧ work.threshold ≤ (s.drive 4).failCount + 1 ∧ (s.drive 4).rung < work.floor ∧
         ((s.noticeEnd (some 4) .fail (some .writeFault)).drive 4).rung = 3) ∧
      (let s := withDrive { slot with failCount := 1, rung := 3 }
       work.threshold ≤ (s.drive 4).failCount + 1 ∧ ¬ (s.drive 4).rung < work.floor ∧
         ((s.noticeEnd (some 4) .fail (some .unreadable)).event .downshift).value = some (.downshift 4 none)) := by
  decide +kernel

/-! ### Stations, the queue and the arm -/

theorem witness_StationMapWrite :
    parseStation (tbl 0 [1, 15, 255, 15, 255, 15]) = some (0, { kind := .spindle, lift := 4095, rotate := 4095, value := 15 }) ∧
      parseStation (tbl 23 [4, 0, 0, 0, 0, 1]) = some (23, { kind := .bin, lift := 0, rotate := 0, value := 1 }) ∧
      kindOfStation 0 = .spindle ∧ kindOfStation 3 = .spindle ∧ kindOfStation 4 = .tray ∧ kindOfStation 19 = .tray ∧
      kindOfStation 20 = .printer ∧ kindOfStation 21 = .bin ∧ kindOfStation 23 = .bin ∧ rig.transport.mode ≠ .running ∧
      (rig.station 0).loaded = true ∧ (rig.station 0).mediaClass ≠ 15 ∧ rig.handlesAsNew 7 false := by
  unfold State.handlesAsNew; decide +kernel
theorem test_stationMapWrite :
    ((after (.stationMapWrite (tbl 0 [1, 15, 255, 15, 255, 15])) rig).station 0).mediaClass = 15 ∧
      ((after (.stationMapWrite (tbl 23 [4, 0, 0, 0, 0, 1])) (rig.modStation 23 (fun x => { x with count := 2 }))).station
        23).count = 1 ∧
      ((after (.stationMapWrite (tbl 23 [4, 0, 0, 0, 0, 1])) (rig.modStation 23 (fun x => { x with count := 2 }))).event
        .binFull).mask = 4 := by decide +kernel
theorem test_stationMapWrite_refused :
    (∀ b ∈ [[2, 0, 0, 0, 0, 3], [1, 16, 0, 0, 0, 3], [1, 0, 0, 16, 0, 3], [1, 0, 0, 0, 0, 0], [1, 0, 0, 0, 0, 16]],
      status (after (.stationMapWrite (tbl 0 b)) rig) = some .range) ∧
      status (after (.stationMapWrite (tbl 21 [4, 0, 0, 0, 0, 151])) rig) = some .range ∧
      status (after (.stationMapWrite (tbl 0 [1, 0, 0, 0, 0, 3])) (rig.modTransport (fun x => { x with mode := .running }))) =
        some .busy := by decide +kernel

/-- A LOAD for drive 4 from class `c`. -/
def load (c : Nat) : Entry :=
  { kind := .load, source := .mediaClass c, dest := .station (trayOf 4), token := none, drive := some 4, order := some 1,
    passOver := 0, current := false, srcAt := none, dstAt := none, setAside := none, pickSent := false }
/-- Drive 4 waits for its disc; the entries `q` wait in the queue. -/
def queued (q : List Entry) : State :=
  (withDrive { slot with state := .loading, phase := .waitDisc, entry := some .load }).setQueue q
/-- A map write of spindle 0 from class 3 to class 4: the waiting LOADs of classes that no spindle holds go, the others
stay. -/
theorem test_stationMapWrite_strands :
    (after (.stationMapWrite (tbl 0 [1, 0, 0, 0, 0, 4]))
      (queued [load 5, load 3, load 4, { load 5 with pickSent := true }])).queue =
      [load 3, load 4, { load 5 with pickSent := true }] := by decide +kernel
/-- The same with the transport RUNNING. -/
def moving (q : List Entry) : State := (queued q).modTransport (fun x => { x with mode := .running })

theorem witness_RefillAndBinEmptied :
    (∀ c ∈ [1, 15], ∀ n ∈ [1, 150], parseRefill (cmd [3, c, n]).body = some (3, c, n)) ∧
      parseRefill (cmd [3, 0, 151]).body = some (3, 0, 151) ∧ parseName 3 (cmd [2]).body = some (2 : Fin 3) ∧
      rig.handlesAsNew 7 false := by
  unfold State.handlesAsNew; decide +kernel
theorem test_spindleRefill :
    ((after (.spindleRefill (cmd [3, 15, 150])) rig).station 3).count = 150 ∧
      ((after (.spindleRefill (cmd [3, 15, 150])) rig).station 3).mediaClass = 15 ∧
      (∀ b ∈ [[3, 0, 1], [3, 16, 1], [3, 1, 0], [3, 1, 151]], status (after (.spindleRefill (cmd b)) rig) = some .range) := by
  decide +kernel
theorem test_binEmptied :
    ((after (.binEmptied (cmd [2])) (rig.modStation 23 (fun x => { x with count := 2 }))).station 23).count = 0 := by
  decide +kernel
theorem witness_Stranded :
    (load 5).stranded (fun c => decide (c = 5)) = true ∧ (load 3).stranded (fun c => decide (c = 5)) = false ∧
      ((queued [load 5, load 3, { load 5 with pickSent := true }]).retireStranded (fun c => decide (c = 5))).queue =
        [load 3, { load 5 with pickSent := true }] ∧
      rig.lostTo State.reset 3 = true ∧ rig.lostTo rig 3 = false ∧ rig.lostTo State.reset 5 = false ∧
      State.reset.lostTo State.reset 3 = false := by decide +kernel

theorem witness_TransportCommands_feed :
    (∀ v ∈ [0, 1], parseName 2 (cmd [v]).body = some (Fin.ofNat 2 v)) ∧ rig.handlesAsNew 7 false ∧
      rig.transport.mode ≠ .held := by
  unfold State.handlesAsNew; decide +kernel
/-- `rig` in a transport mode and an arm phase. -/
def arm (m : TransportMode) (p : ArmPhase) : State := rig.modTransport (fun x => { x with mode := m, phase := p })
theorem test_feedEnable :
    (after (.feedEnable (cmd [1])) rig).transport.autoFeed = true ∧
      (after (.feedEnable (cmd [1])) (arm .held .idle)).transport.autoFeed = false ∧
      (after (.feedEnable (cmd [1])) (arm .held .idle)).transport.heldCopy = true := by decide +kernel
theorem witness_TransportCommands_modes :
    (cmd []).body = [] ∧ (arm .running .idle).handlesAsNew 7 false ∧ (∀ i, (rig.station i).kind = kindOfStation i) ∧
      rig.transport.mode = .parked ∧ rig.transport.phase = .idle ∧ rig.transport.outstanding = none ∧
      (State.reset.station 0).kind ≠ kindOfStation 0 ∧ (∀ e ∈ rig.queue, e.current = false) := by
  unfold State.handlesAsNew; decide +kernel
theorem test_transportStart :
    (after (.transportStart (cmd [])) rig).transport.outstanding = some { op := .home, number := 0, abandoned := false } ∧
      status (after (.transportStart (cmd [])) State.reset) = some .state ∧
      status (after (.transportStart (cmd [])) (arm .running .idle)) = some .state ∧
      status (after (.transportStart (cmd [])) (arm .parked .homing)) = some .busy := by decide +kernel
theorem test_park :
    (after (.park (cmd [])) (arm .running .idle)).transport.mode = .parked ∧
      (after (.park (cmd [])) (arm .running .pick)).transport.parkWaiting = true ∧
      status (after (.park (cmd [])) rig) = some .state := by decide +kernel
theorem test_resume :
    (after (.resume (cmd [])) (arm .held .idle)).transport.phase = .homing ∧
      status (after (.resume (cmd [])) rig) = some .state ∧
      status (after (.resume (cmd [])) (arm .held .homing)) = some .busy := by decide +kernel

/-- The printer holds the disc of the tests. -/
def atPrinter (st : PrinterState) (ph : PrinterPhase) : State :=
  (rig.modRecord 9 (fun _ => { disc with drive := none, location := .station stationPR })).modPrinter
    (fun p => { p with state := st, phase := ph, checkPhase := .idle, token := some tok })
theorem witness_DiscRemoveEffect :
    parseDiscRemove (cmd [9, 1]).body = some tok ∧ parseDiscRemove (cmd [63, 255]).body = some { num := 63, gen := 255 } ∧
      ready.handlesAsNew 7 false ∧ ready.transport.mode ≠ .running ∧ (ready.record tok.num).use = .inUse ∧
      (ready.record tok.num).gen = tok.gen ∧ (rig.record tok.num).use ≠ .inUse ∧
      (ready.drive 4).trayRecord = some tok ∧ (∀ e, (ready.drive e).trayRecord = some tok → e = 4) ∧
      (ready.queue.filter (fun e => decide (e.token = some tok))).length ≤ 1 ∧ (ready.drive 4).state = .ready ∧
      ((loaded .faulted .noPhase .sense).drive 4).state = .faulted ∧
      (atPrinter .faulted .noPhase).printer.token = some tok ∧ (atPrinter .faulted .noPhase).live tok = true := by
  unfold State.handlesAsNew; decide +kernel
theorem test_discRemove :
    let t := after (.discRemove (cmd [9, 1])) ready
    (t.record 9).use = .free ∧ (t.drive 4).trayRecord = none ∧ (t.drive 4).phase = .trayClosing ∧ t.outbound.length = 3 := by
  decide +kernel
theorem test_discRemove_others :
    status (after (.discRemove (cmd [9, 2])) ready) = some .state ∧
      status (after (.discRemove (cmd [9, 1])) (ready.modTransport (fun x => { x with mode := .running }))) = some .state ∧
      (after (.discRemove (cmd [9, 1])) (atPrinter .faulted .noPhase)).printer.token = none := by decide +kernel

/-- A print at work, its serial issued or not, and the printer under a link check or not. -/
def printsDisc (serial : Option Nat) (check : CheckPhase) : State :=
  ((atPrinter .printing .start).modArtwork 5 (fun a => { a with inUse := true })).modPrinter (fun p => { p with
    checkPhase := check, faultRun := 1
    snapshot := some { template := 2, art := 5, length := 3, serialEnabled := true, text := [], serial := serial } })
/-- The printer with the disc of the tests and a fault run. -/
def faulty (st : PrinterState) (run : Nat) : State := (atPrinter st .noPhase).modPrinter (fun p => { p with faultRun := run })
theorem witness_DiscRemove_printer :
    (printsDisc (some 7) .idle).printer.token = some tok ∧ (printsDisc (some 7) .idle).live tok = true ∧
      (printsDisc (some 7) .idle).transport.mode ≠ .running ∧ (printsDisc (some 7) .idle).handlesAsNew 7 false ∧
      (printsDisc (some 7) .idle).printer.state = .printing ∧ (printsDisc (some 7) .idle).printer.outstanding = none ∧
      (printsDisc none .checking).printer.checkPhase ≠ .idle ∧
      (∀ st, (faulty st 2).printer.token = some tok ∧ (faulty st 2).live tok = true ∧ (faulty st 2).printer.state = st ∧
        2 ≤ (faulty st 2).printer.faultRun ∧ (faulty st 1).printer.faultRun < 2) := by
  unfold State.handlesAsNew
  refine ⟨by decide +kernel, by decide +kernel, by decide +kernel, by decide +kernel, by decide +kernel, by decide +kernel,
    by decide +kernel, fun st => ?_⟩
  cases st <;> decide +kernel
theorem test_discRemove_printer :
    let remove := fun s : State => after (.discRemove (cmd [9, 1])) s
    let t := remove (printsDisc (some 7) .idle)
    (t.template 2).voided = 1 ∧ (t.artwork 5).inUse = false ∧ t.printer.snapshot = none ∧ t.printer.faultRun = 1 ∧
      t.printer.phase = .closing ∧ t.printer.outstanding = some { req := .trayIn, number := 0 } ∧
      ((remove (printsDisc none .checking)).template 2).voided = 0 ∧
      (remove (printsDisc none .checking)).printer.waiting = some .trayIn ∧
      (remove (faulty .discharge 1)).printer.phase = .closing ∧ (remove (faulty .discharge 2)).printer.state = .faulted ∧
      ((remove (faulty .discharge 2)).event .printer).value = some (.printer .faulted .repeatedFaults) ∧
      (remove (faulty .faulted 1)).printer.state = .idle ∧ (remove (faulty .faulted 2)).printer.state = .faulted ∧
      (remove (faulty .faulted 2)).printer.token = none ∧ (remove (faulty .offline 1)).printer.state = .offline := by
  decide +kernel

/-- An UNLOAD of the disc of the tests from tray 4. -/
def unload (d : Dest) : Entry :=
  { load 3 with kind := .unload, source := .station (trayOf 4), dest := d, token := some tok, order := none }
theorem witness_ArbiterChoice :
    let s := moving [{ load 5 with passOver := 9 }, load 3, { load 3 with passOver := 8 }]
    s.transport.mode = .running ∧ s.transport.phase = .idle ∧ s.transport.outstanding = none ∧
      (∀ e ∈ s.queue, e.current = false) ∧ s.eligible (load 5) = false ∧ s.eligible (load 3) = true ∧ s.choice = some 2 ∧
      (moving [load 3, load 3]).choice = some 0 ∧ (moving [load 5]).choice = none ∧ s.freeRecord = some 0 ∧
      (s.arbiter.currentEntry.map (·.setAside)) = some (some 0) := by decide +kernel
/-- Drive 4 waits for the pick of its disc; a PURGE from the arm waits too when `gripped` is set. -/
def unloads (d : Dest) (gripped : Bool) : State :=
  let s := ((loaded .unloading .waitPick .sense).modTransport (fun x => { x with mode := .running })).setQueue [unload d]
  if gripped then s.setQueue [unload d, { unload (.station stationBX) with kind := .purge, source := .arm }] else s
theorem witness_ArbiterChoice_verdict :
    (unloads .byVerdict false).choice = some 0 ∧ (unloads .byVerdict true).choice = some 1 ∧
      (unloads .byVerdict false).live tok = true ∧
      ((unloads .byVerdict false).arbiter.currentEntry.bind (·.dstAt)) = some stationBX := by decide +kernel

theorem witness_EligibilityTable :
    (load 3).source = .mediaClass 3 ∧ (unload .byVerdict).source = .station (trayOf 4) ∧
      (unloads .byVerdict true).canGive (unload .byVerdict) = true ∧ (unloads .byVerdict true).eligible (unload .byVerdict) = false ∧
      (unloads .byVerdict false).canTake (unload .byVerdict) stationB0 = true ∧
      ((rig.modStation 21 (fun x => { x with count := 2 })).canTake (unload .byVerdict) stationB0) = false ∧
      ((rig.modStation 1 (fun x => { x with count := 149 })).canTake (unload .byVerdict) 1) = true ∧
      ((rig.modStation 1 (fun x => { x with count := 150 })).canTake (unload .byVerdict) 1) = false := by decide +kernel

/-- The current entry `e` is being moved: the arm is in `p` and operation `op` waits for its outcome with number 6. -/
def carrying (s : State) (p : ArmPhase) (op : ArmOp) (e : Entry) : State :=
  (s.setQueue [e]).modTransport (fun x => { x with
    mode := .running, phase := p, outstanding := some { op := op, number := 6, abandoned := false }, nextNumber := 7 })
/-- The LOAD dispatched: from spindle 1 to tray 4, record 9 set aside. -/
def going : Entry :=
  { load 3 with current := true, srcAt := some (spindleStation 1), dstAt := some (trayOf 4), setAside := some 9 }
/-- Record 9 is set aside for it. -/
def aside : State := (queued []).modRecord 9 (fun r => { r with use := .setAside })
/-- The LOAD in the phase and operation named. -/
def loads (p : ArmPhase) (op : ArmOp) : State := carrying aside p op going
/-- A disc on the arm, bound for the station `i`. -/
def onArm (s : State) (i : StationNo) : State :=
  carrying (s.modRecord 9 (fun _ => { disc with location := .onArm, drive := none })) .place .place
    { unload (.station i) with current := true, srcAt := some (trayOf 5), dstAt := some i }

theorem witness_ArmAdvancesOrHolds :
    (loads .travelSrc (.goto 0 0)).moves (.goto 0 0) 6 going ∧ (loads .travelDst (.goto 0 0)).moves (.goto 0 0) 6 going ∧
      (loads .pick .pick).moves .pick 6 going ∧ (loads .place .place).moves .place 6 going ∧
      (loads .travelDst (.goto 0 0)).canTake going (trayOf 4) = true ∧
      ((loads .travelDst (.goto 0 0)).modDrive 4 (fun x => { x with phase := .trayClosing })).canTake going (trayOf 4) = false ∧
      (loads .travelDst (.goto 0 0)).transport.phase = .travelDst ∧ ArmOp.pick ≠ .home := by
  unfold State.moves; decide +kernel
/-- An operation abandoned in HELD. -/
def abandoned (p : ArmPhase) : State :=
  (arm .held p).modTransport (fun x => { x with outstanding := some { op := .pick, number := 6, abandoned := true } })
theorem witness_ArmAdvancesOrHolds_abandoned :
    (abandoned .homing).transport.outstanding = some { op := .pick, number := 6, abandoned := true } ∧
      (abandoned .homing).transport.mode ≠ .running ∧ (abandoned .homing).transport.phase = .homing ∧
      (abandoned .pick).transport.phase ≠ .homing := by decide +kernel
theorem test_abandoned_outcome :
    (after (.pickOutcome 6 .gripped) (abandoned .pick)).transport.outstanding = none ∧
      (after (.pickOutcome 6 .gripped) (abandoned .pick)).transport.mode = .held ∧
      (after (.homeOutcome 6 .stuck) (abandoned .homing)).transport.outstanding =
        some { op := .home, number := 0, abandoned := false } := by decide +kernel
theorem test_gotoOutcome :
    (after (.gotoOutcome 6 .atTarget) (loads .travelSrc (.goto 0 0))).transport.phase = .pick ∧
      (after (.gotoOutcome 6 .atTarget) (loads .travelDst (.goto 0 0))).transport.phase = .place ∧
      (after (.gotoOutcome 6 .atTarget) ((loads .travelDst (.goto 0 0)).modDrive 4
        (fun x => { x with phase := .trayClosing }))).transport.heldCause = some .refused := by decide +kernel
theorem test_armOperationTimeout :
    (after .armOperationTimeout (loads .pick .pick)).transport.heldCause = some .timeout ∧
      (after .armOperationTimeout (abandoned .pick)).transport.outstanding = none ∧
      (after .armOperationTimeout (abandoned .homing)).transport.outstanding =
        some { op := .home, number := 0, abandoned := false } := by decide +kernel
theorem test_dropped : (after .dropped (loads .place .place)).transport.heldCause = some .dropped := by decide +kernel

/-- The PICK of the LOAD after a first miss; the class on one spindle alone when `last` is set. -/
def missed (last : Bool) : State :=
  let s := (loads .pick .pick).modTransport (fun x => { x with pickMisses := 1 })
  if last then ((s.modStation 0 (fun x => { x with loaded := false })).modStation 2 (fun x => { x with loaded := false })).modStation
    3 (fun x => { x with loaded := false }) else s
theorem witness_SpindlePickOutcome :
    (loads .pick .pick).moves .pick 6 going ∧ going.kind = .load ∧ going.srcAt = some (spindleStation 1) ∧
      going.source = .mediaClass 3 ∧ going.order = some 1 ∧ going.token = none ∧ going.setAside = some 9 ∧
      going.dstAt = some (trayOf 4) ∧ (loads .pick .pick).transport.pickMisses = 0 ∧
      (missed false).moves .pick 6 going ∧ (missed false).transport.pickMisses ≠ 0 ∧
      ((missed false).station (spindleStation 0)).loaded = true ∧ ((missed false).station (spindleStation 0)).mediaClass = 3 ∧
      (∀ a : Fin 4, a ≠ 1 → ¬ (((missed true).station (spindleStation a)).loaded = true ∧
        ((missed true).station (spindleStation a)).mediaClass = 3)) := by
  unfold State.moves; decide +kernel
/-- The same where the spindle now has class 5, for which another LOAD waits. -/
def stranding : State :=
  let s := (missed false).modStation 1 (fun x => { x with mediaClass := 5 })
  s.setQueue (s.queue ++ [Entry.fresh .load (.mediaClass 5) (.station (trayOf 2)) none (some 2) (some 1)])
theorem test_pickOutcome :
    let t := after (.pickOutcome 6 .gripped) (loads .pick .pick)
    let u := after (.pickOutcome 6 .double) (loads .pick .pick)
    let v := after (.pickOutcome 6 .miss) (missed true)
    (t.record 9).location = .onArm ∧ (t.station 1).count = 49 ∧ (u.record 9).cause = some .doublePick ∧
      (u.station 1).count = 48 ∧ u.queue.length = 2 ∧ (v.station 1).loaded = false ∧ v.queue = [] ∧
      (v.record 9).use = .free ∧ (after (.pickOutcome 6 .miss) (missed false)).transport.phase = .travelSrc ∧
      (after (.pickOutcome 6 .miss) stranding).queue.length = 1 ∧ (after (.pickOutcome 6 .miss) stranding).transport.phase = .travelSrc ∧
      (after (.pickOutcome 6 .miss) (loads .pick .pick)).transport.pickMisses = 1 := by decide +kernel

/-- The last two discs of class 3 stand on spindle 1, and another LOAD waits for the class. -/
def lastTwo : State :=
  let s := (missed true).modStation 1 (fun x => { x with count := 2 })
  s.setQueue (s.queue ++ [{ load 3 with drive := some 2, dest := .station (trayOf 2) }])
theorem witness_SpindlePickOutcome_double :
    lastTwo.moves .pick 6 going ∧ (lastTwo.station (spindleStation 1)).loaded = true ∧
      (lastTwo.station (spindleStation 1)).count ≤ 2 ∧
      (∀ a : Fin 4, a ≠ 1 → ¬ ((lastTwo.station (spindleStation a)).loaded = true ∧
        (lastTwo.station (spindleStation a)).mediaClass = (lastTwo.station (spindleStation 1)).mediaClass)) ∧
      going.drive = some 4 ∧ (lastTwo.drive 4).state = .loading ∧
      (∀ f ∈ lastTwo.queue, f.current = false → f.drive ≠ some 4) ∧ 2 < ((loads .pick .pick).station (spindleStation 1)).count := by
  unfold State.moves; decide +kernel
theorem test_pickOutcome_lastTwo :
    let t := after (.pickOutcome 6 .double) lastTwo
    t.queue.map (fun e => (e.kind, e.drive)) = [(.purge, none), (.load, some 4)] ∧ t.drive 4 = lastTwo.drive 4 ∧
      (t.station 1).loaded = false ∧ (t.event .spindleEmpty).mask = 2 ∧ t.transport.phase = .travelDst := by decide +kernel

/-- The PICK of a disc at tray 4, or at PR, bound for bin B0. -/
def picks (s : State) (i : StationNo) : State :=
  carrying s .pick .pick { unload (.station stationB0) with source := .station i, current := true, srcAt := some i, dstAt := some stationB0 }
/-- The entry of `picks`. -/
def picking (i : StationNo) : Entry :=
  { unload (.station stationB0) with source := .station i, current := true, srcAt := some i, dstAt := some stationB0 }
/-- Drive 4 waits for the pick with nothing outstanding. -/
def givesTray : State := (loaded .unloading .waitPick .sense).modDrive 4 (fun x => { x with outstanding := none })
theorem witness_StationPickOutcome :
    (picks givesTray (trayOf 4)).moves .pick 6 (picking (trayOf 4)) ∧ 4 ≤ (trayOf 0).val ∧ (trayOf 15).val ≤ 20 ∧
      (picking (trayOf 4)).srcAt = some (trayOf 4) ∧ (picking (trayOf 4)).token = some tok ∧
      (picks givesTray (trayOf 4)).live tok = true ∧ (picking (trayOf 4)).dstAt = some stationB0 ∧
      ((picks givesTray (trayOf 4)).drive 4).outstanding = none ∧
      (picks (atPrinter .discharge .waitPick) stationPR).moves .pick 6 (picking stationPR) ∧ stationPR.val = 20 ∧
      (picks (atPrinter .discharge .waitPick) stationPR).live tok = true ∧
      (picks (atPrinter .discharge .waitPick) stationPR).printer.faultRun < 2 ∧
      (∀ f ∈ (picks (atPrinter .discharge .waitPick) stationPR).queue, f.dest ≠ .station stationPR) ∧
      (picks (atPrinter .discharge .waitPick) stationPR).printer.outstanding = none := by
  unfold State.moves; decide +kernel
/-- The pick at PR with a fault run of 2, or with another entry bound for PR. -/
def picksPR (run : Nat) (bound : Bool) : State :=
  let s := (picks (atPrinter .discharge .waitPick) stationPR).modPrinter (fun p => { p with faultRun := run })
  if bound then s.setQueue (s.queue ++ [unload (.station stationPR)]) else s
theorem witness_StationPickOutcome_printer :
    (picksPR 2 false).moves .pick 6 (picking stationPR) ∧ 2 ≤ (picksPR 2 false).printer.faultRun ∧
      (picksPR 1 true).moves .pick 6 (picking stationPR) ∧ (picksPR 1 true).printer.faultRun < 2 ∧
      (∃ f ∈ (picksPR 1 true).queue, f.dest = .station stationPR) ∧
      (after (.pickOutcome 6 .gripped) (picksPR 2 false)).printer.state = .faulted ∧
      (after (.pickOutcome 6 .gripped) (picksPR 1 true)).printer.state = .opened ∧
      (after (.pickOutcome 6 .gripped) (picksPR 1 false)).printer.phase = .closing ∧
      (after (.pickOutcome 6 .miss) (picks givesTray (trayOf 4))).transport.heldCause = some .miss := by
  unfold State.moves; decide +kernel

/-- The entry of `onArm`. -/
def placing (i : StationNo) : Entry := { unload (.station i) with current := true, srcAt := some (trayOf 5), dstAt := some i }
theorem witness_PlaceOutcomeEffect :
    (∀ i : StationNo, (onArm (queued []) i).transport.outstanding = some { op := .place, number := 6, abandoned := false }) ∧
      (onArm (queued []) (trayOf 4)).moves .place 6 (placing (trayOf 4)) ∧ (onArm rig stationPR).moves .place 6 (placing stationPR) ∧
      (onArm rig 21).moves .place 6 (placing 21) ∧ (onArm rig 23).moves .place 6 (placing 23) ∧
      (onArm rig 0).moves .place 6 (placing 0) ∧ (placing 21).token = some tok ∧ (onArm rig 21).live tok = true ∧
      ((onArm (queued []) (trayOf 4)).drive 4).outstanding = none ∧ ((onArm rig stationPR).record 9).cause = none ∧
      (((onArm rig 21).modStation 21 (fun x => { x with count := 1 })).station 21).count + 1 =
        ((onArm rig 21).station 21).capacity := by
  unfold State.moves; decide +kernel
/-- The disc of the tests spoiled before the printer takes it. -/
def spoiled : State := (onArm rig stationPR).modRecord 9 (fun r => { r with cause := some .abortAll })
theorem test_placeOutcome :
    ((after (.placeOutcome 6 .released) (onArm (queued []) (trayOf 4))).drive 4).trayRecord = some tok ∧
      ((after (.placeOutcome 6 .released) (onArm rig 21)).station 21).count = 1 ∧
      ((after (.placeOutcome 6 .released) (onArm rig 0)).station 0).count = 51 ∧
      ((after (.placeOutcome 6 .released) (onArm rig 0)).record 9).use = .free ∧
      (after (.placeOutcome 6 .released) (onArm rig stationPR)).printer.phase = .trayIn ∧
      (after (.placeOutcome 6 .released) spoiled).printer.phase = .waitPick ∧
      (after (.placeOutcome 6 .stuck) (onArm rig 0)).transport.heldCause = some .stuck := by decide +kernel

/-- A HOME with number 6 waits for its end in a mode, with the entries `q`. -/
def homes (m : TransportMode) (s : State) (q : List Entry) : State :=
  (s.setQueue q).modTransport (fun x => { x with
    mode := m, phase := .homing, outstanding := some { op := .home, number := 6, abandoned := false }, nextNumber := 7,
    heldCause := if m = .held then some .stuck else none, heldCopy := decide (m = .held) })
/-- Every record is in use. -/
def fullRecords : State := { rig with records := Vector.replicate 64 disc }
theorem witness_HomeOutcome_start :
    (homes .parked rig []).transport.outstanding = some { op := .home, number := 6, abandoned := false } ∧
      (homes .parked rig []).transport.mode ≠ .held ∧ (homes .parked rig []).freeRecord = some 0 ∧
      (homes .parked fullRecords []).freeRecord = none ∧
      (after (.homeOutcome 6 (.homed false)) (homes .parked rig [])).transport.mode = .running ∧
      (after (.homeOutcome 6 (.homed true)) (homes .parked fullRecords [])).transport.heldCause = some .noRecord := by
  decide +kernel
/-- The disc of the tests on the arm at a Resume. -/
def armDisc : State := homes .held (rig.modRecord 9 (fun _ => { disc with location := .onArm })) [placing 21]
theorem witness_HomeOutcome_resume :
    (homes .held rig []).transport.mode = .held ∧ (homes .held rig []).currentEntry = none ∧
      (homes .held rig []).transport.heldCopy = true ∧ armDisc.currentEntry = some (placing 21) ∧
      (placing 21).token = some tok ∧ armDisc.live tok = true ∧ (armDisc.record 9).location = .onArm ∧
      armDisc.destOf (placing 21) = 21 ∧ (homes .held aside [going]).currentEntry = some going ∧
      (homes .held aside [going]).picked going = false ∧ ((homes .held aside [going]).record 9).use = .setAside ∧
      (homes .held rig []).freeRecord = some 0 := by decide +kernel
/-- A Resume with the disc of the tests still at station `i` as far as its record says. -/
def unanswered (s : State) (i : StationNo) (waiting : List Entry) : State := homes .held s (picking i :: waiting)
theorem witness_HomeOutcome_unanswered :
    (homes .held fullRecords []).currentEntry = none ∧ (homes .held fullRecords []).freeRecord = none ∧
      (unanswered givesTray (trayOf 4) []).currentEntry = some (picking (trayOf 4)) ∧
      (unanswered givesTray (trayOf 4) []).live tok = true ∧
      ((unanswered givesTray (trayOf 4) []).record 9).location ≠ .onArm ∧
      ((unanswered givesTray (trayOf 4) []).drive 4).outstanding = none ∧
      (unanswered (faulty .discharge 2) stationPR []).currentEntry = some (picking stationPR) ∧
      ((unanswered (faulty .discharge 2) stationPR []).record 9).location ≠ .onArm ∧
      2 ≤ (unanswered (faulty .discharge 2) stationPR []).printer.faultRun ∧
      (unanswered (faulty .discharge 1) stationPR []).printer.faultRun < 2 ∧
      (∀ f ∈ (unanswered (faulty .discharge 1) stationPR []).queue, f.dest ≠ .station stationPR) ∧
      (unanswered (faulty .discharge 1) stationPR []).printer.outstanding = none ∧
      (∃ f ∈ (unanswered (faulty .discharge 1) stationPR [unload (.station stationPR)]).queue, f.dest = .station stationPR) := by
  decide +kernel
theorem test_homeOutcome_unanswered :
    let holding := fun s : State => after (.homeOutcome 6 (.homed true)) s
    let t := holding (unanswered givesTray (trayOf 4) [])
    (t.record 9).location = .onArm ∧ (t.drive 4).trayRecord = none ∧ (t.drive 4).phase = .trayClosing ∧
      t.transport.phase = .travelDst ∧ t.transport.mode = .running ∧
      (holding (homes .held fullRecords [])).transport.heldCause = some .noRecord ∧
      (holding (homes .held fullRecords [])).transport.heldCopy = true ∧
      (holding (unanswered (faulty .discharge 2) stationPR [])).printer.state = .faulted ∧
      (holding (unanswered (faulty .discharge 1) stationPR [])).printer.phase = .closing ∧
      (holding (unanswered (faulty .discharge 1) stationPR [unload (.station stationPR)])).printer.state = .opened := by
  decide +kernel
theorem test_homeOutcome :
    (after (.homeOutcome 6 (.homed true)) armDisc).transport.phase = .travelDst ∧
      ((after (.homeOutcome 6 (.homed false)) armDisc).record 9).use = .free ∧
      ((after (.homeOutcome 6 (.homed true)) (homes .held aside [going])).record 9).location = .onArm ∧
      ((after (.homeOutcome 6 (.homed false)) (homes .held aside [going])).transport.mode = .running) ∧
      (after .armOperationTimeout armDisc).transport.mode = .held := by decide +kernel

/-! ### Drive ports -/

/-- A SPEED of Apply Now waits on the port of a FAULTED drive. -/
def speedWaits : State := withDrive { slot with state := .faulted, applyStatus := .inProgress, waiting := some (.speed 24 2 .apply) }
theorem witness_PortCheckAndReset :
    parseMask (cmd [0x80, 0x10]).body = some 0x8010#16 ∧ (0x8010#16).getLsbD 4 = true ∧ (0x8010#16).getLsbD 15 = true ∧
      parseName 16 (cmd [4]).body = some (4 : Fin 16) ∧ parseName 16 (cmd [15]).body = some (15 : Fin 16) ∧
      speedWaits.handlesAsNew 7 false ∧ (speedWaits.drive 4).state = .faulted ∧ (speedWaits.drive 4).checkPhase = .idle ∧
      (speedWaits.drive 4).waiting = some (.speed 24 2 .apply) ∧ (speedWaits.drive 15).checkPhase ≠ .idle ∧
      ((withDrive { slot with state := .absent }).drive 4).waiting = none := by
  unfold State.handlesAsNew; decide +kernel
theorem test_portCheck :
    let t := after (.portCheck (cmd [0x80, 0x10])) (withDrive slot)
    (t.drive 4).checkPhase = .checking ∧ t.outbound = [.reply 7 .command 19 .ok none 0x8000 0] ∧
      (after (.portCheck (cmd [0, 0x10])) ready).outbound = [.reply 7 .command 19 .ok none 0x10 0] := by decide +kernel
theorem test_portReset :
    let t := after (.portReset (cmd [4])) speedWaits
    (t.drive 4).applyStatus = .speedFailed ∧ (t.drive 4).checkPhase = .checking ∧ (t.drive 4).waiting = none ∧
      t.outbound = [.event .applyDone, .reply 7 .command 20 .ok none 0 0] ∧
      ((after (.portReset (cmd [4])) (withDrive { slot with state := .absent })).drive 4).checkPhase = .checking ∧
      status (after (.portReset (cmd [4])) (withDrive slot)) = some .busy := by decide +kernel

/-- Drive 4 under a port check in a state. -/
def checked (st : DriveState) : State := withDrive { slot with state := st, checkPhase := .checking }
theorem witness_PortCheckEnds :
    ((checked .empty).drive 4).checkPhase = .checking ∧ ((checked .empty).drive 4).outstanding = none ∧
      ((checked .empty).drive 4).state ≠ .absent ∧ ((checked .absent).drive 4).state = .absent := by decide +kernel
theorem test_portCheckExchangeEnd :
    ((after (.portCheckExchangeEnd 4 .good) (checked .empty)).drive 4).outstanding = some { req := .sense, number := 0 } ∧
      ((after (.portCheckExchangeEnd 4 .wrongDevice) (checked .empty)).drive 4).state = .absent ∧
      ((after (.portCheckExchangeEnd 4 .linkErrors) (checked .empty)).event .portCheck).mask = 16 := by decide +kernel
theorem test_portCheckTimeout :
    ((after (.portCheckTimeout 4) (checked .empty)).drive 4).checkResult = some .noResponse := by decide +kernel

/-- The SENSE of a check waits on drive 4, with a tray record or without. -/
def sensing (k : Option Token) : State :=
  (loaded .faulted .noPhase .sense).modDrive 4 (fun x => { x with checkPhase := .sensing, trayRecord := k })
theorem witness_CheckSenseSettles :
    (sensing (some tok)).awaits 4 .sense 6 ∧ (sensing none).awaits 4 .sense 6 ∧
      ((sensing none).drive 4).checkPhase = .sensing ∧ ((sensing (some tok)).drive 4).trayRecord = some tok ∧
      (sensing (some tok)).live tok = true ∧ ((sensing none).drive 4).trayRecord = none ∧ (sensing none).freeRecord = some 0 ∧
      ({ sensing none with records := Vector.replicate 64 disc }).freeRecord = none ∧ FaultCause.tray ≠ .noDisc := by
  unfold State.awaits; decide +kernel
theorem test_senseReply_check :
    ((after (.senseReply 4 6 (.done false 0)) (sensing (some tok))).drive 4).state = .empty ∧
      ((after (.senseReply 4 6 (.done true 3)) (sensing (some tok))).drive 4).entry = some .unload ∧
      ((after (.senseReply 4 6 (.done true 3)) (sensing none)).drive 4).entry = some .purge ∧
      ((after (.senseReply 4 6 (.done true 3)) { sensing none with records := Vector.replicate 64 disc }).drive
        4).lastFault = some .noRecord ∧
      ((after (.senseReply 4 6 (.fault .other)) (sensing none)).drive 4).lastFault = some (.fault .sense .other) := by
  decide +kernel

/-- The same with the SPEED of an Apply Now waiting through the check. -/
def sensingSpeed (k : Option Token) : State :=
  (sensing k).modDrive 4 (fun x => { x with waiting := some (.speed 24 2 .apply), applyStatus := .inProgress })
theorem witness_CheckSenseSettles_speed :
    ∀ k ∈ [none, some tok], ((sensingSpeed k).drive 4).outstanding = some { req := .sense, number := 6 } ∧
      ((sensingSpeed k).drive 4).waiting = some (.speed 24 2 .apply) ∧ ((sensingSpeed k).drive 4).checkPhase = .sensing ∧
      ((sensingSpeed k).drive 4).applyStatus = .inProgress ∧ ((sensingSpeed k).drive 4).trayRecord = k ∧
      (sensingSpeed k).freeRecord ≠ none := by decide +kernel
theorem test_senseReply_speed :
    let t := after (.senseReply 4 6 (.done false 0)) (sensingSpeed (some tok))
    let u := after (.senseReply 4 6 (.done true 3)) (sensingSpeed none)
    (t.drive 4).state = .empty ∧ (t.drive 4).outstanding = some { req := .speed 24 2 .apply, number := 7 } ∧
      (t.drive 4).applyStatus = .inProgress ∧ (u.drive 4).applyStatus = .speedFailed ∧ (u.drive 4).waiting = none ∧
      (u.drive 4).outstanding = some { req := .trayOpen, number := 7 } := by decide +kernel

/-- The media SENSE waits on drive 4. -/
def media : State := loaded .loading .mediaSense .sense
theorem witness_StaleAnswersChangeNothing :
    (ready.drive 4).outstanding = none ∧ (media.drive 4).outstanding = some { req := .sense, number := 6 } ∧ (6 : Byte) ≠ 7 ∧
      (ready.drive 4).checkPhase ≠ .checking ∧ ((sensing none).drive 4).outstanding ≠ none := by decide +kernel
theorem test_stale_answer : after (.senseReply 4 7 (.done true 3)) media = media := by decide +kernel
theorem witness_StaleAnswers_others :
    rig.transport.outstanding = none ∧ rig.transport.mode ≠ .running ∧ (arm .running .pick).transport.phase ≠ .travelDst ∧
      (arm .running .pick).transport.phase ≠ .place ∧ rig.printer.outstanding = none ∧
      (atPrinter .idle .noPhase).printer.checkPhase ≠ .checking ∧ rig.settings.access ≠ .loading ∧
      rig.settings.access ≠ .storing := by decide +kernel

/-- A request of drive 4 is outstanding with TRAY-OPEN waiting behind it, after `k` timeouts. -/
def behind (req : DriveRequest) (k : Nat) : State :=
  (loaded .unloading .trayOpening req).modDrive 4 (fun x => { x with waiting := some .trayOpen, timeoutCount := k })
theorem witness_StaleAnswers_waiting :
    ∀ req ∈ [DriveRequest.trayClose, .speed 24 2 .loading, .write 0 32 [], .close, .read 0 1, .sense], ∀ k ∈ [0, 1],
      ((behind req k).drive 4).outstanding = some { req := req, number := 6 } ∧
      ((behind req k).drive 4).waiting = some .trayOpen ∧ req ≠ .speed 24 2 .apply ∧
      ((behind req k).drive 4).checkPhase ≠ .sensing ∧ ((behind req k).drive 4).timeoutCount = k := by decide +kernel
theorem test_waiting_is_sent :
    let next := some { req := DriveRequest.trayOpen, number := 7 }
    let t := after (.readReply 4 6 (.data (sec 1))) (behind (.read 0 1) 1)
    let u := after (.writeReply 4 6 (.fault .media)) (behind (.write 0 32 []) 1)
    let v := after (.driveRequestTimeout 4) (behind .sense 0)
    (t.drive 4).outstanding = next ∧ (t.drive 4).waiting = none ∧ (t.drive 4).timeoutCount = 0 ∧
      (u.drive 4).outstanding = next ∧ (u.drive 4).lastFault = some (.fault .write .media) ∧ u.records = (behind .close 0).records ∧
      (v.drive 4).outstanding = next ∧ (v.drive 4).timeoutCount = 1 ∧
      ((after (.driveRequestTimeout 4) (behind .sense 1)).drive 4).state = .faulted := by decide +kernel

theorem witness_TrayReplies :
    (loaded .loading .trayOpening .trayOpen).awaits 4 .trayOpen 6 ∧ (loaded .unloading .trayOpening .trayOpen).awaits 4 .trayOpen 6 ∧
      ((loaded .loading .trayOpening .trayOpen).drive 4).phase = .trayOpening ∧
      ((loaded .unloading .trayOpening .trayOpen).drive 4).state = .unloading ∧
      (loaded .loading .trayClosing .trayClose).awaits 4 .trayClose 6 ∧
      ((loaded .loading .trayClosing .trayClose).drive 4).phase = .trayClosing ∧
      ((loaded .loading .trayClosing .trayClose).drive 4).checkPhase = .idle ∧
      ((loaded .loading .trayClosing .trayClose).drive 4).trayRecord = some tok ∧
      (loaded .loading .trayClosing .trayClose).code 2 ≠ 0 ∧ ((loaded .loading .trayClosing .trayClose).setCode 2 0).code 2 = 0 ∧
      (loaded .loading .trayClosing .trayClose).live tok = true ∧ disc.origin = .spindle 1 ∧
      (loaded .unloading .trayClosing .trayClose).awaits 4 .trayClose 6 ∧
      ((loaded .unloading .trayClosing .trayClose).drive 4).state = .unloading ∧
      (loaded .unloading .trayClosing .trayClose).transport.autoFeed = false := by
  unfold State.awaits; decide +kernel
theorem test_trayOpenReply :
    ((after (.trayOpenReply 4 6 (.done false 0)) (loaded .loading .trayOpening .trayOpen)).drive 4).phase = .waitDisc ∧
      ((after (.trayOpenReply 4 6 (.done false 0)) (loaded .unloading .trayOpening .trayOpen)).drive 4).phase = .waitPick ∧
      ((after (.trayOpenReply 4 6 (.fault .tray)) (loaded .unloading .trayOpening .trayOpen)).drive 4).state = .faulted := by
  decide +kernel
theorem test_trayCloseReply :
    ((after (.trayCloseReply 4 6 (.done false 0)) (loaded .loading .trayClosing .trayClose)).drive 4).outstanding =
        some { req := .speed 24 2 .loading, number := 7 } ∧
      ((after (.trayCloseReply 4 6 (.done false 0)) ((loaded .loading .trayClosing .trayClose).setCode 2 0)).drive
        4).entry = some .return ∧
      ((after (.trayCloseReply 4 6 (.done false 0)) (loaded .unloading .trayClosing .trayClose)).drive 4).state = .empty := by
  decide +kernel

/-- A SPEED of Apply Now is outstanding on an EMPTY drive. -/
def applying : State :=
  withDrive { slot with applyStatus := .inProgress, outstanding := some { req := .speed 24 2 .apply, number := 6 } }
theorem witness_SpeedReply :
    (loaded .loading .speedSet (.speed 24 2 .loading)).awaits 4 (.speed 24 2 .loading) 6 ∧
      ((loaded .loading .speedSet (.speed 24 2 .loading)).drive 4).phase = .speedSet ∧
      ((loaded .loading .speedSet (.speed 24 2 .loading)).drive 4).checkPhase = .idle ∧
      ((loaded .loading .speedSet (.speed 24 2 .loading)).drive 4).trayRecord = some tok ∧
      (loaded .loading .speedSet (.speed 24 2 .loading)).live tok = true ∧ FaultCause.speed ≠ .tray ∧
      applying.awaits 4 (.speed 24 2 .apply) 6 ∧ (applying.drive 4).state = .empty ∧ applying.transport.autoFeed = false := by
  unfold State.awaits; decide +kernel
theorem test_speedReply :
    ((after (.speedReply 4 6 (.done false 0)) (loaded .loading .speedSet (.speed 24 2 .loading))).record 9).rung = some 2 ∧
      ((after (.speedReply 4 6 (.fault .speed)) (loaded .loading .speedSet (.speed 24 2 .loading))).record 9).cause =
        some .mediaMismatch ∧
      ((after (.speedReply 4 6 (.fault .tray)) (loaded .loading .speedSet (.speed 24 2 .loading))).drive 4).state = .faulted ∧
      ((after (.speedReply 4 6 (.done false 0)) applying).drive 4).applyStatus = .success ∧
      ((after (.speedReply 4 6 (.fault .speed)) applying).drive 4).applyStatus = .speedFailed := by decide +kernel

/-- Wave 2 is OPEN for image 0 as well. -/
def mediaWave : State := media.modWave 2 (fun x => { x with state := .opened, slot := some 0, capacity := 64 })
theorem witness_MediaSense :
    media.awaits 4 .sense 6 ∧ (media.drive 4).state = .loading ∧ (media.drive 4).phase = .mediaSense ∧
      (media.drive 4).checkPhase = .idle ∧ (media.drive 4).trayRecord = some tok ∧ media.live tok = true ∧
      (media.record 9).mediaClass = 3 ∧ (media.record 9).order = some 1 ∧ (media.order 1).state ≠ .held ∧
      (media.order 1).slot = 0 ∧ (∀ w : WaveNo, ¬ ((media.wave w).state = .opened ∧ (media.wave w).slot = some 0)) ∧
      (mediaWave.wave 2).state = .opened ∧ (mediaWave.wave 2).slot = some 0 ∧
      ((media.modOrder 1 (fun o => { o with state := .held })).order 1).state = .held ∧ disc.origin = .spindle 1 ∧
      (3 : Fin 16).val ≠ 0 ∧ (media.record 9).mediaClass ≠ (4 : Fin 16).val ∧ FaultCause.noDisc ≠ .tray := by
  unfold State.awaits; decide +kernel
theorem test_senseReply :
    ((after (.senseReply 4 6 (.done true 3)) media).drive 4).state = .ready ∧
      ((after (.senseReply 4 6 (.done true 3)) mediaWave).drive 4).state = .burning ∧
      ((after (.senseReply 4 6 (.done true 3)) (media.modOrder 1 (fun o => { o with state := .held }))).drive 4).entry =
        some .return ∧
      (∀ r ∈ [DriveReply.done true 4, .done true 0, .done false 3, .fault .noDisc],
        ((after (.senseReply 4 6 r) media).record 9).cause = some .mediaMismatch) := by decide +kernel

/-- Drive 4 of wave 2 has a WRITE of its first sectors outstanding; the head stands at `head`. -/
def writing (head count : Nat) (st : WaveState) : State :=
  (wave.modWave 2 (fun x => { x with
    state := st, head := head, held := [{ first := 0, last := head - 1, isRun := true, payload := bytes [1] }],
    attachments := [{ drive := 4, cursor := 0, inFlight := some { first := 0, count := count } }] })).modDrive 4
    (fun x => { x with outstanding := some { req := .write 0 count [], number := 6 } })
theorem witness_WriteReply :
    (writing 40 32 .streaming).awaits 4 (.write 0 32 []) 6 ∧ (writing 40 32 .streaming).waveOf 4 = some 2 ∧
      ((writing 40 32 .streaming).wave 2).attachment 4 = some { drive := 4, cursor := 0, inFlight := some { first := 0, count := 32 } } ∧
      ((writing 40 32 .streaming).drive 4).checkPhase = .idle ∧ ((writing 40 32 .streaming).drive 4).state = .burning ∧
      0 + 32 ≠ (writing 40 32 .streaming).waveLength 2 ∧ 0 + 32 < ((writing 40 32 .streaming).wave 2).head ∧
      (writing 32 32 .streaming).awaits 4 (.write 0 32 []) 6 ∧ ¬ 0 + 32 < ((writing 32 32 .streaming).wave 2).head ∧
      (writing 40 40 .draining).awaits 4 (.write 0 40 []) 6 ∧ 0 + 40 = (writing 40 40 .draining).waveLength 2 ∧
      ((writing 40 40 .draining).wave 2).state = .draining := by
  unfold State.awaits; decide +kernel
theorem test_writeReply :
    let t := after (.writeReply 4 6 (.done false 0)) (writing 40 32 .streaming)
    let u := after (.writeReply 4 6 (.done false 0)) (writing 40 40 .draining)
    written (t.drive 4) = some (32, 8, 8) ∧ (u.drive 4).state = .closing ∧ (u.wave 2).endCause = .drained ∧
      ((after (.writeReply 4 6 (.fault .media)) (writing 40 32 .streaming)).record 9).cause = some .writeFault ∧
      ((after (.writeReply 4 6 (.fault .tray)) (writing 40 32 .streaming)).drive 4).state = .faulted := by decide +kernel

theorem witness_WriteReply_lastDrive :
    ∀ st ∈ [WaveState.opened, .streaming, .draining], (writing 40 32 st).awaits 4 (.write 0 32 []) 6 ∧
      (writing 40 32 st).waveOf 4 = some 2 ∧ ((writing 40 32 st).wave 2).state = st ∧ ((writing 40 32 st).wave 2).held ≠ [] ∧
      ∀ b ∈ ((writing 40 32 st).wave 2).attachments, b.drive = 4 := by
  unfold State.awaits; decide +kernel
theorem test_writeReply_lastDrive :
    let t := after (.writeReply 4 6 (.fault .media)) (writing 40 32 .draining)
    (t.wave 2).endCause = .noDrives ∧ (t.event .waveState).value = some (.wave 2 .idle .noDrives) ∧
      ((after (.writeReply 4 6 (.fault .media)) (writing 40 32 .opened)).wave 2).state = .opened := by decide +kernel

/-- Drive 4 closes its disc; the contexts of VE are all taken when `taken` is set. -/
def closing (m : VerifyMode) (taken : Bool) : State :=
  let s := (loaded .closing .noPhase .close).modDrive 4 (fun x => { x with active := some { work with mode := m } })
  if taken then { s with contexts := Vector.replicate 4 (some { drive := 7, work := .reset, slice := 0, reading := none }) } else s
theorem witness_CloseReply :
    (closing .full false).awaits 4 .close 6 ∧ ((closing .full false).drive 4).state = .closing ∧
      ((closing .full false).drive 4).checkPhase = .idle ∧ ((closing .full false).drive 4).trayRecord = some tok ∧
      (closing .full false).live tok = true ∧ ((closing .full false).drive 4).active = some { work with mode := .full } ∧
      (closing .full false).verifyQueue = [] ∧ (∃ c, (closing .full false).context c = none) ∧
      (∀ c, (closing .full true).context c ≠ none) ∧ ((closing .full false).record 9).cause = none ∧
      ((closing .full false).record 9).slot = some 0 ∧ (closing .none false).awaits 4 .close 6 ∧
      ((closing .full false).modRecord 9 (fun r => { r with cause := some .abortAll })).awaits 4 .close 6 := by
  unfold State.awaits; decide +kernel
/-- Drive 8 waits in the verify queue before drive 4 comes. -/
def queueing : State := (closing .sampled true).setVerifyQueue [8]
theorem witness_CloseReply_queue :
    queueing.awaits 4 .close 6 ∧ (∀ c, queueing.context c ≠ none) ∧ queueing.verifyQueue = [8] ∧
      (closing .full false).context 0 = none ∧ (∀ b : Fin 4, b < 0 → (closing .full false).context b ≠ none) := by
  unfold State.awaits; decide +kernel
theorem test_closeReply_verify :
    let t := after (.closeReply 4 6 (.done false 0)) (closing .full false)
    let u := after (.closeReply 4 6 (.done false 0)) queueing
    t.context 0 = some { drive := 4, work := .reset, slice := 0, reading := some { first := 0, blocks := 3 } } ∧
      (t.save 4).sub = .active ∧ (t.save 4).progress = .reset ∧ u.verifyQueue = [8, 4] ∧ (u.save 4).sub = .queued ∧
      (u.save 4).mode = some .sampled ∧ (u.save 4).stride = some 0 ∧ (u.drive 4).outstanding = none := by decide +kernel
theorem test_closeReply :
    let t := after (.closeReply 4 6 (.done false 0)) (closing .full false)
    (t.drive 4).outstanding = some { req := .read 0 40, number := 7 } ∧ (t.record 9).burn = .pass ∧
      ((after (.closeReply 4 6 (.done false 0)) (closing .sampled false)).drive 4).outstanding = some { req := .read 0 16, number := 7 } ∧
      (after (.closeReply 4 6 (.done false 0)) (closing .full true)).verifyQueue = [4] ∧
      ((after (.closeReply 4 6 (.done false 0)) (closing .none false)).record 9).verify = .skipped ∧
      ((after (.closeReply 4 6 (.fault .media)) (closing .full false)).record 9).cause = some .closeFault ∧
      ((after (.closeReply 4 6 (.fault .tray)) (closing .full false)).drive 4).state = .faulted := by decide +kernel

/-- Drive 4 verifies image 1 of `length` sectors, whose digests are those of sectors of ones, with the READ of its
first block outstanding. -/
def verifies (length slice errors consecutive : Nat) : State :=
  ((((loaded .verifying .noPhase (.read 0 1)).modImage 1 (fun x => { x with
    state := .complete, length := length, digests := List.replicate (blocksOf length) (crc32 (sec 1)), verifyCount := 1 })).modSave 4
    (fun v => { v with sub := .active, slot := some 1, length := length, lastBlock := blocksOf length - 1, mode := some .full,
                       tolerance := 1 })).setContext 2
    (some { drive := 4, slice := slice, reading := some { first := 0, blocks := 1 },
            work := { Progress.reset with errors := errors, consecutive := consecutive } }))
/-- Every context is taken and drive 8 waits in the verify queue. -/
def crowded : State :=
  let s := verifies 17 7 0 0
  let other : Option Context := some { drive := 7, work := .reset, slice := 0, reading := none }
  (((s.setContext 0 other).setContext 1 other).setContext 3 other).setVerifyQueue [8]
theorem witness_ReadReply :
    (verifies 1 0 0 0).awaits 4 (.read 0 1) 6 ∧ (verifies 1 0 0 0).contextOf 4 = some 2 ∧
      (((verifies 1 0 0 0).context 2).map (·.drive)) = some 4 ∧
      (((verifies 1 0 0 0).context 2).bind (·.reading)) = some { first := 0, blocks := 1 } ∧
      ((verifies 1 0 0 0).drive 4).checkPhase = .idle ∧ ((verifies 1 0 0 0).drive 4).state = .verifying ∧
      (sec 1).length = 2048 * 1 ∧ ((verifies 1 0 0 0).save 4).blockAfter 0 = ((verifies 1 0 0 0).save 4).lastBlock + 1 ∧
      ((verifies 17 0 0 0).save 4).blockAfter 0 ≠ ((verifies 17 0 0 0).save 4).lastBlock + 1 ∧
      crowded.awaits 4 (.read 0 1) 6 ∧ crowded.verifyQueue = [8] ∧ (∀ j, crowded.context j ≠ none) ∧
      (verifies 17 7 0 0).verifyQueue = [] := by
  unfold State.awaits; decide +kernel
set_option maxRecDepth 100000 in
theorem test_readReply_data :
    let t := after (.readReply 4 6 (.data (sec 1))) (verifies 1 0 0 0)
    (t.save 4).lastEnding = .pass ∧ (t.record 9).verify = .pass ∧ (t.image 1).verifyCount = 0 ∧
      ((after (.readReply 4 6 (.data (sec 2))) (verifies 1 0 1 0)).record 9).cause = some .verifyErrors ∧
      ((after (.readReply 4 6 (.data (sec 2))) (verifies 1 0 0 0)).record 9).errorBlocks = 1 ∧
      ((after (.readReply 4 6 (.data (sec 1))) (verifies 17 0 0 0)).drive 4).outstanding = some { req := .read 16 1, number := 7 } ∧
      (after (.readReply 4 6 (.data (sec 1))) crowded).verifyQueue = [4] := by decide +kernel
theorem test_readReply_fault :
    ((after (.readReply 4 6 (.fault .media)) (verifies 17 0 0 2)).record 9).cause = some .unreadable ∧
      ((after (.readReply 4 6 (.fault .media)) (verifies 17 0 1 0)).record 9).cause = some .verifyErrors ∧
      (((after (.readReply 4 6 (.fault .media)) (verifies 17 0 0 1)).context 2).map (·.work.consecutive)) = some 2 := by
  decide +kernel

theorem witness_ReadReply_fails :
    FaultCause.media ≠ .tray ∧ ((verifies 1 0 0 0).save 4).tolerance = 1 ∧ (crowded.save 4).tolerance = 1 ∧
      4 ∉ crowded.verifyQueue ∧ (verifies 17 7 0 0).contextOf 4 = some 2 ∧ crowded.contextOf 4 = some 2 ∧
      (((verifies 17 7 0 0).context 2).map (·.slice)) = some 7 ∧ ((crowded.context 2).map (·.slice)) = some 7 ∧
      ((verifies 17 0 0 0).save 4).slot = some 1 ∧ ((verifies 17 0 0 0).drive 4).trayRecord = some tok ∧
      (verifies 17 0 0 0).live tok = true := by decide +kernel
theorem test_readReply_fails :
    let fails := fun (r : FaultCause) (s : State) => after (.readReply 4 6 (.fault r)) s
    let t := fails .media (verifies 1 0 0 0)
    let u := fails .media (verifies 17 7 0 0)
    let v := fails .media crowded
    let x := fails .tray (verifies 17 0 0 0)
    (t.save 4).lastEnding = .pass ∧ (t.save 4).progress.errors = 1 ∧ (t.save 4).progress.compared = 0 ∧
      (t.record 9).verify = .pass ∧ (t.record 9).errorBlocks = 1 ∧
      ((u.context 2).map (fun z => (z.slice, z.work.next, z.work.firstError))) = some (0, 1, some 0) ∧
      (u.drive 4).outstanding = some { req := .read 16 1, number := 7 } ∧
      v.verifyQueue = [4] ∧ ((v.context 2).map (·.drive)) = some 8 ∧ (v.save 4).progress.readFaults = 1 ∧
      (x.drive 4).state = .faulted ∧ (x.save 4).lastEnding = .driveFault ∧ (x.record 9).verify = .fail ∧
      (x.record 9).cause = some .driveFault ∧ x.context 2 = none ∧ (x.image 1).verifyCount = 0 := by decide +kernel

/-- A request is outstanding, and one before it has timed out when `k` is 1. -/
def waits (st : DriveState) (ph : DrivePhase) (req : DriveRequest) (k : Nat) : State :=
  (loaded st ph req).modDrive 4 (fun x => { x with timeoutCount := k })
theorem witness_DriveTimeout :
    (waits .loading .trayOpening .trayOpen 1).awaits 4 .trayOpen 6 ∧ 1 ≤ ((waits .loading .trayOpening .trayOpen 1).drive 4).timeoutCount ∧
      (waits .loading .trayOpening .trayOpen 0).awaits 4 .trayOpen 6 ∧ (waits .loading .mediaSense .sense 0).awaits 4 .sense 6 ∧
      ((waits .loading .mediaSense .sense 0).drive 4).checkPhase ≠ .checking ∧
      (writing 40 32 .streaming).awaits 4 (.write 0 32 []) 6 ∧ (writing 40 32 .streaming).waveOf 4 = some 2 ∧
      (waits .closing .noPhase .close 0).awaits 4 .close 6 ∧
      (waits .loading .speedSet (.speed 24 2 .loading) 0).awaits 4 (.speed 24 2 .loading) 6 ∧
      applying.awaits 4 (.speed 24 2 .apply) 6 ∧ applying.transport.autoFeed = false := by
  unfold State.awaits; decide +kernel
/-- The first READ of drive 4's verify after `k` timeouts in a row. -/
def readWaits (k : Nat) : State := (verifies 17 0 0 0).modDrive 4 (fun x => { x with timeoutCount := k })
theorem witness_DriveTimeout_read :
    ∀ k ∈ [0, 1], (readWaits k).awaits 4 (.read 0 1) 6 ∧ ((readWaits k).drive 4).timeoutCount = k ∧
      (readWaits k).contextOf 4 = some 2 ∧ ((readWaits k).drive 4).checkPhase = .idle ∧
      ((readWaits k).drive 4).state = .verifying ∧ (readWaits k).verifyQueue = [] := by
  unfold State.awaits; decide +kernel
theorem test_driveRequestTimeout_read :
    let t := after (.driveRequestTimeout 4) (readWaits 0)
    let u := after (.driveRequestTimeout 4) (readWaits 1)
    ((t.context 2).map (fun z => (z.work.errors, z.work.readFaults, z.work.consecutive))) = some (1, 1, 1) ∧
      (t.drive 4).outstanding = some { req := .read 16 1, number := 7 } ∧ (t.drive 4).timeoutCount = 1 ∧
      (u.drive 4).state = .faulted ∧ (u.save 4).lastEnding = .driveFault ∧ (u.save 4).progress.errors = 0 ∧
      u.context 2 = none := by decide +kernel
theorem test_driveRequestTimeout :
    ((after (.driveRequestTimeout 4) (waits .loading .trayOpening .trayOpen 1)).drive 4).state = .faulted ∧
      ((after (.driveRequestTimeout 4) (waits .loading .trayOpening .trayOpen 0)).drive 4).outstanding =
        some { req := .trayOpen, number := 7 } ∧
      ((after (.driveRequestTimeout 4) (writing 40 32 .streaming)).record 9).cause = some .timeout ∧
      ((after (.driveRequestTimeout 4) (waits .closing .noPhase .close 0)).record 9).burn = .fail ∧
      ((after (.driveRequestTimeout 4) (waits .loading .speedSet (.speed 24 2 .loading) 0)).drive 4).state = .unloading ∧
      ((after (.driveRequestTimeout 4) applying).drive 4).applyStatus = .speedFailed := by decide +kernel

/-! ### The printer -/

/-- The printer in a state and a phase, a request sent with number 6, the disc of the tests in it when `holds` is set. -/
def prints (st : PrinterState) (ph : PrinterPhase) (req : PrinterRequest) (holds : Bool) : State :=
  (atPrinter st ph).modPrinter (fun p => { p with
    outstanding := some { req := req, number := 6 }, nextNumber := 7, token := if holds then some tok else none })
/-- The same during the SENSE of a link check. -/
def senses (holds : Bool) : State := (prints .faulted .noPhase .sense holds).modPrinter (fun p => { p with checkPhase := .sensing })
/-- The printer under a link check. -/
def linkCheck : State := rig

theorem witness_PrinterReset :
    (cmd []).body = [] ∧ (prints .faulted .noPhase .sense true).handlesAsNew 7 false ∧
      (prints .faulted .noPhase .sense true).printer.state = .faulted ∧
      (prints .offline .noPhase .sense true).printer.checkPhase = .idle ∧ linkCheck.printer.checkPhase = .checking ∧
      (prints .printing .start .finish true).printer.state ≠ .faulted := by
  unfold State.handlesAsNew; decide +kernel
theorem test_printerReset :
    (after (.printerReset (cmd [])) (prints .faulted .noPhase .sense true)).printer.checkPhase = .checking ∧
      status (after (.printerReset (cmd [])) linkCheck) = some .busy ∧
      status (after (.printerReset (cmd [])) (prints .printing .start .finish true)) = some .busy := by decide +kernel
theorem test_printerCheckExchangeEnd :
    (after (.printerCheckExchangeEnd .good) linkCheck).printer.outstanding = some { req := .sense, number := 0 } ∧
      (after (.printerCheckExchangeEnd .wrongDevice) linkCheck).printer.checkResult = some .wrongDevice := by decide +kernel
theorem test_printerCheckTimeout :
    (after .printerCheckTimeout linkCheck).printer.checkResult = some .noResponse := by decide +kernel
theorem witness_PrinterSense :
    (senses true).printer.checkPhase = .sensing ∧ (senses true).printer.outstanding = some { req := .sense, number := 6 } ∧
      (senses true).printer.state = .faulted ∧ (senses true).printer.token = some tok ∧ (senses true).live tok = true ∧
      (senses false).printer.token = none ∧ (senses false).freeRecord = some 0 ∧
      ({ senses false with records := Vector.replicate 64 disc }).freeRecord = none := by decide +kernel
theorem test_printerSenseReply :
    (after (.printerSenseReply 6 (.done false)) (senses true)).printer.phase = .closing ∧
      (after (.printerSenseReply 6 (.done true)) (senses true)).printer.phase = .ejecting ∧
      (after (.printerSenseReply 6 (.done true)) (senses false)).printer.token = some { num := 0, gen := 1 } ∧
      (after (.printerSenseReply 6 (.done true)) { senses false with records := Vector.replicate 64 disc }).printer.lastFault =
        some .noRecord ∧
      (after (.printerSenseReply 6 (.fault .jam)) (senses true)).printer.lastFault = some (.fault .sense .jam) := by decide +kernel

/-- Artwork 5 is READY with three bytes; template 2 of order 1 puts serials on it. -/
def art : State → State := fun s =>
  ((s.modArtwork 5 (fun x => { x with state := .ready, length := 3, bytes := bytes [1, 2, 3] })).modTemplate 2
    (fun l => { l with serialEnabled := true, nextSerial := 999999 })).modOrder 1 (fun o => { o with template := some 2 })
/-- The snapshot of a print of one band. -/
def snap : Snapshot := { template := 2, art := 5, length := 3, serialEnabled := true, text := [], serial := some 999999 }
/-- A print at work with `k` bands left. -/
def printing (ph : PrinterPhase) (req : PrinterRequest) (k : Nat) : State :=
  (art (prints .printing ph req true)).modPrinter (fun p => { p with snapshot := some { snap with length := 65536 * (k - 1) + 1 }, bandsLeft := k })
/-- An entry bound for PR waits in the queue. -/
def bound (s : State) : State := s.setQueue [unload (.station stationPR)]
theorem witness_PrintCycle :
    (bound (prints .idle .opening .trayOut false)).printerAwaits .trayOut 6 ∧
      (∃ f ∈ (bound (prints .idle .opening .trayOut false)).queue, f.dest = .station stationPR) ∧
      (prints .discharge .ejecting .trayOut true).printerAwaits .trayOut 6 ∧
      (prints .discharge .ejecting .trayOut true).printer.token = some tok ∧
      (prints .discharge .ejecting .trayOut true).live tok = true ∧
      (prints .idle .closing .trayIn false).printerAwaits .trayIn 6 ∧
      ¬ (∃ f ∈ (prints .idle .closing .trayIn false).queue, f.dest = .station stationPR) ∧
      (art (prints .printing .trayIn .trayIn true)).printerAwaits .trayIn 6 ∧
      ((art (prints .printing .trayIn .trayIn true)).record 9).order = some 1 ∧
      ((art (prints .printing .trayIn .trayIn true)).order 1).template = some 2 ∧
      ((art (prints .printing .trayIn .trayIn true)).artwork 5).state = .ready ∧
      (printing .start (.start none) 1).printerAwaits (.start none) 6 ∧
      (printing .band (.band 0 []) 1).printerAwaits (.band 0 []) 6 ∧ (printing .band (.band 0 []) 1).printer.bandsLeft ≤ 1 ∧
      (printing .band (.band 1 []) 2).printerAwaits (.band 1 []) 6 ∧ ¬ (printing .band (.band 1 []) 2).printer.bandsLeft ≤ 1 ∧
      (printing .finish .finish 0).printerAwaits .finish 6 ∧ (printing .finish .finish 0).printer.snapshot.isSome = true := by
  unfold State.printerAwaits; decide +kernel
theorem test_trayOutReply :
    (after (.trayOutReply 6 (.done false)) (bound (prints .idle .opening .trayOut false))).printer.state = .opened ∧
      (after (.trayOutReply 6 (.done false)) (prints .discharge .ejecting .trayOut true)).printer.phase = .waitPick ∧
      (after (.trayOutReply 6 (.done false)) (prints .discharge .ejecting .trayOut true)).queue.map (·.kind) = [.clear] := by
  decide +kernel
theorem test_trayInReply :
    let t := after (.trayInReply 6 (.done false)) (art (prints .printing .trayIn .trayIn true))
    t.printer.phase = .start ∧ (t.template 2).nextSerial = 0 ∧ (t.template 2).issued = 1 ∧ (t.record 9).serial = some 999999 ∧
      t.printer.outstanding.map (·.req) = some (.start (some (List.replicate 6 0x39))) ∧ (t.artwork 5).inUse = true ∧
      (after (.trayInReply 6 (.done false)) (prints .idle .closing .trayIn false)).printer.phase = .noPhase ∧
      (after (.trayInReply 6 (.done false)) (bound (prints .idle .closing .trayIn false))).printer.phase = .opening := by
  decide +kernel
/-- The artwork slot of the print has been filled anew since the disc was sent to PR. -/
def stale : State := (art (prints .printing .trayIn .trayIn true)).modArtwork 5 (fun x => { x with state := .filling })
/-- The printer in a state of its own with nothing on its link and one entry bound for PR in the queue. -/
def resting (st : PrinterState) : State := bound (atPrinter st .noPhase)
theorem witness_PrintCycle_tray :
    (prints .idle .opening .trayOut false).printerAwaits .trayOut 6 ∧
      ¬ (∃ f ∈ (prints .idle .opening .trayOut false).queue, f.dest = .station stationPR) ∧
      (stale).printerAwaits .trayIn 6 ∧ stale.printer.token = some tok ∧ stale.live tok = true ∧
      (stale.record 9).order = some 1 ∧ (stale.order 1).template = some 2 ∧ (stale.artwork 5).state ≠ .ready ∧
      (atPrinter .idle .noPhase).printer.state = .idle ∧ (atPrinter .idle .noPhase).printer.phase = .noPhase ∧
      (resting .opened).printer.state = .opened ∧
      (∀ f ∈ (resting .opened).queue.erase (unload (.station stationPR)), f.dest ≠ .station stationPR) ∧
      (∃ f ∈ (resting .opened).queue.erase (unload .byVerdict), f.dest = .station stationPR) := by
  unfold State.printerAwaits; decide +kernel
theorem test_print_not_ready :
    let t := after (.trayInReply 6 (.done false)) stale
    t.printer.phase = .ejecting ∧ t.printer.faultRun = 0 ∧ (t.template 2).issued = 0 ∧ (t.record 9).print = .fail ∧
      (t.record 9).cause = some .printFault ∧ (t.event .printer).value = some (.printer .discharge .artworkNotReady) := by
  decide +kernel
theorem test_printerTray :
    ((atPrinter .idle .noPhase).enqueue (unload (.station stationPR))).printer.phase = .opening ∧
      ((resting .opened).retire (unload (.station stationPR))).printer.phase = .closing ∧
      (after (.trayOutReply 6 (.done false)) (prints .idle .opening .trayOut false)).printer.phase = .closing := by
  decide +kernel
/-- A print was ended with its request on the link: TRAY-OUT waits behind it. -/
def ejectWaits (req : PrinterRequest) : State :=
  (prints .discharge .ejecting req true).modPrinter (fun p => { p with waiting := some .trayOut })
theorem witness_StaleAnswers_printer :
    ∀ req ∈ [PrinterRequest.trayIn, .start none, .band 0 [], .finish],
      (ejectWaits req).printer.outstanding = some { req := req, number := 6 } ∧
      (ejectWaits req).printer.waiting = some .trayOut ∧ (ejectWaits req).printer.checkPhase ≠ .sensing := by decide +kernel
theorem test_waiting_print_is_sent :
    let t := after (.bandReply 6 (.fault .jam)) (ejectWaits (.band 0 []))
    t.printer.outstanding = some { req := .trayOut, number := 7 } ∧ t.printer.waiting = none ∧
      t.printer.lastFault = some (.fault .band .jam) ∧ t.printer.state = .discharge ∧ t.events = (ejectWaits .finish).events ∧
      (after .printerRequestTimeout (ejectWaits .finish)).printer.outstanding = some { req := .trayOut, number := 7 } := by
  decide +kernel
theorem test_startReply :
    (after (.startReply 6 (.done false)) (printing .start (.start none) 1)).printer.outstanding =
      some { req := .band 0 (bytes [1, 2, 3]), number := 7 } := by decide +kernel
theorem test_bandReply :
    (after (.bandReply 6 (.done false)) (printing .band (.band 0 []) 1)).printer.phase = .finish ∧
      (after (.bandReply 6 (.done false)) (printing .band (.band 1 []) 2)).printer.bandsLeft = 1 := by decide +kernel
theorem test_finishReply :
    let t := after (.finishReply 6 (.done false)) (printing .finish .finish 0)
    (t.record 9).print = .pass ∧ t.printer.phase = .ejecting ∧ (t.template 2).printed = 1 := by decide +kernel

theorem witness_PrintFaults :
    (printing .finish .finish 0).printerAwaits .finish 6 ∧ (printing .finish .finish 0).printer.state = .printing ∧
      (printing .finish .finish 0).printer.token = some tok ∧ (printing .finish .finish 0).live tok = true ∧
      (printing .finish .finish 0).printer.snapshot.isSome = true ∧
      (prints .discharge .ejecting .trayOut true).printerAwaits .trayOut 6 ∧
      (prints .discharge .ejecting .trayOut true).printer.state ≠ .printing ∧
      (prints .discharge .ejecting .trayOut true).printer.state ≠ .faulted ∧
      (printing .trayIn .trayIn 1).printerAwaits .trayIn 6 ∧ (printing .start (.start none) 1).printerAwaits (.start none) 6 ∧
      (printing .band (.band 0 []) 1).printerAwaits (.band 0 []) 6 := by
  unfold State.printerAwaits; decide +kernel
theorem test_printerRequestTimeout :
    let t := after .printerRequestTimeout (printing .finish .finish 0)
    (t.record 9).cause = some .printFault ∧ t.printer.faultRun = 1 ∧ (t.template 2).voided = 1 ∧
      (after .printerRequestTimeout (prints .discharge .ejecting .trayOut true)).printer.state = .faulted ∧
      (after (.bandReply 6 (.fault .supply)) ((printing .band (.band 0 []) 1).modPrinter (fun p => { p with faultRun := 2 }))).printer.faultRun =
        2 := by decide +kernel

/-! ### Settings, Abort All and the laws -/

/-- The settings access in a state of its own. -/
def access (a : SettingsAccess) : State := rig.modSettings (fun x => { x with access := a, storing := some rig.settingsCopy })
set_option maxRecDepth 100000 in
theorem witness_SettingsLoadAndStore :
    (cmd []).body = [] ∧ rig.handlesAsNew 7 false ∧ rig.settings.access = .idle ∧ (access .storing).settings.access ≠ .idle ∧
      (access .storing).settings.access = .storing ∧ (access .storing).settings.storing = some rig.settingsCopy ∧
      (access .loading).settings.access = .loading ∧ imageGood (settingsImage rig.settingsCopy) = true ∧
      imageGood blankImage = false := by
  unfold State.handlesAsNew; decide +kernel
theorem test_storeSettings :
    (after (.storeSettings (cmd [])) rig).settings.access = .storing ∧
      status (after (.storeSettings (cmd [])) (access .storing)) = some .busy := by decide +kernel
set_option maxRecDepth 100000 in
theorem test_settingsStoreAck :
    (after (.settingsStoreAck true) (access .storing)).settings.eeprom = settingsImage rig.settingsCopy ∧
      ((after (.settingsStoreAck false) (access .storing)).event .settings).value = some (.settings .failed) := by decide +kernel
set_option maxRecDepth 100000 in
theorem test_badImage :
    imageGood (badImage (settingsImage rig.settingsCopy)) = false ∧ badImage blankImage = blankImage := by decide +kernel
theorem test_settingsStoreTimeout :
    (after .settingsStoreTimeout (access .storing)).settings.access = .idle ∧
      (after .settingsStoreTimeout (access .storing)).settings.failedStores = 1 := by decide +kernel
theorem witness_PowerOnSetsStartingValues :
    rig.settings.access ≠ .storing ∧ (access .storing).settings.access = .storing := by decide +kernel
set_option maxRecDepth 100000 in
theorem test_powerOn_storing :
    (after .powerOn (access .storing)).settings.failedStores = 1 ∧
      (after .powerOn (access .storing)).settings.access = .loading ∧
      (after .powerOn (after (.settingsStoreAck true) (access .storing))).settings.eeprom = settingsImage rig.settingsCopy := by
  decide +kernel
set_option maxRecDepth 100000 in
theorem test_settingsLoadEnd :
    let t := after (.settingsLoadEnd (.image (settingsImage rig.settingsCopy))) State.reset
    t.code 7 = 24 ∧ (t.station 0).mediaClass = 3 ∧ (t.station 0).count = 0 ∧ (t.station 23).capacity = 2 ∧
      (t.event .settings).value = some (.settings .loaded) ∧
      ((after (.settingsLoadEnd .contents) State.reset).event .settings).value = some (.settings .failed) ∧
      ((after (.settingsLoadEnd .contents) State.reset).station 0).kind = .noKind := by decide +kernel
theorem test_settingsLoadTimeout :
    ((after .settingsLoadTimeout State.reset).event .settings).value = some (.settings .failed) := by decide +kernel

theorem witness_AbortAllEffect :
    wave.handlesAsNew 7 false ∧ wave.transport.parkWaiting = false ∧ (wave.image 0).state = .filling ∧
      (wave.image 0).fillingWave = some 2 ∧ (wave.wave 2).state ≠ .idle ∧ (wave.wave 2).slot = some 0 ∧
      (wave.wave 2).attachment 4 ≠ none ∧ (∀ w, (closing .full false).wave w = .reset) ∧
      ((closing .full false).drive 4).trayRecord = some tok ∧ (closing .full false).live tok = true ∧
      ready.trayRecordOf 4 = some disc ∧ ((verifies 1 0 0 0).drive 4).state = .verifying ∧
      ((art ready).modRecord 9 (fun r => { r with print := .notYet, burn := .pass, verify := .skipped })).awaitsPrint 9 = true ∧
      (printing .finish .finish 0).printer.state = .printing ∧ (printing .finish .finish 0).printer.snapshot.isSome = true := by
  unfold State.handlesAsNew; decide +kernel
theorem test_abortAll :
    let t := after (.abortAll (cmd [])) wave
    (t.wave 2).endCause = .abortAll ∧ (t.drive 4).state = .unloading ∧ (t.record 9).cause = some .abortAll ∧
      (t.image 0).state = .defined ∧ ((after (.abortAll (cmd [])) (closing .full false)).record 9).cause = some .abortAll ∧
      ((after (.abortAll (cmd [])) (closing .full false)).drive 4).state = .closing := by decide +kernel
theorem test_abortAll_others :
    ((after (.abortAll (cmd [])) ready).drive 4).entry = some .return ∧
      ((after (.abortAll (cmd [])) (verifies 1 0 0 0)).save 4).lastEnding = .abortAll ∧
      (after (.abortAll (cmd [])) (printing .finish .finish 0)).printer.phase = .ejecting ∧
      (after (.abortAll (cmd [])) (queued [load 3])).queue = [] := by decide +kernel

/-- Drive 4 is LOADING in a phase, its blank at the tray or not, the entries `q` queued, one disc of order 1 reserved. -/
def loading (ph : DrivePhase) (placed : Bool) (q : List Entry) : State :=
  (((loaded .loading ph .trayOpen).modDrive 4 (fun x => { x with
    entry := some .load, outstanding := none, trayRecord := if placed then some tok else none })).setQueue q).modOrder 1
    (fun o => { o with inProgress := 1 })
theorem witness_AbortAll_loading :
    ((loading .speedSet true []).drive 4).phase = .speedSet ∧ ((loading .mediaSense true []).drive 4).phase = .mediaSense ∧
      ((loading .trayClosing true []).drive 4).trayRecord ≠ none ∧
      (loading .trayClosing true []).trayRecordOf 4 = some disc ∧ disc.origin = .spindle 1 ∧
      ((loading .waitDisc false [load 3]).drive 4).entry = some .load ∧ (load 3).token = none ∧ (load 3).pickSent = false ∧
      (load 3).drive = some 4 ∧ (load 3).order = some 1 ∧ ((loading .waitDisc false [load 3]).drive 4).outstanding = none ∧
      ((loading .trayClosing false []).drive 4).trayRecord = none ∧
      (∀ w, ((loading .waitDisc false [load 3]).wave w).state = .idle) ∧
      (loading .waitDisc false [load 3]).handlesAsNew 7 false := by
  unfold State.handlesAsNew; decide +kernel
theorem test_abortAll_loading :
    let aborts := fun s : State => after (.abortAll (cmd [])) s
    let sent := [{ load 3 with pickSent := true }]
    let t := aborts (loading .waitDisc false [load 3])
    (∀ ph ∈ [DrivePhase.trayClosing, .speedSet, .mediaSense], ((aborts (loading ph true [])).drive 4).entry = some .return) ∧
      (t.drive 4).phase = .trayClosing ∧ (t.drive 4).entry = none ∧ (t.order 1).inProgress = 0 ∧
      (t.drive 4).outstanding = some { req := .trayClose, number := 7 } ∧
      (aborts (loading .waitDisc false sent)).drive 4 = (loading .waitDisc false sent).drive 4 ∧
      ((aborts (loading .waitDisc false sent)).order 1).inProgress = 1 ∧
      (aborts (loading .trayClosing false [])).drive 4 = (loading .trayClosing false []).drive 4 := by decide +kernel

theorem witness_EventsStayLawful :
    (∀ c, State.reset.eventLawful c) ∧ step State.reset = .next State.reset := by
  unfold State.eventLawful
  constructor
  · intro c; cases c <;> decide +kernel
  · rfl
theorem witness_WavesStayLawful : (∀ w, (starved.wave w).lawful) ∧ starved.capacitySum ≤ 65536 ∧ step starved = .next starved := by
  unfold Wave.lawful
  refine ⟨by decide +kernel, by decide +kernel, rfl⟩
theorem witness_RecordsStayLawful :
    slot.lawful ∧ (filling.artwork 5).lawful ∧ rig.transport.lawful ∧ step filling = .next filling := by
  refine ⟨?_, ?_, ?_, rfl⟩
  · refine ⟨?_, ?_, by decide⟩
    · intro a h
      cases h
      unfold Assignment.legal
      decide
    · intro a h
      cases h
  · refine ⟨by decide +kernel, ?_, fun h => Bool.noConfusion h⟩
    show (filling.artwork 5).fillPoint < (filling.artwork 5).length ∧ (filling.artwork 5).length ≤ Config.maxArtwork
    decide +kernel
  · refine ⟨by decide, by decide, by decide, ?_, ?_⟩
    · intro _ o h
      cases h
    · intro _
      exact Or.inl rfl

end Sys2Proof.Tests
end

section
/-! Images (chapter 1): how FP hands a checked command to its owner, what a refusal is, and what a taken Image Define
or Image Release does. -/

namespace Sys2Proof.Machine

/-! ### FP and the REPLY -/

/-- A frame that is no resend and whose body parses goes to its owner (R189). -/
theorem State.answer_of_handlesAsNew {α : Type} {s : State} {rt : ReplyTo} {resend : Bool} {args : Option α} {a : α}
    (owner : α → State → State) (hp : args = some a) (hn : s.handlesAsNew rt.tag resend) :
    s.answer rt resend args owner = owner a s := by
  have hr : s.isResend rt.tag resend = false := by
    simpa [State.isResend, State.handlesAsNew] using hn
  simp [State.answer, hr, hp]

theorem replied_replyPlain (s : State) (rt : ReplyTo) (st : Status) : Replied rt.tag st s (s.replyPlain rt st) := rfl

theorem State.replyPlain_outbound (s : State) (rt : ReplyTo) (st : Status) :
    (s.replyPlain rt st).outbound = s.outbound ++ [rt.frame st] := rfl

/-- A plain REPLY is all that a refusal does (R190). -/
theorem repliedOnly_replyPlain (s : State) (rt : ReplyTo) (st : Status) : RepliedOnly rt st s (s.replyPlain rt st) :=
  ⟨replied_replyPlain s rt st, s.replyPlain_outbound rt st, changes_replyPlain s rt st⟩

/-- What a raise places depends on the class records alone (R197). -/
theorem State.placedBy_congr {s t : State} {c : EventClass} (h : t.event c = s.event c) : t.placedBy c = s.placedBy c := by
  unfold State.placedBy
  rw [h]

/-! ### A taken slot command -/

/-- What Image Define and Image Release have in common when they are taken (R2, R3): slot `i` is changed by `g`, the
REPLY carries OK, and IMAGE-STATE is raised with the state `st` and the cause COMMAND. -/
def State.slotTaken (s : State) (rt : ReplyTo) (i : SlotNo) (g : ImageSlot → ImageSlot) (st : ImageState) : State :=
  ((s.modImage i g).replyPlain rt .ok).raiseImage i st .command

section
variable (s : State) (rt : ReplyTo) (i : SlotNo) (g : ImageSlot → ImageSlot) (st : ImageState)

theorem State.slotTaken_image_self : (s.slotTaken rt i g st).image i = g (s.image i) := by
  simp [State.slotTaken]

theorem State.slotTaken_image_of_ne {j : SlotNo} (h : j ≠ i) : (s.slotTaken rt i g st).image j = s.image j := by
  simp [State.slotTaken, State.image_modImage_of_ne _ _ _ _ h.symm]

theorem replied_slotTaken : Replied rt.tag .ok s (s.slotTaken rt i g st) := by
  have hr := replied_replyPlain (s.modImage i g) rt .ok
  simpa [Replied, State.slotTaken] using hr

theorem raisedOnly_slotTaken :
    RaisedOnly .imageState 0 (some (.image i st .command)) s (s.slotTaken rt i g st) := by
  have hr := raisedOnly_raise ((s.modImage i g).replyPlain rt .ok) .imageState 0 (some (.image i st .command))
  simpa [RaisedOnly, State.slotTaken, State.raiseImage] using hr

theorem State.slotTaken_outbound :
    (s.slotTaken rt i g st).outbound = s.outbound ++ [rt.frame .ok] ++ s.placedBy .imageState := by
  have hp : ((s.modImage i g).replyPlain rt .ok).placedBy .imageState = s.placedBy .imageState :=
    State.placedBy_congr (by simp)
  simp only [State.slotTaken, State.raiseImage, State.raise_outbound, State.replyPlain_outbound, hp,
    State.modImage_outbound]

theorem changes_slotTaken : Changes [.images, .feed, .events, .outbound] s (s.slotTaken rt i g st) := by
  have hm : Changes [.images] s (s.modImage i g) := changes_of_closed (fun _ hc h => hc.images (by decide) _ _ _ h)
  have hr := changes_replyPlain (s.modImage i g) rt .ok
  have he := changes_raiseImage ((s.modImage i g).replyPlain rt .ok) i st .command
  exact (hm.mono (by decide)).trans ((hr.mono (by decide)).trans (he.mono (by decide)))

/-- A taken slot command in full, for what its change of the slot comes to. -/
theorem State.slotTaken_effect {x : ImageSlot} (hx : g (s.image i) = x) :
    (s.slotTaken rt i g st).image i = x ∧
      (∀ j, j ≠ i → (s.slotTaken rt i g st).image j = s.image j) ∧
      Replied rt.tag .ok s (s.slotTaken rt i g st) ∧
      RaisedOnly .imageState 0 (some (.image i st .command)) s (s.slotTaken rt i g st) ∧
      (s.slotTaken rt i g st).outbound = s.outbound ++ [rt.frame .ok] ++ s.placedBy .imageState ∧
      Changes [.images, .feed, .events, .outbound] s (s.slotTaken rt i g st) :=
  ⟨(s.slotTaken_image_self rt i g st).trans hx, fun _ h => s.slotTaken_image_of_ne rt i g st h,
    replied_slotTaken s rt i g st, raisedOnly_slotTaken s rt i g st, s.slotTaken_outbound rt i g st,
    changes_slotTaken s rt i g st⟩

end

/-! ### Image Define and Image Release -/

/-- Image Define's chain of checks (R2), its taken end a taken slot command. -/
theorem State.imageDefine_eq (rt : ReplyTo) (i : SlotNo) (tag length : Word32) (s : State) :
    State.imageDefine rt (i, tag, length) s =
      if (s.image i).state ≠ .undefined then s.replyPlain rt .state
      else if length.toNat = 0 ∨ 16777215 < length.toNat then s.replyPlain rt .range
      else s.slotTaken rt i (·.defined tag length.toNat) .defined := rfl

theorem ImageSlot.referenced_iff (x : ImageSlot) :
    x.referenced = true ↔ 0 < x.waveCount ∨ 0 < x.verifyCount ∨ 0 < x.orderCount := by
  simp [ImageSlot.referenced, or_assoc]

/-- Image Release's chain of checks (R3), its taken end a taken slot command. -/
theorem State.imageRelease_eq (rt : ReplyTo) (i : SlotNo) (s : State) :
    State.imageRelease rt i s =
      if (s.image i).state = .undefined then s.replyPlain rt .state
      else if 0 < (s.image i).waveCount ∨ 0 < (s.image i).verifyCount ∨ 0 < (s.image i).orderCount then
        s.replyPlain rt .busy
      else s.slotTaken rt i (·.released) .undefined := by
  simp only [← ImageSlot.referenced_iff]
  rfl

theorem exec_imageDefine_of_handlesAsNew {f : CmdFrame} {a : SlotNo × Word32 × Word32} {s : State}
    (hp : parseImageDefine f.body = some a) (hn : s.handlesAsNew f.tag f.resend) :
    exec (.imageDefine f) s = .next (State.imageDefine (cmdReply f 1) a s) :=
  congrArg Host.Outcome.next (State.answer_of_handlesAsNew (rt := cmdReply f 1) _ hp hn)

theorem exec_imageRelease_of_handlesAsNew {f : CmdFrame} {i : SlotNo} {s : State}
    (hp : parseName 4 f.body = some i) (hn : s.handlesAsNew f.tag f.resend) :
    exec (.imageRelease f) s = .next (State.imageRelease (cmdReply f 2) i s) :=
  congrArg Host.Outcome.next (State.answer_of_handlesAsNew (rt := cmdReply f 2) _ hp hn)

/-- Settles O12: each command is its chain of checks, whose refusals only reply, and whose end is a taken slot
command. -/
theorem imageDefineAndReleaseEffect : Obligations.ImageDefineAndReleaseEffect := by
  unfold Obligations.ImageDefineAndReleaseEffect
  constructor
  · intro f i tag length s hp hn
    refine ⟨_, exec_imageDefine_of_handlesAsNew hp hn, ?_⟩
    rw [State.imageDefine_eq]
    split_ifs with hstate hlength
    · exact repliedOnly_replyPlain s (cmdReply f 1) .state
    · exact repliedOnly_replyPlain s (cmdReply f 1) .range
    · exact s.slotTaken_effect (cmdReply f 1) i (·.defined tag length.toNat) .defined rfl
  · intro f i s hp hn
    refine ⟨_, exec_imageRelease_of_handlesAsNew hp hn, ?_⟩
    rw [State.imageRelease_eq]
    split_ifs with hstate hcount
    · exact repliedOnly_replyPlain s (cmdReply f 2) .state
    · exact repliedOnly_replyPlain s (cmdReply f 2) .busy
    · exact s.slotTaken_effect (cmdReply f 2) i (·.released) .undefined rfl

end Sys2Proof.Machine
end

section
/-! Waves and the sector pool (chapter 2): how a data frame is checked, and what a wave's abort does to its drives,
their discs, its image slot and the events. -/

namespace Sys2Proof.Machine

/-! ### Data frames -/

/-- A discard counts its cause, raises FEED-ERROR and changes nothing else (R185). -/
theorem discarded_discard (s : State) (c : DiscardCause) : Discarded c s (s.discard c) := by
  refine ⟨by simp [State.discard, State.raiseFeedError], ?_, ?_, ?_⟩
  · exact raisedOnly_raise (s.modFeed _) .feedError 0 (some (.feedError c))
  · exact State.raise_outbound (s.modFeed _) .feedError 0 (some (.feedError c))
  · exact (changes_discard s c).mono (by decide)

/-- An accepted frame is counted, and FP's record changes in nothing else (R185). -/
theorem State.acceptFrame_feed (s : State) (w : WaveNo) (entries : List HeldEntry) (count : Nat)
    (sectors : List (List Byte)) : (s.acceptFrame w entries count sectors).feed = s.countAccepted.feed := by
  unfold State.acceptFrame
  have ht := changes_takeSectors (s.countAccepted.modWave w
    (fun x => { x with held := x.held ++ entries, head := x.head + count })) w sectors .feed (by decide)
  dsimp only
  split
  all_goals rename_i u hu; rw [hu] at ht
  · exact (changes_abortWave u w .conflict .feed (by decide)).trans ht
  · exact (changes_afterTake u w .feed (by decide)).trans ht

/-- The end of a data frame that FP has passed: discarded with the cause that R22 finds, or accepted. -/
def State.frameChecked (s : State) (cause : Option DiscardCause) (t : State) : Prop :=
  match cause with
  | some c => Discarded c s t
  | none => t.feed.accepted = countUp s.feed.accepted ∧ t.feed.discards = s.feed.discards

theorem State.frameChecked_acceptFrame (s : State) (w : WaveNo) (entries : List HeldEntry) (count : Nat)
    (sectors : List (List Byte)) : s.frameChecked none (s.acceptFrame w entries count sectors).arbiter := by
  simp [State.frameChecked, State.acceptFrame_feed, State.countAccepted]

theorem State.frameChecked_sectorFrame (s : State) (w : WaveNo) (first : Nat) (l : List (List Byte)) :
    s.frameChecked (s.frameCause w first l.length l.length) (s.sectorFrame w first l) := by
  unfold State.sectorFrame
  cases s.frameCause w first l.length l.length with
  | some c => exact discarded_discard s c
  | none => exact s.frameChecked_acceptFrame w _ _ _

theorem State.frameChecked_runFrame (s : State) (w : WaveNo) (first rep : Nat) (p : List Byte) :
    s.frameChecked (s.frameCause w first (rep + 1) 1) (s.runFrame w first rep p) := by
  unfold State.runFrame
  cases s.frameCause w first (rep + 1) 1 with
  | some c => exact discarded_discard s c
  | none => exact s.frameChecked_acceptFrame w _ _ _

/-- The order of the checks of R22, read off `frameCause`. -/
theorem State.frameChecked_frameCause {s t : State} {w : WaveNo} {first count slots : Nat}
    (h : s.frameChecked (s.frameCause w first count slots) t) :
    if (s.wave w).state ≠ .opened ∧ (s.wave w).state ≠ .streaming then Discarded .noWave s t
    else if first ≠ (s.wave w).head then Discarded .sequence s t
    else if s.waveLength w < first + count then Discarded .length s t
    else if (s.wave w).capacity < (s.wave w).held.length + slots then Discarded .overrun s t
    else t.feed.accepted = countUp s.feed.accepted ∧ t.feed.discards = s.feed.discards := by
  unfold State.frameCause Wave.occupied at h
  split_ifs at h ⊢ <;> exact h

/-- Settles O15: both data frames run the checks of `frameCause` and are discarded or accepted by its answer. -/
theorem dataFrameChecks : Obligations.DataFrameChecks := by
  unfold Obligations.DataFrameChecks
  rintro c w first count slots s (⟨l, rfl, hl, rfl, rfl⟩ | ⟨k, p, rfl, hp, rfl, rfl⟩)
  · refine ⟨s.sectorFrame w first.toNat l, by simp [exec, execSector, hl], ?_⟩
    exact State.frameChecked_frameCause (s.frameChecked_sectorFrame w first.toNat l)
  · refine ⟨s.runFrame w first.toNat k.toNat p, by simp [exec, execRun, hp], ?_⟩
    exact State.frameChecked_frameCause (s.frameChecked_runFrame w first.toNat k.toNat p)

/-! ### Which record a token names -/

/-- Record `n` is what the token names, in use with its generation (R131). -/
def State.names (s : State) (tok : Option Token) (n : RecNo) : Bool :=
  tok.any (fun k => s.live k && decide (k.num = n))

theorem State.names_congr {s t : State} (hu : ∀ n, (t.record n).use = (s.record n).use)
    (hg : ∀ n, (t.record n).gen = (s.record n).gen) (tok : Option Token) (n : RecNo) :
    t.names tok n = s.names tok n := by
  simp [State.names, State.live, hu, hg]

/-- A block's write reaches the record that the token names, and no other (R131). -/
theorem State.writeRecordO_record (s : State) (tok : Option Token) (f : DiscRecord → DiscRecord) (n : RecNo) :
    (s.writeRecord? tok f).record n = if s.names tok n then f (s.record n) else s.record n := by
  cases tok with
  | none => simp [State.writeRecord?, State.names]
  | some k =>
    by_cases hl : s.live k = true
    · by_cases hn : k.num = n
      · subst hn; simp [State.writeRecord?, State.writeRecord, State.names, hl]
      · simp [State.writeRecord?, State.writeRecord, State.names, hl, hn, State.record_modRecord_of_ne]
    · simp [State.writeRecord?, State.writeRecord, State.names, hl]

/-! ### A disc that has failed -/

/-- A record after its drive's detach with a fail cause (R90, R132). -/
def DiscRecord.burnFailed (r : DiscRecord) (c : FailCause) : DiscRecord :=
  { r with burn := .fail, cause := r.cause <|> some c }

theorem DiscRecord.burnFailed_idem (r : DiscRecord) (c : FailCause) :
    (r.burnFailed c).burnFailed c = r.burnFailed c := by
  cases h : r.cause <;> simp [DiscRecord.burnFailed, h]

/-- Drive `d` has record `n` at its tray (R49). -/
def State.holds (s : State) (d : Drive) (n : RecNo) : Bool := s.names (s.drive d).trayRecord n

theorem State.failBurn_record (s : State) (d : Drive) (c : FailCause) (n : RecNo) :
    (s.failBurn d c).record n = if s.holds d n then (s.record n).burnFailed c else s.record n := by
  have hnames : ∀ tok m, (s.writeRecord? (s.drive d).trayRecord (fun r => { r with burn := .fail })).names tok m =
      s.names tok m :=
    State.names_congr (fun m => by rw [State.writeRecordO_record]; split <;> rfl)
      (fun m => by rw [State.writeRecordO_record]; split <;> rfl)
  unfold State.failBurn State.giveCause State.holds
  rw [State.writeRecordO_record, State.writeRecordO_record, hnames]
  split <;> rfl

/-! ### A request asked for on a drive's port -/

theorem State.endApply_drive_of_ne (s : State) {d e : Drive} (st : ApplyStatus) (h : e ≠ d) :
    (s.endApply d st).drive e = s.drive e := by
  simp [State.endApply, State.drive_modDrive_of_ne _ _ _ _ h.symm]

theorem State.dropWaiting_drive_of_ne (s : State) {d e : Drive} (h : e ≠ d) :
    (s.dropWaiting d).drive e = s.drive e := by
  unfold State.dropWaiting
  have hm := s.drive_modDrive_of_ne d e (fun x => { x with waiting := none }) h.symm
  dsimp only
  split
  · split
    · rw [State.endApply_drive_of_ne _ _ h, hm]
    · exact hm
  · exact hm

theorem State.askDrive_drive_of_ne (s : State) {d e : Drive} (q : DriveRequest) (h : e ≠ d) :
    (s.askDrive d q).drive e = s.drive e := by
  unfold State.askDrive State.sendDrive
  split
  · exact State.drive_modDrive_of_ne _ _ _ _ h.symm
  · rw [State.drive_modDrive_of_ne _ _ _ _ h.symm, State.dropWaiting_drive_of_ne _ h]

/-- The disc side of a drive: what no request on its port changes when it is asked for. -/
def DriveSlot.discSide (x : DriveSlot) : DriveState × DrivePhase × Option EntryKind × Option Token :=
  (x.state, x.phase, x.entry, x.trayRecord)

theorem State.dropWaiting_discSide (s : State) (d : Drive) :
    ((s.dropWaiting d).drive d).discSide = (s.drive d).discSide := by
  unfold State.dropWaiting
  dsimp only
  split
  · split <;> simp [DriveSlot.discSide, State.endApply]
  · simp [DriveSlot.discSide]

theorem State.askDrive_discSide (s : State) (d : Drive) (q : DriveRequest) :
    ((s.askDrive d q).drive d).discSide = (s.drive d).discSide := by
  unfold State.askDrive State.sendDrive
  split
  · simp [DriveSlot.discSide, DriveSlot.sent]
  · exact (congrArg DriveSlot.discSide (State.drive_modDrive_self _ _ _)).trans (s.dropWaiting_discSide d)

/-- Dropping a waiting request raises at most APPLY-DONE (R46, R75). -/
theorem State.dropWaiting_event_of_ne (s : State) (d : Drive) {k : EventClass} (h : k ≠ .applyDone) :
    (s.dropWaiting d).event k = s.event k := by
  unfold State.dropWaiting State.endApply State.raiseApply
  dsimp only
  split
  · split
    · rw [State.raise_event_of_ne _ _ _ h]; rfl
    · rfl
  · rfl

theorem State.askDrive_event_of_ne (s : State) (d : Drive) (q : DriveRequest) {k : EventClass} (h : k ≠ .applyDone) :
    (s.askDrive d q).event k = s.event k := by
  unfold State.askDrive State.sendDrive
  split
  · rfl
  · exact s.dropWaiting_event_of_ne d h

/-! ### The way to UNLOADING -/

theorem State.startUnloading_drive_of_ne (s : State) {d e : Drive} (kind : EntryKind) (dest : Dest) (h : e ≠ d) :
    (s.startUnloading d kind dest).drive e = s.drive e := by
  unfold State.startUnloading
  rw [State.askDrive_drive_of_ne _ _ h]
  simp [State.drive_modDrive_of_ne _ _ _ _ h.symm]

theorem State.startUnloading_discSide (s : State) (d : Drive) (kind : EntryKind) (dest : Dest) :
    ((s.startUnloading d kind dest).drive d).discSide =
      (.unloading, .trayOpening, some kind, (s.drive d).trayRecord) := by
  unfold State.startUnloading
  rw [State.askDrive_discSide]
  simp [DriveSlot.discSide]

theorem State.startUnloading_event_of_ne (s : State) (d : Drive) (kind : EntryKind) (dest : Dest) {k : EventClass}
    (ha : k ≠ .applyDone) (hd : k ≠ .driveState) : (s.startUnloading d kind dest).event k = s.event k := by
  unfold State.startUnloading State.raiseDrive
  rw [State.askDrive_event_of_ne _ _ _ ha, State.raise_event_of_ne _ _ _ hd]
  simp

/-! ### Drives detached as a group -/

/-- One drive of a group: its attachment goes, its disc has failed, and it unloads (R37, R90). -/
def State.detachStep (s : State) (w : WaveNo) (d : Drive) (c : FailCause) : State :=
  (s.unattach w d).detachToUnload d c

theorem State.detachAll_cons (s : State) (w : WaveNo) (d : Drive) (ds : List Drive) (c : FailCause) :
    s.detachAll w (d :: ds) c = (s.detachStep w d c).detachAll w ds c := rfl

section
variable (s : State) (w : WaveNo) (d : Drive) (c : FailCause)

theorem State.detachStep_drive_of_ne {e : Drive} (h : e ≠ d) : (s.detachStep w d c).drive e = s.drive e := by
  unfold State.detachStep State.detachToUnload
  rw [State.startUnloading_drive_of_ne _ _ _ h]
  simp

theorem State.detachStep_discSide :
    ((s.detachStep w d c).drive d).discSide = (.unloading, .trayOpening, some .unload, (s.drive d).trayRecord) := by
  unfold State.detachStep State.detachToUnload
  rw [State.startUnloading_discSide]
  simp

theorem State.detachStep_trayRecord (e : Drive) :
    ((s.detachStep w d c).drive e).trayRecord = (s.drive e).trayRecord := by
  by_cases h : e = d
  · subst h
    exact congrArg (·.2.2.2) (s.detachStep_discSide w e c)
  · rw [s.detachStep_drive_of_ne w d c h]

theorem State.detachStep_unloading {e : Drive} (h : e = d ∨ (s.drive e).unloadingWith .unload) :
    ((s.detachStep w d c).drive e).unloadingWith .unload := by
  by_cases he : e = d
  · subst he
    have hside := s.detachStep_discSide w e c
    simp only [DriveSlot.discSide, Prod.mk.injEq] at hside
    exact ⟨hside.1, hside.2.1, hside.2.2.1⟩
  · rw [s.detachStep_drive_of_ne w d c he]
    exact h.resolve_left he

theorem State.detachStep_record (n : RecNo) :
    (s.detachStep w d c).record n = if s.holds d n then (s.record n).burnFailed c else s.record n := by
  have hfail := (s.unattach w d).failBurn_record d c n
  have hholds : (s.unattach w d).holds d n = s.holds d n := rfl
  simpa [State.detachStep, State.detachToUnload, hholds] using hfail

/-- A detach changes neither which records are in use nor what stands at a tray. -/
theorem State.detachStep_holds (e : Drive) (n : RecNo) : (s.detachStep w d c).holds e n = s.holds e n := by
  unfold State.holds
  rw [State.detachStep_trayRecord]
  refine State.names_congr (fun m => ?_) (fun m => ?_) _ _ <;> rw [State.detachStep_record] <;> split <;> rfl

theorem State.detachStep_wave (v : WaveNo) : (s.detachStep w d c).wave v = (s.unattach w d).wave v := by
  simp [State.detachStep]

theorem State.detachStep_event_of_ne {k : EventClass} (ha : k ≠ .applyDone) (hd : k ≠ .driveState) :
    (s.detachStep w d c).event k = s.event k := by
  unfold State.detachStep State.detachToUnload
  rw [State.startUnloading_event_of_ne _ _ _ _ ha hd]
  simp

end

theorem State.detachAll_drive_of_notMem (s : State) (w : WaveNo) (ds : List Drive) (c : FailCause) {e : Drive}
    (h : e ∉ ds) : (s.detachAll w ds c).drive e = s.drive e := by
  induction ds generalizing s with
  | nil => rfl
  | cons d ds ih =>
    obtain ⟨hne, hds⟩ := not_or.mp (mt List.mem_cons.mpr h)
    rw [State.detachAll_cons, ih _ hds, State.detachStep_drive_of_ne _ _ _ _ hne]

theorem State.detachAll_unloading (s : State) (w : WaveNo) (ds : List Drive) (c : FailCause) {e : Drive}
    (h : e ∈ ds ∨ (s.drive e).unloadingWith .unload) :
    ((s.detachAll w ds c).drive e).unloadingWith .unload := by
  induction ds generalizing s with
  | nil => exact h.resolve_left List.not_mem_nil
  | cons d ds ih =>
    rw [State.detachAll_cons]
    apply ih
    rw [List.mem_cons, or_assoc] at h
    rcases h with he | he | he
    · exact .inr (s.detachStep_unloading w d c (.inl he))
    · exact .inl he
    · exact .inr (s.detachStep_unloading w d c (.inr he))

/-- The discs at the trays of a detached group have failed, and no other record has changed (R90). -/
theorem State.detachAll_record (s : State) (w : WaveNo) (ds : List Drive) (c : FailCause) (n : RecNo) :
    (s.detachAll w ds c).record n =
      if ds.any (s.holds · n) then (s.record n).burnFailed c else s.record n := by
  induction ds generalizing s with
  | nil => rfl
  | cons d ds ih =>
    rw [State.detachAll_cons, ih, State.detachStep_record, List.any_cons]
    simp only [State.detachStep_holds]
    by_cases hd : s.holds d n = true <;> simp [hd, DiscRecord.burnFailed_idem]

theorem State.detachAll_wave_of_ne (s : State) (w : WaveNo) (ds : List Drive) (c : FailCause) {v : WaveNo}
    (h : v ≠ w) : (s.detachAll w ds c).wave v = s.wave v := by
  induction ds generalizing s with
  | nil => rfl
  | cons d ds ih =>
    rw [State.detachAll_cons, ih, State.detachStep_wave]
    exact State.wave_modWave_of_ne _ _ _ _ h.symm

/-- A wave that ends has the same values whether its drives were detached before or not (R18). -/
theorem State.detachAll_wave_ended (s : State) (w : WaveNo) (ds : List Drive) (c : FailCause) (e : EndCause) :
    ((s.detachAll w ds c).wave w).ended e = (s.wave w).ended e := by
  induction ds generalizing s with
  | nil => rfl
  | cons d ds ih =>
    rw [State.detachAll_cons, ih, State.detachStep_wave, State.unattach, State.wave_modWave_self]
    rfl

theorem State.detachAll_event_of_ne (s : State) (w : WaveNo) (ds : List Drive) (c : FailCause) {k : EventClass}
    (ha : k ≠ .applyDone) (hd : k ≠ .driveState) : (s.detachAll w ds c).event k = s.event k := by
  induction ds generalizing s with
  | nil => rfl
  | cons d ds ih => rw [State.detachAll_cons, ih, State.detachStep_event_of_ne _ _ _ _ ha hd]

/-! ### DETACH for a group -/

theorem getLsbD_bitMask (d e : Drive) : (bitMask e.val).getLsbD d.val = decide (e = d) := by
  revert d e
  decide

/-- Bit `d` of a mask that has grown by the drives of a list. -/
theorem getLsbD_foldl_bitMask (p : Drive → Bool) (l : List Drive) (m : Word16) (d : Drive) :
    (l.foldl (fun m e => if p e then m ||| bitMask e.val else m) m).getLsbD d.val = true ↔
      m.getLsbD d.val = true ∨ (d ∈ l ∧ p d = true) := by
  induction l generalizing m with
  | nil => simp
  | cons e l ih =>
    have hbit : (if p e then m ||| bitMask e.val else m).getLsbD d.val = true ↔
        m.getLsbD d.val = true ∨ (e = d ∧ p e = true) := by
      by_cases hp : p e = true
      · rw [if_pos hp, BitVec.getLsbD_or, getLsbD_bitMask, Bool.or_eq_true, decide_eq_true_eq]
        simp only [hp, and_true]
      · simp only [hp, Bool.false_eq_true, if_false, and_false, or_false]
    rw [List.foldl_cons, ih, hbit, List.mem_cons]
    by_cases hd : e = d
    · subst hd; tauto
    · simp only [hd, Ne.symm hd, false_and, or_false, false_or]

theorem getLsbD_maskOf (ds : List Drive) (d : Drive) : (maskOf ds).getLsbD d.val = true ↔ d ∈ ds := by
  unfold maskOf driveMask
  rw [getLsbD_foldl_bitMask]
  simp [allDrives, List.mem_finRange]

/-- DETACH with the drives of a group, where it has any (R43). -/
def State.tellDetach (s : State) (w : WaveNo) (ds : List Drive) : State :=
  if ds.isEmpty then s else s.raiseDetach w (maskOf ds)

theorem changes_tellDetach (s : State) (w : WaveNo) (ds : List Drive) :
    Changes [.outbound, .events] s (s.tellDetach w ds) := by
  unfold State.tellDetach
  split
  · exact Changes.refl s
  · exact changes_raiseDetach s w (maskOf ds)

theorem detachRaised_tellDetach (s : State) (w : WaveNo) (ds : List Drive) :
    DetachRaised w ds s (s.tellDetach w ds) := by
  cases ds with
  | nil => rfl
  | cons d ds => exact ⟨maskOf (d :: ds), getLsbD_maskOf _, s.raise_event .detach _ _⟩

theorem State.tellDetach_event_of_ne (s : State) (w : WaveNo) (ds : List Drive) {k : EventClass} (h : k ≠ .detach) :
    (s.tellDetach w ds).event k = s.event k := by
  unfold State.tellDetach
  split
  · rfl
  · exact s.raise_event_of_ne _ _ h

/-! ### IS at a wave's end -/

/-- The image slot of an aborted wave: one wave fewer refers to it, and a pass that filled it is undone (R12). -/
def ImageSlot.afterAbort (x : ImageSlot) (w : WaveNo) : ImageSlot :=
  if x.state = .filling ∧ x.fillingWave = some w then
    { x with state := .defined, fillingWave := none, digests := [], waveCount := x.waveCount - 1 }
  else { x with waveCount := x.waveCount - 1 }

section
variable (s : State) (w : WaveNo) (c : ImageCause)

theorem State.waveEndAtImage_acc_mode (slot : Option SlotNo) (c : Option ImageCause) :
    ((s.waveEndAtImage w slot c).acc w).mode = .idle := by
  unfold State.waveEndAtImage
  dsimp only
  split
  · split
    · split <;> simp [Accumulator.reset]
    · simp [Accumulator.reset]
  · simp [Accumulator.reset]

theorem State.waveEndAtImage_image (i : SlotNo) :
    (s.waveEndAtImage w (some i) (some c)).image i = (s.image i).afterAbort w := by
  unfold State.waveEndAtImage ImageSlot.afterAbort
  by_cases h : (s.image i).state = .filling ∧ (s.image i).fillingWave = some w <;> simp [h, ImageSlot.unfilled]

theorem State.waveEndAtImage_imageState (i : SlotNo) :
    (s.waveEndAtImage w (some i) (some c)).event .imageState =
      if (s.image i).state = .filling ∧ (s.image i).fillingWave = some w then
        (s.event .imageState).raised .imageState 0 (some (.image i .defined c))
      else s.event .imageState := by
  unfold State.waveEndAtImage State.raiseImage
  by_cases h : (s.image i).state = .filling ∧ (s.image i).fillingWave = some w <;> simp [h, State.raise_event]

theorem State.waveEndAtImage_event_of_ne (slot : Option SlotNo) (c : Option ImageCause) {k : EventClass}
    (h : k ≠ .imageState) : (s.waveEndAtImage w slot c).event k = s.event k := by
  unfold State.waveEndAtImage State.raiseImage
  dsimp only
  split
  · split
    · split
      · rw [State.raise_event_of_ne _ _ _ h]; simp
      · simp
    · simp
  · simp

end

/-! ### The abort of a wave (R40) -/

/-- The drives attached to a wave, in drive order. -/
def Wave.drives (x : Wave) : List Drive := x.attachments.map (·.drive)

theorem Wave.mem_drives (x : Wave) (d : Drive) : d ∈ x.drives ↔ x.attachment d ≠ none := by
  simp [Wave.drives, Wave.attachment, List.mem_map]

/-- The first half of an abort: the wave's drives are detached and told of by DETACH. -/
def State.detachedForAbort (s : State) (w : WaveNo) (c : AbortCause) : State :=
  ((s.modWave w (fun x => { x with timerRunning := false })).detachAll w (s.wave w).drives c.failCause).tellDetach w
    (s.wave w).drives

/-- An abort is the detach of the wave's drives, and then the end of the wave and at its image slot. -/
theorem State.abortWave_eq (s : State) (w : WaveNo) (c : AbortCause) :
    s.abortWave w c =
      (((s.detachedForAbort w c).modWave w (·.ended c.endCause)).waveEndAtImage w (s.wave w).slot
        (some c.imageCause)).raiseWave w .idle c.waveCause := rfl

section
variable (s : State) (w : WaveNo) (c : AbortCause)

theorem changes_detachedForAbort :
    Changes [.waves, .drives, .records, .queue, .printer, .outbound, .events] s (s.detachedForAbort w c) := by
  have hw : Changes [.waves] s (s.modWave w (fun x => { x with timerRunning := false })) :=
    changes_of_closed (fun _ hc h => hc.waves (by decide) _ _ _ (.inl trivial) h)
  have hd := changes_detachAll (s.modWave w (fun x => { x with timerRunning := false })) w (s.wave w).drives c.failCause
  exact (hw.mono (by decide)).trans (hd.trans ((changes_tellDetach _ w _).mono (by decide)))

theorem State.detachedForAbort_image (i : SlotNo) : (s.detachedForAbort w c).image i = s.image i :=
  State.image_congr (changes_detachedForAbort s w c .images (by decide)) i

theorem State.detachedForAbort_wave_ended (e : EndCause) :
    ((s.detachedForAbort w c).wave w).ended e = (s.wave w).ended e := by
  unfold State.detachedForAbort
  rw [State.wave_congr (changes_tellDetach _ _ _ .waves (by decide)), State.detachAll_wave_ended,
    State.wave_modWave_self]
  rfl

theorem State.detachedForAbort_wave_of_ne {v : WaveNo} (h : v ≠ w) :
    (s.detachedForAbort w c).wave v = s.wave v := by
  unfold State.detachedForAbort
  rw [State.wave_congr (changes_tellDetach _ _ _ .waves (by decide)), State.detachAll_wave_of_ne _ _ _ _ h,
    State.wave_modWave_of_ne _ _ _ _ h.symm]

theorem State.detachedForAbort_unloading {d : Drive} (h : (s.wave w).attachment d ≠ none) :
    ((s.detachedForAbort w c).drive d).unloadingWith .unload := by
  unfold State.detachedForAbort
  rw [State.drive_congr (changes_tellDetach _ _ _ .drives (by decide))]
  exact State.detachAll_unloading _ w _ _ (.inl (((s.wave w).mem_drives d).mpr h))

theorem State.detachedForAbort_drive {d : Drive} (h : (s.wave w).attachment d = none) :
    (s.detachedForAbort w c).drive d = s.drive d := by
  unfold State.detachedForAbort
  have hd : d ∉ (s.wave w).drives := fun hm => ((s.wave w).mem_drives d).mp hm h
  rw [State.drive_congr (changes_tellDetach _ _ _ .drives (by decide)), State.detachAll_drive_of_notMem _ w _ _ hd,
    State.drive_modWave']

theorem State.detachedForAbort_record (n : RecNo) :
    (s.detachedForAbort w c).record n =
      if (s.wave w).drives.any (s.holds · n) then (s.record n).burnFailed c.failCause else s.record n := by
  unfold State.detachedForAbort
  rw [State.record_congr (changes_tellDetach _ _ _ .records (by decide)), State.detachAll_record]
  rfl

theorem State.detachedForAbort_event_of_ne {k : EventClass} (ha : k ≠ .applyDone) (hs : k ≠ .driveState)
    (hd : k ≠ .detach) : (s.detachedForAbort w c).event k = s.event k := by
  unfold State.detachedForAbort
  rw [State.tellDetach_event_of_ne _ _ _ hd, State.detachAll_event_of_ne _ _ _ _ ha hs, State.event_modWave']

theorem detachRaised_detachedForAbort : DetachRaised w (s.wave w).drives s (s.detachedForAbort w c) := by
  have h := detachRaised_tellDetach ((s.modWave w (fun x => { x with timerRunning := false })).detachAll w
    (s.wave w).drives c.failCause) w (s.wave w).drives
  unfold DetachRaised at h ⊢
  rwa [State.detachAll_event_of_ne _ _ _ _ (by decide) (by decide), State.event_modWave'] at h

theorem State.abortWave_wave_self : (s.abortWave w c).wave w = (s.wave w).ended c.endCause := by
  simp [State.abortWave_eq, State.detachedForAbort_wave_ended]

theorem State.abortWave_wave_of_ne {v : WaveNo} (h : v ≠ w) : (s.abortWave w c).wave v = s.wave v := by
  simp [State.abortWave_eq, State.wave_modWave_of_ne _ _ _ _ h.symm, State.detachedForAbort_wave_of_ne _ _ _ h]

theorem State.abortWave_acc_mode : ((s.abortWave w c).acc w).mode = .idle := by
  simp [State.abortWave_eq, State.waveEndAtImage_acc_mode]

theorem State.abortWave_drive (d : Drive) : (s.abortWave w c).drive d = (s.detachedForAbort w c).drive d := by
  simp [State.abortWave_eq]

theorem State.abortWave_record (n : RecNo) :
    (s.abortWave w c).record n =
      if (s.wave w).drives.any (s.holds · n) then (s.record n).burnFailed c.failCause else s.record n := by
  simp [State.abortWave_eq, State.detachedForAbort_record]

/-- The disc of each attached drive has failed with the abort's cause (R40, R90). -/
theorem State.abortWave_record_of_attached {d : Drive} {n : RecNo} (hd : (s.wave w).attachment d ≠ none)
    (hn : s.holds d n = true) : (s.abortWave w c).record n = (s.record n).burnFailed c.failCause := by
  rw [State.abortWave_record, if_pos (List.any_eq_true.mpr ⟨d, ((s.wave w).mem_drives d).mpr hd, hn⟩)]

theorem State.abortWave_image {i : SlotNo} (h : (s.wave w).slot = some i) :
    (s.abortWave w c).image i = (s.image i).afterAbort w := by
  simp [State.abortWave_eq, h, State.waveEndAtImage_image, State.detachedForAbort_image]

theorem State.abortWave_imageState {i : SlotNo} (h : (s.wave w).slot = some i) :
    (s.abortWave w c).event .imageState =
      if (s.image i).state = .filling ∧ (s.image i).fillingWave = some w then
        (s.event .imageState).raised .imageState 0 (some (.image i .defined c.imageCause))
      else s.event .imageState := by
  rw [State.abortWave_eq, State.raiseWave, State.raise_event_of_ne _ _ _ (by decide), h,
    State.waveEndAtImage_imageState, State.image_modWave', State.event_modWave', State.detachedForAbort_image,
    State.detachedForAbort_event_of_ne _ _ _ (by decide) (by decide) (by decide)]

theorem State.abortWave_waveState :
    (s.abortWave w c).event .waveState = (s.event .waveState).waveRaised w .idle c.waveCause := by
  rw [State.abortWave_eq, State.raiseWave, State.raise_event, State.waveEndAtImage_event_of_ne _ _ _ _ (by decide),
    State.event_modWave', State.detachedForAbort_event_of_ne _ _ _ (by decide) (by decide) (by decide)]
  rfl

theorem detachRaised_abortWave : DetachRaised w (s.wave w).drives s (s.abortWave w c) := by
  have h := detachRaised_detachedForAbort s w c
  unfold DetachRaised at h ⊢
  rwa [State.abortWave_eq, State.raiseWave, State.raise_event_of_ne _ _ _ (by decide),
    State.waveEndAtImage_event_of_ne _ _ _ _ (by decide), State.event_modWave']

end

/-! ### The arbiter and the records -/

theorem State.setAside_record (s : State) (m : Option RecNo) (n : RecNo) :
    ∃ u, (s.setAside m).record n = { s.record n with use := u } := by
  cases m with
  | none => exact ⟨_, rfl⟩
  | some m =>
    by_cases h : m = n
    · subst h; exact ⟨_, s.record_modRecord_self m _⟩
    · exact ⟨_, s.record_modRecord_of_ne m n _ h⟩

theorem State.startMove_records (s : State) (e : Entry) : (s.startMove e).records = s.records := by
  unfold State.startMove
  split <;> rfl

/-- Of a disc record the arbiter changes the use at most: it sets a free one aside (R147). -/
theorem State.arbiter_record (s : State) (n : RecNo) : ∃ u, s.arbiter.record n = { s.record n with use := u } := by
  unfold State.arbiter State.dispatch
  split
  · split
    · dsimp only
      split
      · rename_i e _
        rw [State.record_congr (State.startMove_records _ _)]
        exact State.setAside_record _ e.setAside n
      · exact ⟨_, rfl⟩
    · exact ⟨_, rfl⟩
  · exact ⟨_, rfl⟩

/-! ### Wave Abort -/

theorem exec_waveAbort_of_handlesAsNew {f : CmdFrame} {w : WaveNo} {s : State} (hp : parseName 4 f.body = some w)
    (hn : s.handlesAsNew f.tag f.resend) :
    exec (.waveAbort f) s = .next (State.waveAbort (cmdReply f 4) w s) :=
  congrArg Host.Outcome.next (State.answer_of_handlesAsNew (rt := cmdReply f 4) _ hp hn)

/-- A taken Wave Abort (R41): the REPLY, the abort, and the arbiter's evaluation. -/
def State.waveAborted (s : State) (rt : ReplyTo) (w : WaveNo) : State :=
  ((s.replyPlain rt .ok).abortWave w .waveAborted).arbiter

theorem State.waveAbort_eq (rt : ReplyTo) (w : WaveNo) (s : State) :
    State.waveAbort rt w s = if (s.wave w).state = .idle then s.replyPlain rt .state else s.waveAborted rt w := rfl

section
variable (s : State) (rt : ReplyTo) (w : WaveNo)

theorem State.waveAborted_wave_self : (s.waveAborted rt w).wave w = (s.wave w).ended .waveAborted := by
  simp [State.waveAborted, State.abortWave_wave_self, AbortCause.endCause]

theorem State.waveAborted_wave_of_ne {v : WaveNo} (h : v ≠ w) : (s.waveAborted rt w).wave v = s.wave v := by
  simp [State.waveAborted, State.abortWave_wave_of_ne _ _ _ h]

theorem State.waveAborted_acc_mode : ((s.waveAborted rt w).acc w).mode = .idle := by
  simp [State.waveAborted, State.abortWave_acc_mode]

theorem State.waveAborted_drive (d : Drive) :
    if (s.wave w).attachment d ≠ none then
      ((s.waveAborted rt w).drive d).unloadingWith .unload ∧ BurnFailed d .waveAborted s (s.waveAborted rt w)
    else (s.waveAborted rt w).drive d = s.drive d := by
  have hwave : (s.replyPlain rt .ok).wave w = s.wave w := by simp
  have hdrive : (s.waveAborted rt w).drive d = ((s.replyPlain rt .ok).detachedForAbort w .waveAborted).drive d := by
    simp [State.waveAborted, State.abortWave_drive]
  rw [hdrive]
  split_ifs with hd
  · refine ⟨State.detachedForAbort_unloading _ _ _ (by rwa [hwave]), fun k hk hl => ?_⟩
    have hn : (s.replyPlain rt .ok).holds d k.num = true := by
      show s.holds d k.num = true
      simp [State.holds, State.names, hk, hl]
    obtain ⟨u, hu⟩ := ((s.replyPlain rt .ok).abortWave w .waveAborted).arbiter_record k.num
    rw [State.abortWave_record_of_attached _ _ _ (by rwa [hwave]) hn] at hu
    rw [State.waveAborted, hu]
    exact ⟨rfl, rfl⟩
  · rw [State.detachedForAbort_drive _ _ _ (by rw [hwave]; exact not_not.mp hd)]
    simp

theorem State.waveAborted_image {i : SlotNo} (h : (s.wave w).slot = some i) :
    (s.waveAborted rt w).image i = (s.image i).afterAbort w := by
  have hslot : ((s.replyPlain rt .ok).wave w).slot = some i := by simpa using h
  simp [State.waveAborted, State.abortWave_image _ _ _ hslot]

theorem State.waveAborted_imageState {i : SlotNo} (h : (s.wave w).slot = some i) :
    (s.waveAborted rt w).event .imageState =
      if (s.image i).state = .filling ∧ (s.image i).fillingWave = some w then
        (s.event .imageState).raised .imageState 0 (some (.image i .defined .waveAborted))
      else s.event .imageState := by
  have hslot : ((s.replyPlain rt .ok).wave w).slot = some i := by simpa using h
  simp [State.waveAborted, State.abortWave_imageState _ _ _ hslot, AbortCause.imageCause]

theorem State.waveAborted_waveState :
    (s.waveAborted rt w).event .waveState = (s.event .waveState).waveRaised w .idle .waveAborted := by
  simp [State.waveAborted, State.abortWave_waveState, AbortCause.waveCause]

theorem detachRaised_waveAborted : DetachRaised w (s.wave w).drives s (s.waveAborted rt w) := by
  have h := detachRaised_abortWave (s.replyPlain rt .ok) w .waveAborted
  simpa [DetachRaised, State.waveAborted] using h

theorem replied_waveAborted : Replied rt.tag .ok s (s.waveAborted rt w) := by
  have h := replied_replyPlain s rt .ok
  simpa [Replied, State.waveAborted] using h

theorem joined_waveAborted : Joined [rt.frame .ok] s (s.waveAborted rt w) :=
  joined_of_closed (s.replyPlain_outbound rt .ok) (fun _ hc h =>
    closed_arbiter hc (by decide : _ ⊆ commandParts (.waveAbort default)) (closed_abortWave hc (by decide) h))

end

/-- Settles O14: a refusal only replies; the taken command is the REPLY, the wave's abort and the arbiter, of which the
abort's own lemmas say what becomes of the wave, its drives, its slot and the events. -/
theorem waveAbortEffect : Obligations.WaveAbortEffect := by
  unfold Obligations.WaveAbortEffect
  intro f w s hp hn
  refine ⟨_, exec_waveAbort_of_handlesAsNew hp hn, ?_⟩
  have hchanges := changes_waveAbort (cmdReply f 4) w s
  rw [State.waveAbort_eq] at hchanges ⊢
  split_ifs at hchanges ⊢ with hidle
  · exact repliedOnly_replyPlain s (cmdReply f 4) .state
  · have hwave := s.waveAborted_wave_self (cmdReply f 4) w
    refine ⟨?_, ?_, ?_, ?_, ?_, s.waveAborted_drive (cmdReply f 4) w, ?_, detachRaised_waveAborted s (cmdReply f 4) w,
      s.waveAborted_waveState (cmdReply f 4) w, fun i hi => s.waveAborted_imageState (cmdReply f 4) w hi,
      replied_waveAborted s (cmdReply f 4) w, joined_waveAborted s (cmdReply f 4) w, hchanges.mono (by decide)⟩
    · rw [hwave]; exact ⟨rfl, rfl, rfl, rfl, rfl, rfl, rfl, rfl⟩
    · rw [hwave]; rfl
    · rw [hwave]; rfl
    · exact fun v hv => s.waveAborted_wave_of_ne (cmdReply f 4) w hv
    · exact s.waveAborted_acc_mode (cmdReply f 4) w
    · exact fun i hi => s.waveAborted_image (cmdReply f 4) w hi

end Sys2Proof.Machine
end

section
/-! Assignments (chapter 4): an apply over the drives of its mask, and what Apply Now and Apply At Load do at each of
them. -/

namespace Sys2Proof.Machine

/-! ### A request asked for on a free and on a busy port -/

/-- A request asked for on a port that can send goes out (R46). -/
theorem State.askDrive_drive_of_free (s : State) (d : Drive) (q : DriveRequest) (h : (s.drive d).portFree = true) :
    (s.askDrive d q).drive d = (s.drive d).sent q := by
  rw [State.askDrive, if_pos h, State.sendDrive, State.drive_modDrive_self]

/-- A request asked for on a busy port where none waits becomes the waiting one (R46). -/
theorem State.askDrive_drive_of_busy (s : State) (d : Drive) (q : DriveRequest) (h : ¬ (s.drive d).portFree = true)
    (hw : (s.drive d).waiting = none) : (s.askDrive d q).drive d = { s.drive d with waiting := some q } := by
  rw [State.askDrive, if_neg h, State.drive_modDrive_self, State.dropWaiting, hw]
  simp

theorem DriveSlot.portFree_iff (x : DriveSlot) : x.portFree = true ↔ x.outstanding = none ∧ x.checkPhase = .idle := by
  simp [DriveSlot.portFree]

/-! ### An event told of a drive -/

/-- The class record is pending with the bit of drive `d` (R196). -/
def EventRecord.told (r : EventRecord) (d : Drive) : Prop := r.pending = true ∧ r.mask.getLsbD d.val = true

theorem EventRecord.told_raised_self (r : EventRecord) (c : EventClass) (d : Drive) (v : Option EventValue) :
    (r.raised c (bitMask d.val) v).told d := by
  by_cases h : r.pending = true <;> simp [EventRecord.told, EventRecord.raised, EventRecord.merge, h, getLsbD_bitMask]

/-- A later raise merges into a pending record and takes no bit away (R196). -/
theorem EventRecord.told_raised {r : EventRecord} {d : Drive} (c : EventClass) (m : Word16) (v : Option EventValue)
    (h : r.told d) : (r.raised c m v).told d := by
  obtain ⟨hp, hm⟩ := h
  simp [EventRecord.told, EventRecord.raised, EventRecord.merge, hp, hm]

/-- What an event has told of a drive survives every basic update. -/
theorem closed_told (ps : List Part) (c : EventClass) (d : Drive) :
    Closed anyUpdate ps (fun t => (t.event c).told d) := by
  constructor
  case raise =>
    intro _ _ t k m v h
    by_cases hk : c = k
    · subst hk
      rw [State.raise_event]
      exact EventRecord.told_raised c m v h
    · rwa [State.raise_event_of_ne _ _ _ hk]
  all_goals intros; assumption

theorem State.endApply_drive_self (s : State) (d : Drive) (st : ApplyStatus) :
    (s.endApply d st).drive d = { s.drive d with applyStatus := st } := by
  simp [State.endApply]

theorem State.endApply_event (s : State) (d : Drive) (st : ApplyStatus) :
    (s.endApply d st).event .applyDone = (s.event .applyDone).raised .applyDone (bitMask d.val) none :=
  State.raise_event _ _ _ _

theorem State.endApply_event_of_ne (s : State) (d : Drive) (st : ApplyStatus) {k : EventClass} (h : k ≠ .applyDone) :
    (s.endApply d st).event k = s.event k :=
  State.raise_event_of_ne _ _ _ h

/-! ### The drives of a mask -/

theorem mem_maskDrives (m : Word16) (d : Drive) : d ∈ maskDrives m ↔ m.getLsbD d.val = true := by
  simp [maskDrives, allDrives, List.mem_finRange]

theorem nodup_maskDrives (m : Word16) : (maskDrives m).Nodup := (List.nodup_finRange 16).filter _

theorem getLsbD_driveMask (p : Drive → Bool) (d : Drive) : (driveMask p).getLsbD d.val = true ↔ p d = true := by
  unfold driveMask
  rw [getLsbD_foldl_bitMask]
  simp [allDrives, List.mem_finRange]

/-- An operation on one drive at a time: it changes the slot of no other drive, and nothing but the parts `ps`. -/
structure OneDriveAtATime (ps : List Part) (act : State → Drive → State) : Prop where
  drive_of_ne : ∀ (s : State) {d e : Drive}, e ≠ d → (act s d).drive e = s.drive e
  changes : ∀ (s : State) (d : Drive), Changes ps s (act s d)

section
variable {ps : List Part} {act : State → Drive → State}

theorem OneDriveAtATime.foldl_changes (ha : OneDriveAtATime ps act) (s : State) (l : List Drive) :
    Changes ps s (l.foldl act s) :=
  List.foldlRecOn l act (Changes.refl s) (fun t ht d _ => ht.trans (ha.changes t d))

theorem OneDriveAtATime.foldl_drive_of_notMem (ha : OneDriveAtATime ps act) (s : State) {l : List Drive} {d : Drive}
    (hd : d ∉ l) : (l.foldl act s).drive d = s.drive d :=
  List.foldlRecOn (motive := fun t => t.drive d = s.drive d) l act rfl
    (fun t ht _ he => (ha.drive_of_ne t (ne_of_mem_of_not_mem he hd).symm).trans ht)

/-- The turn of drive `d` in a list without repeats comes at a state `t` that still has its slot as it was, and the
drives after it leave the slot as the turn left it. -/
theorem OneDriveAtATime.foldl_turn (ha : OneDriveAtATime ps act) (s : State) {l : List Drive} {d : Drive}
    (hl : l.Nodup) (hd : d ∈ l) :
    ∃ (t : State) (rest : List Drive), l.foldl act s = rest.foldl act (act t d) ∧
      (l.foldl act s).drive d = (act t d).drive d ∧ t.drive d = s.drive d ∧ Changes ps s t := by
  obtain ⟨before, rest, rfl⟩ := List.append_of_mem hd
  obtain ⟨hbefore, hrest⟩ : d ∉ before ∧ d ∉ rest := by
    rw [List.nodup_middle, List.nodup_cons, List.mem_append, not_or] at hl
    exact hl.1
  have hfold : (before ++ d :: rest).foldl act s = rest.foldl act (act (before.foldl act s) d) := by
    rw [List.foldl_append, List.foldl_cons]
  exact ⟨before.foldl act s, rest, hfold, by rw [hfold, ha.foldl_drive_of_notMem _ hrest],
    ha.foldl_drive_of_notMem s hbefore, ha.foldl_changes s before⟩

end

/-! ### An apply over its mask (R74, R77) -/

/-- Two states give an apply at drive `d` the same to read: the drive's slot, the orders and the ladder. -/
structure State.SameForApply (s t : State) (d : Drive) : Prop where
  drive : t.drive d = s.drive d
  orders : t.orders = s.orders
  ladder : t.ladder = s.ladder

theorem State.validate_congr {s t : State} (ho : t.orders = s.orders) (hl : t.ladder = s.ladder) (e : StagedEntry) :
    t.validate e = s.validate e := by
  have hrungs : t.rungsOk e = s.rungsOk e := by
    simp only [State.rungsOk, State.rungDefined, State.code_congr hl]
  rw [State.validate, State.order_congr ho, hrungs, State.validate]

theorem State.SameForApply.code {s t : State} {d : Drive} (h : s.SameForApply t d) : t.code = s.code :=
  funext (State.code_congr h.ladder)

theorem State.SameForApply.ignored {s t : State} {d : Drive} (h : s.SameForApply t d) :
    t.applyIgnored d = s.applyIgnored d := by
  rw [State.applyIgnored, h.drive, State.applyIgnored]

theorem State.SameForApply.nowRefusal {s t : State} {d : Drive} (h : s.SameForApply t d) :
    t.nowRefusal d = s.nowRefusal d := by
  rw [State.nowRefusal, h.drive, State.validate_congr h.orders h.ladder, State.nowRefusal]

theorem State.SameForApply.laterRefusal {s t : State} {d : Drive} (h : s.SameForApply t d) :
    t.laterRefusal d = s.laterRefusal d := by
  rw [State.laterRefusal, h.drive, State.validate_congr h.orders h.ladder, State.laterRefusal]

theorem State.setApply_drive_self (s : State) (d : Drive) (st : ApplyStatus) :
    (s.setApply d st).drive d = { s.drive d with applyStatus := st } :=
  State.drive_modDrive_self _ _ _

theorem State.setApply_drive_of_ne (s : State) {d e : Drive} (st : ApplyStatus) (h : e ≠ d) :
    (s.setApply d st).drive e = s.drive e :=
  State.drive_modDrive_of_ne _ _ _ _ h.symm

theorem State.applyIgnored_iff (s : State) (d : Drive) :
    s.applyIgnored d = true ↔ (s.drive d).applyStatus = .inProgress := decide_eq_true_iff

/-- Drive `d` of the mask is ignored (R76). -/
def State.ignoredIn (s : State) (m : Word16) (d : Drive) : Prop :=
  m.getLsbD d.val = true ∧ (s.drive d).applyStatus = .inProgress

/-- What the two applies have in common at one drive (R74, R77): the drive is ignored, refused with a status, or has
`take` done to it. -/
def State.applyAt (refusal : State → Drive → Option ApplyStatus) (take : State → Drive → State) (s : State)
    (d : Drive) : State :=
  if s.applyIgnored d then s
  else
    match refusal s d with
    | some st => s.setApply d st
    | none => take s d

section
variable {refusal : State → Drive → Option ApplyStatus} {take : State → Drive → State} {s : State} {d : Drive}

theorem State.applyAt_of_ignored (hi : s.applyIgnored d = true) : State.applyAt refusal take s d = s := if_pos hi

theorem State.applyAt_of_refused {st : ApplyStatus} (hi : ¬ s.applyIgnored d = true) (hr : refusal s d = some st) :
    State.applyAt refusal take s d = s.setApply d st := by
  rw [State.applyAt, if_neg hi, hr]

theorem State.applyAt_of_taken (hi : ¬ s.applyIgnored d = true) (hr : refusal s d = none) :
    State.applyAt refusal take s d = take s d := by
  rw [State.applyAt, if_neg hi, hr]

/-- What holds in each of the three cases holds after the drive's turn. -/
theorem State.applyAt_cases {P : State → Prop} (hignored : P s) (hrefused : ∀ st, P (s.setApply d st))
    (htaken : P (take s d)) : P (State.applyAt refusal take s d) := by
  by_cases hi : s.applyIgnored d = true
  · rwa [State.applyAt_of_ignored hi]
  · cases hr : refusal s d with
    | some st => rw [State.applyAt_of_refused hi hr]; exact hrefused st
    | none => rwa [State.applyAt_of_taken hi hr]

theorem State.applyAt_drive_of_ne {e : Drive} (h : e ≠ d) (htake : (take s d).drive e = s.drive e) :
    (State.applyAt refusal take s d).drive e = s.drive e :=
  State.applyAt_cases (P := fun t => t.drive e = s.drive e) rfl (fun st => s.setApply_drive_of_ne st h) htake

end

/-- An apply without the load decision that may follow it: the REPLY with its masks, then each drive of the mask. -/
def State.applyEach (s : State) (rt : ReplyTo) (refusal : State → Drive → Option ApplyStatus)
    (take : State → Drive → State) (m : Word16) : State :=
  (maskDrives m).foldl (State.applyAt refusal take) (s.reply rt .ok (s.applyRefused refusal m) (s.applyIgnoredMask m))

section
variable (s : State) (rt : ReplyTo) (refusal : State → Drive → Option ApplyStatus) (m : Word16)

theorem State.any_applySucceeds :
    (maskDrives m).any (s.applySucceeds refusal) = true ↔
      ∃ d : Drive, m.getLsbD d.val = true ∧ ¬ s.ignoredIn m d ∧ refusal s d = none := by
  rw [List.any_eq_true]
  refine exists_congr fun d => ?_
  rw [mem_maskDrives, State.applySucceeds, Bool.and_eq_true, Option.isNone_iff_eq_none, Bool.not_eq_true',
    ← Bool.not_eq_true, State.applyIgnored_iff, State.ignoredIn]
  tauto

theorem State.getLsbD_applyIgnoredMask (d : Drive) :
    (s.applyIgnoredMask m).getLsbD d.val = true ↔ s.ignoredIn m d := by
  rw [State.applyIgnoredMask, getLsbD_driveMask, Bool.and_eq_true, State.applyIgnored_iff, State.ignoredIn]

theorem State.getLsbD_applyRefused (d : Drive) :
    (s.applyRefused refusal m).getLsbD d.val = true ↔
      m.getLsbD d.val = true ∧ ¬ s.ignoredIn m d ∧ refusal s d ≠ none := by
  rw [State.applyRefused, getLsbD_driveMask, Bool.and_eq_true, Bool.and_eq_true, Bool.not_eq_true',
    ← Bool.not_eq_true, State.applyIgnored_iff, Option.isSome_iff_ne_none, State.ignoredIn]
  tauto

end

/-- An apply works on one drive at a time: it changes neither the orders nor the ladder, by which with the drive's own
slot it refuses (R73), and leaves FP's record to the REPLY. -/
structure AppliesAlone (ps : List Part) (refusal : State → Drive → Option ApplyStatus)
    (take : State → Drive → State) : Prop extends OneDriveAtATime ps (State.applyAt refusal take) where
  orders : .orders ∉ ps
  ladder : .ladder ∉ ps
  feed : .feed ∉ ps
  refusal_congr : ∀ {s t : State} {d : Drive}, s.SameForApply t d → refusal t d = refusal s d

section
variable {ps : List Part} {refusal : State → Drive → Option ApplyStatus} {take : State → Drive → State}
  (ha : AppliesAlone ps refusal take) (s : State) (rt : ReplyTo) (m : Word16) {d : Drive}
include ha

theorem AppliesAlone.changes_applyEach :
    Changes (.feed :: .outbound :: ps) s (s.applyEach rt refusal take m) :=
  ((changes_reply s rt .ok _ _).mono (by simp)).trans ((ha.foldl_changes _ _).mono (by simp))

/-- The drives leave FP's record as the REPLY left it (R189). -/
theorem AppliesAlone.replied_applyEach : Replied rt.tag .ok s (s.applyEach rt refusal take m) :=
  ha.foldl_changes (s.reply rt .ok _ _) _ .feed ha.feed

/-- Each drive of the mask has its turn, and finds there what it would have found at the command's arrival. -/
theorem AppliesAlone.applyEach_turn (hd : m.getLsbD d.val = true) :
    ∃ (t : State) (rest : List Drive), s.SameForApply t d ∧
      s.applyEach rt refusal take m = rest.foldl (State.applyAt refusal take) (State.applyAt refusal take t d) ∧
      (s.applyEach rt refusal take m).drive d = (State.applyAt refusal take t d).drive d := by
  obtain ⟨t, rest, hfold, hdrive, hsame, hchanges⟩ :=
    ha.foldl_turn (s.reply rt .ok (s.applyRefused refusal m) (s.applyIgnoredMask m)) (nodup_maskDrives m)
      ((mem_maskDrives m d).mpr hd)
  exact ⟨t, rest, ⟨hsame, hchanges .orders ha.orders, hchanges .ladder ha.ladder⟩, hfold, hdrive⟩

theorem AppliesAlone.applyEach_drive_of_untouched
    (h : m.getLsbD d.val = false ∨ s.ignoredIn m d) :
    (s.applyEach rt refusal take m).drive d = s.drive d := by
  obtain hm | ⟨hm, hi⟩ := h
  · have hmem : d ∉ maskDrives m := by rw [mem_maskDrives, hm]; exact Bool.false_ne_true
    rw [State.applyEach, ha.foldl_drive_of_notMem _ hmem, Untouched.reply_drive]
  · obtain ⟨t, _, hsame, -, hdrive⟩ := ha.applyEach_turn s rt m hm
    rw [hdrive, State.applyAt_of_ignored (hsame.ignored.trans ((s.applyIgnored_iff d).mpr hi)), hsame.drive]

variable (hm : m.getLsbD d.val = true) (hi : ¬ s.ignoredIn m d)
include hm hi

/-- The turn of a drive of the mask that is not ignored. -/
theorem AppliesAlone.applyEach_turn_of_heeded :
    ∃ (t : State) (rest : List Drive), s.SameForApply t d ∧ ¬ t.applyIgnored d = true ∧
      s.applyEach rt refusal take m = rest.foldl (State.applyAt refusal take) (State.applyAt refusal take t d) ∧
      (s.applyEach rt refusal take m).drive d = (State.applyAt refusal take t d).drive d := by
  obtain ⟨t, rest, hsame, hfold⟩ := ha.applyEach_turn s rt m hm
  refine ⟨t, rest, hsame, ?_, hfold⟩
  rw [hsame.ignored, s.applyIgnored_iff]
  exact fun h => hi ⟨hm, h⟩

theorem AppliesAlone.applyEach_drive_of_refused {st : ApplyStatus} (hr : refusal s d = some st) :
    (s.applyEach rt refusal take m).drive d = { s.drive d with applyStatus := st } := by
  obtain ⟨t, _, hsame, hti, -, hdrive⟩ := ha.applyEach_turn_of_heeded s rt m hm hi
  rw [hdrive, State.applyAt_of_refused hti ((ha.refusal_congr hsame).trans hr), State.setApply_drive_self, hsame.drive]

/-- The turn of a drive that takes its entry. -/
theorem AppliesAlone.applyEach_turn_of_taken (hr : refusal s d = none) :
    ∃ (t : State) (rest : List Drive), s.SameForApply t d ∧
      s.applyEach rt refusal take m = rest.foldl (State.applyAt refusal take) (take t d) ∧
      (s.applyEach rt refusal take m).drive d = (take t d).drive d := by
  obtain ⟨t, rest, hsame, hti, hfold⟩ := ha.applyEach_turn_of_heeded s rt m hm hi
  rw [State.applyAt_of_taken hti ((ha.refusal_congr hsame).trans hr)] at hfold
  exact ⟨t, rest, hsame, hfold⟩

end

/-! ### Apply Now (R74) -/

theorem State.nowRefusal_eq (s : State) (d : Drive) :
    s.nowRefusal d =
      if (s.drive d).state = .absent ∨ (s.drive d).state = .empty ∨ (s.drive d).state = .faulted then
        s.validate (s.drive d).staged
      else some .rejBusy := by
  simp [State.nowRefusal, DriveSlot.applies, or_assoc]

section
variable (s : State) (d : Drive)

/-- An entry put in force has the EMPTY drive asked for a SPEED, and any other drive's apply ended (R74). -/
theorem State.applyOk_eq :
    s.applyOk d =
      let a := (s.drive d).staged.inForce
      let t := s.modDrive d (·.putInForce a)
      if (s.drive d).state = .empty then
        (t.setApply d .inProgress).askDrive d (.speed (s.code a.start) a.start .apply)
      else t.endApply d .success := rfl

theorem State.applyOk_drive_of_ne {e : Drive} (h : e ≠ d) : (s.applyOk d).drive e = s.drive e := by
  rw [State.applyOk_eq]
  dsimp only
  split_ifs
  · rw [State.askDrive_drive_of_ne _ _ h, State.setApply_drive_of_ne _ _ h, State.drive_modDrive_of_ne _ _ _ _ h.symm]
  · rw [State.endApply_drive_of_ne _ _ h, State.drive_modDrive_of_ne _ _ _ _ h.symm]

theorem State.applyOk_event_of_ne {k : EventClass} (h : k ≠ .applyDone) : (s.applyOk d).event k = s.event k := by
  rw [State.applyOk_eq]
  dsimp only
  split_ifs
  · exact State.askDrive_event_of_ne _ _ _ h
  · exact State.endApply_event_of_ne _ _ _ h

/-- The slot of a drive whose staged entry Apply Now has put in force (R74 step 4). -/
def DriveSlot.stagedInForce (x : DriveSlot) : DriveSlot := x.putInForce x.staged.inForce

/-- The SPEED that Apply Now asks for on an EMPTY drive (R75). -/
def State.applySpeed (s : State) (d : Drive) : DriveRequest :=
  let a := (s.drive d).staged.inForce
  .speed (s.code a.start) a.start .apply

theorem State.applyOk_of_nonempty (h : (s.drive d).state ≠ .empty) :
    (s.applyOk d).drive d = { (s.drive d).stagedInForce with applyStatus := .success } ∧
      ((s.applyOk d).event .applyDone).told d := by
  rw [State.applyOk_eq]
  dsimp only
  rw [if_neg h, State.endApply_drive_self, State.endApply_event, State.drive_modDrive_self]
  exact ⟨rfl, EventRecord.told_raised_self _ _ _ _⟩

/-- The slot that the SPEED of an EMPTY drive is asked for on (R74 step 6). -/
theorem State.applyOk_asks (h : (s.drive d).state = .empty) :
    ∃ t : State, t.drive d = { (s.drive d).stagedInForce with applyStatus := .inProgress } ∧
      s.applyOk d = t.askDrive d (s.applySpeed d) := by
  refine ⟨(s.modDrive d (·.putInForce (s.drive d).staged.inForce)).setApply d .inProgress, ?_, ?_⟩
  · rw [State.setApply_drive_self, State.drive_modDrive_self]; rfl
  · rw [State.applyOk_eq]; exact if_pos h

theorem State.applyOk_drive_of_free (h : (s.drive d).state = .empty) (ho : (s.drive d).outstanding = none)
    (hc : (s.drive d).checkPhase = .idle) :
    (s.applyOk d).drive d =
      ({ (s.drive d).stagedInForce with applyStatus := .inProgress } : DriveSlot).sent (s.applySpeed d) := by
  obtain ⟨t, ht, hask⟩ := s.applyOk_asks d h
  have hfree : (t.drive d).portFree = true := by rw [ht]; exact (DriveSlot.portFree_iff _).mpr ⟨ho, hc⟩
  rw [hask, State.askDrive_drive_of_free _ _ _ hfree, ht]

theorem State.applyOk_drive_of_busy (h : (s.drive d).state = .empty)
    (hb : (s.drive d).outstanding ≠ none ∨ (s.drive d).checkPhase ≠ .idle) (hw : (s.drive d).waiting = none) :
    (s.applyOk d).drive d =
      { (s.drive d).stagedInForce with applyStatus := .inProgress, waiting := some (s.applySpeed d) } := by
  obtain ⟨t, ht, hask⟩ := s.applyOk_asks d h
  have hbusy : ¬ (t.drive d).portFree = true := by
    rw [ht, DriveSlot.portFree_iff]
    exact not_and_or.mpr hb
  rw [hask, State.askDrive_drive_of_busy _ _ _ hbusy (by rw [ht]; exact hw), ht]

end

/-- Apply Now at one drive is the common form, its taking an entry put in force. -/
theorem State.applyNowAt_eq : State.applyNowAt = State.applyAt State.nowRefusal State.applyOk := rfl

/-- Of the class records Apply Now raises APPLY-DONE alone (R82). -/
theorem State.applyNowAt_event_of_ne (s : State) (d : Drive) {k : EventClass} (h : k ≠ .applyDone) :
    (s.applyNowAt d).event k = s.event k := by
  rw [State.applyNowAt_eq]
  exact State.applyAt_cases (P := fun t => t.event k = s.event k) rfl (fun _ => rfl) (s.applyOk_event_of_ne d h)

theorem appliesAlone_now : AppliesAlone [.drives, .outbound, .events] State.nowRefusal State.applyOk where
  drive_of_ne s d _ h := State.applyAt_drive_of_ne h (s.applyOk_drive_of_ne d h)
  changes := State.applyNowAt_eq ▸ changes_applyNowAt
  orders := by decide
  ladder := by decide
  feed := by decide
  refusal_congr h := h.nowRefusal

/-- Apply Now without the load decision that may follow it. -/
def State.appliedNow (s : State) (rt : ReplyTo) (m : Word16) : State :=
  s.applyEach rt State.nowRefusal State.applyOk m

theorem exec_applyNow_of_handlesAsNew {f : CmdFrame} {m : Word16} {s : State} (hp : parseMask f.body = some m)
    (hn : s.handlesAsNew f.tag f.resend) :
    exec (.applyNow f) s = .next (State.applyMask (cmdReply f 5) State.nowRefusal State.applyNowAt m s) :=
  congrArg Host.Outcome.next (State.answer_of_handlesAsNew (rt := cmdReply f 5) _ hp hn)

section
variable (s : State) (rt : ReplyTo) (m : Word16)

theorem joined_appliedNow :
    Joined [.reply rt.tag rt.kind rt.number .ok none (s.applyRefused State.nowRefusal m) (s.applyIgnoredMask m)] s
      (s.appliedNow rt m) :=
  joined_of_closed (ps := [.drives, .outbound, .events])
    (u := s.reply rt .ok (s.applyRefused State.nowRefusal m) (s.applyIgnoredMask m)) rfl
    (fun _ hc => closed_foldl fun _ _ => closed_applyNowAt hc (List.Subset.refl _))

theorem State.appliedNow_event_of_ne {k : EventClass} (h : k ≠ .applyDone) :
    (s.appliedNow rt m).event k = s.event k :=
  List.foldlRecOn (motive := fun t : State => t.event k = s.event k) (maskDrives m) _
    (Untouched.reply_event _ _ _ _ _ _) (fun t ht d _ => (t.applyNowAt_event_of_ne d h).trans ht)

/-- What APPLY-DONE tells of a drive stays told in the turns of the drives after it. -/
theorem State.foldl_applyNow_told {d : Drive} (l : List Drive) (h : (s.event .applyDone).told d) :
    ((l.foldl (State.applyAt State.nowRefusal State.applyOk) s).event .applyDone).told d :=
  closed_foldl (P := fun t => (t.event .applyDone).told d)
    (fun _ _ => closed_applyNowAt (closed_told [.drives, .outbound, .events] .applyDone d) (List.Subset.refl _)) h

end

/-- Settles O23: Apply Now deals with each drive of its mask as at the command's arrival, so each clause about a drive
is one about `applyOk` there. -/
theorem applyNowEffect : Obligations.ApplyNowEffect := by
  unfold Obligations.ApplyNowEffect
  intro f m s hp hn ignores rejects takes
  have hrej (d : Drive) : s.nowRefusal d = rejects d := s.nowRefusal_eq d
  have hany : (maskDrives m).any (s.applySucceeds State.nowRefusal) = true ↔ ∃ d, takes d := by
    simp only [State.any_applySucceeds, hrej]; rfl
  refine ⟨s.appliedNow (cmdReply f 5) m, ?_, appliesAlone_now.replied_applyEach s (cmdReply f 5) m,
    ⟨_, _, joined_appliedNow s (cmdReply f 5) m, fun d => ⟨s.getLsbD_applyIgnoredMask m d, ?_⟩⟩,
    fun d => ⟨appliesAlone_now.applyEach_drive_of_untouched s _ m, fun st hm hi hr =>
      appliesAlone_now.applyEach_drive_of_refused s _ m hm hi ((hrej d).trans hr), ?_⟩,
    fun k hk => s.appliedNow_event_of_ne _ m hk, (appliesAlone_now.changes_applyEach s _ m).mono (by decide)⟩
  · rw [exec_applyNow_of_handlesAsNew hp hn]
    exact congrArg Host.Outcome.next (if_congr hany rfl rfl)
  · rw [State.getLsbD_applyRefused, hrej]; rfl
  · rintro ⟨hm, hi, hr⟩
    obtain ⟨t, rest, hsame, hfold, hdrive⟩ :=
      appliesAlone_now.applyEach_turn_of_taken s (cmdReply f 5) m hm hi ((hrej d).trans hr)
    rw [State.appliedNow, hdrive, ← hsame.drive, ← hsame.code]
    refine ⟨fun he => ?_, t.applyOk_drive_of_free d, t.applyOk_drive_of_busy d⟩
    obtain ⟨hslot, htold⟩ := t.applyOk_of_nonempty d he
    exact ⟨hslot, by rw [hfold]; exact (t.applyOk d).foldl_applyNow_told rest htold⟩

/-! ### Apply At Load (R77) -/

/-- The staged entry of drive `d` becomes its pending copy (R77 step 3). -/
def State.pendStaged (s : State) (d : Drive) : State :=
  s.modDrive d (fun x => { x with pendingCopy := some x.staged.inForce, applyStatus := .pending })

/-- Apply At Load at one drive is the common form, its taking a pending copy. -/
theorem State.applyAtLoadAt_eq : State.applyAtLoadAt = State.applyAt State.laterRefusal State.pendStaged := rfl

theorem appliesAlone_atLoad : AppliesAlone [.drives] State.laterRefusal State.pendStaged where
  drive_of_ne s _ _ h := State.applyAt_drive_of_ne h (s.drive_modDrive_of_ne _ _ _ h.symm)
  changes := State.applyAtLoadAt_eq ▸ changes_applyAtLoadAt
  orders := by decide
  ladder := by decide
  feed := by decide
  refusal_congr h := h.laterRefusal

/-- Apply At Load without the load decision that may follow it. -/
def State.appliedAtLoad (s : State) (rt : ReplyTo) (m : Word16) : State :=
  s.applyEach rt State.laterRefusal State.pendStaged m

theorem exec_applyAtLoad_of_handlesAsNew {f : CmdFrame} {m : Word16} {s : State} (hp : parseMask f.body = some m)
    (hn : s.handlesAsNew f.tag f.resend) :
    exec (.applyAtLoad f) s = .next (State.applyMask (cmdReply f 6) State.laterRefusal State.applyAtLoadAt m s) :=
  congrArg Host.Outcome.next (State.answer_of_handlesAsNew (rt := cmdReply f 6) _ hp hn)

/-- Nothing but the REPLY goes out: the drives of an Apply At Load raise no event (R82). -/
theorem State.appliedAtLoad_outbound (s : State) (rt : ReplyTo) (m : Word16) :
    (s.appliedAtLoad rt m).outbound = s.outbound ++
      [.reply rt.tag rt.kind rt.number .ok none (s.applyRefused State.laterRefusal m) (s.applyIgnoredMask m)] :=
  appliesAlone_atLoad.foldl_changes (s.reply rt .ok _ _) _ .outbound (by decide)

/-- Settles O24: as for Apply Now, a drive that takes its entry being one whose staged entry is pended. -/
theorem applyAtLoadEffect : Obligations.ApplyAtLoadEffect := by
  unfold Obligations.ApplyAtLoadEffect
  intro f m s hp hn ignores rejects takes
  refine ⟨s.appliedAtLoad (cmdReply f 6) m, ?_, appliesAlone_atLoad.replied_applyEach s (cmdReply f 6) m,
    ⟨_, _, s.appliedAtLoad_outbound (cmdReply f 6) m, fun d =>
      ⟨s.getLsbD_applyIgnoredMask m d, s.getLsbD_applyRefused State.laterRefusal m d⟩⟩,
    fun d => ⟨appliesAlone_atLoad.applyEach_drive_of_untouched s _ m, fun st hm hi hr =>
      appliesAlone_atLoad.applyEach_drive_of_refused s _ m hm hi hr, ?_⟩,
    (appliesAlone_atLoad.changes_applyEach s _ m).mono (by decide)⟩
  · rw [exec_applyAtLoad_of_handlesAsNew hp hn]
    exact congrArg Host.Outcome.next (if_congr (s.any_applySucceeds State.laterRefusal m) rfl rfl)
  · rintro ⟨hm, hi, hr⟩
    obtain ⟨t, _, hsame, -, hdrive⟩ :=
      appliesAlone_atLoad.applyEach_turn_of_taken s (cmdReply f 6) m hm hi hr
    rw [State.appliedAtLoad, hdrive, State.pendStaged, State.drive_modDrive_self, hsame.drive]

end Sys2Proof.Machine
end

section
/-! Production orders (chapter 7): what the five order commands do to an order, to its image slot, and to the drives
that hold its blanks. -/

namespace Sys2Proof.Machine

/-! ### A taken order command -/

/-- Order `o` is changed by `f`, and the REPLY carries OK. -/
def State.orderChanged (s : State) (rt : ReplyTo) (o : OrderNo) (f : Order → Order) : State :=
  (s.modOrder o f).replyPlain rt .ok

/-- What the order commands have in common when they are taken (R121 to R125): order `o` is changed by `f`, the REPLY
carries OK, and ORDER-STATE is raised with the order's bit. -/
def State.orderTaken (s : State) (rt : ReplyTo) (o : OrderNo) (f : Order → Order) : State :=
  (s.orderChanged rt o f).raiseOrder o

section
variable (s : State) (rt : ReplyTo) (o : OrderNo) (f : Order → Order)

theorem State.orderChanged_order_self : (s.orderChanged rt o f).order o = f (s.order o) :=
  s.order_modOrder_self o f

theorem State.orderChanged_order_of_ne {p : OrderNo} (h : p ≠ o) : (s.orderChanged rt o f).order p = s.order p :=
  s.order_modOrder_of_ne o p f h.symm

theorem replied_orderChanged : Replied rt.tag .ok s (s.orderChanged rt o f) :=
  replied_replyPlain (s.modOrder o f) rt .ok

theorem State.orderChanged_outbound : (s.orderChanged rt o f).outbound = s.outbound ++ [rt.frame .ok] :=
  (s.modOrder o f).replyPlain_outbound rt .ok

theorem State.orderChanged_event (k : EventClass) : (s.orderChanged rt o f).event k = s.event k := rfl

theorem changes_orderChanged : Changes [.orders, .feed, .events, .outbound] s (s.orderChanged rt o f) := by
  have hm : Changes [.orders] s (s.modOrder o f) := changes_of_closed (fun _ hc h => hc.orders (by decide) _ _ _ h)
  exact (hm.mono (by decide)).trans ((changes_replyPlain (s.modOrder o f) rt .ok).mono (by decide))

theorem State.orderTaken_order (p : OrderNo) : (s.orderTaken rt o f).order p = (s.orderChanged rt o f).order p :=
  Untouched.raiseOrder_order _ o p

theorem replied_orderTaken : Replied rt.tag .ok s (s.orderTaken rt o f) :=
  (Untouched.raiseOrder_feed _ o).trans (replied_orderChanged s rt o f)

theorem raisedOnly_orderTaken : RaisedOnly .orderState (bitMask o.val) none s (s.orderTaken rt o f) :=
  raisedOnly_raise (s.orderChanged rt o f) .orderState (bitMask o.val) none

theorem State.orderTaken_outbound :
    (s.orderTaken rt o f).outbound = s.outbound ++ [rt.frame .ok] ++ s.placedBy .orderState :=
  (s.orderChanged rt o f).raise_outbound .orderState (bitMask o.val) none

theorem changes_orderTaken : Changes [.orders, .feed, .events, .outbound] s (s.orderTaken rt o f) :=
  (changes_orderChanged s rt o f).trans ((changes_raiseOrder _ o).mono (by decide))

/-- A taken order command in full, for what its change of the order comes to. -/
theorem State.orderTaken_effect {x : Order} (hx : f (s.order o) = x) :
    (s.orderTaken rt o f).order o = x ∧ (∀ p, p ≠ o → (s.orderTaken rt o f).order p = s.order p) ∧
      RaisedOnly .orderState (bitMask o.val) none s (s.orderTaken rt o f) ∧
      Replied rt.tag .ok s (s.orderTaken rt o f) ∧
      (s.orderTaken rt o f).outbound = s.outbound ++ [rt.frame .ok] ++ s.placedBy .orderState ∧
      Changes [.orders, .feed, .events, .outbound] s (s.orderTaken rt o f) := by
  refine ⟨?_, fun p hp => ?_, raisedOnly_orderTaken s rt o f, replied_orderTaken s rt o f,
    s.orderTaken_outbound rt o f, changes_orderTaken s rt o f⟩
  · rw [State.orderTaken_order, State.orderChanged_order_self, hx]
  · rw [State.orderTaken_order, State.orderChanged_order_of_ne _ _ _ _ hp]

end

/-- The REPLY and a change of an order may change places. -/
theorem State.modOrder_replyPlain (s : State) (rt : ReplyTo) (st : Status) (o : OrderNo) (f : Order → Order) :
    (s.replyPlain rt st).modOrder o f = (s.modOrder o f).replyPlain rt st := rfl

/-- An order in another state, its fields and counts kept. -/
def Order.inState (x : Order) (st : OrderState) : Order := { x with state := st }

/-- Two changes of one order are one. -/
theorem State.modOrder_modOrder (s : State) (o : OrderNo) (f g : Order → Order) :
    (s.modOrder o f).modOrder o g = s.modOrder o (fun x => g (f x)) := by
  simp [State.modOrder, State.order, Vector.set_set]

/-- A change of the order and then of its state, with the REPLY between, is one taken order command. -/
theorem State.orderTo_orderChanged (s : State) (rt : ReplyTo) (o : OrderNo) (f : Order → Order) (st : OrderState) :
    (s.orderChanged rt o f).orderTo o st = s.orderTaken rt o (fun x => { f x with state := st }) := by
  rw [State.orderTo, State.orderChanged, State.modOrder_replyPlain, State.modOrder_modOrder]; rfl

/-! ### An order's hold on its image slot -/

/-- A taken order command that changes the order count of the order's image slot by `g` (R121, R125). -/
def State.orderSlotTaken (s : State) (rt : ReplyTo) (o : OrderNo) (f : Order → Order) (i : SlotNo) (g : Nat → Nat) :
    State :=
  (s.modImage i (fun x => { x with orderCount := g x.orderCount })).orderTaken rt o f

section
variable (s : State) (rt : ReplyTo) (o : OrderNo) (f : Order → Order) (i : SlotNo) (g : Nat → Nat)

/-- Such a command in full: the slot's count is no part of what the order, FP or the events show. -/
theorem State.orderSlotTaken_effect {x : Order} (hx : f (s.order o) = x) :
    (s.orderSlotTaken rt o f i g).order o = x ∧ (∀ p, p ≠ o → (s.orderSlotTaken rt o f i g).order p = s.order p) ∧
      (s.orderSlotTaken rt o f i g).image i = { s.image i with orderCount := g (s.image i).orderCount } ∧
      (∀ j, j ≠ i → (s.orderSlotTaken rt o f i g).image j = s.image j) ∧
      Replied rt.tag .ok s (s.orderSlotTaken rt o f i g) ∧
      RaisedOnly .orderState (bitMask o.val) none s (s.orderSlotTaken rt o f i g) ∧
      (s.orderSlotTaken rt o f i g).outbound = s.outbound ++ [rt.frame .ok] ++ s.placedBy .orderState ∧
      Changes [.orders, .images, .feed, .events, .outbound] s (s.orderSlotTaken rt o f i g) := by
  let t := s.modImage i (fun x => { x with orderCount := g x.orderCount })
  obtain ⟨horder, hothers, hraised, hreplied, hout, hchanges⟩ := t.orderTaken_effect rt o f hx
  have himage (j : SlotNo) : (s.orderSlotTaken rt o f i g).image j = t.image j :=
    State.image_congr (hchanges .images (by decide)) j
  have hm : Changes [.images] s t := changes_of_closed (fun _ hc h => hc.images (by decide) _ _ _ h)
  refine ⟨horder, hothers, ?_, fun j hj => ?_, hreplied, hraised, hout,
    (hm.mono (by decide)).trans (hchanges.mono (by decide))⟩
  · rw [himage, State.image_modImage_self]
  · rw [himage, State.image_modImage_of_ne _ _ _ _ hj.symm]

end

/-! ### Order Define -/

theorem be16_toNat_lt (a b : Byte) : (be16 a b).toNat < 65536 := (be16 a b).isLt

/-- A quantity that Order Define can carry is at most 65,535: its field has two bytes (R188). -/
theorem quantity_lt_of_parseOrderDefine {body : List Byte} {a : OrderDefineArgs} (h : parseOrderDefine body = some a) :
    a.quantity < 65536 := by
  unfold parseOrderDefine at h
  split at h
  · split at h
    · obtain rfl := Option.some.inj h
      exact be16_toNat_lt _ _
    · contradiction
  · contradiction

/-- Order Define's chain of checks (R121), its taken end an order that takes its slot. -/
theorem State.orderDefine_eq (rt : ReplyTo) (a : OrderDefineArgs) (s : State) (hq : a.quantity < 65536) :
    State.orderDefine rt a s =
      if (s.order a.order).state ≠ .free then s.replyPlain rt .state
      else if a.mediaClass < 1 ∨ 15 < a.mediaClass ∨ a.quantity < 1 ∨ 65535 < a.quantity then s.replyPlain rt .range
      else if (s.image a.slot).state = .undefined then s.replyPlain rt .state
      else (s.orderSlotTaken rt a.order (fun _ => a.stored) a.slot (· + 1)).loadDecision.arbiter := by
  have hrange : (a.mediaClass < 1 ∨ 15 < a.mediaClass ∨ a.quantity < 1 ∨ 65535 < a.quantity) ↔
      (a.mediaClass = 0 ∨ 15 < a.mediaClass ∨ a.quantity = 0) := by omega
  simp only [hrange]
  unfold State.orderDefine State.orderDefineCheck
  split_ifs <;> rfl

theorem exec_orderDefine_of_handlesAsNew {f : CmdFrame} {a : OrderDefineArgs} {s : State}
    (hp : parseOrderDefine f.body = some a) (hn : s.handlesAsNew f.tag f.resend) :
    exec (.orderDefine f) s = .next (State.orderDefine (cmdReply f 7) a s) :=
  congrArg Host.Outcome.next (State.answer_of_handlesAsNew (rt := cmdReply f 7) _ hp hn)

/-- Settles O26: a refusal only replies, and a taken Order Define is an order that takes its slot, before the load
decision and the arbiter. -/
theorem orderDefineEffect : Obligations.OrderDefineEffect := by
  unfold Obligations.OrderDefineEffect
  intro f a s hp hn
  refine ⟨_, exec_orderDefine_of_handlesAsNew hp hn, ?_⟩
  rw [State.orderDefine_eq _ _ _ (quantity_lt_of_parseOrderDefine hp)]
  split_ifs with hstate hrange hslot
  · exact repliedOnly_replyPlain s (cmdReply f 7) .state
  · exact repliedOnly_replyPlain s (cmdReply f 7) .range
  · exact repliedOnly_replyPlain s (cmdReply f 7) .state
  · exact ⟨_, rfl, s.orderSlotTaken_effect (cmdReply f 7) a.order (fun _ => a.stored) a.slot (· + 1) rfl⟩

/-! ### A blank withdrawn -/

theorem State.startUnloading_queue (s : State) (d : Drive) (kind : EntryKind) (dest : Dest) :
    (s.startUnloading d kind dest).queue =
      s.queue ++ [Entry.fresh kind (.station (trayOf d)) dest (s.drive d).trayRecord (some d) none] := by
  simp [State.startUnloading, State.enqueue]

/-- A withdrawal is a way to UNLOADING, whatever the record at the tray (R60). -/
theorem State.withdraw_eq_startUnloading (s : State) (d : Drive) :
    ∃ kind dest, s.withdraw d = s.startUnloading d kind dest := by
  unfold State.withdraw
  split
  · split <;> exact ⟨_, _, rfl⟩
  · exact ⟨_, _, rfl⟩

/-- A blank goes back to the spindle it came from (R60). -/
theorem State.withdraw_of_spindle {s : State} {d : Drive} {r : DiscRecord} {i : Fin 4} (hr : s.trayRecordOf d = some r)
    (hi : r.origin = .spindle i) : s.withdraw d = s.startUnloading d .return (.station (spindleStation i)) := by
  simp [State.withdraw, hr, hi]

theorem State.withdraw_drive_of_ne (s : State) {d e : Drive} (h : e ≠ d) : (s.withdraw d).drive e = s.drive e := by
  obtain ⟨kind, dest, hw⟩ := s.withdraw_eq_startUnloading d
  rw [hw, State.startUnloading_drive_of_ne _ _ _ h]

theorem State.withdraw_event_of_ne (s : State) (d : Drive) {k : EventClass} (ha : k ≠ .applyDone)
    (hd : k ≠ .driveState) : (s.withdraw d).event k = s.event k := by
  obtain ⟨kind, dest, hw⟩ := s.withdraw_eq_startUnloading d
  rw [hw, State.startUnloading_event_of_ne _ _ _ _ ha hd]

/-- What stands in the transport queue stays in it at a withdrawal. -/
theorem State.queue_subset_withdraw (s : State) (d : Drive) : s.queue ⊆ (s.withdraw d).queue := by
  obtain ⟨kind, dest, hw⟩ := s.withdraw_eq_startUnloading d
  rw [hw, State.startUnloading_queue]
  exact List.subset_append_left _ _

theorem oneDriveAtATime_withdraw : OneDriveAtATime [.drives, .queue, .printer, .outbound, .events] State.withdraw where
  drive_of_ne s _ _ h := s.withdraw_drive_of_ne h
  changes := changes_withdraw

theorem State.trayRecordOf_congr {s t : State} {d : Drive} (hd : t.drive d = s.drive d) (hr : t.records = s.records) :
    t.trayRecordOf d = s.trayRecordOf d := by
  have hlive : t.liveRecord = s.liveRecord := by
    funext k
    rw [State.liveRecord, State.live, State.record_congr hr]; rfl
  rw [State.trayRecordOf, hd, hlive, State.trayRecordOf]

/-! ### The blanks of a list of drives withdrawn -/

/-- Drive `d` of state `s` is on its way out with a RETURN entry to spindle `i` (R60, R61). -/
def State.returning (s : State) (d : Drive) (token : Option Token) (i : Fin 4) : Prop :=
  (s.drive d).unloadingWith .return ∧
    ∃ e ∈ s.queue, e.kind = .return ∧ e.source = .station (trayOf d) ∧ e.dest = .station (spindleStation i) ∧
      e.token = token ∧ e.drive = some d

theorem State.returning_withdraw {s : State} {d : Drive} {r : DiscRecord} {i : Fin 4} (hr : s.trayRecordOf d = some r)
    (hi : r.origin = .spindle i) : (s.withdraw d).returning d (s.drive d).trayRecord i := by
  rw [State.withdraw_of_spindle hr hi]
  have hside := s.startUnloading_discSide d .return (.station (spindleStation i))
  simp only [DriveSlot.discSide, Prod.mk.injEq] at hside
  obtain ⟨hstate, hphase, hentry, -⟩ := hside
  refine ⟨⟨hstate, hphase, hentry⟩, Entry.fresh .return (.station (trayOf d)) (.station (spindleStation i))
    (s.drive d).trayRecord (some d) none, ?_, rfl, rfl, rfl, rfl, rfl⟩
  rw [State.startUnloading_queue]
  exact List.mem_concat_self

section
variable (s : State) (l : List Drive)

theorem State.queue_subset_foldl_withdraw : s.queue ⊆ (l.foldl State.withdraw s).queue :=
  List.foldlRecOn (motive := fun t : State => s.queue ⊆ t.queue) l _ (List.Subset.refl _)
    (fun t ht d _ => List.Subset.trans ht (t.queue_subset_withdraw d))

theorem State.foldl_withdraw_event_of_ne {k : EventClass} (ha : k ≠ .applyDone) (hd : k ≠ .driveState) :
    (l.foldl State.withdraw s).event k = s.event k :=
  List.foldlRecOn (motive := fun t : State => t.event k = s.event k) l _ rfl
    (fun t ht d _ => (t.withdraw_event_of_ne d ha hd).trans ht)

/-- Each drive of a list without repeats withdraws the blank that it had before the first of them did. -/
theorem State.returning_foldl_withdraw {d : Drive} {r : DiscRecord} {i : Fin 4} (hl : l.Nodup) (hd : d ∈ l)
    (hr : s.trayRecordOf d = some r) (hi : r.origin = .spindle i) :
    (l.foldl State.withdraw s).returning d (s.drive d).trayRecord i := by
  obtain ⟨t, rest, hfold, hdrive, hsame, hchanges⟩ := oneDriveAtATime_withdraw.foldl_turn s hl hd
  have htr : t.trayRecordOf d = some r :=
    (State.trayRecordOf_congr hsame (hchanges .records (by decide))).trans hr
  obtain ⟨hunloading, e, hmem, hentry⟩ := State.returning_withdraw htr hi
  rw [hsame] at hentry
  refine ⟨hdrive ▸ hunloading, e, ?_, hentry⟩
  rw [hfold]
  exact (t.withdraw d).queue_subset_foldl_withdraw rest hmem

end

/-! ### The arbiter and the queue -/

/-- What an entry is to move, from where and to where: fixed when it joins the queue (R143). -/
def Entry.errand (e : Entry) : EntryKind × Source × Dest × Option Token × Option Drive :=
  (e.kind, e.source, e.dest, e.token, e.drive)

theorem State.chosen_errands (s : State) (k : Nat) : (s.chosen k).map Entry.errand = s.queue.map Entry.errand := by
  refine List.ext_getElem (by simp [State.chosen]) fun n h₁ h₂ => ?_
  simp only [State.chosen, List.getElem_map, List.getElem_mapIdx]
  split_ifs <;> rfl

/-- The arbiter changes no entry's errand, and neither adds nor takes an entry (R146). -/
theorem State.arbiter_errands (s : State) : s.arbiter.queue.map Entry.errand = s.queue.map Entry.errand := by
  unfold State.arbiter State.dispatch
  split
  · split
    · rename_i k _
      dsimp only
      split
      · rw [changes_startMove _ _ .queue (by decide), changes_setAside _ _ .queue (by decide)]
        exact s.chosen_errands k
      · exact s.chosen_errands k
    · rfl
  · rfl

theorem State.arbiter_returning {s : State} {d : Drive} {token : Option Token} {i : Fin 4}
    (h : s.returning d token i) : s.arbiter.returning d token i := by
  obtain ⟨hunloading, e, hmem, hentry⟩ := h
  obtain ⟨e', hmem', herrand⟩ : ∃ e' ∈ s.arbiter.queue, e'.errand = e.errand := by
    rw [← List.mem_map, s.arbiter_errands]
    exact List.mem_map_of_mem hmem
  simp only [Entry.errand, Prod.mk.injEq] at herrand
  obtain ⟨hkind, hsource, hdest, htoken, hdrive⟩ := herrand
  refine ⟨by rwa [Untouched.arbiter_drive], e', hmem', ?_⟩
  rwa [hkind, hsource, hdest, htoken, hdrive]

/-! ### Order Hold -/

theorem State.mem_readyOn (s : State) (o : OrderNo) (d : Drive) :
    d ∈ s.readyOn o ↔ (s.drive d).state = .ready ∧ s.orderOf (s.drive d).trayRecord = some o := by
  simp [State.readyOn, allDrives, List.mem_finRange]

theorem State.nodup_readyOn (s : State) (o : OrderNo) : (s.readyOn o).Nodup := (List.nodup_finRange 16).filter _

/-- A taken Order Hold before the arbiter's evaluation: the order is HELD, and its READY drives withdraw (R122). -/
def State.orderWithdrawn (s : State) (rt : ReplyTo) (o : OrderNo) : State :=
  (s.readyOn o).foldl State.withdraw (s.orderTaken rt o (·.inState .held))

/-- Order Hold's one check (R122). -/
theorem State.orderHold_eq (rt : ReplyTo) (o : OrderNo) (s : State) :
    State.orderHold rt o s =
      if (s.order o).state = .opened then (s.orderWithdrawn rt o).arbiter else s.replyPlain rt .state := rfl

theorem exec_orderHold_of_handlesAsNew {f : CmdFrame} {o : OrderNo} {s : State}
    (hp : parseName 8 f.body = some o) (hn : s.handlesAsNew f.tag f.resend) :
    exec (.orderHold f) s = .next (State.orderHold (cmdReply f 8) o s) :=
  congrArg Host.Outcome.next (State.answer_of_handlesAsNew (rt := cmdReply f 8) _ hp hn)

section
variable (s : State) (rt : ReplyTo) (o : OrderNo)

/-- The withdrawals change drives, queue, printer and events only. -/
theorem changes_withdrawals :
    Changes [.drives, .queue, .printer, .outbound, .events] (s.orderTaken rt o (·.inState .held))
      (s.orderWithdrawn rt o) :=
  oneDriveAtATime_withdraw.foldl_changes _ _

theorem State.orderWithdrawn_order (p : OrderNo) :
    (s.orderWithdrawn rt o).order p = (s.orderTaken rt o (·.inState .held)).order p :=
  State.order_congr (changes_withdrawals s rt o .orders (by decide)) p

theorem replied_orderWithdrawn : Replied rt.tag .ok s (s.orderWithdrawn rt o) :=
  (changes_withdrawals s rt o .feed (by decide)).trans (replied_orderTaken s rt o _)

theorem State.orderWithdrawn_orderState :
    (s.orderWithdrawn rt o).event .orderState =
      (s.event .orderState).raised .orderState (bitMask o.val) none :=
  (State.foldl_withdraw_event_of_ne _ _ (by decide) (by decide)).trans (raisedOnly_orderTaken s rt o _).1

theorem State.orderWithdrawn_records : (s.orderWithdrawn rt o).records = s.records :=
  (changes_withdrawals s rt o .records (by decide)).trans
    (changes_orderTaken s rt o _ .records (by decide))

theorem State.orderWithdrawn_drive_of_notMem {d : Drive} (h : d ∉ s.readyOn o) :
    (s.orderWithdrawn rt o).drive d = s.drive d :=
  (oneDriveAtATime_withdraw.foldl_drive_of_notMem _ h).trans
    (State.drive_congr (changes_orderTaken s rt o _ .drives (by decide)) d)

theorem State.orderWithdrawn_returning {d : Drive} {r : DiscRecord} {i : Fin 4} (hd : d ∈ s.readyOn o)
    (hr : s.trayRecordOf d = some r) (hi : r.origin = .spindle i) :
    (s.orderWithdrawn rt o).returning d (s.drive d).trayRecord i := by
  have hchanges := changes_orderTaken s rt o (·.inState .held)
  have hdrive := State.drive_congr (hchanges .drives (by decide)) d
  rw [← hdrive]
  exact State.returning_foldl_withdraw _ _ (s.nodup_readyOn o) hd
    ((State.trayRecordOf_congr hdrive (hchanges .records (by decide))).trans hr) hi

/-- The REPLY of a taken Order Hold goes out before what the withdrawals and the raise place. -/
theorem joined_orderWithdrawn : Joined [rt.frame .ok] s (s.orderWithdrawn rt o).arbiter :=
  joined_of_closed (ps := commandParts (.orderHold default)) (s.replyPlain_outbound rt .ok) (fun _ hc h =>
    closed_arbiter hc (by decide) (closed_foldl (fun _ _ => closed_withdraw hc (by decide))
      (closed_orderTo hc (by decide) h)))

end

/-! ### Order Resume -/

/-- Order Resume's one check (R123). -/
theorem State.orderResume_eq (rt : ReplyTo) (o : OrderNo) (s : State) :
    State.orderResume rt o s =
      if (s.order o).state = .held then
        (s.orderTaken rt o (·.inState .opened)).loadDecision.arbiter
      else s.replyPlain rt .state := rfl

theorem exec_orderResume_of_handlesAsNew {f : CmdFrame} {o : OrderNo} {s : State}
    (hp : parseName 8 f.body = some o) (hn : s.handlesAsNew f.tag f.resend) :
    exec (.orderResume f) s = .next (State.orderResume (cmdReply f 9) o s) :=
  congrArg Host.Outcome.next (State.answer_of_handlesAsNew (rt := cmdReply f 9) _ hp hn)

/-- Settles O27: a refusal only replies. A taken Order Hold is a taken order command, the withdrawals of the READY
drives one at a time, and the arbiter; a taken Order Resume a taken order command before the load decision. -/
theorem orderHoldAndResumeEffect : Obligations.OrderHoldAndResumeEffect := by
  unfold Obligations.OrderHoldAndResumeEffect
  intro f o s hp hn
  refine ⟨⟨_, exec_orderHold_of_handlesAsNew hp hn, ?_⟩, _, exec_orderResume_of_handlesAsNew hp hn, ?_⟩
  · have hchanges := changes_orderHold (cmdReply f 8) o s
    rw [State.orderHold_eq] at hchanges ⊢
    split_ifs at hchanges ⊢ with hopened
    · obtain ⟨horder, hothers, -⟩ := s.orderTaken_effect (cmdReply f 8) o (·.inState .held) rfl
      refine ⟨?_, fun p hne => ?_, fun d => ?_, fun k => ?_, ?_, ?_, joined_orderWithdrawn s (cmdReply f 8) o,
        hchanges.mono (by decide)⟩
      · rw [Untouched.arbiter_order, State.orderWithdrawn_order, horder]; rfl
      · rw [Untouched.arbiter_order, State.orderWithdrawn_order, hothers p hne]
      · split_ifs with hready
        · intro r i hr hi
          have hmem := (s.mem_readyOn o d).mpr hready
          exact State.arbiter_returning (s.orderWithdrawn_returning (cmdReply f 8) o hmem hr hi)
        · rw [Untouched.arbiter_drive, State.orderWithdrawn_drive_of_notMem _ _ _ (mt (s.mem_readyOn o d).mp hready)]
      · obtain ⟨u, hu⟩ := (s.orderWithdrawn (cmdReply f 8) o).arbiter_record k
        rw [hu, State.record_congr (s.orderWithdrawn_records (cmdReply f 8) o)]
      · rw [Untouched.arbiter_event, State.orderWithdrawn_orderState]
      · exact (Untouched.arbiter_feed _).trans (replied_orderWithdrawn s (cmdReply f 8) o)
    · exact repliedOnly_replyPlain s (cmdReply f 8) .state
  · rw [State.orderResume_eq]
    split_ifs with hheld
    · exact ⟨_, rfl, s.orderTaken_effect (cmdReply f 9) o (·.inState .opened) rfl⟩
    · exact repliedOnly_replyPlain s (cmdReply f 9) .state

/-! ### Order Quantity -/

/-- A quantity that Order Quantity can carry is at most 65,535: its field has two bytes (R188). -/
theorem quantity_lt_of_parseOrderQuantity {body : List Byte} {o : OrderNo} {q : Nat}
    (h : parseOrderQuantity body = some (o, q)) : q < 65536 := by
  unfold parseOrderQuantity at h
  split at h
  · obtain ⟨p, -, hpair⟩ := Option.map_eq_some_iff.mp h
    obtain ⟨rfl, rfl⟩ := Prod.mk.inj hpair
    exact be16_toNat_lt _ _
  · contradiction

/-- The state that follows from the quantity `q` (R124). -/
def Order.stateAt (x : Order) (q : Nat) : OrderState :=
  if x.state = .complete then (if x.passed < q then .opened else .complete)
  else if q = x.passed then .complete else x.state

/-- A taken Order Quantity before the load decision that may follow it. -/
def State.quantityTaken (s : State) (rt : ReplyTo) (o : OrderNo) (q : Nat) : State :=
  if (s.order o).stateAt q = (s.order o).state then s.orderChanged rt o (fun x => { x with quantity := q })
  else s.orderTaken rt o (fun x => { x with quantity := q, state := (s.order o).stateAt q })

/-- The new quantity and then the state it calls for, each a change of the order, are what `quantityTaken` says. -/
theorem State.quantityState_orderChanged (s : State) (rt : ReplyTo) (o : OrderNo) (q : Nat) :
    (s.orderChanged rt o (fun x => { x with quantity := q })).quantityState o q = s.quantityTaken rt o q := by
  have horder : (s.orderChanged rt o (fun x => { x with quantity := q })).order o = { s.order o with quantity := q } :=
    s.orderChanged_order_self rt o _
  unfold State.quantityState State.quantityTaken Order.stateAt
  rw [horder]
  by_cases hc : (s.order o).state = .complete
  · by_cases hq : (s.order o).passed < q <;> simp [hc, hq, State.orderTo_orderChanged]
  · by_cases hq : q = (s.order o).passed
    · simp [hc, hq, State.orderTo_orderChanged, Ne.symm hc]
    · simp [hc, hq]

/-- Order Quantity's chain of checks (R124), its taken end followed by the load decision when the quantity rises. -/
theorem State.orderQuantity_eq (rt : ReplyTo) (o : OrderNo) (q : Nat) (s : State) (hq : q < 65536) :
    State.orderQuantity rt (o, q) s =
      if (s.order o).state = .free then s.replyPlain rt .state
      else if q < 1 ∨ 65535 < q then s.replyPlain rt .range
      else if q < (s.order o).passed + (s.order o).inProgress then s.replyPlain rt .range
      else if (s.order o).quantity < q then (s.quantityTaken rt o q).loadDecision.arbiter
      else s.quantityTaken rt o q := by
  have hrange : (q < 1 ∨ 65535 < q) ↔ q = 0 := by omega
  simp only [hrange, ← State.quantityState_orderChanged]
  unfold State.orderQuantity State.quantityCheck
  split_ifs <;> rfl

theorem exec_orderQuantity_of_handlesAsNew {f : CmdFrame} {a : OrderNo × Nat} {s : State}
    (hp : parseOrderQuantity f.body = some a) (hn : s.handlesAsNew f.tag f.resend) :
    exec (.orderQuantity f) s = .next (State.orderQuantity (cmdReply f 10) a s) :=
  congrArg Host.Outcome.next (State.answer_of_handlesAsNew (rt := cmdReply f 10) _ hp hn)

/-- A taken Order Quantity in full: it raises ORDER-STATE where the state changes and nothing where it stays. -/
theorem State.quantityTaken_effect (s : State) (rt : ReplyTo) (o : OrderNo) (q : Nat) :
    let x := s.order o
    let u := s.quantityTaken rt o q
    u.order o = { x with quantity := q, state := x.stateAt q } ∧ (∀ p, p ≠ o → u.order p = s.order p) ∧
      Replied rt.tag .ok s u ∧
      (if x.stateAt q = x.state then (∀ k, u.event k = s.event k) ∧ u.outbound = s.outbound ++ [rt.frame .ok]
        else RaisedOnly .orderState (bitMask o.val) none s u ∧
          u.outbound = s.outbound ++ [rt.frame .ok] ++ s.placedBy .orderState) ∧
      Changes [.orders, .feed, .events, .outbound] s u := by
  dsimp only
  unfold State.quantityTaken
  split_ifs with hst
  · refine ⟨?_, fun p hp => s.orderChanged_order_of_ne rt o _ hp, replied_orderChanged s rt o _,
      ⟨s.orderChanged_event rt o _, s.orderChanged_outbound rt o _⟩, changes_orderChanged s rt o _⟩
    rw [State.orderChanged_order_self, hst]
  · obtain ⟨horder, hothers, hraised, hreplied, hout, hchanges⟩ := s.orderTaken_effect rt o
      (fun x => { x with quantity := q, state := (s.order o).stateAt q }) rfl
    exact ⟨horder, hothers, hreplied, ⟨hraised, hout⟩, hchanges⟩

/-! ### Order Cancel -/

theorem State.activeOn_ne_nil_iff (s : State) (o : OrderNo) :
    s.activeOn o ≠ [] ↔ ∃ d, (s.drive d).active.map (·.order) = some o := by
  simp [State.activeOn, List.filter_eq_nil_iff, allDrives, List.mem_finRange, Option.any_eq_true]

theorem State.pendingOn_ne_nil_iff (s : State) (o : OrderNo) :
    s.pendingOn o ≠ [] ↔ ∃ d, (s.drive d).pendingCopy.map (·.order) = some o := by
  simp [State.pendingOn, List.filter_eq_nil_iff, allDrives, List.mem_finRange, Option.any_eq_true]

/-- Order Cancel's chain of checks (R125), its taken end an order that gives up its slot. -/
theorem State.orderCancel_eq (rt : ReplyTo) (o : OrderNo) (s : State) :
    State.orderCancel rt o s =
      if (s.order o).state = .free then s.replyPlain rt .state
      else if (s.order o).inProgress ≠ 0 then s.replyPlain rt .busy
      else if ∃ d, (s.drive d).active.map (·.order) = some o ∨ (s.drive d).pendingCopy.map (·.order) = some o then
        s.replyPlain rt .busy
      else s.orderSlotTaken rt o (·.inState .free) (s.order o).slot (· - 1) := by
  simp only [exists_or, ← State.activeOn_ne_nil_iff, ← State.pendingOn_ne_nil_iff]
  unfold State.orderCancel State.cancelCheck
  split_ifs <;> rfl

theorem exec_orderCancel_of_handlesAsNew {f : CmdFrame} {o : OrderNo} {s : State}
    (hp : parseName 8 f.body = some o) (hn : s.handlesAsNew f.tag f.resend) :
    exec (.orderCancel f) s = .next (State.orderCancel (cmdReply f 11) o s) :=
  congrArg Host.Outcome.next (State.answer_of_handlesAsNew (rt := cmdReply f 11) _ hp hn)

/-- Settles O28: each command is its chain of checks, whose refusals only reply. A taken Order Quantity is
`quantityTaken` with the load decision when the quantity rises, a taken Order Cancel an order that gives up its slot. -/
theorem orderQuantityAndCancelEffect : Obligations.OrderQuantityAndCancelEffect := by
  unfold Obligations.OrderQuantityAndCancelEffect
  constructor
  · intro f o q s hp hn x
    refine ⟨_, exec_orderQuantity_of_handlesAsNew hp hn, ?_⟩
    rw [State.orderQuantity_eq _ _ _ _ (quantity_lt_of_parseOrderQuantity hp)]
    split
    · exact repliedOnly_replyPlain s (cmdReply f 10) .state
    split
    · exact repliedOnly_replyPlain s (cmdReply f 10) .range
    split
    · exact repliedOnly_replyPlain s (cmdReply f 10) .range
    · exact ⟨s.quantityTaken (cmdReply f 10) o q, rfl, s.quantityTaken_effect (cmdReply f 10) o q⟩
  · intro f o s hp hn
    refine ⟨_, exec_orderCancel_of_handlesAsNew hp hn, ?_⟩
    rw [State.orderCancel_eq]
    split_ifs with hfree hdiscs hdrives
    · exact repliedOnly_replyPlain s (cmdReply f 11) .state
    · exact repliedOnly_replyPlain s (cmdReply f 11) .busy
    · exact repliedOnly_replyPlain s (cmdReply f 11) .busy
    · exact s.orderSlotTaken_effect (cmdReply f 11) o (·.inState .free) (s.order o).slot (· - 1) rfl

end Sys2Proof.Machine
end

section
/-! The disc transport (chapter 8): which station can take a disc, which source can give one, and when an entry is
eligible. -/

namespace Sys2Proof.Machine

/-! ### Stations and drives -/

@[simp] theorem trayOf_val (d : Drive) : (trayOf d).val = d.val + 4 := rfl

@[simp] theorem spindleStation_val (i : Fin 4) : (spindleStation i).val = i.val := rfl

@[simp] theorem trayDrive_trayOf (d : Drive) : trayDrive (trayOf d) = some d := by
  have hrange : 4 ≤ d.val + 4 ∧ d.val + 4 < 20 := by omega
  simp [trayDrive, hrange]

/-- Past the sixteen trays stand the printer and the bins (R139). -/
theorem trayDrive_of_ge {i : StationNo} (h : 20 ≤ i.val) : trayDrive i = none :=
  dif_neg (fun hrange => by omega)

/-! ### What the lookups of spindles, records and artwork find -/

theorem mem_spindleStations {i : StationNo} : i ∈ spindleStations ↔ ∃ k, i = spindleStation k := by
  revert i
  decide

/-- A LOAD finds a spindle when some spindle of its class is LOADED (R145). -/
theorem State.loadedSpindle_isSome_iff (s : State) (c : Nat) :
    (s.loadedSpindle c).isSome = true ↔
      ∃ i : Fin 4, (s.station (spindleStation i)).loaded = true ∧ (s.station (spindleStation i)).mediaClass = c := by
  simp [State.loadedSpindle, List.find?_isSome, mem_spindleStations]

theorem State.freeRecord_isSome_iff (s : State) : s.freeRecord.isSome = true ↔ ∃ n, (s.record n).use = .free := by
  simp [State.freeRecord, List.find?_isSome, allRecords]

theorem State.orderOf_eq_some_iff (s : State) (t : Option Token) (o : OrderNo) :
    s.orderOf t = some o ↔ ∃ k, t = some k ∧ s.live k = true ∧ (s.record k.num).order = some o := by
  simp [State.orderOf, State.liveRecord, Option.bind_eq_some_iff, and_assoc]

/-- A live token leads to its record, the record to its order, the order to its template, the template to the artwork
(R131, R145). -/
theorem State.artworkReady_iff (s : State) (t : Option Token) :
    s.artworkReady t = true ↔ ∃ k o l, t = some k ∧ s.live k = true ∧ (s.record k.num).order = some o ∧
      (s.order o).template = some l ∧ (s.artwork (s.template l).art).state = .ready := by
  have htemplate : s.artworkReady t = true ↔
      ∃ l, s.templateOf t = some l ∧ (s.artwork (s.template l).art).state = .ready := by
    unfold State.artworkReady
    cases s.templateOf t <;> simp
  simp only [htemplate, State.templateOf, Option.bind_eq_some_iff, State.orderOf_eq_some_iff]
  tauto

theorem State.armHolds_eq_false_iff (s : State) : s.armHolds = false ↔ ∀ f ∈ s.queue, f.source ≠ .arm := by
  simp [State.armHolds]

/-! ### What a station can take and a source can give -/

section
variable (s : State) (e : Entry)

theorem State.canTake_spindle (i : Fin 4) :
    s.canTake e (spindleStation i) = true ↔ (s.station (spindleStation i)).count < 150 := by
  rw [State.canTake, if_pos ((spindleStation_val i).trans_lt i.isLt)]
  exact decide_eq_true_iff

theorem State.canTake_tray (d : Drive) :
    s.canTake e (trayOf d) = true ↔
      (s.drive d).state = .loading ∧ (s.drive d).phase = .waitDisc ∧ (s.drive d).trayRecord = none := by
  simp [State.canTake, and_assoc]

theorem State.canTake_printer :
    s.canTake e stationPR = true ↔ s.printer.state = .opened ∧ s.artworkReady e.token = true := by
  have hspindle : ¬ stationPR.val < 4 := by decide
  simp [State.canTake, hspindle, trayDrive_of_ge (i := stationPR) (by decide)]

theorem State.canTake_bin {i : StationNo} (h : 21 ≤ i.val) :
    s.canTake e i = true ↔ (s.station i).count < (s.station i).capacity := by
  have hspindle : ¬ i.val < 4 := by omega
  have hprinter : i ≠ stationPR := by rintro rfl; exact absurd h (by decide)
  simp [State.canTake, hspindle, trayDrive_of_ge (by omega : 20 ≤ i.val), hprinter, State.binTakes]

variable {s e}

theorem State.canGive_mediaClass {c : Nat} (h : e.source = .mediaClass c) :
    s.canGive e = true ↔ (s.loadedSpindle c).isSome = true ∧ s.freeRecord.isSome = true := by
  simp [State.canGive, h]

theorem State.canGive_tray {d : Drive} (h : e.source = .station (trayOf d)) :
    s.canGive e = true ↔ (s.drive d).state = .unloading ∧ (s.drive d).phase = .waitPick := by
  simp [State.canGive, h]

theorem State.canGive_printer (h : e.source = .station stationPR) :
    s.canGive e = true ↔ s.printer.state = .discharge := by
  simp [State.canGive, h, trayDrive_of_ge (i := stationPR) (by decide)]

theorem State.canGive_arm (h : e.source = .arm) : s.canGive e = true := by
  simp [State.canGive, h]

end

/-- An entry from the arm shuts out every other entry (R145). -/
theorem State.eligible_iff (s : State) (e : Entry) :
    s.eligible e = true ↔ s.canGive e = true ∧ s.canTake e (s.destOf e) = true ∧
      (e.source = .arm ∨ ∀ f ∈ s.queue, f.source ≠ .arm) := by
  rw [← s.armHolds_eq_false_iff, or_comm]
  simp [State.eligible, and_assoc]

/-- Settles O46: one row of R145's table after another, and then the two sides together with the ARM rule. -/
theorem eligibilityTable : Obligations.EligibilityTable := by
  unfold Obligations.EligibilityTable
  intro s e
  refine ⟨s.canTake_spindle e, s.canTake_tray e, ?printer, fun _ hi => s.canTake_bin e hi, ?load,
    fun _ hd => State.canGive_tray hd, State.canGive_printer, State.canGive_arm, s.eligible_iff e⟩
  case printer => rw [s.canTake_printer, s.artworkReady_iff]
  case load =>
    intro c hc
    rw [State.canGive_mediaClass hc, s.loadedSpindle_isSome_iff, s.freeRecord_isSome_iff]

end Sys2Proof.Machine
end

section
/-! Label printing (chapter 9): what a taken Artwork Begin does to its slot, and what an ARTWORK frame adds to it, up to
the frame that brings the fill point to the length. -/

namespace Sys2Proof.Machine

/-! ### A change of one artwork slot -/

theorem changes_modArtwork (s : State) (a : ArtNo) (f : Artwork → Artwork) :
    Changes [.artworks] s (s.modArtwork a f) :=
  changes_of_closed (fun _ hc h => hc.artworks (List.mem_singleton_self _) _ _ _ (.inl trivial) h)

/-! ### Artwork Begin (R164) -/

/-- A slot that waits for `length` bytes with the check value `check` (R164). -/
def Artwork.begun (x : Artwork) (length : Nat) (check : Word32) : Artwork :=
  { x with state := .filling, length := length, check := check, bytes := [], crc := crcInit }

/-- A taken Artwork Begin before the arbiter's evaluation: the slot begins anew and the REPLY carries OK. -/
def State.artworkBegun (s : State) (rt : ReplyTo) (a : ArtNo) (length : Nat) (check : Word32) : State :=
  (s.modArtwork a (·.begun length check)).replyPlain rt .ok

/-- Artwork Begin's chain of checks (R164). -/
theorem State.artworkBegin_eq (rt : ReplyTo) (a : ArtNo) (length : Nat) (check : Word32) (s : State) :
    State.artworkBegin rt (a, length, check) s =
      if (s.artwork a).inUse = true then s.replyPlain rt .busy
      else if length = 0 ∨ 8388608 < length then s.replyPlain rt .range
      else (s.artworkBegun rt a length check).arbiter := rfl

theorem exec_artworkBegin_of_handlesAsNew {f : CmdFrame} {a : ArtNo × Nat × Word32} {s : State}
    (hp : parseArtworkBegin f.body = some a) (hn : s.handlesAsNew f.tag f.resend) :
    exec (.artworkBegin f) s = .next (State.artworkBegin (cmdReply f 22) a s) :=
  congrArg Host.Outcome.next (State.answer_of_handlesAsNew (rt := cmdReply f 22) _ hp hn)

section
variable (s : State) (rt : ReplyTo) (a : ArtNo) (length : Nat) (check : Word32)

theorem State.artworkBegun_artwork_self :
    (s.artworkBegun rt a length check).artwork a = (s.artwork a).begun length check :=
  s.artwork_modArtwork_self a (·.begun length check)

theorem State.artworkBegun_artwork_of_ne {b : ArtNo} (h : b ≠ a) :
    (s.artworkBegun rt a length check).artwork b = s.artwork b :=
  s.artwork_modArtwork_of_ne a b (·.begun length check) h.symm

theorem replied_artworkBegun : Replied rt.tag .ok s (s.artworkBegun rt a length check) :=
  replied_replyPlain (s.modArtwork a _) rt .ok

theorem State.artworkBegun_outbound :
    (s.artworkBegun rt a length check).outbound = s.outbound ++ [rt.frame .ok] :=
  (s.modArtwork a _).replyPlain_outbound rt .ok

end

/-! ### The bytes of an ARTWORK frame (R165) -/

/-- An ARTWORK frame that passes its checks: FP counts it, and its bytes join the slot. -/
def State.artworkAppended (s : State) (a : ArtNo) (data : List Byte) : State :=
  s.countAccepted.modArtwork a (·.append data)

theorem Artwork.append_fillPoint (x : Artwork) (data : List Byte) :
    (x.append data).fillPoint = x.fillPoint + data.length :=
  List.length_append

section
variable (s : State) (a : ArtNo) (data : List Byte)

theorem State.artworkAppended_artwork_self : (s.artworkAppended a data).artwork a = (s.artwork a).append data :=
  s.countAccepted.artwork_modArtwork_self a _

theorem State.artworkAppended_artwork_of_ne {b : ArtNo} (h : b ≠ a) :
    (s.artworkAppended a data).artwork b = s.artwork b :=
  s.countAccepted.artwork_modArtwork_of_ne a b _ h.symm

theorem State.artworkAppended_feed : (s.artworkAppended a data).feed = s.countAccepted.feed := rfl

theorem changes_artworkAppended : Changes [.artworks, .feed] s (s.artworkAppended a data) := by
  have hcount : Changes [.feed] s s.countAccepted := changes_of_closed (fun _ hc h => hc.feed (by decide) _ _ h)
  exact (hcount.mono (by decide)).trans ((changes_modArtwork s.countAccepted a _).mono (by decide))

end

/-! ### The end of the fill (R166) -/

/-- What becomes of a slot whose fill point has reached its length (R166, log entry 22). -/
def Artwork.completed (x : Artwork) : Artwork :=
  if crcFinish x.crc = x.check then { x with state := .ready }
  else { x with state := .empty, length := 0, bytes := [], crc := crcInit }

/-- The end of the fill is one change of the slot, and ARTWORK with the slot's bit and the result. -/
theorem State.artworkComplete_eq (s : State) (a : ArtNo) :
    s.artworkComplete a = (s.modArtwork a Artwork.completed).raiseArtwork a
      (decide (crcFinish (s.artwork a).crc = (s.artwork a).check)) := by
  unfold State.artworkComplete
  split_ifs with hcrc <;> simp [State.modArtwork, Artwork.completed, hcrc]

section
variable (s : State) (a : ArtNo)

theorem State.artworkComplete_artwork_self : (s.artworkComplete a).artwork a = (s.artwork a).completed := by
  simp [State.artworkComplete_eq, State.raiseArtwork]

theorem State.artworkComplete_artwork_of_ne {b : ArtNo} (h : b ≠ a) :
    (s.artworkComplete a).artwork b = s.artwork b := by
  simp [State.artworkComplete_eq, State.raiseArtwork, State.artwork_modArtwork_of_ne _ _ _ _ h.symm]

theorem State.artworkComplete_feed : (s.artworkComplete a).feed = s.feed :=
  changes_artworkComplete s a .feed (by decide)

theorem raisedOnly_artworkComplete :
    RaisedOnly .artwork (bitMask a.val)
      (some (.artwork (decide (crcFinish (s.artwork a).crc = (s.artwork a).check)))) s (s.artworkComplete a) := by
  rw [State.artworkComplete_eq]
  exact raisedOnly_raise (s.modArtwork a Artwork.completed) .artwork (bitMask a.val) _

end

/-! ### The frame that fills its slot -/

/-- The frame that brings the fill point to the length: its bytes join the slot, the fill ends, and the arbiter evaluates
(R165, R166). -/
def State.artworkFilled (s : State) (a : ArtNo) (data : List Byte) : State :=
  ((s.artworkAppended a data).artworkComplete a).arbiter

section
variable (s : State) (a : ArtNo) (data : List Byte)

theorem State.artworkFilled_artwork_self :
    (s.artworkFilled a data).artwork a = ((s.artwork a).append data).completed := by
  rw [State.artworkFilled, Untouched.arbiter_artwork, State.artworkComplete_artwork_self,
    State.artworkAppended_artwork_self]

/-- The CRC-32 is the check value: the slot is READY with all its bytes (R166). -/
theorem State.artworkFilled_ready (h : crcFinish (crcRun (s.artwork a).crc data) = (s.artwork a).check) :
    (s.artworkFilled a data).artwork a = { (s.artwork a) with
      state := .ready, bytes := (s.artwork a).bytes ++ data, crc := crcRun (s.artwork a).crc data } :=
  (s.artworkFilled_artwork_self a data).trans (if_pos h)

/-- The CRC-32 is another: the slot is EMPTY and its bytes are gone (R166). -/
theorem State.artworkFilled_empty (h : ¬ crcFinish (crcRun (s.artwork a).crc data) = (s.artwork a).check) :
    ((s.artworkFilled a data).artwork a).state = .empty ∧ ((s.artworkFilled a data).artwork a).length = 0 ∧
      ((s.artworkFilled a data).artwork a).bytes = [] := by
  have hslot := (s.artworkFilled_artwork_self a data).trans (if_neg h)
  rw [hslot]
  exact ⟨rfl, rfl, rfl⟩

theorem State.artworkFilled_artwork_of_ne {b : ArtNo} (h : b ≠ a) :
    (s.artworkFilled a data).artwork b = s.artwork b := by
  rw [State.artworkFilled, Untouched.arbiter_artwork, State.artworkComplete_artwork_of_ne _ _ h,
    State.artworkAppended_artwork_of_ne _ _ _ h]

theorem State.artworkFilled_feed : (s.artworkFilled a data).feed = s.countAccepted.feed := by
  rw [State.artworkFilled, Untouched.arbiter_feed, State.artworkComplete_feed, State.artworkAppended_feed]

theorem raisedOnly_artworkFilled :
    RaisedOnly .artwork (bitMask a.val)
      (some (.artwork (decide (crcFinish (crcRun (s.artwork a).crc data) = (s.artwork a).check)))) s
      (s.artworkFilled a data) := by
  have h := raisedOnly_artworkComplete (s.artworkAppended a data) a
  rw [State.artworkAppended_artwork_self] at h
  obtain ⟨hraised, hothers⟩ := h
  have hevents (k : EventClass) : (s.artworkFilled a data).event k =
      ((s.artworkAppended a data).artworkComplete a).event k :=
    Untouched.arbiter_event _ k
  exact ⟨(hevents .artwork).trans hraised, fun k hk => (hevents k).trans (hothers k hk)⟩

end

/-! ### The checks of an ARTWORK frame (R165) -/

/-- An ARTWORK frame's chain of checks (R165): discarded with the cause of the first check that fails, and else its
bytes join the slot, whose end R166 gives once the fill point is the length. -/
theorem State.artworkTaken_eq (s : State) (a : ArtNo) (offset : Nat) (data : List Byte) :
    s.artworkTaken a offset data =
      if (s.artwork a).state ≠ .filling then s.discard .artwork
      else if offset ≠ (s.artwork a).fillPoint then s.discard .sequence
      else if (s.artwork a).length < offset + data.length then s.discard .length
      else if (s.artwork a).fillPoint + data.length = (s.artwork a).length then s.artworkFilled a data
      else s.artworkAppended a data := by
  have happended : (s.countAccepted.modArtwork a (·.append data)).artwork a = (s.artwork a).append data :=
    s.artworkAppended_artwork_self a data
  unfold State.artworkTaken State.artworkCause
  split_ifs with hstate hoffset hlength hfull
  · rfl
  · rfl
  · rfl
  all_goals
    dsimp only
    rw [happended, Artwork.append_fillPoint]
  · exact if_pos hfull
  · exact if_neg hfull

theorem exec_artworkFrame_of_bodyOk {a : ArtNo} {offset : Word32} {data : List Byte} (s : State)
    (h : artworkBodyOk data = true) :
    exec (.artworkFrame a offset data) s = .next (s.artworkTaken a offset.toNat data) :=
  congrArg Host.Outcome.next (if_pos h)

/-- Settles O20: Artwork Begin is its chain of checks, whose refusals only reply, and a slot begun; an ARTWORK frame is
its chain of checks, whose failures discard it whole, and the bytes joined to the slot, whose end follows when they fill
it. -/
theorem artworkTransferEffect : Obligations.ArtworkTransferEffect := by
  unfold Obligations.ArtworkTransferEffect
  constructor
  · intro f a length check s hp hn
    refine ⟨_, exec_artworkBegin_of_handlesAsNew hp hn, ?_⟩
    have hchanges := changes_artworkBegin (cmdReply f 22) (a, length, check) s
    rw [State.artworkBegin_eq] at hchanges ⊢
    split_ifs at hchanges ⊢ with huse hlength
    · exact repliedOnly_replyPlain s (cmdReply f 22) .busy
    · exact repliedOnly_replyPlain s (cmdReply f 22) .range
    · refine ⟨?_, fun b hb => ?_, ?_, ?_, hchanges⟩
      · rw [Untouched.arbiter_artwork]; exact s.artworkBegun_artwork_self (cmdReply f 22) a length check
      · rw [Untouched.arbiter_artwork]; exact s.artworkBegun_artwork_of_ne (cmdReply f 22) a length check hb
      · rw [Replied, Untouched.arbiter_feed]; exact replied_artworkBegun s (cmdReply f 22) a length check
      · rw [Untouched.arbiter_outbound]; exact s.artworkBegun_outbound (cmdReply f 22) a length check
  · intro a offset data s hbody x
    refine ⟨_, exec_artworkFrame_of_bodyOk s hbody, ?_⟩
    have hchanges := changes_artworkTaken s a offset.toNat data
    subst x
    rw [State.artworkTaken_eq] at hchanges ⊢
    split_ifs at hchanges ⊢ with hstate hoffset hlength hfull hcrc
    · exact discarded_discard s .artwork
    · exact discarded_discard s .sequence
    · exact discarded_discard s .length
    · exact ⟨s.artworkFilled_feed a data, fun b hb => s.artworkFilled_artwork_of_ne a data hb,
        raisedOnly_artworkFilled s a data, s.artworkFilled_ready a data hcrc, hchanges.mono (by decide)⟩
    · exact ⟨s.artworkFilled_feed a data, fun b hb => s.artworkFilled_artwork_of_ne a data hb,
        raisedOnly_artworkFilled s a data, s.artworkFilled_empty a data hcrc, hchanges.mono (by decide)⟩
    · exact ⟨s.artworkAppended_feed a data, fun b hb => s.artworkAppended_artwork_of_ne a data hb,
        s.artworkAppended_artwork_self a data, changes_artworkAppended s a data⟩

end Sys2Proof.Machine
end

section
/-! Events (chapter 11): what a raise does to its class record and to the outbound list, and how Event Enable deals with
the fifteen classes one after another. -/

namespace Sys2Proof.Machine

/-! ### A class record raised, and the frame it places (R196, R197) -/

section
variable {r : EventRecord} (c : EventClass) (mask : Word16) (value : Option EventValue)

/-- A raise that finds nothing pending is stored as it is, and sets the place flag of an enabled class. -/
theorem EventRecord.raised_of_not_pending (h : r.pending = false) :
    r.raised c mask value = { r with
      pending := true
      mask := mask
      value := value
      count := if c = .feedError then 1 else 0
      placed := r.placed || r.enabled } := by
  simp [EventRecord.raised, EventRecord.merge, h]

/-- A raise that finds the record pending is merged field by field, and leaves the place flag. -/
theorem EventRecord.raised_of_pending (h : r.pending = true) :
    r.raised c mask value = { r with
      mask := r.mask ||| mask
      value := value
      overwritten := r.overwritten || decide (r.value ≠ value)
      count := if c = .feedError then min 65535 (r.count + 1) else r.count } := by
  simp [EventRecord.raised, EventRecord.merge, h]

end

section
variable {s : State} {c : EventClass}

theorem State.placedBy_of_enabled (hp : (s.event c).pending = false) (he : (s.event c).enabled = true) :
    s.placedBy c = [.event c] := if_pos ⟨he, hp⟩

theorem State.placedBy_of_pending (hp : (s.event c).pending = true) : s.placedBy c = [] := by
  simp [State.placedBy, hp]

theorem State.placedBy_of_disabled (he : (s.event c).enabled = false) : s.placedBy c = [] := by
  simp [State.placedBy, he]

end

/-- Settles O9: the raised record is the stored or the merged one as the record was pending or not, and the frame is
what the raise places. -/
theorem raiseMergesAndPlaces : Obligations.RaiseMergesAndPlaces := by
  unfold Obligations.RaiseMergesAndPlaces
  intro s c mask value r t
  have hevent : t.event c = r.raised c mask value := s.raise_event c mask value
  have hout : t.outbound = s.outbound ++ s.placedBy c := s.raise_outbound c mask value
  have hothers : ∀ k, k ≠ c → t.event k = s.event k := fun _ hk => s.raise_event_of_ne mask value hk
  have hchanges : Changes [.events, .outbound] s t := (changes_raise s c mask value).mono (by decide)
  cases hp : r.pending with
  | false =>
    rw [hevent, hout, EventRecord.raised_of_not_pending c mask value hp]
    refine ⟨rfl, rfl, rfl, fun _ => ⟨rfl, rfl, rfl, fun he => ?enabled, fun he => ?disabled⟩, nofun, hothers,
      hchanges⟩
    case enabled => simp [State.placedBy_of_enabled hp he, he]
    case disabled => simp [State.placedBy_of_disabled he, he]
  | true =>
    rw [hevent, hout, EventRecord.raised_of_pending c mask value hp, State.placedBy_of_pending hp]
    exact ⟨hp, rfl, rfl, nofun, fun _ => ⟨rfl, by simp, rfl, rfl, List.append_nil _⟩, hothers, hchanges⟩

/-! ### Event Enable at one class (R198) -/

/-- A class record whose flag takes `on`: a class enabled while pending gets its place flag, a disabled class loses
it. -/
def EventRecord.switched (r : EventRecord) (on : Bool) : EventRecord :=
  { r with enabled := on, placed := if r.enabled = on then r.placed else on && (r.placed || r.pending) }

/-- The outbound list `l` after the flag of class `c`, whose record was `r`, has taken `on`. -/
def EventRecord.switchedFrames (r : EventRecord) (c : EventClass) (on : Bool) (l : List OutFrame) : List OutFrame :=
  if r.enabled = on then l
  else if on then l ++ (if r.pending then [.event c] else [])
  else if r.placed then l.filter (fun f => decide (f ≠ .event c))
  else l

theorem EventRecord.switched_of_enabled_eq {r : EventRecord} {on : Bool} (h : r.enabled = on) : r.switched on = r := by
  subst h
  simp [EventRecord.switched]

theorem EventRecord.switched_of_enabled_ne {r : EventRecord} {on : Bool} (h : r.enabled ≠ on) :
    r.switched on = { r with enabled := on, placed := on && (r.placed || r.pending) } := by
  simp [EventRecord.switched, h]

theorem State.modEvent_modEvent (s : State) (c : EventClass) (f g : EventRecord → EventRecord) :
    (s.modEvent c f).modEvent c g = s.modEvent c (fun r => g (f r)) := by
  simp [State.modEvent, State.event]

theorem State.modEvent_of_eq {s : State} {c : EventClass} {f : EventRecord → EventRecord}
    (h : f (s.event c) = s.event c) : s.modEvent c f = s := by
  rw [State.modEvent, h]
  simp [State.event]

theorem State.modEvent_congr {s : State} {c : EventClass} {f g : EventRecord → EventRecord}
    (h : f (s.event c) = g (s.event c)) : s.modEvent c f = s.modEvent c g := by
  simp only [State.modEvent, h]

section
variable (s : State) (c : EventClass) (on : Bool)

/-- Event Enable at one class changes that class's record and the outbound list, and nothing else. -/
theorem State.enableClass_eq :
    s.enableClass c on =
      (s.modEvent c (·.switched on)).setOutbound ((s.event c).switchedFrames c on s.outbound) := by
  by_cases he : (s.event c).enabled = on
  · rw [State.modEvent_of_eq (EventRecord.switched_of_enabled_eq he), EventRecord.switchedFrames, if_pos he]
    exact if_pos he
  · have hrecord {f : EventRecord → EventRecord}
        (hf : f (s.event c) = { s.event c with
          enabled := on, placed := on && ((s.event c).placed || (s.event c).pending) }) :
        s.modEvent c f = s.modEvent c (·.switched on) :=
      State.modEvent_congr (hf.trans (EventRecord.switched_of_enabled_ne he).symm)
    unfold State.enableClass EventRecord.switchedFrames State.placeEvent
    simp only [he, if_false, State.modEvent_modEvent]
    split_ifs with hon hp hp
    · rw [hrecord (by simp [hon, hp])]
      rfl
    · rw [hrecord (by simp [hon, hp]), List.append_nil]
      rfl
    · rw [hrecord (by simp [hon])]
      rfl
    · rw [hrecord (by simp [hon, hp])]
      rfl

theorem State.enableClass_event_self : (s.enableClass c on).event c = (s.event c).switched on := by
  rw [State.enableClass_eq]
  exact s.event_modEvent_self c (·.switched on)

theorem State.enableClass_event_of_ne {k : EventClass} (h : k ≠ c) : (s.enableClass c on).event k = s.event k := by
  rw [State.enableClass_eq]
  exact (s.event_modEvent c k (·.switched on)).trans (if_neg h.symm)

theorem State.enableClass_outbound :
    (s.enableClass c on).outbound = (s.event c).switchedFrames c on s.outbound := by
  rw [State.enableClass_eq]
  rfl

theorem changes_enableClass : Changes [.events, .outbound] s (s.enableClass c on) := by
  rw [State.enableClass_eq]
  intro p hp
  cases p with
  | events | outbound => simp at hp
  | _ => rfl

end

/-! ### The frames of the other classes, and the REPLYs -/

section
variable (r : EventRecord) (c : EventClass) (on : Bool) (l : List OutFrame)

/-- Only EVENT frames of the class itself join the list or leave it: a test that those fail sees the same frames. -/
theorem EventRecord.filter_switchedFrames {p : OutFrame → Bool} (hp : p (.event c) = false) :
    (r.switchedFrames c on l).filter p = l.filter p := by
  have hjoined : (l ++ [OutFrame.event c]).filter p = l.filter p := by simp [hp]
  have htaken : (l.filter (fun f => decide (f ≠ .event c))).filter p = l.filter p := by
    rw [List.filter_filter]
    refine List.filter_congr fun f _ => ?_
    by_cases hf : f = .event c <;> simp [hf, hp]
  unfold EventRecord.switchedFrames
  split_ifs with henabled hon hpending hplaced
  exacts [rfl, hjoined, congrArg _ l.append_nil, htaken, rfl]

theorem EventRecord.count_switchedFrames_of_ne {k : EventClass} (h : k ≠ c) :
    (r.switchedFrames c on l).count (.event k) = l.count (.event k) := by
  have hk : (OutFrame.event c == OutFrame.event k) = false := by simp [h.symm]
  rw [List.count_eq_length_filter, List.count_eq_length_filter, r.filter_switchedFrames c on l hk]

variable {r on}

theorem EventRecord.switchedFrames_of_enabled_eq (h : r.enabled = on) : r.switchedFrames c on l = l := if_pos h

theorem EventRecord.switchedFrames_of_pending (he : r.enabled = false) (hp : r.pending = true) :
    r.switchedFrames c true l = l ++ [.event c] := by
  simp [EventRecord.switchedFrames, he, hp]

theorem EventRecord.switchedFrames_of_placed (he : r.enabled = true) (hp : r.placed = true) :
    r.switchedFrames c false l = l.filter (fun f => decide (f ≠ .event c)) := by
  simp [EventRecord.switchedFrames, he, hp]

end

/-! ### The classes one after another -/

/-- Class `k` looks the same in both states: its record, and how many of its frames wait in the outbound list. -/
def SameClass (k : EventClass) (s t : State) : Prop :=
  t.event k = s.event k ∧ t.outbound.count (.event k) = s.outbound.count (.event k)

theorem SameClass.refl (k : EventClass) (s : State) : SameClass k s s := ⟨rfl, rfl⟩

theorem SameClass.trans {k : EventClass} {s t u : State} (h : SameClass k s t) (h' : SameClass k t u) :
    SameClass k s u := ⟨h'.1.trans h.1, h'.2.trans h.2⟩

theorem sameClass_replyPlain (k : EventClass) (s : State) (rt : ReplyTo) (st : Status) :
    SameClass k s (s.replyPlain rt st) := by
  simp [SameClass, State.replyPlain_outbound, ReplyTo.frame]

theorem sameClass_enableClass_of_ne (s : State) {k c : EventClass} (on : Bool) (h : k ≠ c) :
    SameClass k s (s.enableClass c on) := by
  refine ⟨s.enableClass_event_of_ne c on h, ?_⟩
  rw [State.enableClass_outbound]
  exact (s.event c).count_switchedFrames_of_ne c on s.outbound h

/-- The flags of the classes `l`, one after another, take the values `on` gives (R198). -/
def State.enableEach (on : EventClass → Bool) (l : List EventClass) (s : State) : State :=
  l.foldl (fun t c => t.enableClass c (on c)) s

theorem State.eventEnable_eq (rt : ReplyTo) (m : Word16) (s : State) :
    State.eventEnable rt m s = (s.replyPlain rt .ok).enableEach (fun c => m.getLsbD c.ctorIdx) allClasses := rfl

section
variable (on : EventClass → Bool) (l : List EventClass) (s : State)

theorem changes_enableEach : Changes [.events, .outbound] s (s.enableEach on l) :=
  List.foldlRecOn l _ (Changes.refl s) (fun t ht c _ => ht.trans (changes_enableClass t c (on c)))

theorem State.enableEach_replies :
    (s.enableEach on l).outbound.filter OutFrame.isReply = s.outbound.filter OutFrame.isReply :=
  List.foldlRecOn (motive := fun t : State => t.outbound.filter OutFrame.isReply = s.outbound.filter OutFrame.isReply)
    l _ rfl fun t ht c _ => by
      rw [State.enableClass_outbound, EventRecord.filter_switchedFrames _ _ _ _ rfl, ht]

theorem sameClass_enableEach_of_notMem {k : EventClass} (h : k ∉ l) : SameClass k s (s.enableEach on l) :=
  List.foldlRecOn (motive := SameClass k s) l _ (SameClass.refl k s) fun t ht c hc =>
    ht.trans (sameClass_enableClass_of_ne t (on c) (ne_of_mem_of_not_mem hc h).symm)

/-- A class has one turn: what it is before is what it was at the start, and what its turn makes it stays. -/
theorem State.enableEach_turn {k : EventClass} (hl : l.Nodup) (hk : k ∈ l) :
    ∃ t, SameClass k s t ∧ SameClass k (t.enableClass k (on k)) (s.enableEach on l) := by
  obtain ⟨before, rest, rfl⟩ := List.append_of_mem hk
  obtain ⟨-, hcons, hdisjoint⟩ := List.nodup_append.mp hl
  have hbefore : k ∉ before := fun hmem => hdisjoint k hmem k List.mem_cons_self rfl
  have hrest : k ∉ rest := (List.nodup_cons.mp hcons).1
  refine ⟨s.enableEach on before, sameClass_enableEach_of_notMem on before s hbefore, ?_⟩
  have hfold : s.enableEach on (before ++ k :: rest) =
      ((s.enableEach on before).enableClass k (on k)).enableEach on rest := List.foldl_append
  rw [hfold]
  exact sameClass_enableEach_of_notMem on rest _ hrest

end

/-! ### Event Enable (R198) -/

theorem nodup_allClasses : allClasses.Nodup := by decide

theorem mem_allClasses (c : EventClass) : c ∈ allClasses := by cases c <;> decide

theorem exec_eventEnable_of_handlesAsNew {f : CmdFrame} {m : Word16} {s : State}
    (hp : parseClassMask f.body = some m) (hn : s.handlesAsNew f.tag f.resend) :
    exec (.eventEnable f) s = .next (State.eventEnable (cmdReply f 23) m s) :=
  congrArg Host.Outcome.next (State.answer_of_handlesAsNew (rt := cmdReply f 23) _ hp hn)

section
variable (rt : ReplyTo) (m : Word16) (s : State)

theorem changes_eventEnable : Changes [.feed, .events, .outbound] s (State.eventEnable rt m s) :=
  ((changes_replyPlain s rt .ok).mono (by decide)).trans ((changes_enableEach _ _ _).mono (by decide))

theorem replied_eventEnable : Replied rt.tag .ok s (State.eventEnable rt m s) :=
  (changes_enableEach _ _ _ .feed (by decide)).trans (replied_replyPlain s rt .ok)

theorem State.eventEnable_replies :
    (State.eventEnable rt m s).outbound.filter OutFrame.isReply =
      s.outbound.filter OutFrame.isReply ++ [rt.frame .ok] := by
  rw [State.eventEnable_eq, State.enableEach_replies, State.replyPlain_outbound, List.filter_append]
  rfl

/-- What Event Enable makes of a class: its record is switched, and its frames are those of one turn. -/
theorem State.eventEnable_class (c : EventClass) :
    (State.eventEnable rt m s).event c = (s.event c).switched (m.getLsbD c.ctorIdx) ∧
      ∃ l : List OutFrame, l.count (.event c) = s.outbound.count (.event c) ∧
        (State.eventEnable rt m s).outbound.count (.event c) =
          ((s.event c).switchedFrames c (m.getLsbD c.ctorIdx) l).count (.event c) := by
  obtain ⟨t, hbefore, hafter⟩ :=
    (s.replyPlain rt .ok).enableEach_turn (fun c => m.getLsbD c.ctorIdx) allClasses nodup_allClasses (mem_allClasses c)
  obtain ⟨hrecord, hcount⟩ := (sameClass_replyPlain c s rt .ok).trans hbefore
  refine ⟨?_, t.outbound, hcount, ?_⟩
  · rw [State.eventEnable_eq, hafter.1, State.enableClass_event_self, hrecord]
  · rw [State.eventEnable_eq, hafter.2, State.enableClass_outbound, hrecord]

end

/-- Settles O10: the REPLY first, then one turn of each class, whose record is switched and whose frames change as the
flag does. -/
theorem eventEnableTakesTheMask : Obligations.EventEnableTakesTheMask := by
  unfold Obligations.EventEnableTakesTheMask
  intro f m s hp hn
  refine ⟨_, exec_eventEnable_of_handlesAsNew hp hn, replied_eventEnable (cmdReply f 23) m s,
    changes_eventEnable (cmdReply f 23) m s, State.eventEnable_replies (cmdReply f 23) m s, fun c => ?_⟩
  obtain ⟨hrecord, l, hl, hframes⟩ := State.eventEnable_class (cmdReply f 23) m s c
  rw [hrecord]
  refine ⟨rfl, rfl, rfl, rfl, rfl, rfl, fun he => ?kept, fun he hm hpending => ?enabled,
    fun he hm hplaced => ?disabled⟩
  case kept =>
    rw [EventRecord.switchedFrames_of_enabled_eq c l he, hl] at hframes
    exact ⟨EventRecord.switched_of_enabled_eq he, hframes⟩
  case enabled =>
    rw [hm, EventRecord.switchedFrames_of_pending c l he hpending] at hframes
    refine ⟨by simp [EventRecord.switched, he, hm, hpending], List.count_pos_iff.mp ?_⟩
    rw [hframes]
    simp
  case disabled =>
    rw [hm, EventRecord.switchedFrames_of_placed c l he hplaced] at hframes
    refine ⟨by simp [EventRecord.switched, he, hm], List.count_eq_zero.mp ?_⟩
    rw [hframes]
    simp [List.count_eq_zero]

end Sys2Proof.Machine
end

section
/-! Every command (the machine as a whole): which rows are plain combinations of the shared operations, how UNKNOWN and
the frame checker hand a frame on to the row it stands for, and the laws that every step keeps. -/

namespace Sys2Proof.Machine

/-! ### A step -/

theorem step_withPending_cons (c : Instr) (rest : List Instr) (s : State) :
    step (s.withPending (c :: rest)) = exec c (s.withPending rest) := rfl

theorem step_of_pending_nil {s : State} (h : s.pending = []) : step s = .next s := by
  simp [step, h]

/-- Settles O1: both parts are the two branches of `step`. -/
theorem stepRunsTheFrontCommand : Obligations.StepRunsTheFrontCommand :=
  ⟨step_withPending_cons, fun _ h => step_of_pending_nil h⟩

/-! ### Rows that are made of the shared operations -/

/-- The command answers a next state, and `P` holds there. -/
def Ends (P : State → Prop) (o : Host.Outcome State Fault Refusal) : Prop := ∃ t, o = .next t ∧ P t

theorem ends_next {P : State → Prop} {t : State} (h : P t) : Ends P (.next t) := ⟨t, rfl, h⟩

/-- The rows whose meaning is made of the operations of Laws/Closure.lean; the others reset the part, hand a frame on,
switch an event class or take a frame out of the outbound list. -/
def sharedRow : Instr → Bool
  | .powerOn | .inboundFrameDiscard _ | .unknown _ _ _ | .eventEnable _ | .outboundFrameSend | .eventFrameSend => false
  | _ => true

/-- The laws of which a row has to be let off, since it keeps them for a reason of its own. -/
def Freed.suits (free : Freed) : Instr → Prop
  | .sector _ _ _ | .run _ _ _ _ | .waveOpen _ => free.waves
  | .artworkFrame _ _ _ => free.artworks
  | .transportStart _ | .resume _ | .gotoOutcome _ _ | .pickOutcome _ _ | .placeOutcome _ _ | .homeOutcome _ _
  | .armOperationTimeout => free.transport
  | _ => True

section
variable {free : Freed} {ps : List Part} {P : State → Prop}

/-- An answered row keeps what its owner keeps. -/
theorem ends_answer (hc : Closed free ps P) (hp : [.feed, .outbound] ⊆ ps) {s : State} {rt : ReplyTo} {resend : Bool}
    {α : Type} {args : Option α} {owner : α → State → State} (h : P s) (ho : ∀ a, P (owner a s)) :
    Ends P (.next (s.answer rt resend args owner)) :=
  ends_next (closed_answer hc hp ho h)

/-- A row that acts under a condition keeps what both branches keep. -/
theorem ends_ite {c : Prop} [Decidable c] {t u : State} (ht : P t) (hu : P u) : Ends P (.next (if c then t else u)) := by
  split
  · exact ends_next ht
  · exact ends_next hu

/-- A row made of the shared operations answers a next state, and what survives every update of its parts survives it. -/
theorem ends_exec_of_shared {c : Instr} (hk : sharedRow c = true) (hf : free.suits c) (hc : Closed free (commandParts c) P)
    {s : State} (h : P s) : Ends P (exec c s) := by
  have answers {α : Type} {rt : ReplyTo} {resend : Bool} {args : Option α} {owner : α → State → State}
      (hp : [.feed, .outbound] ⊆ commandParts c) (ho : ∀ a, P (owner a s)) :
      Ends P (.next (s.answer rt resend args owner)) := ends_answer hc hp h ho
  cases c with
  | powerOn | inboundFrameDiscard _ | unknown _ _ _ | eventEnable _ | outboundFrameSend | eventFrameSend => cases hk
  | sector w first l =>
    exact ends_ite (closed_sectorFrame hc (List.Subset.refl _) hf h) (closed_discard hc (by simp [commandParts]) h)
  | run w first rep p =>
    exact ends_ite (closed_runFrame hc (List.Subset.refl _) hf h) (closed_discard hc (by simp [commandParts]) h)
  | artworkFrame a offset data =>
    exact ends_ite (closed_artworkTaken hc (List.Subset.refl _) hf h) (closed_discard hc (by simp [commandParts]) h)
  | speedLadderWrite f => exact answers (by simp [commandParts]) fun _ => closed_ladderWrite hc (List.Subset.refl _) h
  | stationMapWrite f => exact answers (by simp [commandParts]) fun _ => closed_stationWrite hc (List.Subset.refl _) h
  | stagedAssignmentWrite f => exact answers (by simp [commandParts]) fun _ => closed_stagedWrite hc (List.Subset.refl _) h
  | templateWrite f => exact answers (by simp [commandParts]) fun _ => closed_templateWrite hc (List.Subset.refl _) h
  | imageDefine f => exact answers (by simp [commandParts]) fun _ => closed_imageDefine hc (List.Subset.refl _) h
  | imageRelease f => exact answers (by simp [commandParts]) fun _ => closed_imageRelease hc (List.Subset.refl _) h
  | waveOpen f => exact answers (by simp [commandParts]) fun _ => closed_waveOpen hc (List.Subset.refl _) hf h
  | waveAbort f => exact answers (by simp [commandParts]) fun _ => closed_waveAbort hc (List.Subset.refl _) h
  | applyNow f =>
    exact answers (by simp [commandParts]) fun _ => closed_applyMask hc (by simp [commandParts])
      (fun _ _ => closed_applyNowAt hc (by simp [commandParts])) h
  | applyAtLoad f =>
    exact answers (by simp [commandParts]) fun _ => closed_applyMask hc (by simp [commandParts])
      (fun _ _ => closed_applyAtLoadAt hc (by simp [commandParts])) h
  | orderDefine f => exact answers (by simp [commandParts]) fun _ => closed_orderDefine hc (List.Subset.refl _) h
  | orderHold f => exact answers (by simp [commandParts]) fun _ => closed_orderHold hc (List.Subset.refl _) h
  | orderResume f => exact answers (by simp [commandParts]) fun _ => closed_orderResume hc (List.Subset.refl _) h
  | orderQuantity f => exact answers (by simp [commandParts]) fun _ => closed_orderQuantity hc (List.Subset.refl _) h
  | orderCancel f => exact answers (by simp [commandParts]) fun _ => closed_orderCancel hc (List.Subset.refl _) h
  | feedEnable f => exact answers (by simp [commandParts]) fun _ => closed_feedEnable hc (List.Subset.refl _) h
  | transportStart f => exact answers (by simp [commandParts]) fun _ => closed_transportStart hc (List.Subset.refl _) hf h
  | park f => exact answers (by simp [commandParts]) fun _ => closed_park hc (List.Subset.refl _) h
  | resume f => exact answers (by simp [commandParts]) fun _ => closed_resume hc (List.Subset.refl _) hf h
  | discRemove f => exact answers (by simp [commandParts]) fun _ => closed_discRemove hc (by simp [commandParts]) h
  | spindleRefill f => exact answers (by simp [commandParts]) fun _ => closed_spindleRefill hc (List.Subset.refl _) h
  | binEmptied f => exact answers (by simp [commandParts]) fun _ => closed_binEmptied hc (List.Subset.refl _) h
  | portCheck f => exact answers (by simp [commandParts]) fun _ => closed_portCheck hc (List.Subset.refl _) h
  | portReset f => exact answers (by simp [commandParts]) fun _ => closed_portReset hc (List.Subset.refl _) h
  | printerReset f => exact answers (by simp [commandParts]) fun _ => closed_printerReset hc (List.Subset.refl _) h
  | artworkBegin f => exact answers (by simp [commandParts]) fun _ => closed_artworkBegin hc (List.Subset.refl _) h
  | query f => exact answers (by simp [commandParts]) fun _ => closed_query hc (by simp [commandParts]) h
  | storeSettings f => exact answers (by simp [commandParts]) fun _ => closed_storeSettings hc (List.Subset.refl _) h
  | abortAll f => exact answers (by simp [commandParts]) fun _ => closed_abortAll hc (by simp [commandParts]) h
  | portCheckExchangeEnd d r | portCheckTimeout d =>
    exact ends_ite (closed_arbiter hc (by simp [commandParts]) (closed_checkEnd hc (by simp [commandParts]) h)) h
  | trayOpenReply d n r | trayCloseReply d n r | speedReply d n r | writeReply d n r | closeReply d n r
  | readReply d n r | senseReply d n r => exact ends_next (closed_driveReply hc (List.Subset.refl _) h)
  | driveRequestTimeout d => exact ends_next (closed_driveTimeout hc (List.Subset.refl _) h)
  | starvationExpiry w =>
    exact ends_ite (closed_arbiter hc (by simp [commandParts]) (closed_starve hc (by simp [commandParts]) h)) h
  | gotoOutcome n o | pickOutcome n o | placeOutcome n o | homeOutcome n o =>
    exact ends_next (closed_armOutcome hc (List.Subset.refl _) hf h)
  | armOperationTimeout => exact ends_next (closed_armTimeout hc (List.Subset.refl _) hf h)
  | dropped => exact ends_ite (closed_enterHeld hc (List.Subset.refl _) h) h
  | printerCheckExchangeEnd r | printerCheckTimeout =>
    exact ends_ite (closed_arbiter hc (by simp [commandParts]) (closed_printerCheckEnd hc (by simp [commandParts]) h)) h
  | printerSenseReply n r | trayOutReply n r | trayInReply n r | startReply n r | bandReply n r | finishReply n r =>
    exact ends_next (closed_printReply hc (List.Subset.refl _) h)
  | printerRequestTimeout => exact ends_next (closed_printTimeout hc (List.Subset.refl _) h)
  | settingsLoadEnd r => exact ends_ite (closed_settingsLoaded hc (List.Subset.refl _) h) h
  | settingsLoadTimeout => exact ends_ite (closed_settingsEnd hc (List.Subset.refl _) h) h
  | settingsStoreAck ok =>
    refine ends_ite ?_ h
    split
    · exact closed_storeDone hc (List.Subset.refl _) h
    · exact closed_storeFailed hc (List.Subset.refl _) h
  | settingsStoreTimeout => exact ends_ite (closed_storeFailed hc (List.Subset.refl _) h) h

end

/-! ### The widest frame -/

theorem Part.mem_all (p : Part) : p ∈ Part.all := by cases p <;> decide

/-- No row changes the queue of waiting commands. -/
theorem pending_notMem_commandParts (c : Instr) : Part.pending ∉ commandParts c := by
  cases c <;> simp [commandParts]

/-- Every row's frame lies in that of the rows which stand for any frame. -/
theorem commandParts_subset (c : Instr) : commandParts c ⊆ commandParts .powerOn := by
  intro p hp
  have hne : p ≠ .pending := fun h => pending_notMem_commandParts c (h ▸ hp)
  simpa [commandParts, hne] using p.mem_all

theorem Closed.mono {free : Freed} {ps qs : List Part} {P : State → Prop} (hc : Closed free qs P) (h : ps ⊆ qs) :
    Closed free ps P where
  images hp := hc.images (h hp)
  accs hp := hc.accs (h hp)
  waves hp := hc.waves (h hp)
  drives hp := hc.drives (h hp)
  ladder hp := hc.ladder (h hp)
  saves hp := hc.saves (h hp)
  verifyQueue hp := hc.verifyQueue (h hp)
  contexts hp := hc.contexts (h hp)
  orders hp := hc.orders (h hp)
  records hp := hc.records (h hp)
  stations hp := hc.stations (h hp)
  queue hp := hc.queue (h hp)
  transport hp := hc.transport (h hp)
  artworks hp := hc.artworks (h hp)
  templates hp := hc.templates (h hp)
  printer hp := hc.printer (h hp)
  feed hp := hc.feed (h hp)
  settings hp := hc.settings (h hp)
  raise he ho := hc.raise (h he) (h ho)
  credit ho := hc.credit (h ho)
  discDone ho := hc.discDone (h ho)
  reply hf ho := hc.reply (h hf) (h ho)
  ignored hf ho := hc.ignored (h hf) (h ho)
  queryResult hf ho := hc.queryResult (h hf) (h ho)

/-! ### Frames that are handed on -/

/-- What becomes of a frame that may be handed on (R185, R187, R188): it is discarded, answered UNKNOWN, or acts as a row
that is neither UNKNOWN nor the frame checker's. -/
inductive HandedOn (s : State) (o : Host.Outcome State Fault Refusal) : Prop
  | discarded (cause : DiscardCause) (h : o = .next (s.discard cause))
  | unknown (rt : ReplyTo) (resend : Bool) (h : o = .next (s.answerUnknown rt resend))
  | acts (c : Instr) (hc : sharedRow c = true ∨ ∃ f, c = .eventEnable f) (h : o = exec c s)

theorem handedOn_tableFrame (number : Byte) (f : TableFrame) (s : State) : HandedOn s (tableFrame number f s) := by
  unfold tableFrame
  split
  · exact .acts (.speedLadderWrite f) (.inl rfl) rfl
  · exact .acts (.stationMapWrite f) (.inl rfl) rfl
  · exact .acts (.stagedAssignmentWrite f) (.inl rfl) rfl
  · exact .acts (.templateWrite f) (.inl rfl) rfl
  · exact .unknown _ _ rfl

theorem handedOn_commandFrame (number : Byte) (f : CmdFrame) (s : State) : HandedOn s (commandFrame number f s) := by
  unfold commandFrame
  split
  case h_1 => exact .acts (.imageDefine f) (.inl rfl) rfl
  case h_2 => exact .acts (.imageRelease f) (.inl rfl) rfl
  case h_3 => exact .acts (.waveOpen f) (.inl rfl) rfl
  case h_4 => exact .acts (.waveAbort f) (.inl rfl) rfl
  case h_5 => exact .acts (.applyNow f) (.inl rfl) rfl
  case h_6 => exact .acts (.applyAtLoad f) (.inl rfl) rfl
  case h_7 => exact .acts (.orderDefine f) (.inl rfl) rfl
  case h_8 => exact .acts (.orderHold f) (.inl rfl) rfl
  case h_9 => exact .acts (.orderResume f) (.inl rfl) rfl
  case h_10 => exact .acts (.orderQuantity f) (.inl rfl) rfl
  case h_11 => exact .acts (.orderCancel f) (.inl rfl) rfl
  case h_12 => exact .acts (.feedEnable f) (.inl rfl) rfl
  case h_13 => exact .acts (.transportStart f) (.inl rfl) rfl
  case h_14 => exact .acts (.park f) (.inl rfl) rfl
  case h_15 => exact .acts (.resume f) (.inl rfl) rfl
  case h_16 => exact .acts (.discRemove f) (.inl rfl) rfl
  case h_17 => exact .acts (.spindleRefill f) (.inl rfl) rfl
  case h_18 => exact .acts (.binEmptied f) (.inl rfl) rfl
  case h_19 => exact .acts (.portCheck f) (.inl rfl) rfl
  case h_20 => exact .acts (.portReset f) (.inl rfl) rfl
  case h_21 => exact .acts (.printerReset f) (.inl rfl) rfl
  case h_22 => exact .acts (.artworkBegin f) (.inl rfl) rfl
  case h_23 => exact .acts (.eventEnable f) (.inr ⟨f, rfl⟩) rfl
  case h_24 => exact .acts (.query f) (.inl rfl) rfl
  case h_25 => exact .acts (.storeSettings f) (.inl rfl) rfl
  case h_26 => exact .acts (.abortAll f) (.inl rfl) rfl
  case h_27 => exact .unknown _ _ rfl

theorem handedOn_unknown (kind : AnsweredKind) (number : Byte) (f : TableFrame) (s : State) :
    HandedOn s (exec (.unknown kind number f) s) := by
  cases kind with
  | table => exact handedOn_tableFrame number f s
  | command => exact handedOn_commandFrame number _ s

theorem handedOn_handFrame (h : InFrame) (s : State) : HandedOn s (handFrame h s) := by
  unfold handFrame
  split
  · exact .acts (.sector _ _ _) (.inl rfl) rfl
  · exact .acts (.run _ _ _ _) (.inl rfl) rfl
  · exact .acts (.artworkFrame _ _ _) (.inl rfl) rfl
  · exact handedOn_tableFrame _ _ s
  · exact handedOn_commandFrame _ _ s

theorem handedOn_inbound (b : List Byte) (s : State) : HandedOn s (exec (.inboundFrameDiscard b) s) := by
  show HandedOn s (execInboundFrameDiscard b s)
  unfold execInboundFrameDiscard
  split
  · exact .discarded _ rfl
  · exact handedOn_handFrame _ s
  · exact .discarded _ rfl

/-! ### What every command keeps -/

theorem closed_answerUnknown {free : Freed} {ps : List Part} {P : State → Prop} (hc : Closed free ps P)
    (hp : [.feed, .outbound] ⊆ ps) {s : State} {rt : ReplyTo} {resend : Bool} (h : P s) :
    P (s.answerUnknown rt resend) :=
  closed_answer hc hp (fun _ => closed_replyPlain hc hp h) h

/-- What every command keeps: closed under the shared operations, kept by the rows that are let off the laws of `free`,
and kept by the switching of event classes. -/
structure KeptByExec (free : Freed) (P : State → Prop) : Prop where
  closed : Closed free (commandParts .powerOn) P
  letOff : ∀ c s, sharedRow c = true → ¬ free.suits c → P s → Ends P (exec c s)
  enables : ∀ rt m s, P s → P (State.eventEnable rt m s)

section
variable {free : Freed} {P : State → Prop} (k : KeptByExec free P)
include k

theorem KeptByExec.acts {c : Instr} (hc : sharedRow c = true ∨ ∃ f, c = .eventEnable f) {s : State} (h : P s) :
    Ends P (exec c s) := by
  obtain hshared | ⟨f, rfl⟩ := hc
  · by_cases hf : free.suits c
    · exact ends_exec_of_shared hshared hf (k.closed.mono (commandParts_subset c)) h
    · exact k.letOff c s hshared hf h
  · exact ends_answer k.closed (by decide) h fun m => k.enables _ m s h

theorem KeptByExec.handedOn {s : State} {o : Host.Outcome State Fault Refusal} (ho : HandedOn s o) (h : P s) :
    Ends P o := by
  cases ho with
  | discarded cause ho => exact ho ▸ ends_next (closed_discard k.closed (by decide) h)
  | unknown rt resend ho => exact ho ▸ ends_next (closed_answerUnknown k.closed (by decide) h)
  | acts c hc ho => exact ho ▸ k.acts hc h

/-- Every command but POWER_ON and the two that send keeps it. -/
theorem KeptByExec.exec {c : Instr} (hp : c ≠ .powerOn) (ho : c ≠ .outboundFrameSend) (he : c ≠ .eventFrameSend)
    {s : State} (h : P s) : Ends P (exec c s) := by
  by_cases hc : sharedRow c = true
  · exact k.acts (.inl hc) h
  · cases c with
    | inboundFrameDiscard b => exact k.handedOn (handedOn_inbound b s) h
    | unknown kind number f => exact k.handedOn (handedOn_unknown kind number f s) h
    | eventEnable f => exact k.acts (.inr ⟨f, rfl⟩) h
    | powerOn => exact absurd rfl hp
    | outboundFrameSend => exact absurd rfl ho
    | eventFrameSend => exact absurd rfl he
    | _ => exact absurd rfl hc

end

end Sys2Proof.Machine
end

section
/-! The statements about every command: its frame (O2), what power-on sets (O3), and the laws that every step keeps
(O57 to O60). -/

namespace Sys2Proof.Machine

/-! ### Frames -/

theorem anyUpdate_suits (c : Instr) : anyUpdate.suits c := by cases c <;> trivial

/-- The queue of waiting commands is kept by every row but the three that are no combination of shared operations. -/
theorem keptByExec_pending (s : State) : KeptByExec anyUpdate (fun t => Part.pending.same s t) where
  closed := closed_same (ps := commandParts .powerOn) (by decide) s
  letOff c _ _ hn := absurd (anyUpdate_suits c) hn
  enables rt m t h := (changes_eventEnable rt m t .pending (by decide)).trans h

theorem changes_sendHead (s : State) : Changes [.feed, .outbound] s s.sendHead := by
  unfold State.sendHead
  split
  · exact Changes.refl s
  · intro p hp
    cases p with
    | feed | outbound => simp at hp
    | _ => rfl

theorem ends_changes_outboundFrameSend (s : State) : Ends (Changes [.feed, .outbound] s) (exec .outboundFrameSend s) := by
  refine ends_next ?_
  split
  · exact Changes.refl s
  · exact changes_sendHead s

theorem changes_modEvent (s : State) (c : EventClass) (f : EventRecord → EventRecord) :
    Changes [.events] s (s.modEvent c f) := by
  intro p hp
  cases p with
  | events => simp at hp
  | _ => rfl

theorem ends_changes_eventFrameSend (s : State) :
    Ends (Changes [.feed, .outbound, .events] s) (exec .eventFrameSend s) := by
  refine ends_next ?_
  split
  · exact ((changes_sendHead s).mono (by decide)).trans ((changes_modEvent _ _ _).mono (by decide))
  · exact Changes.refl s

theorem Changes.of_pending {s t : State} (h : t.pending = s.pending) : Changes (commandParts .powerOn) s t := by
  intro p hp
  cases p with
  | pending => exact h
  | _ => simp [commandParts, Part.all] at hp

/-- Every command ends, and changes only its frame. -/
theorem ends_changes_exec (c : Instr) (s : State) : Ends (Changes (commandParts c) s) (exec c s) := by
  by_cases hk : sharedRow c = true
  · have kept (p : Part) (hp : p ∉ commandParts c) : Ends (fun t => p.same s t) (exec c s) :=
      ends_exec_of_shared hk (anyUpdate_suits c) (closed_same hp s) (by cases p <;> rfl)
    obtain ⟨t, ht, -⟩ := kept .pending (pending_notMem_commandParts c)
    refine ⟨t, ht, fun p hp => ?_⟩
    obtain ⟨u, hu, hsame⟩ := kept p hp
    obtain rfl : t = u := by simpa [ht] using hu
    exact hsame
  · have whole (h : Ends (fun t => Part.pending.same s t) (exec c s)) :
        Ends (Changes (commandParts .powerOn) s) (exec c s) := by
      obtain ⟨t, ht, hsame⟩ := h
      exact ⟨t, ht, .of_pending hsame⟩
    have handed := (keptByExec_pending s).exec (c := c) (s := s)
    cases c with
    | powerOn => exact whole (ends_next rfl)
    | inboundFrameDiscard b => exact whole (handed nofun nofun nofun rfl)
    | unknown kind number f => exact whole (handed nofun nofun nofun rfl)
    | eventEnable f =>
      refine ends_next ?_
      unfold State.answer
      split
      · exact changes_of_closed fun _ hc => hc.ignored (by simp [commandParts]) (by simp [commandParts]) _ _
      · split
        · exact (changes_replyPlain s _ _).mono (by simp [commandParts])
        · exact (changes_eventEnable _ _ s).mono (by simp [commandParts])
    | outboundFrameSend => exact ends_changes_outboundFrameSend s
    | eventFrameSend =>
      obtain ⟨t, ht, h⟩ := ends_changes_eventFrameSend s
      exact ⟨t, ht, h.mono (by simp [commandParts])⟩
    | _ => exact absurd rfl hk

/-- Settles O2: the footprint of each row. -/
theorem everyCommandKeepsItsFrame : Obligations.EveryCommandKeepsItsFrame :=
  ⟨fun c s => ends_changes_exec c s, pending_notMem_commandParts⟩

/-! ### Power-on -/

theorem State.starting_reset : State.reset.starting := by
  unfold State.starting
  refine ⟨fun i => ?_, fun w => ?_, fun w => ?_, by decide, fun d => ?_, fun g => ?_, fun d => ?_, rfl, fun c => ?_,
    fun o => ?_, fun n => ?_, fun i => ?_, rfl, rfl, fun a => ?_, fun l => ?_, rfl, rfl, fun c => ?_, rfl, rfl, rfl, rfl,
    fun c => ?_, rfl, fun g => ?_, fun i => ?_⟩
  all_goals
    simp [State.image, State.acc, State.wave, State.drive, State.code, State.save, State.context, State.order,
      State.record, State.station, State.artwork, State.template, State.event, State.reset, ImageSlot.reset,
      Accumulator.reset, Wave.reset, DriveSlot.reset, VerifySave.reset, Order.reset, DiscRecord.reset, Station.reset,
      Artwork.reset, Template.reset, FeedPort.reset, EventRecord.reset, Settings.reset, StagedEntry.reset,
      Progress.reset, Artwork.fillPoint, Config.defaultStarvation]

/-- The starting values are those of every block but the EEPROM and the queue of waiting commands. -/
theorem State.starting_powerOn (s : State) : s.powerOn.starting := State.starting_reset

theorem State.powerOn_eeprom_of_not_storing {s : State} (h : s.settings.access ≠ .storing) :
    s.powerOn.settings.eeprom = s.settings.eeprom := by
  simp [State.powerOn, Settings.poweredOn, h]

theorem State.powerOn_eeprom_of_storing {s : State} (h : s.settings.access = .storing) :
    s.powerOn.settings.eeprom = s.settings.afterFailure := by
  simp [State.powerOn, Settings.poweredOn, Settings.storeCut, h]

/-- What a store that fails leaves in the EEPROM (R202): its earlier image, the copy, or an image with a bad CRC. -/
theorem Settings.afterFailure_cases (x : Settings) :
    x.afterFailure = x.eeprom ∨ (∃ v, x.storing = some v ∧ x.afterFailure = settingsImage v) ∨
      imageGood x.afterFailure = false := by
  unfold Settings.afterFailure
  split
  · exact .inr (.inr (imageGood_badImage _))
  · exact .inr (.inl ⟨_, ‹_›, rfl⟩)
  · exact .inl rfl

/-- Settles O3: power-on is the reset state with the EEPROM of the settings' own power-on. -/
theorem powerOnSetsStartingValues : Obligations.PowerOnSetsStartingValues := by
  refine ⟨fun s => ⟨s.powerOn, rfl, s.starting_powerOn, State.powerOn_eeprom_of_not_storing, fun h => ?_⟩,
    State.starting_reset, rfl⟩
  rw [State.powerOn_eeprom_of_storing h]
  rcases s.settings.afterFailure_cases with hsame | hcopy | hbad
  · exact .inl hsame
  · exact .inr (.inl hcopy)
  · exact .inr (.inr (by simpa [imageGood] using hbad))

/-! ### The laws at reset -/

theorem State.eventLawful_reset (c : EventClass) : State.reset.eventLawful c := by
  have hc : State.reset.event c = .reset := by simp [State.event, State.reset]
  unfold State.eventLawful
  rw [hc]
  simp [EventRecord.reset, State.reset]

theorem State.wavesLawful_reset : State.reset.wavesLawful := by
  refine ⟨fun w => ?_, by decide⟩
  have hw : State.reset.wave w = .reset := by simp [State.wave, State.reset]
  simp [hw, Wave.lawful, Wave.reset, Wave.occupied]

theorem DriveSlot.lawful_reset : DriveSlot.reset.lawful := by
  simp [DriveSlot.lawful, DriveSlot.reset]

theorem Artwork.lawful_reset : Artwork.reset.lawful := by
  simp [Artwork.lawful, Artwork.reset, crcRun, crcInit]

theorem Transport.lawful_reset : Transport.reset.lawful := by
  simp [Transport.lawful, Transport.reset]

theorem State.drive_reset (d : Drive) : State.reset.drive d = .reset := by simp [State.drive, State.reset]

theorem State.artwork_reset (a : ArtNo) : State.reset.artwork a = .reset := by simp [State.artwork, State.reset]

/-- Settles O60: each law at the reset value of its record. -/
theorem resetIsLawful : Obligations.ResetIsLawful :=
  ⟨State.eventLawful_reset, State.wavesLawful_reset.1, State.wavesLawful_reset.2,
    fun d => State.drive_reset d ▸ DriveSlot.lawful_reset, fun a => State.artwork_reset a ▸ Artwork.lawful_reset,
    Transport.lawful_reset⟩

/-! ### The laws through every step -/

/-- A law that every command keeps in every state is kept by every step, whatever commands wait. -/
theorem step_keeps {P : State → Prop} (hq : ∀ s q, P s → P (State.withPending s q))
    (hx : ∀ c s, P s → Ends P (exec c s)) {s t : State} (h : P s) (hs : step s = .next t) : P t := by
  unfold step at hs
  split at hs
  · next c rest _ =>
    obtain ⟨u, hu, hP⟩ := hx c _ (hq s rest h)
    obtain rfl : t = u := by simpa [hs] using hu
    exact hP
  · obtain rfl : s = t := by simpa using hs
    exact h

/-- The rows that send change nothing but FP, the outbound list and the event records. -/
theorem ends_of_sends {P : State → Prop} (hP : ∀ s t, Changes [.feed, .outbound, .events] s t → P s → P t) {c : Instr}
    (hc : c = .outboundFrameSend ∨ c = .eventFrameSend) {s : State} (h : P s) : Ends P (exec c s) := by
  obtain rfl | rfl := hc
  · obtain ⟨t, ht, hch⟩ := ends_changes_outboundFrameSend s
    exact ⟨t, ht, hP s t (hch.mono (by decide)) h⟩
  · obtain ⟨t, ht, hch⟩ := ends_changes_eventFrameSend s
    exact ⟨t, ht, hP s t hch h⟩

/-- A law of parts that FP and the event records have no share in is kept by every command. -/
theorem KeptByExec.exec_all {free : Freed} {P : State → Prop} (k : KeptByExec free P)
    (hP : ∀ s t, Changes [.feed, .outbound, .events] s t → P s → P t) (hreset : ∀ s : State, P s.powerOn)
    (c : Instr) {s : State} (h : P s) : Ends P (Machine.exec c s) := by
  by_cases hp : c = .powerOn
  · exact hp ▸ ends_next (hreset s)
  by_cases ho : c = .outboundFrameSend
  · exact ends_of_sends hP (.inl ho) h
  by_cases he : c = .eventFrameSend
  · exact ends_of_sends hP (.inr he) h
  · exact k.exec hp ho he h

/-! #### Events -/

/-- The law of a class survives the switching of its flag (R198). -/
theorem State.eventLawful_eventEnable {rt : ReplyTo} {m : Word16} {s : State} {c : EventClass} (h : s.eventLawful c) :
    (State.eventEnable rt m s).eventLawful c := by
  obtain ⟨hplaced, hcount, hempty⟩ := h
  obtain ⟨hrecord, l, hl, hframes⟩ := State.eventEnable_class rt m s c
  unfold State.eventLawful
  rw [hrecord, hframes]
  generalize m.getLsbD c.ctorIdx = on
  generalize s.event c = r at *
  refine ⟨?_, ?_, hempty⟩
  · by_cases he : r.enabled = on
    · rw [EventRecord.switched_of_enabled_eq he, hplaced]
    · rw [EventRecord.switched_of_enabled_ne he]
      cases on <;> simp_all
  · by_cases he : r.enabled = on
    · rw [EventRecord.switched_of_enabled_eq he, EventRecord.switchedFrames_of_enabled_eq c l he, hl, hcount]
    · rw [EventRecord.switched_of_enabled_ne he, EventRecord.switchedFrames, if_neg he]
      cases on <;> cases hpl : r.placed <;> cases hpe : r.pending <;>
        simp_all [List.count_eq_zero, List.count_append]

theorem keptByExec_events : KeptByExec anyUpdate (fun t => ∀ c, t.eventLawful c) where
  closed := closed_events
  letOff c _ _ hn := absurd (anyUpdate_suits c) hn
  enables _ _ _ h c := State.eventLawful_eventEnable (h c)

theorem State.headEvent_eq_some {s : State} {c : EventClass} (h : s.headEvent = some c) :
    ∃ rest, s.outbound = .event c :: rest := by
  unfold State.headEvent at h
  split at h
  · next rest hl =>
    obtain rfl := Option.some.inj h
    exact ⟨rest, hl⟩
  · cases h

theorem State.headEvent_eq_none {s : State} {f : OutFrame} {rest : List OutFrame} (hl : s.outbound = f :: rest) :
    s.headEvent = none ↔ ∀ c, f ≠ .event c := by
  unfold State.headEvent
  rw [hl]
  cases f <;> simp

theorem State.sendHead_cons {s : State} {f : OutFrame} {rest : List OutFrame} (hl : s.outbound = f :: rest) :
    s.sendHead = (s.setOutbound rest).modFeed (fun p => { p with restartPending := false, sent := some (s.outBytes f) }) := by
  simp [State.sendHead, hl]

theorem State.sendHead_event (s : State) (c : EventClass) : s.sendHead.event c = s.event c := by
  rw [State.event, changes_sendHead s .events (by decide), State.event]

/-- A frame that is no EVENT frame leaves every class's law when it is sent. -/
theorem State.eventLawful_sendHead {s : State} (hn : s.headEvent = none) {c : EventClass} (h : s.eventLawful c) :
    s.sendHead.eventLawful c := by
  unfold State.eventLawful at *
  rw [State.sendHead_event]
  cases hl : s.outbound with
  | nil => simpa [State.sendHead, hl] using h
  | cons f rest =>
    have hf : f ≠ .event c := (State.headEvent_eq_none hl).mp hn c
    simpa [State.sendHead_cons hl, hl, hf] using h

/-- The class whose frame is sent is cleared, and the others keep their frames (R197). -/
theorem State.eventLawful_sent {s : State} {c : EventClass} (hs : s.headEvent = some c) (h : ∀ k, s.eventLawful k)
    (k : EventClass) : (s.sendHead.modEvent c (·.cleared)).eventLawful k := by
  obtain ⟨rest, hl⟩ := State.headEvent_eq_some hs
  have hk := h k
  unfold State.eventLawful at *
  have hout : (s.sendHead.modEvent c (·.cleared)).outbound = rest := by rw [State.sendHead_cons hl]; rfl
  rw [hout, State.event_modEvent, State.sendHead_event]
  rw [hl] at hk
  by_cases hc : c = k
  · subst hc
    obtain ⟨-, hcount, -⟩ := hk
    rw [List.count_cons_self] at hcount
    have hzero : rest.count (.event c) = 0 := by
      split at hcount <;> omega
    simp [EventRecord.cleared, hzero]
  · rw [State.sendHead_event]
    simpa [hc] using hk

/-- Every command keeps the laws of the event classes. -/
theorem ends_exec_eventLawful (c : Instr) {s : State} (h : ∀ k, s.eventLawful k) :
    Ends (fun t => ∀ k, t.eventLawful k) (exec c s) := by
  by_cases hp : c = .powerOn
  · exact hp ▸ ends_next State.eventLawful_reset
  by_cases ho : c = .outboundFrameSend
  · subst ho
    refine ends_next ?_
    split
    · exact h
    · exact fun k => State.eventLawful_sendHead ‹_› (h k)
  by_cases he : c = .eventFrameSend
  · subst he
    refine ends_next ?_
    split
    · exact State.eventLawful_sent ‹_› h
    · exact h
  · exact keptByExec_events.exec hp ho he h

/-- Settles O57: the shared operations keep the laws, and so do the switching of classes and the sending of frames. -/
theorem eventsStayLawful : Obligations.EventsStayLawful :=
  fun _ _ h hs => step_keeps (fun _ _ h => h) (fun c _ h => ends_exec_eventLawful c h) h hs

/-! #### Waves -/

theorem waves_waveOpen {s : State} {rt : ReplyTo} {a : WaveOpenArgs} (h : s.wavesLawful) :
    (State.waveOpen rt a s).wavesLawful := by
  unfold State.waveOpen
  split
  · exact closed_replyPlain closed_wavesLawful (List.Subset.refl _) h
  · exact waves_openTaken h ‹_›

/-- The rows that take slots of the pool keep the law by their checks. -/
theorem keptByExec_waves : KeptByExec ⟨False, True, True, True⟩ State.wavesLawful where
  closed := closed_wavesLawful
  enables rt m s := waves_congr (changes_eventEnable rt m s .waves (by decide))
  letOff c s hc hn h := by
    cases c with
    | sector w first l =>
      refine ends_next ?_
      split
      · next hok =>
        simp only [sectorsOk, Bool.and_eq_true, decide_eq_true_eq] at hok
        exact waves_sectorFrame h hok.1.1
      · exact waves_discard h
    | run w first rep p => exact ends_ite (waves_runFrame h) (waves_discard h)
    | waveOpen f => exact ends_answer closed_wavesLawful (List.Subset.refl _) h fun _ => waves_waveOpen h
    | _ => exact absurd trivial hn

/-- Settles O58: the shared operations keep the law, the rows that take slots check for them first. -/
theorem wavesStayLawful : Obligations.WavesStayLawful :=
  fun _ _ h hs => step_keeps (P := State.wavesLawful) (fun _ _ h => h)
    (fun c _ h => keptByExec_waves.exec_all (fun _ _ hch => waves_congr (hch .waves (by decide)))
      (fun _ => State.wavesLawful_reset) c h) h hs

/-! #### Assignments, artwork slots and the transport record -/

theorem keptByExec_drives : KeptByExec ⟨True, False, True, True⟩ (fun t => ∀ d, (t.drive d).lawful) where
  closed := closed_drives
  letOff c _ _ hn := absurd (by cases c <;> trivial) hn
  enables rt m s h d := by
    rw [State.drive, changes_eventEnable rt m s .drives (by decide)]
    exact h d

theorem keptByExec_artworks : KeptByExec ⟨True, True, False, True⟩ (fun t => ∀ a, (t.artwork a).lawful) where
  closed := closed_artworks
  enables rt m s h a := by
    rw [State.artwork, changes_eventEnable rt m s .artworks (by decide)]
    exact h a
  letOff c s hc hn h := by
    cases c with
    | artworkFrame a offset data =>
      exact ends_ite (artworks_artworkTaken h a offset.toNat data) (closed_discard closed_artworks (List.Subset.refl _) h)
    | _ => exact absurd trivial hn

theorem State.idle_of_startCheck {s : State} (h : s.startCheck = none) : s.transport.phase = .idle := by
  unfold State.startCheck at h
  split_ifs at h with hmode hmap hphase
  exact not_not.mp hphase

theorem transport_transportStart {s : State} {rt : ReplyTo} {u : Unit} (h : s.transport.lawful) :
    (State.transportStart rt u s).transport.lawful := by
  unfold State.transportStart
  split
  · exact h
  · next hc =>
    refine transport_askHome (s := s.replyPlain rt .ok) h fun o ho => ?_
    obtain ⟨-, -, -, hidle, -⟩ := h
    exact hidle (State.idle_of_startCheck hc) o ho

/-- In HELD the law asks nothing of the arm's operation. -/
theorem transport_askHome_of_held {s : State} (h : s.transport.lawful) (hm : s.transport.mode = .held) :
    s.askHome.transport.lawful := by
  obtain ⟨hcause, hfeed, hpark, -, -⟩ := h
  have hn : s.transport.parkWaiting ≠ true := fun hp => by simpa [hm] using hpark hp
  have homing (x : Transport) (hx : x.mode = s.transport.mode) (hc : x.heldCause = s.transport.heldCause)
      (hf : x.autoFeed = s.transport.autoFeed) (hp : x.parkWaiting = s.transport.parkWaiting) (hi : x.phase = .homing) :
      x.lawful := by
    simp_all [Transport.lawful]
  unfold State.askHome State.sendArm
  dsimp only
  split <;> exact homing _ rfl rfl rfl rfl rfl

theorem transport_resume {s : State} {rt : ReplyTo} {u : Unit} (h : s.transport.lawful) :
    (State.resume rt u s).transport.lawful := by
  unfold State.resume
  split
  · exact h
  · next hm =>
    split
    · exact h
    · exact transport_askHome_of_held (s := s.replyPlain rt .ok) h (not_not.mp hm)

theorem keptByExec_transport : KeptByExec ⟨True, True, True, False⟩ (fun t => t.transport.lawful) where
  closed := closed_transport
  enables rt m s h := by
    rw [changes_eventEnable rt m s .transport (by decide)]
    exact h
  letOff c s hc hn h := by
    cases c with
    | transportStart f => exact ends_answer closed_transport (List.Subset.refl _) h fun _ => transport_transportStart h
    | resume f => exact ends_answer closed_transport (List.Subset.refl _) h fun _ => transport_resume h
    | gotoOutcome n o | pickOutcome n o | placeOutcome n o | homeOutcome n o => exact ends_next (transport_armOutcome h)
    | armOperationTimeout => exact ends_next (transport_armTimeout h)
    | _ => exact absurd trivial hn

/-- Settles O59: the three laws, each kept by every command. -/
theorem recordsStayLawful : Obligations.RecordsStayLawful := by
  intro s t hs
  refine ⟨fun h => ?drives, fun h => ?artworks, fun h => ?transport⟩
  case drives =>
    refine step_keeps (fun _ _ h => h) (fun c _ h => keptByExec_drives.exec_all (fun s t hch h d => ?_)
      (fun s d => ?_) c h) h hs
    · rw [State.drive, hch .drives (by decide)]
      exact h d
    · exact State.drive_reset d ▸ DriveSlot.lawful_reset
  case artworks =>
    refine step_keeps (fun _ _ h => h) (fun c _ h => keptByExec_artworks.exec_all (fun s t hch h a => ?_)
      (fun s a => ?_) c h) h hs
    · rw [State.artwork, hch .artworks (by decide)]
      exact h a
    · exact State.artwork_reset a ▸ Artwork.lawful_reset
  case transport =>
    refine step_keeps (P := fun t => t.transport.lawful) (fun _ _ h => h)
      (fun c _ h => keptByExec_transport.exec_all (fun s t hch h => ?_) (fun _ => Transport.lawful_reset) c h) h hs
    rw [hch .transport (by decide)]
    exact h

end Sys2Proof.Machine
end

section
/-! The feed link (chapters 10 and 11): the one REPLY of each answered frame (O5), frames that act on nothing (O4), the
frame checker on raw bytes (O6) and on encoded commands (O7), the sending of frames (O8), and Query (O11). -/

namespace Sys2Proof.Machine

/-! ### One REPLY -/

/-- The parts that an owner may change beside FP's record. -/
def quietParts : List Part := Part.all.filter (fun p => decide (p ≠ .feed ∧ p ≠ .pending))

/-- Exactly one REPLY to `rt` has joined the outbound list, and its tag is the last tag (R189, R190). -/
def OneReply (rt : ReplyTo) (s t : State) : Prop :=
  t.feed.lastTag = some rt.tag ∧ ∃ status original refused ignored,
    t.outbound.filter OutFrame.isReply =
      s.outbound.filter OutFrame.isReply ++ [.reply rt.tag rt.kind rt.number status original refused ignored]

section
variable {rt : ReplyTo} {s : State}

theorem Closed.and {free : Freed} {ps : List Part} {P Q : State → Prop} (hp : Closed free ps P) (hq : Closed free ps Q) :
    Closed free ps (fun t => P t ∧ Q t) where
  images m s i f h := ⟨hp.images m s i f h.1, hq.images m s i f h.2⟩
  accs m s i f h := ⟨hp.accs m s i f h.1, hq.accs m s i f h.2⟩
  waves m s i f hf h := ⟨hp.waves m s i f hf h.1, hq.waves m s i f hf h.2⟩
  drives m s i f hf h := ⟨hp.drives m s i f hf h.1, hq.drives m s i f hf h.2⟩
  ladder m s i f h := ⟨hp.ladder m s i f h.1, hq.ladder m s i f h.2⟩
  saves m s i f h := ⟨hp.saves m s i f h.1, hq.saves m s i f h.2⟩
  verifyQueue m s q h := ⟨hp.verifyQueue m s q h.1, hq.verifyQueue m s q h.2⟩
  contexts m s i f h := ⟨hp.contexts m s i f h.1, hq.contexts m s i f h.2⟩
  orders m s i f h := ⟨hp.orders m s i f h.1, hq.orders m s i f h.2⟩
  records m s i f h := ⟨hp.records m s i f h.1, hq.records m s i f h.2⟩
  stations m s i f h := ⟨hp.stations m s i f h.1, hq.stations m s i f h.2⟩
  queue m s q h := ⟨hp.queue m s q h.1, hq.queue m s q h.2⟩
  transport m s f hf h := ⟨hp.transport m s f hf h.1, hq.transport m s f hf h.2⟩
  artworks m s i f hf h := ⟨hp.artworks m s i f hf h.1, hq.artworks m s i f hf h.2⟩
  templates m s i f h := ⟨hp.templates m s i f h.1, hq.templates m s i f h.2⟩
  printer m s f h := ⟨hp.printer m s f h.1, hq.printer m s f h.2⟩
  feed m s f h := ⟨hp.feed m s f h.1, hq.feed m s f h.2⟩
  settings m s f h := ⟨hp.settings m s f h.1, hq.settings m s f h.2⟩
  raise m n s c k v h := ⟨hp.raise m n s c k v h.1, hq.raise m n s c k v h.2⟩
  credit m s w n k h := ⟨hp.credit m s w n k h.1, hq.credit m s w n k h.2⟩
  discDone m s n r p v h := ⟨hp.discDone m s n r p v h.1, hq.discDone m s n r p v h.2⟩
  reply m n s r st a b h := ⟨hp.reply m n s r st a b h.1, hq.reply m n s r st a b h.2⟩
  ignored m n s r h := ⟨hp.ignored m n s r h.1, hq.ignored m n s r h.2⟩
  queryResult m n s t k i b h := ⟨hp.queryResult m n s t k i b h.1, hq.queryResult m n s t k i b h.2⟩

/-- What the operations outside FP keep: the REPLYs in the outbound list, and FP's record. -/
def Quiet (s t : State) : Prop := Part.feed.same s t ∧ t.outbound.filter OutFrame.isReply = s.outbound.filter OutFrame.isReply

theorem closed_quiet : Closed anyUpdate quietParts (Quiet s) :=
  (closed_same (by decide) s).and (closed_replies (by decide) _)

theorem Quiet.refl (s : State) : Quiet s s := ⟨rfl, rfl⟩

theorem Quiet.trans {t u : State} (h : Quiet s t) (h' : Quiet t u) : Quiet s u := ⟨h'.1.trans h.1, h'.2.trans h.2⟩

theorem OneReply.quiet {t u : State} (h : OneReply rt s t) (hq : Quiet t u) : OneReply rt s u := by
  obtain ⟨htag, st, o, m, n, hreplies⟩ := h
  exact ⟨by rw [show u.feed = t.feed from hq.1, htag], st, o, m, n, hq.2.trans hreplies⟩

theorem oneReply_reply (s : State) (rt : ReplyTo) (st : Status) (m n : Word16) : OneReply rt s (s.reply rt st m n) :=
  ⟨rfl, st, none, m, n, List.filter_append ..⟩

theorem oneReply_replyPlain (s : State) (rt : ReplyTo) (st : Status) : OneReply rt s (s.replyPlain rt st) :=
  oneReply_reply s rt st 0 0

/-- A REPLY after quiet work. -/
theorem Quiet.oneReply {t : State} (h : Quiet s t) (st : Status) : OneReply rt s (t.replyPlain rt st) := by
  obtain ⟨htag, st, o, m, n, hreplies⟩ := oneReply_replyPlain t rt st
  exact ⟨htag, st, o, m, n, by rw [hreplies, h.2]⟩

/-- Work outside FP after the REPLY: what any chain of the shared operations does. -/
theorem OneReply.then {t u : State} (h : OneReply rt s t) (hu : ∀ P, Closed anyUpdate quietParts P → P t → P u) :
    OneReply rt s u :=
  h.quiet (hu _ closed_quiet (Quiet.refl t))

/-- Work outside FP. -/
theorem quiet_of_closed {t : State} (h : ∀ P, Closed anyUpdate quietParts P → P s → P t) : Quiet s t :=
  h _ closed_quiet (Quiet.refl s)

/-- A REPLY after quiet work, and work outside FP after the REPLY. -/
theorem oneReply_chain {st : Status} {t u : State}
    (hu : ∀ P, Closed anyUpdate quietParts P → P (t.replyPlain rt st) → P u) (h : Quiet s t) : OneReply rt s u :=
  (h.oneReply st).then hu

/-! ### The owners -/

theorem oneReply_ladderWrite (a : Rung × Byte) : OneReply rt s (State.ladderWrite rt a s) :=
  oneReply_chain (fun _ hc h => closed_arbiter hc (by decide) (closed_loadDecision hc (by decide) h)) ⟨rfl, rfl⟩

theorem oneReply_stationWrite (a : StationNo × StationArgs) : OneReply rt s (State.stationWrite rt a s) := by
  unfold State.stationWrite
  split_ifs
  · exact oneReply_replyPlain ..
  · exact oneReply_chain (fun _ hc h => closed_arbiter hc (by decide)
      (closed_classChanged hc (by decide) (closed_fullAfterWrite hc (by decide) h))) ⟨rfl, rfl⟩
  · exact oneReply_replyPlain ..

theorem oneReply_stagedWrite (a : Drive × StagedEntry) : OneReply rt s (State.stagedWrite rt a s) :=
  Quiet.oneReply (t := s.modDrive a.1 _) ⟨rfl, rfl⟩ .ok

theorem oneReply_templateWrite (a : TmplNo × TemplateArgs) : OneReply rt s (State.templateWrite rt a s) := by
  unfold State.templateWrite
  split_ifs
  · exact oneReply_chain (fun _ hc => closed_arbiter hc (by decide)) ⟨rfl, rfl⟩
  · exact oneReply_replyPlain ..

theorem oneReply_imageDefine (a : SlotNo × Word32 × Word32) : OneReply rt s (State.imageDefine rt a s) := by
  unfold State.imageDefine
  split_ifs
  · exact oneReply_replyPlain ..
  · exact oneReply_replyPlain ..
  · exact oneReply_chain (fun _ hc => closed_raiseImage hc (by decide)) ⟨rfl, rfl⟩

theorem oneReply_imageRelease (i : SlotNo) : OneReply rt s (State.imageRelease rt i s) := by
  unfold State.imageRelease
  split_ifs
  · exact oneReply_replyPlain ..
  · exact oneReply_replyPlain ..
  · exact oneReply_chain (fun _ hc => closed_raiseImage hc (by decide)) ⟨rfl, rfl⟩

theorem oneReply_waveOpen (a : WaveOpenArgs) : OneReply rt s (State.waveOpen rt a s) := by
  unfold State.waveOpen
  split
  · exact oneReply_replyPlain ..
  · have hopen : Quiet s ((s.modWave a.wave (fun _ => .openedWith a (decide ((s.image a.slot).state ≠ .defined)))).openAtImage
        a.wave a.slot) :=
      quiet_of_closed fun _ hc h => closed_openAtImage hc (by decide) (hc.waves (by decide) _ _ _ (.inl trivial) h)
    exact (hopen.oneReply .ok).then fun _ hc h =>
      closed_foldl (fun _ _ => closed_attach hc (by decide) (.inl trivial))
        (closed_raiseWave hc (by decide) (hc.credit (by decide) _ _ _ _ h))

theorem oneReply_waveAbort (w : WaveNo) : OneReply rt s (State.waveAbort rt w s) := by
  unfold State.waveAbort
  split_ifs
  · exact oneReply_replyPlain ..
  · exact (oneReply_replyPlain ..).then fun _ hc h =>
      closed_arbiter hc (by decide) (closed_abortWave hc (by decide) h)

theorem oneReply_applyMask {refusal : State → Drive → Option ApplyStatus} {act : State → Drive → State}
    (ha : ∀ P, Closed anyUpdate quietParts P → ∀ t d, P t → P (act t d)) (m : Word16) :
    OneReply rt s (State.applyMask rt refusal act m s) := by
  unfold State.applyMask
  refine (oneReply_reply s rt .ok (s.applyRefused refusal m) (s.applyIgnoredMask m)).then fun P hc h => ?_
  have hacts := closed_foldl (ha P hc) h (l := maskDrives m)
  dsimp only
  split_ifs
  · exact closed_arbiter hc (by decide) (closed_loadDecision hc (by decide) hacts)
  · exact hacts

theorem oneReply_orderDefine (a : OrderDefineArgs) : OneReply rt s (State.orderDefine rt a s) := by
  unfold State.orderDefine
  split
  · exact oneReply_replyPlain ..
  · exact oneReply_chain (fun _ hc h =>
      closed_arbiter hc (by decide) (closed_loadDecision hc (by decide) (closed_raiseOrder hc (by decide) h))) ⟨rfl, rfl⟩

theorem oneReply_orderHold (o : OrderNo) : OneReply rt s (State.orderHold rt o s) := by
  unfold State.orderHold
  split_ifs
  · exact (oneReply_replyPlain ..).then fun _ hc h => closed_arbiter hc (by decide)
      (closed_foldl (fun _ _ => closed_withdraw hc (by decide)) (closed_orderTo hc (by decide) h))
  · exact oneReply_replyPlain ..

theorem oneReply_orderResume (o : OrderNo) : OneReply rt s (State.orderResume rt o s) := by
  unfold State.orderResume
  split_ifs
  · exact (oneReply_replyPlain ..).then fun _ hc h => closed_arbiter hc (by decide)
      (closed_loadDecision hc (by decide) (closed_orderTo hc (by decide) h))
  · exact oneReply_replyPlain ..

theorem oneReply_orderQuantity (a : OrderNo × Nat) : OneReply rt s (State.orderQuantity rt a s) := by
  unfold State.orderQuantity
  split
  · exact oneReply_replyPlain ..
  · have htaken := (Quiet.oneReply (s := s) (rt := rt)
        (t := s.modOrder a.1 (fun x => { x with quantity := a.2 })) ⟨rfl, rfl⟩ .ok).then
      fun _ hc => closed_quantityState hc (by decide) (o := a.1) (q := a.2)
    dsimp only
    split_ifs
    · exact htaken.then fun _ hc h => closed_arbiter hc (by decide) (closed_loadDecision hc (by decide) h)
    · exact htaken

theorem oneReply_orderCancel (o : OrderNo) : OneReply rt s (State.orderCancel rt o s) := by
  unfold State.orderCancel
  split
  · exact oneReply_replyPlain ..
  · exact oneReply_chain (fun _ hc => closed_orderTo hc (by decide)) ⟨rfl, rfl⟩

/-- A change of the transport record alone after the REPLY. -/
theorem OneReply.modTransport {t : State} (h : OneReply rt s t) (f : Transport → Transport) :
    OneReply rt s (t.modTransport f) :=
  h.quiet ⟨rfl, rfl⟩

theorem oneReply_feedEnable (setting : Fin 2) : OneReply rt s (State.feedEnable rt setting s) := by
  unfold State.feedEnable
  dsimp only
  split_ifs
  · exact (oneReply_replyPlain ..).modTransport _
  · exact ((oneReply_replyPlain ..).modTransport _).then fun _ hc h =>
      closed_arbiter hc (by decide) (closed_loadDecision hc (by decide) h)
  · exact (oneReply_replyPlain ..).modTransport _

theorem oneReply_transportStart (u : Unit) : OneReply rt s (State.transportStart rt u s) := by
  unfold State.transportStart
  split
  · exact oneReply_replyPlain ..
  · exact (oneReply_replyPlain ..).then fun _ hc => closed_askHome hc (by decide) trivial

theorem oneReply_park (u : Unit) : OneReply rt s (State.park rt u s) := by
  unfold State.park
  dsimp only
  split_ifs
  · exact (oneReply_replyPlain ..).modTransport _
  · exact (oneReply_replyPlain ..).modTransport _
  · exact oneReply_replyPlain ..

theorem oneReply_resume (u : Unit) : OneReply rt s (State.resume rt u s) := by
  unfold State.resume
  split_ifs
  · exact oneReply_replyPlain ..
  · exact oneReply_replyPlain ..
  · exact (oneReply_replyPlain ..).then fun _ hc => closed_askHome hc (by decide) trivial

theorem oneReply_discRemove (t : Token) : OneReply rt s (State.discRemove rt t s) := by
  unfold State.discRemove
  split_ifs
  · exact oneReply_replyPlain ..
  · have hremoved : Quiet s ((((s.endRecord t (some .removed) (s.record t.num).location).retireNaming t).tellDrive
        t).tellPrinter t) :=
      quiet_of_closed fun _ hc h => closed_tellPrinter hc (by decide) (closed_tellDrive hc (by decide)
        (closed_retireNaming hc (by decide) (closed_endRecord hc (by decide) h)))
    exact (hremoved.oneReply .ok).then fun _ hc => closed_arbiter hc (by decide)
  · exact oneReply_replyPlain ..

theorem oneReply_spindleRefill (a : Fin 4 × Nat × Nat) : OneReply rt s (State.spindleRefill rt a s) := by
  unfold State.spindleRefill
  split_ifs
  · exact oneReply_replyPlain ..
  · exact oneReply_chain (fun _ hc h => closed_arbiter hc (by decide)
      (closed_loadDecision hc (by decide) (closed_retireStranded hc (by decide) h))) ⟨rfl, rfl⟩

theorem oneReply_binEmptied (b : Fin 3) : OneReply rt s (State.binEmptied rt b s) :=
  oneReply_chain (fun _ hc => closed_arbiter hc (by decide)) ⟨rfl, rfl⟩

theorem oneReply_portCheck (m : Word16) : OneReply rt s (State.portCheck rt m s) :=
  (oneReply_reply s rt .ok _ 0).then fun _ hc =>
    closed_foldl (fun _ _ => hc.drives (by decide) _ _ _ (.inl trivial))

theorem oneReply_portReset (d : Drive) : OneReply rt s (State.portReset rt d s) := by
  unfold State.portReset
  split_ifs
  · exact Quiet.oneReply (quiet_of_closed fun _ hc h => hc.drives (by decide) _ _ _ (.inl trivial)
      (hc.drives (by decide) _ _ _ (.inl trivial) (closed_dropWaiting hc (by decide) h))) .ok
  · exact oneReply_replyPlain ..

theorem oneReply_printerReset (u : Unit) : OneReply rt s (State.printerReset rt u s) := by
  unfold State.printerReset
  split_ifs
  · exact Quiet.oneReply ⟨rfl, rfl⟩ .ok
  · exact oneReply_replyPlain ..

theorem oneReply_artworkBegin (a : ArtNo × Nat × Word32) : OneReply rt s (State.artworkBegin rt a s) := by
  unfold State.artworkBegin
  split_ifs
  · exact oneReply_replyPlain ..
  · exact oneReply_replyPlain ..
  · exact oneReply_chain (fun _ hc => closed_arbiter hc (by decide)) ⟨rfl, rfl⟩

theorem oneReply_eventEnable (m : Word16) : OneReply rt s (State.eventEnable rt m s) := by
  have htag : (State.eventEnable rt m s).feed.lastTag = some rt.tag := by
    rw [show (State.eventEnable rt m s).feed = _ from replied_eventEnable rt m s]
  exact ⟨htag, .ok, none, 0, 0, State.eventEnable_replies rt m s⟩

theorem oneReply_query (a : Selector × Byte) : OneReply rt s (State.query rt a s) := by
  unfold State.query State.queryTaken
  split
  · obtain ⟨htag, st, o, m, n, hreplies⟩ := oneReply_replyPlain s rt .ok
    dsimp only
    split_ifs
    · exact ⟨htag, st, o, m, n, by simp [State.emit, hreplies, OutFrame.isReply, List.filter_append]⟩
    · exact ⟨htag, st, o, m, n, by simp [State.emit, hreplies, OutFrame.isReply, List.filter_append]⟩
  · exact oneReply_replyPlain ..

theorem oneReply_storeSettings (u : Unit) : OneReply rt s (State.storeSettings rt u s) := by
  unfold State.storeSettings
  split_ifs
  · exact Quiet.oneReply ⟨rfl, rfl⟩ .ok
  · exact oneReply_replyPlain ..

theorem oneReply_abortAll (u : Unit) : OneReply rt s (State.abortAll rt u s) := by
  unfold State.abortAll
  refine OneReply.then (t := (s.replyPlain rt .ok).modTransport (fun t => { t with autoFeed := false, heldCopy := false }))
    ((oneReply_replyPlain ..).modTransport _) fun P hc h => ?_
  have hwaves := closed_foldl (l := allWaves)
    (f := fun (t : State) w => if (t.wave w).state = .idle then t else t.abortWave w .abortAll) (P := P)
    (fun t w ht => by
      split_ifs
      · exact ht
      · exact closed_abortWave hc (by decide) ht) h
  have hdrives := closed_foldl (l := allDrives) (f := State.abortDrive) (fun _ _ => closed_abortDrive hc (by decide)) hwaves
  exact closed_arbiter hc (by decide) (closed_loadDecision hc (by decide) (closed_printAborted hc (by decide)
    (closed_abortTransport hc (by decide) (closed_abortPrints hc (by decide) hdrives))))

end

/-! ### Answered rows -/

/-- The outcome `o` is that of a checked frame (R187 to R189) which `rt` answers: FP answers a resend, and a body that
does not parse, which it is when `bad`; any other frame has an owner that sends its one REPLY. -/
def Answered (s : State) (rt : ReplyTo) (resend bad : Bool) (o : Host.Outcome State Fault Refusal) : Prop :=
  ∃ (α : Type) (args : Option α) (owner : α → State → State), o = .next (s.answer rt resend args owner) ∧
    (bad = true → args = none) ∧ ∀ a, OneReply rt s (owner a s)

theorem answered_answer {s : State} {rt : ReplyTo} {resend : Bool} {α : Type} {args : Option α}
    {owner : α → State → State} (h : ∀ a, OneReply rt s (owner a s)) :
    Answered s rt resend args.isNone (.next (s.answer rt resend args owner)) :=
  ⟨α, args, owner, rfl, by simp, h⟩

/-- An answered row that is not UNKNOWN. -/
theorem answered_row {c : Instr} {rt : ReplyTo} {resend : Bool} (h : answeredFrame c = some (rt, resend))
    (hc : sharedRow c = true ∨ ∃ f, c = .eventEnable f) (s : State) : Answered s rt resend (malformed c) (exec c s) := by
  cases c with
  | speedLadderWrite f => obtain ⟨rfl, rfl⟩ := h; exact answered_answer oneReply_ladderWrite
  | stationMapWrite f => obtain ⟨rfl, rfl⟩ := h; exact answered_answer oneReply_stationWrite
  | stagedAssignmentWrite f => obtain ⟨rfl, rfl⟩ := h; exact answered_answer oneReply_stagedWrite
  | templateWrite f => obtain ⟨rfl, rfl⟩ := h; exact answered_answer oneReply_templateWrite
  | imageDefine f => obtain ⟨rfl, rfl⟩ := h; exact answered_answer oneReply_imageDefine
  | imageRelease f => obtain ⟨rfl, rfl⟩ := h; exact answered_answer oneReply_imageRelease
  | waveOpen f => obtain ⟨rfl, rfl⟩ := h; exact answered_answer oneReply_waveOpen
  | waveAbort f => obtain ⟨rfl, rfl⟩ := h; exact answered_answer oneReply_waveAbort
  | applyNow f =>
    obtain ⟨rfl, rfl⟩ := h
    exact answered_answer (oneReply_applyMask fun _ hc _ _ => closed_applyNowAt hc (by decide))
  | applyAtLoad f =>
    obtain ⟨rfl, rfl⟩ := h
    exact answered_answer (oneReply_applyMask fun _ hc _ _ => closed_applyAtLoadAt hc (by decide))
  | orderDefine f => obtain ⟨rfl, rfl⟩ := h; exact answered_answer oneReply_orderDefine
  | orderHold f => obtain ⟨rfl, rfl⟩ := h; exact answered_answer oneReply_orderHold
  | orderResume f => obtain ⟨rfl, rfl⟩ := h; exact answered_answer oneReply_orderResume
  | orderQuantity f => obtain ⟨rfl, rfl⟩ := h; exact answered_answer oneReply_orderQuantity
  | orderCancel f => obtain ⟨rfl, rfl⟩ := h; exact answered_answer oneReply_orderCancel
  | feedEnable f => obtain ⟨rfl, rfl⟩ := h; exact answered_answer oneReply_feedEnable
  | transportStart f => obtain ⟨rfl, rfl⟩ := h; exact answered_answer oneReply_transportStart
  | park f => obtain ⟨rfl, rfl⟩ := h; exact answered_answer oneReply_park
  | resume f => obtain ⟨rfl, rfl⟩ := h; exact answered_answer oneReply_resume
  | discRemove f => obtain ⟨rfl, rfl⟩ := h; exact answered_answer oneReply_discRemove
  | spindleRefill f => obtain ⟨rfl, rfl⟩ := h; exact answered_answer oneReply_spindleRefill
  | binEmptied f => obtain ⟨rfl, rfl⟩ := h; exact answered_answer oneReply_binEmptied
  | portCheck f => obtain ⟨rfl, rfl⟩ := h; exact answered_answer oneReply_portCheck
  | portReset f => obtain ⟨rfl, rfl⟩ := h; exact answered_answer oneReply_portReset
  | printerReset f => obtain ⟨rfl, rfl⟩ := h; exact answered_answer oneReply_printerReset
  | artworkBegin f => obtain ⟨rfl, rfl⟩ := h; exact answered_answer oneReply_artworkBegin
  | eventEnable f => obtain ⟨rfl, rfl⟩ := h; exact answered_answer oneReply_eventEnable
  | query f => obtain ⟨rfl, rfl⟩ := h; exact answered_answer oneReply_query
  | storeSettings f => obtain ⟨rfl, rfl⟩ := h; exact answered_answer oneReply_storeSettings
  | abortAll f => obtain ⟨rfl, rfl⟩ := h; exact answered_answer oneReply_abortAll
  | unknown kind number f => simp [sharedRow] at hc
  | _ => cases h

/-- An existing number is answered by its own row, which answers the number that the frame carries. -/
theorem Answered.ofNumber {s : State} {c : Instr} {rt rt' : ReplyTo} {resend : Bool}
    (h : answeredFrame c = some (rt, resend)) (hc : sharedRow c = true ∨ ∃ f, c = .eventEnable f) (hrt : rt = rt') :
    Answered s rt' resend false (exec c s) := by
  obtain ⟨α, args, owner, ho, -, hreply⟩ := answered_row h hc s
  exact ⟨α, args, owner, hrt ▸ ho, nofun, hrt ▸ hreply⟩

theorem answered_answerUnknown (s : State) (rt : ReplyTo) (resend : Bool) :
    Answered s rt resend false (.next (s.answerUnknown rt resend)) :=
  ⟨Unit, some (), fun _ t => t.replyPlain rt .unknown, rfl, nofun, fun _ => oneReply_replyPlain ..⟩

theorem byte_eq_of_toNat {b c : Byte} (h : b.toNat = c.toNat) : c = b := (BitVec.eq_of_toNat_eq h).symm

theorem answered_tableFrame (number : Byte) (f : TableFrame) (s : State) :
    Answered s (tableReply f number) f.resend false (tableFrame number f s) := by
  unfold tableFrame
  split
  case h_1 h => exact .ofNumber (c := .speedLadderWrite f) rfl (.inl rfl) (by rw [byte_eq_of_toNat (c := 1) h])
  case h_2 h => exact .ofNumber (c := .stationMapWrite f) rfl (.inl rfl) (by rw [byte_eq_of_toNat (c := 2) h])
  case h_3 h => exact .ofNumber (c := .stagedAssignmentWrite f) rfl (.inl rfl) (by rw [byte_eq_of_toNat (c := 3) h])
  case h_4 h => exact .ofNumber (c := .templateWrite f) rfl (.inl rfl) (by rw [byte_eq_of_toNat (c := 4) h])
  case h_5 => exact answered_answerUnknown ..

theorem answered_commandFrame (number : Byte) (f : CmdFrame) (s : State) :
    Answered s (cmdReply f number) f.resend false (commandFrame number f s) := by
  unfold commandFrame
  split
  case h_1 h => exact .ofNumber (c := .imageDefine f) rfl (.inl rfl) (by rw [byte_eq_of_toNat (c := 1) h])
  case h_2 h => exact .ofNumber (c := .imageRelease f) rfl (.inl rfl) (by rw [byte_eq_of_toNat (c := 2) h])
  case h_3 h => exact .ofNumber (c := .waveOpen f) rfl (.inl rfl) (by rw [byte_eq_of_toNat (c := 3) h])
  case h_4 h => exact .ofNumber (c := .waveAbort f) rfl (.inl rfl) (by rw [byte_eq_of_toNat (c := 4) h])
  case h_5 h => exact .ofNumber (c := .applyNow f) rfl (.inl rfl) (by rw [byte_eq_of_toNat (c := 5) h])
  case h_6 h => exact .ofNumber (c := .applyAtLoad f) rfl (.inl rfl) (by rw [byte_eq_of_toNat (c := 6) h])
  case h_7 h => exact .ofNumber (c := .orderDefine f) rfl (.inl rfl) (by rw [byte_eq_of_toNat (c := 7) h])
  case h_8 h => exact .ofNumber (c := .orderHold f) rfl (.inl rfl) (by rw [byte_eq_of_toNat (c := 8) h])
  case h_9 h => exact .ofNumber (c := .orderResume f) rfl (.inl rfl) (by rw [byte_eq_of_toNat (c := 9) h])
  case h_10 h => exact .ofNumber (c := .orderQuantity f) rfl (.inl rfl) (by rw [byte_eq_of_toNat (c := 10) h])
  case h_11 h => exact .ofNumber (c := .orderCancel f) rfl (.inl rfl) (by rw [byte_eq_of_toNat (c := 11) h])
  case h_12 h => exact .ofNumber (c := .feedEnable f) rfl (.inl rfl) (by rw [byte_eq_of_toNat (c := 12) h])
  case h_13 h => exact .ofNumber (c := .transportStart f) rfl (.inl rfl) (by rw [byte_eq_of_toNat (c := 13) h])
  case h_14 h => exact .ofNumber (c := .park f) rfl (.inl rfl) (by rw [byte_eq_of_toNat (c := 14) h])
  case h_15 h => exact .ofNumber (c := .resume f) rfl (.inl rfl) (by rw [byte_eq_of_toNat (c := 15) h])
  case h_16 h => exact .ofNumber (c := .discRemove f) rfl (.inl rfl) (by rw [byte_eq_of_toNat (c := 16) h])
  case h_17 h => exact .ofNumber (c := .spindleRefill f) rfl (.inl rfl) (by rw [byte_eq_of_toNat (c := 17) h])
  case h_18 h => exact .ofNumber (c := .binEmptied f) rfl (.inl rfl) (by rw [byte_eq_of_toNat (c := 18) h])
  case h_19 h => exact .ofNumber (c := .portCheck f) rfl (.inl rfl) (by rw [byte_eq_of_toNat (c := 19) h])
  case h_20 h => exact .ofNumber (c := .portReset f) rfl (.inl rfl) (by rw [byte_eq_of_toNat (c := 20) h])
  case h_21 h => exact .ofNumber (c := .printerReset f) rfl (.inl rfl) (by rw [byte_eq_of_toNat (c := 21) h])
  case h_22 h => exact .ofNumber (c := .artworkBegin f) rfl (.inl rfl) (by rw [byte_eq_of_toNat (c := 22) h])
  case h_23 h => exact .ofNumber (c := .eventEnable f) rfl (.inr ⟨f, rfl⟩) (by rw [byte_eq_of_toNat (c := 23) h])
  case h_24 h => exact .ofNumber (c := .query f) rfl (.inl rfl) (by rw [byte_eq_of_toNat (c := 24) h])
  case h_25 h => exact .ofNumber (c := .storeSettings f) rfl (.inl rfl) (by rw [byte_eq_of_toNat (c := 25) h])
  case h_26 h => exact .ofNumber (c := .abortAll f) rfl (.inl rfl) (by rw [byte_eq_of_toNat (c := 26) h])
  case h_27 => exact answered_answerUnknown ..

/-- Every TABLE and COMMAND frame is answered. -/
theorem answered_exec {c : Instr} {rt : ReplyTo} {resend : Bool} (h : answeredFrame c = some (rt, resend)) (s : State) :
    Answered s rt resend (malformed c) (exec c s) := by
  by_cases hu : ∃ kind number f, c = .unknown kind number f
  · obtain ⟨kind, number, f, rfl⟩ := hu
    cases kind with
    | table => obtain ⟨rfl, rfl⟩ := h; exact answered_tableFrame number f s
    | command => obtain ⟨rfl, rfl⟩ := h; exact answered_commandFrame number _ s
  · refine answered_row h ?_ s
    cases c with
    | eventEnable f => exact .inr ⟨f, rfl⟩
    | unknown kind number f => exact absurd ⟨kind, number, f, rfl⟩ hu
    | powerOn | inboundFrameDiscard _ | outboundFrameSend | eventFrameSend => cases h
    | _ => exact .inl rfl

/-! ### The answers that FP gives itself -/

theorem State.answer_of_resend {α : Type} {s : State} {rt : ReplyTo} {args : Option α} {owner : α → State → State}
    (h : s.feed.lastTag = some rt.tag) : s.answer rt true args owner = s.replyIgnored rt := by
  simp [State.answer, State.isResend, h]

theorem State.answer_none_of_handlesAsNew {α : Type} {s : State} {rt : ReplyTo} {resend : Bool}
    (owner : α → State → State) (hn : s.handlesAsNew rt.tag resend) :
    s.answer rt resend none owner = s.replyPlain rt .format := by
  have hr : s.isResend rt.tag resend = false := by
    simpa [State.isResend, State.handlesAsNew] using hn
  simp [State.answer, hr]

theorem changes_replyIgnored (s : State) (rt : ReplyTo) : Changes [.feed, .outbound] s (s.replyIgnored rt) :=
  changes_of_closed fun _ hc => hc.ignored (by decide) (by decide) s rt

theorem tableFrame_of_unknown {number : Byte} (h : numberExists .table number = false) (f : TableFrame) (s : State) :
    tableFrame number f s = .next (s.answerUnknown (tableReply f number) f.resend) := by
  have hn : ¬ (1 ≤ number.toNat ∧ number.toNat ≤ 4) := by simpa [numberExists] using h
  unfold tableFrame
  split
  case h_5 => rfl
  all_goals omega

theorem commandFrame_of_unknown {number : Byte} (h : numberExists .command number = false) (f : CmdFrame) (s : State) :
    commandFrame number f s = .next (s.answerUnknown (cmdReply f number) f.resend) := by
  have hn : ¬ (1 ≤ number.toNat ∧ number.toNat ≤ 26) := by simpa [numberExists] using h
  unfold commandFrame
  split
  case h_27 => rfl
  all_goals omega

theorem State.answerUnknown_of_handlesAsNew {s : State} {rt : ReplyTo} {resend : Bool}
    (hn : s.handlesAsNew rt.tag resend) : s.answerUnknown rt resend = s.replyPlain rt .unknown :=
  State.answer_of_handlesAsNew _ rfl hn

theorem exec_unknown {kind : AnsweredKind} {number : Byte} (h : numberExists kind number = false) (f : TableFrame)
    (s : State) : exec (.unknown kind number f) s =
      .next (s.answerUnknown { tag := f.tag, kind := kind, number := number } f.resend) := by
  cases kind with
  | table => exact tableFrame_of_unknown h f s
  | command => exact commandFrame_of_unknown h _ s

theorem exec_sector_of_bad {l : List (List Byte)} (h : sectorsOk l = false) (w : WaveNo) (n : Word32) (s : State) :
    exec (.sector w n l) s = .next (s.discard .format) := by
  show Host.Outcome.next _ = _
  rw [if_neg (by simp [h])]

theorem exec_run_of_bad {k : Word16} {p : List Byte} (h : runOk k p = false) (w : WaveNo) (n : Word32) (s : State) :
    exec (.run w n k p) s = .next (s.discard .format) := by
  show Host.Outcome.next _ = _
  rw [if_neg (by simp [h])]

theorem exec_artworkFrame_of_bad {l : List Byte} (h : artworkBodyOk l = false) (a : ArtNo) (o : Word32) (s : State) :
    exec (.artworkFrame a o l) s = .next (s.discard .format) := by
  show Host.Outcome.next _ = _
  rw [if_neg (by simp [h])]

/-- Settles O4: the resend, the body that does not parse and the number that does not exist are FP's own answers, and a
data frame with bad operands is discarded. -/
theorem framesNotHandedOnChangeNothingElse : Obligations.FramesNotHandedOnChangeNothingElse := by
  refine ⟨fun c rt s hc htag => ?resend, ⟨fun kind number f s hnum hnew => ?unknown,
    fun c rt resend s hbad hc hnew => ?malformed⟩, fun c s hc => ?data⟩
  case resend =>
    obtain ⟨α, args, owner, ho, -, -⟩ := answered_exec hc s
    rw [State.answer_of_resend htag] at ho
    exact ⟨_, ho, rfl, rfl, changes_replyIgnored s rt⟩
  case unknown =>
    rw [exec_unknown hnum, State.answerUnknown_of_handlesAsNew hnew]
    exact ⟨_, rfl, repliedOnly_replyPlain ..⟩
  case malformed =>
    obtain ⟨α, args, owner, ho, hargs, -⟩ := answered_exec hc s
    rw [hargs hbad, State.answer_none_of_handlesAsNew owner hnew] at ho
    exact ⟨_, ho, repliedOnly_replyPlain ..⟩
  case data =>
    refine ⟨s.discard .format, ?_, discarded_discard s .format⟩
    obtain ⟨w, n, l, rfl, h⟩ | ⟨w, n, k, p, rfl, h⟩ | ⟨a, o, l, rfl, h⟩ := hc
    · exact exec_sector_of_bad h w n s
    · exact exec_run_of_bad h w n s
    · exact exec_artworkFrame_of_bad h a o s

/-! ### REPLYs of data frames -/

/-- What a data frame leaves: the REPLYs in the outbound list and the last tag. -/
def NoReply (s t : State) : Prop :=
  t.outbound.filter OutFrame.isReply = s.outbound.filter OutFrame.isReply ∧ t.feed.lastTag = s.feed.lastTag

theorem NoReply.quiet {s t u : State} (h : NoReply s t) (hu : ∀ P, Closed anyUpdate quietParts P → P t → P u) :
    NoReply s u := by
  obtain ⟨hfeed, hreplies⟩ := hu _ closed_quiet (Quiet.refl t)
  exact ⟨hreplies.trans h.1, by rw [show u.feed = t.feed from hfeed, h.2]⟩

theorem noReply_discard (s : State) (c : DiscardCause) : NoReply s (s.discard c) :=
  NoReply.quiet (t := s.modFeed _) ⟨rfl, rfl⟩ fun _ hc h => hc.raise (by decide) (by decide) _ _ _ _ h

theorem noReply_acceptFrame (s : State) (w : WaveNo) (entries : List HeldEntry) (count : Nat)
    (sectors : List (List Byte)) : NoReply s (s.acceptFrame w entries count sectors) := by
  refine NoReply.quiet (t := s.countAccepted.modWave w
    (fun x => { x with held := x.held ++ entries, head := x.head + count })) ⟨rfl, rfl⟩ fun P hc h => ?_
  have htaken := closed_takeSectors hc (by decide) (w := w) (l := sectors) h
  unfold State.acceptFrame
  dsimp only
  split
  · next heq => exact closed_abortWave hc (by decide) (by simpa [heq] using htaken)
  · next heq => exact closed_afterTake hc (by decide) trivial (by simpa [heq] using htaken)

theorem noReply_sectorFrame (s : State) (w : WaveNo) (first : Nat) (l : List (List Byte)) :
    NoReply s (s.sectorFrame w first l) := by
  unfold State.sectorFrame
  split
  · exact noReply_discard ..
  · exact (noReply_acceptFrame ..).quiet fun _ hc => closed_arbiter hc (by decide)

theorem noReply_runFrame (s : State) (w : WaveNo) (first rep : Nat) (p : List Byte) :
    NoReply s (s.runFrame w first rep p) := by
  unfold State.runFrame
  split
  · exact noReply_discard ..
  · exact (noReply_acceptFrame ..).quiet fun _ hc => closed_arbiter hc (by decide)

theorem noReply_artworkTaken (s : State) (a : ArtNo) (offset : Nat) (data : List Byte) :
    NoReply s (s.artworkTaken a offset data) := by
  unfold State.artworkTaken
  split
  · exact noReply_discard ..
  · dsimp only
    have htaken : NoReply s (s.countAccepted.modArtwork a (·.append data)) := ⟨rfl, rfl⟩
    split
    · exact htaken.quiet fun _ hc h => closed_arbiter hc (by decide) (closed_artworkComplete hc (by decide) trivial h)
    · exact htaken

/-- Settles O5: an answered frame has the REPLY of FP or that of its owner, a data frame none. -/
theorem oneReplyPerAnsweredFrame : Obligations.OneReplyPerAnsweredFrame := by
  refine ⟨fun c rt resend s hc => ?answered, fun c s hc => ?data⟩
  case answered =>
    obtain ⟨α, args, owner, ho, -, hreply⟩ := answered_exec hc s
    suffices hone : OneReply rt s (s.answer rt resend args owner) by
      obtain ⟨htag, st, o, m, n, hreplies⟩ := hone
      exact ⟨_, st, o, m, n, ho, htag, hreplies⟩
    unfold State.answer
    split
    · next h =>
      have htag : s.feed.lastTag = some rt.tag := by
        simp only [State.isResend, Bool.and_eq_true, decide_eq_true_eq] at h
        exact h.2
      exact ⟨htag, .ignored, s.feed.lastStatus, 0, 0, List.filter_append ..⟩
    · split
      · exact oneReply_replyPlain ..
      · exact hreply _
  case data =>
    suffices hnone : Ends (NoReply s) (exec c s) by
      obtain ⟨t, ht, hreplies, htag⟩ := hnone
      exact ⟨t, ht, hreplies, htag⟩
    obtain ⟨w, n, l, rfl⟩ | ⟨w, n, k, p, rfl⟩ | ⟨a, o, l, rfl⟩ := hc
    · exact ends_ite (noReply_sectorFrame ..) (noReply_discard ..)
    · exact ends_ite (noReply_runFrame ..) (noReply_discard ..)
    · exact ends_ite (noReply_artworkTaken ..) (noReply_discard ..)

end Sys2Proof.Machine
end

section
/-! The feed link, what FP sends and answers: the first frame of the outbound list (O8) and a Query (O11). -/

namespace Sys2Proof.Machine

/-! ### Sending -/

theorem frameBytes_flags (h : Header) (restart : Bool) (body : List Byte) :
    (frameBytes h restart body)[1]? = some (if restart then 1#8 else 0#8) := by
  simp [frameBytes]

/-- RESTART stands in the second byte of every frame (R181, R191). -/
theorem State.outBytes_flags (s : State) (f : OutFrame) :
    (s.outBytes f)[1]? = some (if s.feed.restartPending then 1#8 else 0#8) := by
  cases f <;> exact frameBytes_flags _ _ _

theorem exec_outboundFrameSend_of_event {s : State} {c : EventClass} (h : s.headEvent = some c) :
    exec .outboundFrameSend s = .next s := by
  show execOutboundFrameSend s = _
  simp [execOutboundFrameSend, h]

theorem exec_outboundFrameSend_of_other {s : State} (h : s.headEvent = none) :
    exec .outboundFrameSend s = .next s.sendHead := by
  show execOutboundFrameSend s = _
  simp [execOutboundFrameSend, h]

theorem exec_eventFrameSend_of_event {s : State} {c : EventClass} (h : s.headEvent = some c) :
    exec .eventFrameSend s = .next (s.sendHead.modEvent c (·.cleared)) := by
  show execEventFrameSend s = _
  simp [execEventFrameSend, h]

theorem exec_eventFrameSend_of_other {s : State} (h : s.headEvent = none) : exec .eventFrameSend s = .next s := by
  show execEventFrameSend s = _
  simp [execEventFrameSend, h]

theorem State.headEvent_cons_event {s : State} {c : EventClass} {rest : List OutFrame}
    (hl : s.outbound = .event c :: rest) : s.headEvent = some c := by
  simp [State.headEvent, hl]

/-- Settles O8: whether the head is an EVENT frame decides which of the two rows sends it. -/
theorem firstFrameIsSent : Obligations.FirstFrameIsSent := by
  intro s f rest hl
  by_cases hf : ∃ c, f = .event c
  · obtain ⟨c, rfl⟩ := hf
    have hhead := State.headEvent_cons_event hl
    obtain ⟨t, ht, hch⟩ := ends_changes_eventFrameSend s
    rw [exec_eventFrameSend_of_event hhead] at ht ⊢
    obtain rfl := Host.Outcome.next.inj ht
    refine .inr ⟨c, rfl, exec_outboundFrameSend_of_event hhead, _, rfl, ?_, ?_, ?_, fun k hk => ?_, hch.mono (by decide)⟩
    · rw [State.sendHead_cons hl]; rfl
    · rw [State.sendHead_cons hl]; rfl
    · rw [State.event_modEvent_self, State.sendHead_event]; rfl
    · rw [State.event_modEvent, if_neg hk.symm, State.sendHead_event]
  · have hne : ∀ c, f ≠ .event c := fun c h => hf ⟨c, h⟩
    have hhead := (State.headEvent_eq_none hl).mpr hne
    refine .inl ⟨hne, exec_eventFrameSend_of_other hhead, _, exec_outboundFrameSend_of_other hhead, ?_, ?_,
      s.outBytes_flags f, changes_sendHead s⟩
    · rw [State.sendHead_cons hl]; rfl
    · rw [State.sendHead_cons hl]; rfl

/-! ### Query -/

theorem nameOf_of_lt {n : Nat} {b : Byte} (h : b.toNat < n) : nameOf n b = some ⟨b.toNat, h⟩ := dif_pos h

theorem nameOf_of_ge {n : Nat} {b : Byte} (h : n ≤ b.toNat) : nameOf n b = none := dif_neg (Nat.not_lt.mpr h)

/-- An index in its selector's range has an answer. -/
theorem State.answerFor_of_lt (s : State) {sel : Selector} {index : Byte} (h : index.toNat < sel.indexes) :
    ∃ body, s.answerFor sel index = some body := by
  cases sel <;> exact ⟨_, congrArg (Option.map _) (nameOf_of_lt h)⟩

theorem State.answerFor_of_ge (s : State) {sel : Selector} {index : Byte} (h : sel.indexes ≤ index.toNat) :
    s.answerFor sel index = none := by
  cases sel <;> exact congrArg (Option.map _) (nameOf_of_ge h)

/-! Each answer but FEED reads parts that a REPLY leaves alone. -/

section
variable (s : State) (rt : ReplyTo) (st : Status)

theorem State.answerDrive_replyPlain : (s.replyPlain rt st).answerDrive = s.answerDrive := by
  have hdrive : (s.replyPlain rt st).drive = s.drive := rfl
  have hsave : (s.replyPlain rt st).save = s.save := rfl
  have hattached : (s.replyPlain rt st).attachedTo = s.attachedTo := rfl
  have hcode : (s.replyPlain rt st).code = s.code := rfl
  have hladder : (s.replyPlain rt st).ladder = s.ladder := rfl
  unfold State.answerDrive
  rw [hdrive, hsave, hattached, hcode, hladder]

theorem State.answerOrder_replyPlain : (s.replyPlain rt st).answerOrder = s.answerOrder := by
  have horder : (s.replyPlain rt st).order = s.order := rfl
  have hloads : (s.replyPlain rt st).unpickedLoads = s.unpickedLoads := rfl
  have hrecords : (s.replyPlain rt st).recordsNaming = s.recordsNaming := rfl
  have hactive : (s.replyPlain rt st).activeOn = s.activeOn := rfl
  have hpending : (s.replyPlain rt st).pendingOn = s.pendingOn := rfl
  unfold State.answerOrder
  rw [horder, hloads, hrecords, hactive, hpending]

theorem State.answerRecord_replyPlain : (s.replyPlain rt st).answerRecord = s.answerRecord := by
  have hrecord : (s.replyPlain rt st).record = s.record := rfl
  unfold State.answerRecord
  rw [hrecord]

theorem State.answerStation_replyPlain : (s.replyPlain rt st).answerStation = s.answerStation := by
  have hstation : (s.replyPlain rt st).station = s.station := rfl
  have hmap : (s.replyPlain rt st).mapValid = s.mapValid := rfl
  unfold State.answerStation
  rw [hstation, hmap]

theorem State.entryBytes_replyPlain : (s.replyPlain rt st).entryBytes = s.entryBytes := by
  have hgive : (s.replyPlain rt st).canGive = s.canGive := rfl
  have htake : (s.replyPlain rt st).canTake = s.canTake := by
    have hready : (s.replyPlain rt st).artworkReady = s.artworkReady := rfl
    have hbin : (s.replyPlain rt st).binTakes = s.binTakes := rfl
    funext e i
    simp only [State.canTake, hready, hbin, Untouched.replyPlain_station, Untouched.replyPlain_drive,
      Untouched.replyPlain_printer]
  have hdest : (s.replyPlain rt st).destOf = s.destOf := rfl
  have hholds : (s.replyPlain rt st).armHolds = s.armHolds := rfl
  unfold State.entryBytes State.eligible
  rw [hgive, htake, hdest, hholds]

theorem State.answerTransport_replyPlain : (s.replyPlain rt st).answerTransport = s.answerTransport := by
  have htransport : (s.replyPlain rt st).transport = s.transport := rfl
  have hqueue : (s.replyPlain rt st).queue = s.queue := rfl
  unfold State.answerTransport
  rw [htransport, hqueue, s.entryBytes_replyPlain rt st]

theorem State.answerPrinter_replyPlain : (s.replyPlain rt st).answerPrinter = s.answerPrinter := by
  have hprinter : (s.replyPlain rt st).printer = s.printer := rfl
  unfold State.answerPrinter
  rw [hprinter]

theorem State.answerVerify_replyPlain : (s.replyPlain rt st).answerVerify = s.answerVerify := by
  have hsave : (s.replyPlain rt st).save = s.save := rfl
  have hprogress : (s.replyPlain rt st).progressFor = s.progressFor := rfl
  have hcontext : (s.replyPlain rt st).contextFor = s.contextFor := rfl
  have hcontexts : (s.replyPlain rt st).context = s.context := rfl
  have hqueue : (s.replyPlain rt st).verifyQueue = s.verifyQueue := rfl
  unfold State.answerVerify
  rw [hsave, hprogress, hcontext, hcontexts, hqueue]

/-- A REPLY changes the FEED answer alone. -/
theorem State.answerFor_replyPlain {sel : Selector} (h : sel ≠ .feed) (index : Byte) :
    (s.replyPlain rt st).answerFor sel index = s.answerFor sel index := by
  unfold State.answerFor
  cases sel with
  | feed => exact absurd rfl h
  | drive => rw [State.answerDrive_replyPlain]
  | order => rw [State.answerOrder_replyPlain]
  | record => rw [State.answerRecord_replyPlain]
  | station => rw [State.answerStation_replyPlain]
  | transport => rw [State.answerTransport_replyPlain]
  | printer => rw [State.answerPrinter_replyPlain]
  | verify => rw [State.answerVerify_replyPlain]
  | wave | image | template | artwork => rfl

end

/-- The FEED answer after the Query's REPLY counts the Query itself (R199). -/
theorem State.answerFor_feed {index : Byte} (h : index.toNat < 1) (s : State) (rt : ReplyTo) :
    (s.replyPlain rt .ok).answerFor .feed index =
      some (enc32 (countUp s.feed.accepted) ++ s.feed.discards.toList.flatMap enc32 ++ enc16w rt.tag ++ enc8 0) := by
  rw [State.answerFor, nameOf_of_lt h]
  rfl

theorem exec_query_of_handlesAsNew {f : CmdFrame} {a : Selector × Byte} {s : State} (hp : parseQuery f.body = some a)
    (hn : s.handlesAsNew f.tag f.resend) : exec (.query f) s = .next (State.query (cmdReply f 24) a s) :=
  congrArg _ (State.answer_of_handlesAsNew _ hp hn)

theorem State.query_of_none {s : State} {rt : ReplyTo} {sel : Selector} {index : Byte}
    (h : (s.replyPlain rt .ok).answerFor sel index = none) :
    State.query rt (sel, index) s = s.replyPlain rt .range := by
  simp [State.query, h]

theorem State.query_of_some {s : State} {rt : ReplyTo} {sel : Selector} {index : Byte} {body : List Byte}
    (h : (s.replyPlain rt .ok).answerFor sel index = some body) :
    State.query rt (sel, index) s = (s.replyPlain rt .ok).queryTaken rt.tag sel index body := by
  simp [State.query, h]

section
variable (s : State) (tag : Word16) (sel : Selector) (index : Byte) (body : List Byte)

theorem State.queryTaken_outbound :
    (s.queryTaken tag sel index body).outbound =
      s.outbound ++ [.queryResult tag (BitVec.ofNat 8 sel.ctorIdx) index body] := by
  unfold State.queryTaken
  dsimp only
  split_ifs <;> rfl

theorem State.queryTaken_feed :
    (s.queryTaken tag sel index body).feed = if sel = .feed then s.feed.countersCleared else s.feed := by
  unfold State.queryTaken
  dsimp only
  split_ifs <;> rfl

theorem changes_queryTaken : Changes [.feed, .outbound] s (s.queryTaken tag sel index body) := by
  intro p hp
  unfold State.queryTaken
  cases p with
  | feed | outbound => simp at hp
  | _ => dsimp only; split_ifs <;> rfl

end

theorem FeedPort.countersCleared_discards (p : FeedPort) (c : DiscardCause) :
    p.countersCleared.discards[c.idx.val] = 0 := by
  simp [FeedPort.countersCleared]

/-- Settles O11: the answer exists just for the indexes of the selector; it joins after the REPLY, and only the FEED
answer sees that REPLY. -/
theorem queryAnswersOrRefuses : Obligations.QueryAnswersOrRefuses := by
  intro f sel index s hp hn
  refine ⟨_, exec_query_of_handlesAsNew hp hn, fun hge => ?refused, fun hlt => ?taken⟩
  case refused =>
    rw [State.query_of_none (State.answerFor_of_ge _ hge)]
    exact repliedOnly_replyPlain ..
  case taken =>
    obtain ⟨body, hbody⟩ := (s.replyPlain (cmdReply f 24) .ok).answerFor_of_lt hlt
    rw [State.query_of_some hbody]
    refine ⟨body, ?_, (changes_replyPlain s _ _).trans (changes_queryTaken _ _ _ _ _), ?_, ?_, ?_, fun hsel => ⟨?_, ?_⟩,
      fun hsel => ?_⟩
    · rw [State.queryTaken_outbound, State.replyPlain_outbound, List.append_assoc]
      rfl
    · rw [State.queryTaken_feed]
      split_ifs <;> rfl
    · rw [State.queryTaken_feed]
      split_ifs <;> rfl
    · rw [State.queryTaken_feed]
      split_ifs <;> rfl
    · unfold Replied
      rw [State.queryTaken_feed, if_neg hsel]
      rfl
    · rw [← hbody, State.answerFor_replyPlain s _ _ hsel]
    · subst hsel
      rw [State.answerFor_feed hlt] at hbody
      rw [State.queryTaken_feed, if_pos rfl]
      exact ⟨(Option.some.inj hbody).symm, rfl, FeedPort.countersCleared_discards _⟩

end Sys2Proof.Machine
end

section
/-! Assignments and templates (chapters 4 and 9): the checks of an apply (O22), and the table writes that store their
fields (O21). -/

namespace Sys2Proof.Machine

/-! ### The checks of an apply (R73) -/

theorem State.rungDefined_iff (s : State) {n : Nat} (h : n ≤ 7) :
    s.rungDefined n = true ↔ ∀ g : Rung, g.val = n → s.code g ≠ 0 := by
  have hn : n < 8 := by omega
  simp only [State.rungDefined, hn, dif_pos, decide_eq_true_eq]
  refine ⟨fun hcode g hg => ?_, fun hall => hall ⟨n, hn⟩ rfl⟩
  obtain rfl : g = ⟨n, hn⟩ := Fin.ext hg
  exact hcode

/-- Check 2 of R73. -/
theorem State.rungsOk_iff (s : State) (e : StagedEntry) :
    s.rungsOk e = true ↔ e.start ≤ 7 ∧ e.start ≤ e.floor ∧ e.floor ≤ 7 ∧
      (∀ g : Rung, g.val = e.start ∨ g.val = e.floor → s.code g ≠ 0) ∧ e.threshold ≤ 7 := by
  simp only [State.rungsOk, Bool.and_eq_true, decide_eq_true_eq, and_assoc]
  refine and_congr_right fun hstart => and_congr_right fun _ => and_congr_right fun hfloor => ?_
  rw [s.rungDefined_iff hstart, s.rungDefined_iff hfloor, ← and_assoc]
  refine and_congr_left fun _ => ⟨fun h g hg => hg.elim (h.1 g) (h.2 g), fun h => ⟨fun g hg => h g (.inl hg), fun g hg => h g (.inr hg)⟩⟩

/-- Check 3 of R73. -/
theorem verifyOk_iff (e : StagedEntry) :
    verifyOk e = true ↔ e.mode ≤ 2 ∧ (e.mode = 2 → 2 ≤ e.stride ∧ e.stride ≤ 64) ∧ e.tolerance ≤ 1023 := by
  simp only [verifyOk, Bool.and_eq_true, Bool.or_eq_true, decide_eq_true_eq, and_assoc, ne_eq, imp_iff_not_or]

theorem State.validate_eq (s : State) (e : StagedEntry) :
    s.validate e =
      if (s.order e.order).state = .free then some .rejOrder
      else if ¬ s.rungsOk e = true then some .rejRung
      else if ¬ verifyOk e = true then some .rejVerify
      else none := by
  simp [State.validate]

theorem State.validate_eq_none_iff (s : State) (e : StagedEntry) :
    s.validate e = none ↔ (s.order e.order).state ≠ .free ∧ s.rungsOk e = true ∧ verifyOk e = true := by
  rw [s.validate_eq]
  by_cases horder : (s.order e.order).state = .free
  · simp [horder]
  by_cases hrungs : s.rungsOk e = true
  · by_cases hverify : verifyOk e = true <;> simp [horder, hrungs, hverify]
  · simp [horder, hrungs]

theorem modeInForce_ctorIdx {n : Nat} (h : n ≤ 2) : (modeInForce n).ctorIdx = n := by
  interval_cases n <;> rfl

/-- Settles O22: the checks are `rungsOk` and `verifyOk`, and a field that passes lies in the range it is stored in. -/
theorem applyChecksInOrder : Obligations.ApplyChecksInOrder := by
  intro s e
  refine ⟨?_, fun h => ?_⟩
  · simp only [s.validate_eq, s.rungsOk_iff, verifyOk_iff]
  · obtain ⟨-, hrungs, hverify⟩ := (s.validate_eq_none_iff e).mp h
    obtain ⟨hstart, -, hfloor, -, -⟩ := (s.rungsOk_iff e).mp hrungs
    obtain ⟨hmode, -, -⟩ := (verifyOk_iff e).mp hverify
    exact ⟨rfl, Nat.mod_eq_of_lt (by omega), Nat.mod_eq_of_lt (by omega), modeInForce_ctorIdx hmode, rfl, rfl, rfl⟩

/-! ### Numbers of two bytes -/

theorem be16_toNat (a b : Byte) : (be16 a b).toNat = 256 * a.toNat + b.toNat := by
  rw [be16, BitVec.toNat_append, Nat.shiftLeft_eq, ← Nat.shiftLeft_eq, ← Nat.shiftLeft_add_eq_or_of_lt b.isLt,
    Nat.shiftLeft_eq]
  omega

/-! ### Table writes -/

theorem replied_replyPlain_of_feed {s t : State} {rt : ReplyTo} {st : Status} (h : t.feed = s.feed) :
    Replied rt.tag st s (t.replyPlain rt st) := by
  unfold Replied
  rw [← h]
  rfl

theorem nameOf_eq_some {n : Nat} {b : Byte} {i : Fin n} (h : b.toNat = i.val) : nameOf n b = some i := by
  rw [nameOf_of_lt (h ▸ i.isLt)]
  exact congrArg some (Fin.ext h)

theorem parseLadder_eq_some {f : TableFrame} {g : Rung} {code : Byte} (he : f.entry.toNat = g.val) (hb : f.body = [code]) :
    parseLadder f = some (g, code) := by
  simp [parseLadder, nameOf_eq_some he, hb]

/-- A ladder write before the load decision (R68): the code, the written flag and the REPLY. -/
def State.ladderWritten (s : State) (rt : ReplyTo) (g : Rung) (code : Byte) : State :=
  ((s.setCode g code).modSettings (fun x => { x with
    ladderWritten := x.ladderWritten.set g.val true g.isLt })).replyPlain rt .ok

theorem exec_speedLadderWrite_of_handlesAsNew {f : TableFrame} {g : Rung} {code : Byte} {s : State}
    (hp : parseLadder f = some (g, code)) (hn : s.handlesAsNew f.tag f.resend) :
    exec (.speedLadderWrite f) s = .next (s.ladderWritten (tableReply f 1) g code).loadDecision.arbiter := by
  have hanswer := State.answer_of_handlesAsNew (rt := tableReply f 1) (State.ladderWrite (tableReply f 1)) hp hn
  exact congrArg Host.Outcome.next hanswer

theorem changes_ladderWritten (s : State) (rt : ReplyTo) (g : Rung) (code : Byte) :
    Changes [.ladder, .settings, .feed, .outbound] s (s.ladderWritten rt g code) :=
  changes_of_closed fun _ hc h => closed_replyPlain hc (by decide)
    (hc.settings (by decide) _ _ (hc.ladder (by decide) _ _ _ h))

theorem State.code_setCode_self (s : State) (g : Rung) (code : Byte) : (s.setCode g code).code g = code := by
  simp [State.code]

theorem State.code_setCode_of_ne (s : State) {g h : Rung} (code : Byte) (hne : h ≠ g) :
    (s.setCode g code).code h = s.code h := by
  have hv : g.val ≠ h.val := fun e => hne (Fin.ext e.symm)
  simp [State.code, hv]

theorem parseStaged_eq_some {f : TableFrame} {d : Drive} {order : OrderNo} {o rungs tm stride t1 t0 : Byte}
    (he : f.entry.toNat = d.val) (hb : f.body = [o, rungs, tm, stride, t1, t0]) (ho : o.toNat = order.val)
    (htm : tm.toNat < 64) :
    parseStaged f = some (d, { order := order, start := rungs.toNat % 16, floor := rungs.toNat / 16,
                               threshold := tm.toNat % 16, mode := tm.toNat / 16, stride := stride.toNat,
                               tolerance := 256 * t1.toNat + t0.toNat }) := by
  simp [parseStaged, nameOf_eq_some he, nameOf_eq_some ho, hb, htm, be16_toNat]

theorem exec_stagedAssignmentWrite_of_handlesAsNew {f : TableFrame} {a : Drive × StagedEntry} {s : State}
    (hp : parseStaged f = some a) (hn : s.handlesAsNew f.tag f.resend) :
    exec (.stagedAssignmentWrite f) s = .next (State.stagedWrite (tableReply f 3) a s) :=
  congrArg _ (State.answer_of_handlesAsNew _ hp hn)

theorem exec_templateWrite_of_handlesAsNew {f : TableFrame} {a : TmplNo × TemplateArgs} {s : State}
    (hp : parseTemplate f = some a) (hn : s.handlesAsNew f.tag f.resend) :
    exec (.templateWrite f) s = .next (State.templateWrite (tableReply f 4) a s) :=
  congrArg _ (State.answer_of_handlesAsNew _ hp hn)

/-- The fields of a template write that R167 takes. -/
theorem templateOk_iff (a : TemplateArgs) :
    templateOk a = true ↔ a.textLength ≤ 16 ∧
      (∀ c ∈ a.textBytes.take a.textLength, 0x20 ≤ c.toNat ∧ c.toNat ≤ 0x7E) ∧ a.nextSerial ≤ 999999 := by
  simp only [templateOk, Bool.and_eq_true, decide_eq_true_eq, List.all_eq_true, and_assoc]
  rfl

theorem templateOk_eq_false_iff (a : TemplateArgs) :
    ¬ templateOk a = true ↔ 16 < a.textLength ∨
      (∃ c ∈ a.textBytes.take a.textLength, c.toNat < 0x20 ∨ 0x7E < c.toNat) ∨ 999999 < a.nextSerial := by
  rw [templateOk_iff, not_and_or, not_and_or]
  simp only [not_forall, not_and_or, not_le, exists_prop]

theorem changes_templateStored (s : State) (rt : ReplyTo) (l : TmplNo) (a : TemplateArgs) :
    Changes [.templates, .feed, .outbound] s ((s.modTemplate l (·.written a)).replyPlain rt .ok) :=
  changes_of_closed fun _ hc h => closed_replyPlain hc (by decide) (hc.templates (by decide) _ _ _ h)

/-- Settles O21: each write stores what its body gives, and the answers that follow it change other parts. -/
theorem ladderStagedAndTemplateWriteEffect : Obligations.LadderStagedAndTemplateWriteEffect := by
  refine ⟨fun f g code s he hb hn => ?ladder, fun f d order o rungs tm stride t1 t0 s he hb ho htm hn => ?staged,
    fun f l a s hp hn => ?template⟩
  case ladder =>
    exact ⟨_, exec_speedLadderWrite_of_handlesAsNew (parseLadder_eq_some he hb) hn, State.code_setCode_self s g code,
      fun h hne => State.code_setCode_of_ne s code hne, rfl, rfl, rfl, changes_ladderWritten s _ g code⟩
  case staged =>
    refine ⟨_, exec_stagedAssignmentWrite_of_handlesAsNew (parseStaged_eq_some he hb ho htm) hn, ?_, fun e hne => ?_,
      ?_, ?_, changes_stagedWrite _ _ s⟩
    · simp [State.stagedWrite]
    · simp [State.stagedWrite, State.drive_modDrive, hne.symm]
    · exact replied_replyPlain_of_feed (State.modDrive_feed ..)
    · exact State.replyPlain_outbound (s.modDrive d _) _ _
  case template =>
    refine ⟨_, exec_templateWrite_of_handlesAsNew hp hn, fun hok => ?taken, fun hbad => ?refused⟩
    case taken =>
      refine ⟨(s.modTemplate l (·.written a)).replyPlain (tableReply f 4) .ok, if_pos ((templateOk_iff a).mpr hok), ?_,
        fun k hk => ?_, replied_replyPlain_of_feed (State.modTemplate_feed ..), State.replyPlain_outbound (s.modTemplate l _) _ _,
        changes_templateStored s _ l a⟩
      · simp [Template.written]
      · simp [State.template_modTemplate, hk.symm]
    case refused =>
      rw [State.templateWrite, if_neg ((templateOk_eq_false_iff a).mpr hbad)]
      exact repliedOnly_replyPlain ..

end Sys2Proof.Machine
end

section
/-! The frame checker (R184): its seven checks on the bytes as delivered (O6), and the commands that encoded frames give
back (O7). -/

namespace Sys2Proof

open Sys2Proof.Machine

/-! ### Fields of several bytes -/

theorem enc16w_be16 (a b : Byte) : enc16w (be16 a b) = [a, b] := by
  simp only [enc16w, be16, List.cons.injEq, and_true]
  constructor <;> ext i hi <;> grind

theorem enc32w_be32 (a b c d : Byte) : enc32w (be32 a b c d) = [a, b, c, d] := by
  simp only [enc32w, be32, List.cons.injEq, and_true]
  refine ⟨?_, ?_, ?_, ?_⟩ <;> ext i hi <;> grind

theorem be16_bytes (w : Word16) : be16 (w.extractLsb' 8 8) (w.extractLsb' 0 8) = w := by
  ext i hi
  simp only [be16]
  grind

theorem be32_bytes (w : Word32) :
    be32 (w.extractLsb' 24 8) (w.extractLsb' 16 8) (w.extractLsb' 8 8) (w.extractLsb' 0 8) = w := by
  ext i hi
  simp only [be32]
  grind

/-- Four bytes are the encoding of the word that they spell, and of no other. -/
theorem enc32w_eq_iff (a b c d : Byte) (w : Word32) : [a, b, c, d] = enc32w w ↔ be32 a b c d = w := by
  refine ⟨fun h => ?_, fun h => h ▸ (enc32w_be32 a b c d).symm⟩
  simp only [enc32w, List.cons.injEq, and_true] at h
  obtain ⟨rfl, rfl, rfl, rfl⟩ := h
  exact be32_bytes w

theorem be32_eq_zero_iff (a b c d : Byte) : be32 a b c d = 0 ↔ [a, b, c, d] = [0, 0, 0, 0] :=
  (enc32w_eq_iff a b c d 0).symm

theorem be32_toNat_eq_iff (a b c d : Byte) {n : Nat} (hn : n < 2 ^ 32) :
    (be32 a b c d).toNat = n ↔ [a, b, c, d] = enc32 n := by
  rw [enc32, enc32w_eq_iff]
  constructor
  · intro h
    exact BitVec.eq_of_toNat_eq (by rw [h, BitVec.toNat_ofNat, Nat.mod_eq_of_lt hn])
  · intro h
    rw [h, BitVec.toNat_ofNat, Nat.mod_eq_of_lt hn]

theorem be16_eq_zero_iff (a b : Byte) : be16 a b = 0 ↔ 256 * a.toNat + b.toNat = 0 := by
  rw [← be16_toNat, ← BitVec.toNat_inj]
  rfl

/-! ### The checks on a header -/

theorem InFrame.resend_iff {h : InFrame} (hf : h.flags.toNat ≤ 1) : h.resend = true ↔ h.flags.toNat = 1 := by
  rw [InFrame.resend, BitVec.getLsbD, Nat.testBit_zero, decide_eq_true_eq]
  omega

/-- Check 4 fails (R184). -/
def InFrame.badKind (h : InFrame) : Prop := h.kind.toNat < 1 ∨ 5 < h.kind.toNat

/-- Check 5 fails (R184). -/
def InFrame.badFlags (h : InFrame) : Prop :=
  1 < h.flags.toNat ∨ (h.flags.toNat = 1 ∧ h.kind.toNat ≠ 4 ∧ h.kind.toNat ≠ 5)

/-- Check 6 fails (R184): a header field holds no value of the frame's kind. -/
def InFrame.badField (h : InFrame) : Prop :=
  h.kind.toNat = 1 ∧ (3 < h.slot.toNat ∨ h.count.toNat < 1 ∨ 4 < h.count.toNat ∨ h.rep ≠ 0) ∨
    h.kind.toNat = 2 ∧ (3 < h.slot.toNat ∨ h.count.toNat ≠ 1 ∨ 4095 < h.rep.toNat) ∨
    h.kind.toNat = 3 ∧ (7 < h.slot.toNat ∨ h.count.toNat ≠ 0 ∨ h.rep ≠ 0) ∨
    h.kind.toNat = 4 ∧ (h.rep ≠ 0 ∨ h.offset ≠ 0) ∨
    h.kind.toNat = 5 ∧ (h.slot.toNat ≠ 0 ∨ h.rep ≠ 0 ∨ h.offset ≠ 0)

/-- Check 7 fails (R184). -/
def InFrame.badBody (h : InFrame) : Prop :=
  (h.kind.toNat = 1 ∨ h.kind.toNat = 2) ∧ h.body.length ≠ 2048 * h.count.toNat ∨
    h.kind.toNat = 3 ∧ (h.body.length < 1 ∨ 8236 < h.body.length)

theorem InFrame.kindOk_iff (h : InFrame) : h.kindOk = true ↔ ¬ h.badKind ∧ ¬ h.badFlags := by
  unfold InFrame.badKind InFrame.badFlags
  by_cases hf : h.flags.toNat ≤ 1
  · simp only [InFrame.kindOk, Bool.and_eq_true, Bool.or_eq_true, decide_eq_true_eq, Bool.not_eq_true', ← Bool.not_eq_true,
      InFrame.resend_iff hf]
    omega
  · simp only [InFrame.kindOk, Bool.and_eq_true, decide_eq_true_eq]
    omega

theorem InFrame.fieldsOk_iff {h : InFrame} (hk : ¬ h.badKind) : h.fieldsOk = true ↔ ¬ h.badField := by
  have hcount (n : Nat) (hn : n < 256) : h.count = BitVec.ofNat 8 n ↔ h.count.toNat = n := by
    rw [← BitVec.toNat_inj, BitVec.toNat_ofNat, Nat.mod_eq_of_lt hn]
  have hslot : h.slot = 0 ↔ h.slot.toNat = 0 := by rw [← BitVec.toNat_inj]; rfl
  have h0 := hcount 0 (by omega)
  have h1 := hcount 1 (by omega)
  obtain ⟨hlow, hhigh⟩ := not_or.mp hk
  unfold InFrame.fieldsOk InFrame.badField
  generalize hkind : h.kind.toNat = k at *
  interval_cases k <;>
    simp only [Bool.and_eq_true, decide_eq_true_eq, Config.maxRepeat, hslot] <;> grind

theorem InFrame.bodyOk_iff {h : InFrame} (hf : ¬ h.badField) : h.bodyOk = true ↔ ¬ h.badBody := by
  have hc (hk : h.kind.toNat = 2) : h.count.toNat = 1 := by
    unfold InFrame.badField at hf
    tauto
  have hsector : Config.sectorBytes = 2048 := rfl
  have hmax : Config.maxArtworkBody = 8236 := rfl
  unfold InFrame.bodyOk InFrame.badBody
  split
  · next hk =>
    rw [decide_eq_true_iff, hsector]
    omega
  · next hk =>
    rw [decide_eq_true_iff, hsector, hc hk]
    omega
  · next hk =>
    rw [artworkBodyOk, Bool.and_eq_true, decide_eq_true_iff, decide_eq_true_iff, hmax]
    omega
  · next h1 h2 h3 =>
    have h1 : h.kind.toNat ≠ 1 := h1
    have h2 : h.kind.toNat ≠ 2 := h2
    have h3 : h.kind.toNat ≠ 3 := h3
    simp [h1, h2, h3]

/-! ### The bytes of a frame -/

theorem readHeader_eq : ∀ {b : List Byte}, 16 ≤ b.length →
    readHeader b = some {
      kind := b[0]?.getD 0, flags := b[1]?.getD 0, tag := be16 (b[2]?.getD 0) (b[3]?.getD 0),
      length := be32 (b[4]?.getD 0) (b[5]?.getD 0) (b[6]?.getD 0) (b[7]?.getD 0),
      slot := b[8]?.getD 0, count := b[9]?.getD 0, rep := be16 (b[10]?.getD 0) (b[11]?.getD 0),
      offset := be32 (b[12]?.getD 0) (b[13]?.getD 0) (b[14]?.getD 0) (b[15]?.getD 0), body := b.drop 16 }
  | _ :: _ :: _ :: _ :: _ :: _ :: _ :: _ :: _ :: _ :: _ :: _ :: _ :: _ :: _ :: _ :: _, _ => rfl

/-- The four bytes from position `i`. -/
theorem take_four_drop {b : List Byte} (i : Nat) (h : i + 4 ≤ b.length) :
    (b.drop i).take 4 = [b[i]?.getD 0, b[i + 1]?.getD 0, b[i + 2]?.getD 0, b[i + 3]?.getD 0] := by
  apply List.ext_getElem?
  intro k
  rcases k with _ | _ | _ | _ | k <;> grind

theorem readTrailer_eq_some_iff {b : List Byte} (h : 4 ≤ b.length) (w : Word32) :
    readTrailer b = some w ↔ b.drop (b.length - 4) = enc32w w := by
  have hfour := take_four_drop (b := b) (b.length - 4) (by omega)
  rw [List.take_of_length_le (by rw [List.length_drop]; omega)] at hfour
  rw [readTrailer, hfour, enc32w_eq_iff]
  exact Option.some_inj

/-! ### A frame that passes is handed to the command it stands for -/

theorem tableFrame_eq_exec (number : Byte) (f : TableFrame) (s : State) :
    tableFrame number f s = exec (tableInstr number f) s := by
  unfold tableInstr
  split
  case h_5 => rfl
  all_goals next h => simp only [tableFrame, h]; rfl

theorem commandFrame_eq_exec (number : Byte) (f : CmdFrame) (s : State) :
    commandFrame number f s = exec (commandInstr number f) s := by
  unfold commandInstr
  split
  case h_27 => rfl
  all_goals next h => simp only [commandFrame, h]; rfl

theorem handFrame_eq_exec (h : InFrame) (s : State) : handFrame h s = exec h.instr s := by
  unfold InFrame.instr
  split
  case h_4 hk => simp only [handFrame, hk, tableFrame_eq_exec]
  case h_5 h1 h2 h3 h4 => simp only [handFrame, commandFrame_eq_exec]
  all_goals next h => simp only [handFrame, h]; rfl

theorem InFrame.check_of_ok {h : InFrame} {n : Nat} (hl : h.length.toNat = n) (hk : ¬ h.badKind) (hf : ¬ h.badFlags)
    (hd : ¬ h.badField) (hb : ¬ h.badBody) : h.check n = .pass h.instr :=
  if_pos ⟨hl, h.kindOk_iff.mpr ⟨hk, hf⟩, (InFrame.fieldsOk_iff hk).mpr hd, (InFrame.bodyOk_iff hd).mpr hb⟩

theorem InFrame.check_of_bad {h : InFrame} {n : Nat}
    (hbad : h.length.toNat ≠ n ∨ h.badKind ∨ h.badFlags ∨ h.badField ∨ h.badBody) :
    h.check n = .discard .format := by
  refine if_neg fun ⟨hl, hkind, hfields, hbody⟩ => ?_
  obtain ⟨hk, hf⟩ := h.kindOk_iff.mp hkind
  have hd := (InFrame.fieldsOk_iff hk).mp hfields
  have hb := (InFrame.bodyOk_iff hd).mp hbody
  tauto

theorem InFrame.check_eq_pass {h : InFrame} {n : Nat} {c : Instr} (hc : h.check n = .pass c) : c = h.instr := by
  unfold InFrame.check at hc
  split at hc
  · exact (FrameCheck.pass.inj hc).symm
  · cases hc

/-- A frame passes as the command that its header stands for. -/
theorem checkFrame_eq_pass {b : List Byte} {c : Instr} (hc : checkFrame b = .pass c) :
    ∃ h, readHeader (b.take (b.length - 4)) = some h ∧ c = h.instr := by
  unfold checkFrame at hc
  split at hc
  · cases hc
  · split at hc
    · cases hc
    · split at hc
      · next h hh => exact ⟨h, hh, InFrame.check_eq_pass hc⟩
      · cases hc

theorem exec_inbound_of_discard {b : List Byte} {cause : DiscardCause} (hb : checkFrame b = .discard cause) (s : State) :
    exec (.inboundFrameDiscard b) s = .next (s.discard cause) := by
  show execInboundFrameDiscard b s = _
  simp only [execInboundFrameDiscard, hb]

theorem exec_inbound_of_pass {b : List Byte} {c : Instr} (hb : checkFrame b = .pass c) (s : State) :
    exec (.inboundFrameDiscard b) s = exec c s := by
  obtain ⟨h, hh, rfl⟩ := checkFrame_eq_pass hb
  show execInboundFrameDiscard b s = _
  simp only [execInboundFrameDiscard, hb, hh, handFrame_eq_exec]

/-! ### The seven checks -/

/-- The header that the checker reads in a frame of 20 bytes or more. -/
def headerOf (b : List Byte) : InFrame := {
  kind := b[0]?.getD 0, flags := b[1]?.getD 0, tag := be16 (b[2]?.getD 0) (b[3]?.getD 0),
  length := be32 (b[4]?.getD 0) (b[5]?.getD 0) (b[6]?.getD 0) (b[7]?.getD 0),
  slot := b[8]?.getD 0, count := b[9]?.getD 0, rep := be16 (b[10]?.getD 0) (b[11]?.getD 0),
  offset := be32 (b[12]?.getD 0) (b[13]?.getD 0) (b[14]?.getD 0) (b[15]?.getD 0),
  body := (b.take (b.length - 4)).drop 16 }

theorem readHeader_front {b : List Byte} (h : 20 ≤ b.length) :
    readHeader (b.take (b.length - 4)) = some (headerOf b) := by
  rw [readHeader_eq (by rw [List.length_take]; omega), headerOf]
  have hget (i : Nat) (hi : i < 16) : (b.take (b.length - 4))[i]? = b[i]? :=
    List.getElem?_take_of_lt (by omega)
  simp only [hget 0, hget 1, hget 2, hget 3, hget 4, hget 5, hget 6, hget 7, hget 8, hget 9, hget 10, hget 11,
    hget 12, hget 13, hget 14, hget 15, Nat.reduceLT]

theorem checkFrame_of_length {b : List Byte} (h : b.length < 20 ∨ 8256 < b.length) : checkFrame b = .discard .format :=
  if_pos h

theorem checkFrame_eq {b : List Byte} (hlow : 20 ≤ b.length) (hhigh : b.length ≤ 8256) :
    checkFrame b = if b.drop (b.length - 4) = enc32w (crc32 (b.take (b.length - 4))) then (headerOf b).check b.length
      else .discard .badCheck := by
  have hlen : ¬ (b.length < 20 ∨ Config.maxFrame < b.length) := by
    have : Config.maxFrame = 8256 := rfl
    omega
  rw [checkFrame, if_neg hlen, readHeader_front hlow, ite_not]
  simp only [readTrailer_eq_some_iff (by omega : 4 ≤ b.length)]

/-! ### The header's fields as bytes -/

theorem headerOf_length_eq_iff {b : List Byte} (hlow : 20 ≤ b.length) (hhigh : b.length ≤ 8256) :
    (headerOf b).length.toNat = b.length ↔ (b.drop 4).take 4 = enc32 b.length := by
  rw [take_four_drop 4 (by omega)]
  exact be32_toNat_eq_iff _ _ _ _ (by omega)

theorem headerOf_offset_eq_zero_iff {b : List Byte} (hlow : 20 ≤ b.length) :
    (headerOf b).offset = 0 ↔ (b.drop 12).take 4 = [0, 0, 0, 0] := by
  rw [take_four_drop 12 (by omega)]
  exact be32_eq_zero_iff _ _ _ _

theorem headerOf_body_length (b : List Byte) : (headerOf b).body.length = b.length - 20 := by
  simp only [headerOf, List.length_drop, List.length_take]
  omega

theorem headerOf_rep (b : List Byte) :
    (headerOf b).rep.toNat = 256 * (b[10]?.getD 0).toNat + (b[11]?.getD 0).toNat := be16_toNat _ _

/-- Settles O6: each fault of the bytes is a fault of the header that the checker reads. -/
theorem inboundFrameIsDiscardedOrHandedOn : Obligations.InboundFrameIsDiscardedOrHandedOn := by
  refine ⟨fun b => ?_, fun b s => ⟨fun cause hb => ⟨_, exec_inbound_of_discard hb s, discarded_discard _ _⟩,
    fun c hb => exec_inbound_of_pass hb s⟩⟩
  intro byte kind flags slot count rep offset body checked badLength badKind badFlags badField badBody
  refine ⟨checkFrame_of_length, fun hlow hhigh => ?_⟩
  have hcheck := checkFrame_eq hlow hhigh
  have hlength : badLength ↔ (headerOf b).length.toNat ≠ b.length :=
    not_congr (headerOf_length_eq_iff hlow hhigh).symm
  have hrep : (headerOf b).rep = 0 ↔ rep = 0 := be16_eq_zero_iff _ _
  have hoffset := headerOf_offset_eq_zero_iff hlow
  have hkind : badKind ↔ (headerOf b).badKind := Iff.rfl
  have hflags : badFlags ↔ (headerOf b).badFlags := Iff.rfl
  have hfield : badField ↔ (headerOf b).badField := by
    unfold InFrame.badField
    simp only [ne_eq, hrep, hoffset, headerOf_rep]
    exact Iff.rfl
  have hbody : badBody ↔ (headerOf b).badBody := by
    unfold InFrame.badBody
    rw [headerOf_body_length]
    exact Iff.rfl
  have hbad (h : badLength ∨ badKind ∨ badFlags ∨ badField ∨ badBody) (hc : checked) :
      checkFrame b = .discard .format := by
    rw [hcheck, if_pos hc]
    exact InFrame.check_of_bad (by rwa [← hlength, ← hkind, ← hflags, ← hfield, ← hbody])
  refine ⟨fun hc => hcheck.trans (if_neg hc), fun hc => ⟨fun h => hbad (.inl h) hc, fun h => hbad (.inr (.inl h)) hc,
    fun h => hbad (.inr (.inr (.inl h))) hc, fun h => hbad (.inr (.inr (.inr (.inl h)))) hc,
    fun h => hbad (.inr (.inr (.inr (.inr h)))) hc, fun hl hk hf hd hb => ⟨_, (hcheck.trans (if_pos hc)).trans
      (InFrame.check_of_ok (not_not.mp (mt hlength.mpr hl)) (mt hkind.mpr hk) (mt hflags.mpr hf) (mt hfield.mpr hd)
        (mt hbody.mpr hb))⟩⟩⟩

/-! ### Encoded frames -/

/-- The header of an encoded frame. -/
def encodedHeader (kind : Byte) (resend : Bool) (tag : Word16) (slot count : Byte) (rep : Word16) (offset : Word32)
    (body : List Byte) : InFrame := {
  kind := kind, flags := if resend then 1#8 else 0#8, tag := tag, length := BitVec.ofNat 32 (body.length + 20),
  slot := slot, count := count, rep := rep, offset := offset, body := body }

theorem encodedHeader_resend (kind : Byte) (resend : Bool) (tag : Word16) (slot count : Byte) (rep : Word16)
    (offset : Word32) (body : List Byte) :
    (encodedHeader kind resend tag slot count rep offset body).resend = resend := by
  cases resend <;> simp [InFrame.resend, encodedHeader]

/-- An encoded frame has the right CRC, and the header read from it is the one encoded. -/
theorem checkFrame_inboundBytes (kind : Byte) (resend : Bool) (tag : Word16) (slot count : Byte) (rep : Word16)
    (offset : Word32) {body : List Byte} (hbody : body.length ≤ 8236) :
    checkFrame (inboundBytes kind resend tag slot count rep offset body) =
      (encodedHeader kind resend tag slot count rep offset body).check (body.length + 20) := by
  unfold inboundBytes
  extract_lets front
  have hheader : readHeader front = some (encodedHeader kind resend tag slot count rep offset body) := by
    simp only [front, readHeader, enc16w, enc32, enc32w, List.cons_append, List.nil_append, be16_bytes, be32_bytes]
    rfl
  have hfront : front.length = body.length + 16 := by
    simp only [front, enc16w, enc32, enc32w, List.length_append, List.length_cons, List.length_nil]
    omega
  have hfour : (enc32w (crc32 front)).length = 4 := rfl
  have hlen : (front ++ enc32w (crc32 front)).length = body.length + 20 := by
    rw [List.length_append, hfront, hfour]
  have hsub : body.length + 20 - 4 = front.length := by omega
  have htake : (front ++ enc32w (crc32 front)).take (body.length + 20 - 4) = front := by
    rw [hsub, List.take_left]
  have hdrop : (front ++ enc32w (crc32 front)).drop (body.length + 20 - 4) = enc32w (crc32 front) := by
    rw [hsub, List.drop_left]
  rw [checkFrame_eq (by omega) (by omega), hlen, htake, hdrop, if_pos rfl]
  have hread := readHeader_front (b := front ++ enc32w (crc32 front)) (by omega)
  rw [hlen, htake, hheader] at hread
  rw [← Option.some.inj hread]

theorem encodedHeader_length (kind : Byte) (resend : Bool) (tag : Word16) (slot count : Byte) (rep : Word16)
    (offset : Word32) {body : List Byte} (hbody : body.length ≤ 8236) :
    (encodedHeader kind resend tag slot count rep offset body).length.toNat = body.length + 20 :=
  BitVec.toNat_ofNat .. |>.trans (Nat.mod_eq_of_lt (by omega))

theorem length_le_of_bodyFits {body : List Byte} (h : bodyFits body = true) : body.length ≤ 8236 :=
  of_decide_eq_true h

theorem checkFrame_tableBytes (number : Byte) {f : TableFrame} (hf : bodyFits f.body = true) :
    checkFrame (tableBytes number f) = .pass (tableInstr number f) := by
  have hbody := length_le_of_bodyFits hf
  obtain ⟨tag, resend, entry, body⟩ := f
  unfold tableBytes
  have hok (resend : Bool) : (encodedHeader 4#8 resend tag entry number 0 0 body).kindOk = true ∧
      (encodedHeader 4#8 resend tag entry number 0 0 body).fieldsOk = true ∧
      (encodedHeader 4#8 resend tag entry number 0 0 body).bodyOk = true := by
    cases resend <;> exact ⟨rfl, rfl, rfl⟩
  rw [checkFrame_inboundBytes _ _ _ _ _ _ _ hbody, InFrame.check,
    if_pos ⟨encodedHeader_length _ _ _ _ _ _ _ hbody, hok resend⟩]
  show FrameCheck.pass (tableInstr number { tag, resend := InFrame.resend _, entry, body }) = _
  rw [encodedHeader_resend]

theorem checkFrame_commandBytes (number : Byte) {f : CmdFrame} (hf : bodyFits f.body = true) :
    checkFrame (commandBytes number f) = .pass (commandInstr number f) := by
  have hbody := length_le_of_bodyFits hf
  obtain ⟨tag, resend, body⟩ := f
  unfold commandBytes
  have hok (resend : Bool) : (encodedHeader 5#8 resend tag 0 number 0 0 body).kindOk = true ∧
      (encodedHeader 5#8 resend tag 0 number 0 0 body).fieldsOk = true ∧
      (encodedHeader 5#8 resend tag 0 number 0 0 body).bodyOk = true := by
    cases resend <;> exact ⟨rfl, rfl, rfl⟩
  rw [checkFrame_inboundBytes _ _ _ _ _ _ _ hbody, InFrame.check,
    if_pos ⟨encodedHeader_length _ _ _ _ _ _ _ hbody, hok resend⟩]
  show FrameCheck.pass (commandInstr number { tag, resend := InFrame.resend _, body }) = _
  rw [encodedHeader_resend]

/-! ### Frames whose number does not exist -/

theorem tableInstr_of_unknown {number : Byte} (h : numberExists .table number = false) (f : TableFrame) :
    tableInstr number f = .unknown .table number f := by
  unfold tableInstr
  split
  case h_5 => rfl
  all_goals next hn => simp [numberExists, hn] at h

theorem commandInstr_of_unknown {number : Byte} (h : numberExists .command number = false) (f : CmdFrame) :
    commandInstr number f =
      .unknown .command number { tag := f.tag, resend := f.resend, entry := 0, body := f.body } := by
  unfold commandInstr
  split
  case h_27 => rfl
  all_goals next hn => simp [numberExists, hn] at h

/-! ### Data frames -/

theorem ofNat_ofNat_val {n k : Nat} [NeZero n] (hk : n ≤ 2 ^ k) (i : Fin n) :
    Fin.ofNat n (BitVec.ofNat k i.val).toNat = i := by
  apply Fin.ext
  rw [BitVec.toNat_ofNat, Nat.mod_eq_of_lt (by omega)]
  exact Nat.mod_eq_of_lt i.isLt

theorem cutSectors_flatten : ∀ {l : List (List Byte)}, (∀ p ∈ l, p.length = Config.sectorBytes) →
    cutSectors l.length l.flatten = l
  | [], _ => rfl
  | p :: l, h => by
    have hp : p.length = Config.sectorBytes := h p List.mem_cons_self
    rw [List.length_cons, cutSectors, List.flatten_cons, ← hp, List.take_left, List.drop_left,
      cutSectors_flatten fun q hq => h q (List.mem_cons_of_mem p hq)]

theorem checkFrame_sectorBytes (w : WaveNo) (first : Word32) {l : List (List Byte)} (hl : sectorsOk l = true) :
    checkFrame (inboundBytes 1#8 false 0 (BitVec.ofNat 8 w.val) (BitVec.ofNat 8 l.length) 0 first l.flatten) =
      .pass (.sector w first l) := by
  simp only [sectorsOk, Bool.and_eq_true, decide_eq_true_eq, List.all_eq_true] at hl
  obtain ⟨⟨hlow, hhigh⟩, hlen⟩ := hl
  have hflat := Laws.Framed.flatten_length l hlen
  have hsize : Config.sectorBytes = 2048 := rfl
  have hcount : (BitVec.ofNat 8 l.length).toNat = l.length := BitVec.toNat_ofNat .. |>.trans (Nat.mod_eq_of_lt (by omega))
  have hbody : l.flatten.length ≤ 8236 := by rw [hflat, hsize]; omega
  have hslot : (BitVec.ofNat 8 w.val).toNat = w.val := BitVec.toNat_ofNat .. |>.trans (Nat.mod_eq_of_lt (by omega))
  rw [checkFrame_inboundBytes _ _ _ _ _ _ _ hbody,
    InFrame.check_of_ok (encodedHeader_length _ _ _ _ _ _ _ hbody)]
  · show FrameCheck.pass (.sector (Fin.ofNat 4 (BitVec.ofNat 8 w.val).toNat) first
      (cutSectors (BitVec.ofNat 8 l.length).toNat l.flatten)) = _
    rw [ofNat_ofNat_val (by omega), hcount, cutSectors_flatten hlen]
  · simp [InFrame.badKind, encodedHeader]
  · simp [InFrame.badFlags, encodedHeader]
  · simp only [InFrame.badField, encodedHeader, hcount, hslot]
    have hw := w.isLt
    simp only [BitVec.toNat_ofNat, ne_eq, not_true_eq_false, or_false]
    omega
  · simp only [InFrame.badBody, encodedHeader, hcount, hflat, hsize]
    simp

theorem checkFrame_runBytes (w : WaveNo) (first : Word32) {rep : Word16} {payload : List Byte}
    (hr : runOk rep payload = true) :
    checkFrame (inboundBytes 2#8 false 0 (BitVec.ofNat 8 w.val) 1#8 rep first payload) =
      .pass (.run w first rep payload) := by
  simp only [runOk, Bool.and_eq_true, decide_eq_true_eq] at hr
  obtain ⟨hrep, hlen⟩ := hr
  have hsize : Config.sectorBytes = 2048 := rfl
  have hmax : Config.maxRepeat = 4095 := rfl
  have hslot : (BitVec.ofNat 8 w.val).toNat = w.val := BitVec.toNat_ofNat .. |>.trans (Nat.mod_eq_of_lt (by omega))
  have hbody : payload.length ≤ 8236 := by omega
  rw [checkFrame_inboundBytes _ _ _ _ _ _ _ hbody,
    InFrame.check_of_ok (encodedHeader_length _ _ _ _ _ _ _ hbody)]
  · show FrameCheck.pass (.run (Fin.ofNat 4 (BitVec.ofNat 8 w.val).toNat) first rep payload) = _
    rw [ofNat_ofNat_val (by omega)]
  · simp [InFrame.badKind, encodedHeader]
  · simp [InFrame.badFlags, encodedHeader]
  · have hw := w.isLt
    simp only [InFrame.badField, encodedHeader, hslot, BitVec.toNat_ofNat]
    omega
  · simp only [InFrame.badBody, encodedHeader, hlen, hsize]
    simp

theorem checkFrame_artworkBytes (a : ArtNo) (offset : Word32) {data : List Byte} (hd : artworkBodyOk data = true) :
    checkFrame (inboundBytes 3#8 false 0 (BitVec.ofNat 8 a.val) 0 0 offset data) =
      .pass (.artworkFrame a offset data) := by
  simp only [artworkBodyOk, Bool.and_eq_true, decide_eq_true_eq] at hd
  obtain ⟨hlow, hhigh⟩ := hd
  have hmax : Config.maxArtworkBody = 8236 := rfl
  have hslot : (BitVec.ofNat 8 a.val).toNat = a.val := BitVec.toNat_ofNat .. |>.trans (Nat.mod_eq_of_lt (by omega))
  have hbody : data.length ≤ 8236 := by omega
  rw [checkFrame_inboundBytes _ _ _ _ _ _ _ hbody,
    InFrame.check_of_ok (encodedHeader_length _ _ _ _ _ _ _ hbody)]
  · show FrameCheck.pass (.artworkFrame (Fin.ofNat 8 (BitVec.ofNat 8 a.val).toNat) offset data) = _
    rw [ofNat_ofNat_val (by omega)]
  · simp [InFrame.badKind, encodedHeader]
  · simp [InFrame.badFlags, encodedHeader]
  · have ha := a.isLt
    simp [InFrame.badField, encodedHeader, hslot]
    omega
  · simp only [InFrame.badBody, encodedHeader, BitVec.toNat_ofNat]
    omega

/-- Settles O7. -/
theorem checkedFrameIsTheEncodedCommand : Obligations.CheckedFrameIsTheEncodedCommand := by
  intro c b hwf hb
  cases c with
  | sector w first l => cases hb; exact checkFrame_sectorBytes w first hwf
  | run w first rep payload => cases hb; exact checkFrame_runBytes w first hwf
  | artworkFrame a offset data => cases hb; exact checkFrame_artworkBytes a offset hwf
  | unknown kind number f =>
    cases kind with
    | table =>
      obtain ⟨hn, hf⟩ := Bool.and_eq_true_iff.mp hwf
      cases hb
      rw [checkFrame_tableBytes _ hf, tableInstr_of_unknown (Bool.not_eq_true' _ ▸ hn)]
    | command =>
      obtain ⟨hne, hf⟩ := Bool.and_eq_true_iff.mp hwf
      obtain ⟨hn, he⟩ := Bool.and_eq_true_iff.mp hne
      obtain ⟨tag, resend, entry, body⟩ := f
      obtain rfl : entry = 0 := of_decide_eq_true he
      cases hb
      rw [checkFrame_commandBytes number (f := { tag, resend, body }) hf,
        commandInstr_of_unknown (Bool.not_eq_true' _ ▸ hn)]
  | speedLadderWrite f | stationMapWrite f | stagedAssignmentWrite f | templateWrite f =>
    cases hb
    exact checkFrame_tableBytes _ hwf
  | imageDefine f | imageRelease f | waveOpen f | waveAbort f | applyNow f | applyAtLoad f | orderDefine f
  | orderHold f | orderResume f | orderQuantity f | orderCancel f | feedEnable f | transportStart f | park f
  | resume f | discRemove f | spindleRefill f | binEmptied f | portCheck f | portReset f | printerReset f
  | artworkBegin f | eventEnable f | query f | storeSettings f | abortAll f =>
    cases hb
    exact checkFrame_commandBytes _ hwf
  | _ => cases hb

end Sys2Proof
end

section
/-! Transport commands (R156 to R159): Feed Enable, Transport Start, Park and Resume (O32), with the footprints of the
basic updates. -/

namespace Sys2Proof.Machine

/-! ### What a basic update changes -/

theorem changes_modTransport (s : State) (f : Transport → Transport) : Changes [.transport] s (s.modTransport f) :=
  changes_of_closed fun _ hc h => hc.transport (List.mem_singleton_self _) _ _ (.inl trivial) h

theorem changes_modPrinter (s : State) (f : Printer → Printer) : Changes [.printer] s (s.modPrinter f) :=
  changes_of_closed fun _ hc h => hc.printer (List.mem_singleton_self _) _ _ h

theorem changes_modSettings (s : State) (f : Settings → Settings) : Changes [.settings] s (s.modSettings f) :=
  changes_of_closed fun _ hc h => hc.settings (List.mem_singleton_self _) _ _ h

theorem changes_modStation (s : State) (i : StationNo) (f : Station → Station) : Changes [.stations] s (s.modStation i f) :=
  changes_of_closed fun _ hc h => hc.stations (List.mem_singleton_self _) _ _ _ h

theorem changes_modDrive (s : State) (d : Drive) (f : DriveSlot → DriveSlot) : Changes [.drives] s (s.modDrive d f) :=
  changes_of_closed fun _ hc h => hc.drives (List.mem_singleton_self _) _ _ _ (.inl trivial) h

theorem changes_modOrder (s : State) (o : OrderNo) (f : Order → Order) : Changes [.orders] s (s.modOrder o f) :=
  changes_of_closed fun _ hc h => hc.orders (List.mem_singleton_self _) _ _ _ h

theorem changes_modRecord (s : State) (n : RecNo) (f : DiscRecord → DiscRecord) : Changes [.records] s (s.modRecord n f) :=
  changes_of_closed fun _ hc h => hc.records (List.mem_singleton_self _) _ _ _ h

theorem changes_modWave (s : State) (w : WaveNo) (f : Wave → Wave) : Changes [.waves] s (s.modWave w f) :=
  changes_of_closed fun _ hc h => hc.waves (List.mem_singleton_self _) _ _ _ (.inl trivial) h

theorem changes_modAcc (s : State) (w : WaveNo) (f : Accumulator → Accumulator) : Changes [.accs] s (s.modAcc w f) :=
  changes_of_closed fun _ hc h => hc.accs (List.mem_singleton_self _) _ _ _ h

theorem changes_modImage (s : State) (i : SlotNo) (f : ImageSlot → ImageSlot) : Changes [.images] s (s.modImage i f) :=
  changes_of_closed fun _ hc h => hc.images (List.mem_singleton_self _) _ _ _ h

theorem changes_modTemplate (s : State) (l : TmplNo) (f : Template → Template) :
    Changes [.templates] s (s.modTemplate l f) :=
  changes_of_closed fun _ hc h => hc.templates (List.mem_singleton_self _) _ _ _ h

theorem changes_setQueue (s : State) (q : List Entry) : Changes [.queue] s (s.setQueue q) :=
  changes_of_closed fun _ hc h => hc.queue (List.mem_singleton_self _) _ _ h

/-- A command that changes one more part after its REPLY. -/
theorem changes_after_reply {s t : State} {rt : ReplyTo} {st : Status} {p : Part}
    (h : Changes [p] (s.replyPlain rt st) t) : Changes [p, .feed, .outbound] s t :=
  ((changes_replyPlain s rt st).mono (List.subset_cons_self _ _)).trans (h.mono (by simp))

/-! ### Feed Enable (R159) -/

/-- Feed Enable before the load decision: the flag, or its held copy in HELD, takes the setting. -/
def State.feedSet (s : State) (rt : ReplyTo) (on : Bool) : State :=
  (s.replyPlain rt .ok).modTransport fun x =>
    if s.transport.mode = .held then { x with heldCopy := on } else { x with autoFeed := on }

theorem State.feedEnable_eq (rt : ReplyTo) (v : Fin 2) (s : State) :
    State.feedEnable rt v s = if s.transport.mode ≠ .held ∧ v = 1 then (s.feedSet rt (decide (v = 1))).loadDecision.arbiter
      else s.feedSet rt (decide (v = 1)) := by
  by_cases hm : s.transport.mode = .held
  · simp [State.feedEnable, State.feedSet, hm]
  · by_cases hv : v = 1 <;> simp [State.feedEnable, State.feedSet, hm, hv]

theorem exec_feedEnable_of_handlesAsNew {f : CmdFrame} {v : Fin 2} {s : State} (hp : parseName 2 f.body = some v)
    (hn : s.handlesAsNew f.tag f.resend) : exec (.feedEnable f) s = .next (State.feedEnable (cmdReply f 12) v s) :=
  congrArg _ (State.answer_of_handlesAsNew _ hp hn)

/-! ### Transport Start, Park and Resume (R156 to R158) -/

/-- A command without arguments that FP hands on. -/
theorem parseNone_nil {f : CmdFrame} (h : f.body = []) : parseNone f.body = some () := by rw [h]; rfl

theorem exec_transportStart_of_handlesAsNew {f : CmdFrame} {s : State} (hb : f.body = [])
    (hn : s.handlesAsNew f.tag f.resend) :
    exec (.transportStart f) s = .next (State.transportStart (cmdReply f 13) () s) :=
  congrArg _ (State.answer_of_handlesAsNew _ (parseNone_nil hb) hn)

theorem exec_park_of_handlesAsNew {f : CmdFrame} {s : State} (hb : f.body = [])
    (hn : s.handlesAsNew f.tag f.resend) : exec (.park f) s = .next (State.park (cmdReply f 14) () s) :=
  congrArg _ (State.answer_of_handlesAsNew _ (parseNone_nil hb) hn)

theorem exec_resume_of_handlesAsNew {f : CmdFrame} {s : State} (hb : f.body = [])
    (hn : s.handlesAsNew f.tag f.resend) : exec (.resume f) s = .next (State.resume (cmdReply f 15) () s) :=
  congrArg _ (State.answer_of_handlesAsNew _ (parseNone_nil hb) hn)

theorem State.mapValid_eq_false_iff (s : State) : s.mapValid = false ↔ ∃ i, (s.station i).kind ≠ kindOfStation i := by
  simp [State.mapValid, allStations]

theorem State.currentEntry_eq_none_iff (s : State) : s.currentEntry = none ↔ ∀ e ∈ s.queue, e.current = false := by
  simp [State.currentEntry]

theorem State.transportStart_eq (rt : ReplyTo) (s : State) :
    State.transportStart rt () s =
      if s.transport.mode ≠ .parked ∨ ∃ i, (s.station i).kind ≠ kindOfStation i then s.replyPlain rt .state
      else if s.transport.phase ≠ .idle then s.replyPlain rt .busy else (s.replyPlain rt .ok).askHome := by
  simp only [← State.mapValid_eq_false_iff, State.transportStart, State.startCheck]
  by_cases hm : s.transport.mode = .parked <;> by_cases hv : s.mapValid = false <;>
    by_cases hp : s.transport.phase = .idle <;> simp [hm, hv, hp]

theorem State.park_eq (rt : ReplyTo) (s : State) :
    State.park rt () s =
      if s.transport.mode ≠ .running then s.replyPlain rt .state
      else if s.transport.phase = .idle ∧ ∀ e ∈ s.queue, e.current = false then
        (s.replyPlain rt .ok).modTransport fun x => { x with mode := .parked, parkWaiting := false }
      else (s.replyPlain rt .ok).modTransport fun x => { x with parkWaiting := true } := by
  simp only [← State.currentEntry_eq_none_iff, State.park, ne_eq, ite_not]

/-- The transport record once a HOME is asked for (R148): it is sent unless an operation is outstanding. -/
theorem State.askHome_transport (s : State) :
    s.askHome.transport = if s.transport.outstanding = none then
      { s.transport with
        phase := .homing
        outstanding := some { op := .home, number := s.transport.nextNumber, abandoned := false }
        nextNumber := s.transport.nextNumber + 1 }
      else { s.transport with phase := .homing } := by
  by_cases h : s.transport.outstanding = none <;> simp [State.askHome, State.sendArm, h]

/-- A HOME that a command asks for: one REPLY, and the arm in HOMING. -/
theorem State.homingTaken (s : State) (rt : ReplyTo) :
    Replied rt.tag .ok s (s.replyPlain rt .ok).askHome ∧
      (s.replyPlain rt .ok).askHome.outbound = s.outbound ++ [rt.frame .ok] ∧
      Changes [.transport, .feed, .outbound] s (s.replyPlain rt .ok).askHome := by
  have hkept := changes_askHome (s.replyPlain rt .ok)
  exact ⟨hkept .feed (by simp), hkept .outbound (by simp), changes_after_reply hkept⟩

/-- Settles O32: each command is a REPLY and one update of the transport record. -/
theorem transportCommandsEffect : Obligations.TransportCommandsEffect := by
  refine ⟨fun f v s hp hn => ?feed, fun f s hb hn => ⟨?start, ?park, ?resume⟩⟩
  case feed =>
    refine ⟨s.feedSet (cmdReply f 12) (decide (v = 1)), ?_, rfl, replied_replyPlain s (cmdReply f 12) .ok,
      State.replyPlain_outbound s _ _, changes_after_reply (changes_modTransport _ _)⟩
    rw [exec_feedEnable_of_handlesAsNew hp hn, State.feedEnable_eq]
  case start =>
    refine ⟨_, exec_transportStart_of_handlesAsNew hb hn, ?_⟩
    rw [State.transportStart_eq]
    split
    · exact repliedOnly_replyPlain s _ _
    · split
      · exact repliedOnly_replyPlain s _ _
      · exact ⟨State.askHome_transport _, s.homingTaken _⟩
  case park =>
    refine ⟨_, exec_park_of_handlesAsNew hb hn, ?_⟩
    rw [State.park_eq]
    split_ifs
    · exact repliedOnly_replyPlain s _ _
    all_goals exact ⟨rfl, replied_replyPlain s (cmdReply f 14) .ok, State.replyPlain_outbound s _ _,
        changes_after_reply (changes_modTransport _ _)⟩
  case resume =>
    refine ⟨_, exec_resume_of_handlesAsNew hb hn, ?_⟩
    rw [State.resume]
    split
    · exact repliedOnly_replyPlain s _ _
    · split
      · exact repliedOnly_replyPlain s _ _
      · exact ⟨State.askHome_transport _, s.homingTaken _⟩

end Sys2Proof.Machine
end

section
/-! The stations of the map: Spindle Refill, Bin Emptied and stranded LOADs (R141, R142; O31), and the station map write
(R140; O30). -/

namespace Sys2Proof.Machine

/-! ### The queue after LOADs have been retired -/

theorem State.printerTray_queue (s : State) : s.printerTray.queue = s.queue := changes_printerTray s .queue (by simp)

theorem State.returnSetAside_queue (s : State) (n : Option RecNo) : (s.returnSetAside n).queue = s.queue :=
  changes_returnSetAside s n .queue (by simp)

theorem State.retire_queue (s : State) (e : Entry) : (s.retire e).queue = s.queue.erase e := by
  rw [State.retire, State.printerTray_queue]
  split <;> exact State.returnSetAside_queue _ _

theorem State.retireLoad_queue (s : State) (e : Entry) : (s.retireLoad e).queue = s.queue.erase e := by
  rw [State.retireLoad, changes_loadRetired _ _ .queue (by simp), changes_unreserve _ _ .queue (by simp),
    State.retire_queue]

/-- Entries that `p` holds of leave a queue one by one. -/
def eraseEach (p : Entry → Bool) (l q : List Entry) : List Entry := l.foldl (fun q e => if p e then q.erase e else q) q

theorem eraseEach_cons_of_not {p : Entry → Bool} {a : Entry} (ha : p a = false) (l q : List Entry) :
    eraseEach p l (a :: q) = a :: eraseEach p l q := by
  induction l generalizing q with
  | nil => rfl
  | cons e l ih =>
    by_cases he : p e = true
    · have hne : a ≠ e := fun h => by rw [h, he] at ha; cases ha
      have herase : (a :: q).erase e = a :: q.erase e := List.erase_cons_tail (by simpa using hne)
      simpa [eraseEach, he, herase] using ih (q.erase e)
    · simpa [eraseEach, he] using ih q

theorem eraseEach_self (p : Entry → Bool) (q : List Entry) : eraseEach p q q = q.filter (fun e => !p e) := by
  induction q with
  | nil => rfl
  | cons a q ih =>
    by_cases ha : p a = true
    · simpa [eraseEach, ha] using ih
    · simp only [Bool.not_eq_true] at ha
      rw [List.filter_cons_of_pos (by simp [ha]), ← ih, ← eraseEach_cons_of_not ha]
      simp [eraseEach, ha]

theorem State.foldl_retireLoad_queue (p : Entry → Bool) (l : List Entry) (s : State) :
    (l.foldl (fun t e => if p e then t.retireLoad e else t) s).queue = eraseEach p l s.queue := by
  induction l generalizing s with
  | nil => rfl
  | cons e l ih =>
    rw [List.foldl_cons, ih, eraseEach, eraseEach, List.foldl_cons]
    split
    · rw [State.retireLoad_queue]
    · rfl

/-- R141 takes exactly the stranded LOADs out of the queue. -/
theorem State.retireStranded_queue (s : State) (lost : Nat → Bool) :
    (s.retireStranded lost).queue = s.queue.filter (fun e => !e.stranded lost) :=
  (State.foldl_retireLoad_queue _ _ _).trans (eraseEach_self _ _)

theorem Entry.stranded_iff (lost : Nat → Bool) (e : Entry) :
    e.stranded lost = true ↔
      e.kind = .load ∧ e.token = none ∧ e.pickSent = false ∧ ∃ c, e.source = .mediaClass c ∧ lost c = true := by
  unfold Entry.stranded
  split
  · next c hk hs => simp [hk, hs, and_assoc]
  · next hn =>
    simp only [Bool.false_eq_true, false_iff]
    rintro ⟨hk, -, -, c, hs, -⟩
    exact hn c hk hs

/-! ### Classes of the LOADED spindles -/

theorem State.loadedSpindle_isNone (s : State) (c : Nat) :
    (s.loadedSpindle c).isNone = decide (¬ ∃ j : Fin 4, (s.station (spindleStation j)).loaded = true ∧
      (s.station (spindleStation j)).mediaClass = c) := by
  simp only [← State.loadedSpindle_isSome_iff]
  cases s.loadedSpindle c <;> rfl

theorem State.lostTo_iff (s u : State) (c : Nat) :
    s.lostTo u c = true ↔
      (∃ i : Fin 4, (s.station (spindleStation i)).loaded = true ∧ (s.station (spindleStation i)).mediaClass = c) ∧
      ¬ ∃ i : Fin 4, (u.station (spindleStation i)).loaded = true ∧ (u.station (spindleStation i)).mediaClass = c := by
  rw [State.lostTo, Bool.and_eq_true, State.loadedSpindle_isSome_iff, State.loadedSpindle_isNone, decide_eq_true_iff]

/-! ### Spindle Refill and Bin Emptied (R141, R142) -/

/-- A spindle refilled with `n` discs of class `cls`, and the REPLY. -/
def State.refilled (s : State) (rt : ReplyTo) (i : Fin 4) (cls n : Nat) : State :=
  (s.modStation (spindleStation i) (fun x => { x with mediaClass := cls, count := n, loaded := true })).replyPlain rt .ok

theorem State.spindleRefill_eq (rt : ReplyTo) (i : Fin 4) (cls n : Nat) (s : State) :
    State.spindleRefill rt (i, cls, n) s =
      if cls < 1 ∨ 15 < cls ∨ n < 1 ∨ 150 < n then s.replyPlain rt .range
      else ((s.refilled rt i cls n).retireStranded (s.lostTo (s.refilled rt i cls n))).loadDecision.arbiter := by
  simp only [Nat.lt_one_iff]
  rfl

theorem exec_spindleRefill_of_handlesAsNew {f : CmdFrame} {a : Fin 4 × Nat × Nat} {s : State}
    (hp : parseRefill f.body = some a) (hn : s.handlesAsNew f.tag f.resend) :
    exec (.spindleRefill f) s = .next (State.spindleRefill (cmdReply f 17) a s) :=
  congrArg _ (State.answer_of_handlesAsNew _ hp hn)

theorem exec_binEmptied_of_handlesAsNew {f : CmdFrame} {b : Fin 3} {s : State} (hp : parseName 3 f.body = some b)
    (hn : s.handlesAsNew f.tag f.resend) : exec (.binEmptied f) s = .next (State.binEmptied (cmdReply f 18) b s) :=
  congrArg _ (State.answer_of_handlesAsNew _ hp hn)

/-- One station changed and a REPLY sent. -/
theorem State.stationTaken (s : State) (rt : ReplyTo) (st : Status) (i : StationNo) (f : Station → Station) :
    Replied rt.tag st s ((s.modStation i f).replyPlain rt st) ∧
      ((s.modStation i f).replyPlain rt st).outbound = s.outbound ++ [rt.frame st] ∧
      Changes [.stations, .feed, .outbound] s ((s.modStation i f).replyPlain rt st) :=
  ⟨replied_replyPlain_of_feed rfl, State.replyPlain_outbound (s.modStation i f) _ _,
    ((changes_modStation s i f).mono (by simp)).trans ((changes_replyPlain _ _ _).mono (by simp))⟩

/-- Settles O31. -/
theorem refillBinEmptiedAndStranded : Obligations.RefillBinEmptiedAndStranded := by
  refine ⟨⟨fun f i cls n s hp hn => ?refill, fun f b s hp hn => ?emptied⟩, fun s lost => ?stranded,
    fun s u c => State.lostTo_iff s u c⟩
  case refill =>
    refine ⟨_, exec_spindleRefill_of_handlesAsNew hp hn, ?_⟩
    rw [State.spindleRefill_eq]
    split
    · exact repliedOnly_replyPlain s _ _
    · refine ⟨s.refilled (cmdReply f 17) i cls n, rfl, ?_, fun j hj => ?_, s.stationTaken _ _ _ _⟩
      · simp [State.refilled]
      · simp [State.refilled, State.station_modStation_of_ne _ _ _ _ hj.symm]
  case emptied =>
    refine ⟨_, exec_binEmptied_of_handlesAsNew hp hn, fun i => ?_, s.stationTaken _ _ _ _⟩
    by_cases hi : i.val = 21 + b.val
    · have hb : i = binStation b := Fin.ext (by rw [hi]; exact Nat.add_comm _ _)
      rw [if_pos hi, hb]
      simp
    · have hb : i ≠ binStation b := fun h => hi (by rw [h]; exact Nat.add_comm _ _)
      rw [if_neg hi]
      simp [State.station_modStation_of_ne _ _ _ _ (Ne.symm hb)]
  case stranded =>
    refine ⟨?_, fun e => ?_, (changes_retireStranded s lost).mono (by simp)⟩
    · rw [State.retireStranded_queue]
      exact List.filter_sublist
    · rw [State.retireStranded_queue, List.mem_filter, Bool.not_eq_true', ← Bool.not_eq_true, Entry.stranded_iff]

/-! ### The station map write (R140) -/

theorem exec_stationMapWrite_of_handlesAsNew {f : TableFrame} {a : StationNo × StationArgs} {s : State}
    (hp : parseStation f = some a) (hn : s.handlesAsNew f.tag f.resend) :
    exec (.stationMapWrite f) s = .next (State.stationWrite (tableReply f 2) a s) :=
  congrArg _ (State.answer_of_handlesAsNew _ hp hn)

/-- Check 2 of R140. -/
theorem stationOk_iff (i : StationNo) (a : StationArgs) :
    stationOk i a = true ↔ a.kind = kindOfStation i ∧ a.lift.toNat ≤ 4095 ∧ a.rotate.toNat ≤ 4095 ∧
      (kindOfStation i = .spindle → 1 ≤ a.value.toNat ∧ a.value.toNat ≤ 15) ∧
      (kindOfStation i = .bin → 1 ≤ a.value.toNat ∧ a.value.toNat ≤ 150) := by
  have htarget : Config.maxTarget = 4095 := rfl
  have hmax : Config.spindleMax = 150 := rfl
  rw [← htarget, ← hmax, stationOk, Bool.and_eq_true, Bool.and_eq_true, Bool.and_eq_true, decide_eq_true_iff,
    decide_eq_true_iff, decide_eq_true_iff]
  cases kindOfStation i <;> simp [and_assoc]

/-- The entry of a taken write, its written flag and the REPLY. -/
def State.stationStored (s : State) (rt : ReplyTo) (i : StationNo) (a : StationArgs) : State :=
  ((s.modStation i (·.written i a)).modSettings (fun x => { x with
    mapWritten := x.mapWritten.set i.val true i.isLt })).replyPlain rt .ok

theorem State.stationStored_station_self (s : State) (rt : ReplyTo) (i : StationNo) (a : StationArgs) :
    (s.stationStored rt i a).station i = (s.station i).written i a := by
  simp [State.stationStored]

theorem State.stationStored_station_of_ne (s : State) (rt : ReplyTo) {i j : StationNo} (a : StationArgs) (h : j ≠ i) :
    (s.stationStored rt i a).station j = s.station j := by
  simp [State.stationStored, State.station_modStation_of_ne _ _ _ _ h.symm]

theorem changes_stationStored (s : State) (rt : ReplyTo) (i : StationNo) (a : StationArgs) :
    Changes [.stations, .settings, .feed, .outbound] s (s.stationStored rt i a) :=
  (((changes_modStation s i _).mono (by simp)).trans ((changes_modSettings _ _).mono (by simp))).trans
    ((changes_replyPlain _ _ _).mono (by simp))

theorem Station.written_eq (x : Station) (i : StationNo) (a : StationArgs) :
    x.written i a =
      (if kindOfStation i = .spindle then
        { x with kind := a.kind, lift := a.lift.toNat, rotate := a.rotate.toNat, mediaClass := a.value.toNat }
      else if kindOfStation i = .bin then
        { x with kind := a.kind, lift := a.lift.toNat, rotate := a.rotate.toNat, capacity := a.value.toNat,
                 count := min x.count a.value.toNat }
      else { x with kind := a.kind, lift := a.lift.toNat, rotate := a.rotate.toNat }) := by
  cases hk : kindOfStation i <;> simp [Station.written, Station.takes, hk]

/-- What follows a taken write (R140): a full bin is raised, or a changed class strands LOADs. -/
theorem State.stationWrite_eq (rt : ReplyTo) (i : StationNo) (a : StationArgs) (s : State)
    (hm : s.transport.mode ≠ .running) (hok : stationOk i a = true) :
    State.stationWrite rt (i, a) s =
      (if kindOfStation i = .bin ∧
          ((s.stationStored rt i a).station i).count = ((s.stationStored rt i a).station i).capacity then
        (s.stationStored rt i a).raise .binFull (bitMask (i.val - 21)) none
      else if kindOfStation i = .spindle ∧ (s.station i).loaded = true ∧ (s.station i).mediaClass ≠ a.value.toNat then
        ((s.stationStored rt i a).retireStranded (fun c => ((s.stationStored rt i a).loadedSpindle c).isNone)).loadDecision
      else s.stationStored rt i a).arbiter := by
  rw [State.stationWrite, if_neg hm, if_pos hok]
  change (((s.stationStored rt i a).fullAfterWrite i).classChanged _).arbiter = _
  by_cases hb : kindOfStation i = .bin
  · simp only [State.fullAfterWrite, State.raiseBinFull, State.classChanged, hb]
    split_ifs <;> simp_all
  · simp [State.fullAfterWrite, State.classChanged, hb, and_assoc]

/-- Settles O30. -/
theorem stationMapWriteEffect : Obligations.StationMapWriteEffect := by
  intro f i a s hp hn x
  refine ⟨_, exec_stationMapWrite_of_handlesAsNew hp hn, ?_⟩
  split
  · next hm =>
    rw [State.stationWrite, if_pos hm]
    exact repliedOnly_replyPlain s _ _
  · next hm =>
    split
    · next hok =>
      rw [State.stationWrite, if_neg hm, if_neg (mt (stationOk_iff i a).mp hok)]
      exact repliedOnly_replyPlain s _ _
    · next hok =>
      refine ⟨s.stationStored (tableReply f 2) i a, ?_, fun j hj => State.stationStored_station_of_ne s _ a hj, rfl,
        replied_replyPlain_of_feed rfl, State.replyPlain_outbound _ _ _, changes_stationStored s _ i a, ?_⟩
      · rw [State.stationStored_station_self]
        exact Station.written_eq _ i a
      · rw [State.stationWrite_eq _ _ _ _ hm ((stationOk_iff i a).mpr (not_not.mp hok))]
        simp only [State.loadedSpindle_isNone]
        rfl

end Sys2Proof.Machine
end

section
/-! The load decision (R55, R56): its six steps at one drive (O25), what it leaves of the other drives, and the events it
can raise. -/

namespace Sys2Proof.Machine

/-! ### What asking for a request leaves of a drive -/

/-- A drive whose port fields and apply status have been replaced. -/
def DriveSlot.withPort (x : DriveSlot) (o : Option OutstandingRequest) (n : Byte) (w : Option DriveRequest)
    (st : ApplyStatus) : DriveSlot :=
  { x with outstanding := o, nextNumber := n, waiting := w, applyStatus := st }

theorem State.dropWaiting_drive_self (s : State) (d : Drive) :
    ∃ st, (s.dropWaiting d).drive d = { s.drive d with waiting := none, applyStatus := st } := by
  unfold State.dropWaiting
  dsimp only
  split
  · split
    · exact ⟨.speedFailed, by simp [State.endApply]⟩
    · exact ⟨(s.drive d).applyStatus, by simp⟩
  · exact ⟨(s.drive d).applyStatus, by simp⟩

/-- A request asked for replaces nothing but the port fields and the apply status (R46, R75). -/
theorem State.askDrive_drive_self (s : State) (d : Drive) (q : DriveRequest) :
    ∃ o n w st, (s.askDrive d q).drive d = (s.drive d).withPort o n w st := by
  by_cases h : (s.drive d).portFree = true
  · exact ⟨_, _, _, _, s.askDrive_drive_of_free d q h⟩
  · obtain ⟨st, hst⟩ := s.dropWaiting_drive_self d
    refine ⟨(s.drive d).outstanding, (s.drive d).nextNumber, some q, st, ?_⟩
    rw [State.askDrive, if_neg h, State.drive_modDrive_self, hst]
    rfl

/-! ### The steps of the load decision -/

/-- A drive once step 2 of the load decision has taken its pending copy, if it has one (R78). -/
def DriveSlot.pendingTaken (x : DriveSlot) : DriveSlot :=
  match x.pendingCopy with
  | some a => { x.putInForce a with applyStatus := .success }
  | none => x

/-- Step 2 leaves the port's fields. -/
theorem DriveSlot.pendingTaken_port (x : DriveSlot) :
    x.pendingTaken.outstanding = x.outstanding ∧ x.pendingTaken.checkPhase = x.checkPhase ∧
      x.pendingTaken.nextNumber = x.nextNumber := by
  unfold DriveSlot.pendingTaken
  split <;> exact ⟨rfl, rfl, rfl⟩

theorem State.takePending_drive_self (s : State) (d : Drive) : (s.takePending d).drive d = (s.drive d).pendingTaken := by
  unfold State.takePending DriveSlot.pendingTaken
  split <;> simp_all [State.endApply]

theorem State.takePending_drive_of_ne (s : State) {d e : Drive} (h : e ≠ d) : (s.takePending d).drive e = s.drive e := by
  unfold State.takePending
  split
  · rw [State.endApply_drive_of_ne _ _ h, State.drive_modDrive_of_ne _ _ _ _ h.symm]
  · rfl

/-- Taking a pending copy raises at most APPLY-DONE. -/
theorem State.takePending_event_of_ne (s : State) (d : Drive) {k : EventClass} (h : k ≠ .applyDone) :
    (s.takePending d).event k = s.event k := by
  unfold State.takePending
  split
  · exact State.endApply_event_of_ne _ _ _ h
  · rfl

/-- The LOAD entry of drive `d` for order `o` (R56). -/
def State.loadEntry (s : State) (d : Drive) (o : OrderNo) : Entry :=
  Entry.fresh .load (.mediaClass (s.order o).mediaClass) (.station (trayOf d)) none (some d) (some o)

/-- The port side of a drive that starts to load. -/
def State.loadingAsked (s : State) (d : Drive) : State :=
  (s.modDrive d (fun x => { x with state := .loading, phase := .trayOpening, entry := some .load })).askDrive d .trayOpen

section
variable (s : State) (d : Drive) (o : OrderNo)

theorem State.loadingAsked_drive_self : ∃ q n w st, (s.loadingAsked d).drive d =
    { s.drive d with state := .loading, phase := .trayOpening, entry := some .load, outstanding := q, nextNumber := n,
                     waiting := w, applyStatus := st } := by
  obtain ⟨q, n, w, st, h⟩ := State.askDrive_drive_self
    (s.modDrive d (fun x => { x with state := .loading, phase := .trayOpening, entry := some .load })) d .trayOpen
  exact ⟨q, n, w, st, by rw [State.loadingAsked, h, State.drive_modDrive_self]; rfl⟩

theorem State.loadingAsked_drive_of_free (h : (s.drive d).portFree = true) : (s.loadingAsked d).drive d =
    { s.drive d with state := .loading, phase := .trayOpening, entry := some .load,
                     outstanding := some { req := .trayOpen, number := (s.drive d).nextNumber },
                     nextNumber := (s.drive d).nextNumber + 1 } := by
  rw [State.loadingAsked, State.askDrive_drive_of_free _ _ _ (by rw [State.drive_modDrive_self]; exact h),
    State.drive_modDrive_self]
  rfl

theorem State.startLoading_eq :
    s.startLoading d o = (((s.loadingAsked d).enqueue (s.loadEntry d o)).reserve o).raiseDrive d := rfl

theorem State.startLoading_drive (e : Drive) : (s.startLoading d o).drive e = (s.loadingAsked d).drive e := by
  simp [State.startLoading_eq]

theorem State.startLoading_drive_of_ne {e : Drive} (h : e ≠ d) : (s.startLoading d o).drive e = s.drive e := by
  rw [State.startLoading_drive, State.loadingAsked, State.askDrive_drive_of_ne _ _ h,
    State.drive_modDrive_of_ne _ _ _ _ h.symm]

theorem State.enqueue_queue (e : Entry) : (s.enqueue e).queue = s.queue ++ [e] :=
  changes_printerTray _ .queue (by simp)

theorem State.startLoading_queue : (s.startLoading d o).queue = s.queue ++ [s.loadEntry d o] := by
  rw [State.startLoading_eq, changes_raiseDrive _ _ .queue (by simp), changes_reserve _ _ .queue (by simp),
    State.enqueue_queue, State.loadingAsked, changes_askDrive _ _ _ .queue (by simp)]
  rfl

theorem State.startLoading_order (p : OrderNo) :
    (s.startLoading d o).order p =
      if p = o then { s.order o with inProgress := (s.order o).inProgress + 1 } else s.order p := by
  by_cases h : p = o
  · subst h
    simp [State.startLoading_eq, State.reserve, State.loadingAsked]
  · simp [State.startLoading_eq, State.reserve, State.loadingAsked, h, State.order_modOrder_of_ne _ _ _ _ (Ne.symm h)]

theorem State.startLoading_told : ((s.startLoading d o).event .driveState).told d := by
  rw [State.startLoading_eq, State.raiseDrive, State.raise_event]
  exact EventRecord.told_raised_self _ _ _ _

/-- A drive that starts to load raises at most DRIVE-STATE and, for a dropped SPEED, APPLY-DONE. -/
theorem State.startLoading_event_of_ne {k : EventClass} (ha : k ≠ .applyDone) (hd : k ≠ .driveState) :
    (s.startLoading d o).event k = s.event k := by
  rw [State.startLoading_eq, State.raiseDrive, State.raise_event_of_ne _ _ _ hd]
  simp [State.loadingAsked, State.askDrive_event_of_ne _ _ _ ha]

theorem State.loadIfAllowed_drive_of_ne {e : Drive} (h : e ≠ d) : (s.loadIfAllowed d).drive e = s.drive e := by
  unfold State.loadIfAllowed
  split
  · split
    · exact State.startLoading_drive_of_ne s d _ h
    · rfl
  · rfl

theorem State.loadIfAllowed_event_of_ne {k : EventClass} (ha : k ≠ .applyDone) (hd : k ≠ .driveState) :
    (s.loadIfAllowed d).event k = s.event k := by
  unfold State.loadIfAllowed
  split
  · split
    · exact State.startLoading_event_of_ne s d _ ha hd
    · rfl
  · rfl

theorem State.decideDrive_drive_of_ne {e : Drive} (h : e ≠ d) : (s.decideDrive d).drive e = s.drive e := by
  unfold State.decideDrive
  split
  · rw [State.loadIfAllowed_drive_of_ne _ _ h, State.takePending_drive_of_ne _ h]
  · rfl

theorem State.decideDrive_event_of_ne {k : EventClass} (ha : k ≠ .applyDone) (hd : k ≠ .driveState) :
    (s.decideDrive d).event k = s.event k := by
  unfold State.decideDrive
  split
  · rw [State.loadIfAllowed_event_of_ne _ _ ha hd, State.takePending_event_of_ne _ _ ha]
  · rfl

theorem State.loadAsked_iff :
    s.loadAsked d = true ↔ (s.drive d).state = .empty ∧ (s.drive d).checkPhase = .idle ∧ s.transport.autoFeed = true ∧
      (s.drive d).applyStatus ≠ .inProgress := by
  simp [State.loadAsked, and_assoc]

theorem State.loadAllowed_iff :
    s.loadAllowed d o = true ↔ (s.order o).state = .opened ∧
      (s.order o).passed + (s.order o).inProgress < (s.order o).quantity ∧ s.code (s.drive d).rung ≠ 0 ∧
      ∃ i : Fin 4, (s.station (spindleStation i)).loaded = true ∧
        (s.station (spindleStation i)).mediaClass = (s.order o).mediaClass := by
  rw [State.loadAllowed, Bool.and_eq_true, Bool.and_eq_true, Bool.and_eq_true, State.loadedSpindle_isSome_iff,
    decide_eq_true_iff, decide_eq_true_iff, decide_eq_true_iff, Order.remaining, and_assoc, and_assoc]
  have hremaining : 0 < (s.order o).quantity - (s.order o).passed - (s.order o).inProgress ↔
      (s.order o).passed + (s.order o).inProgress < (s.order o).quantity := by omega
  rw [hremaining]

end

/-! ### The load decision as a whole -/

theorem oneDriveAtATime_decideDrive :
    OneDriveAtATime [.drives, .orders, .queue, .printer, .outbound, .events] State.decideDrive where
  drive_of_ne s _ _ h := s.decideDrive_drive_of_ne _ h
  changes := changes_decideDrive

theorem State.loadDecision_event_of_ne (s : State) {k : EventClass} (ha : k ≠ .applyDone) (hd : k ≠ .driveState) :
    s.loadDecision.event k = s.event k :=
  List.foldlRecOn (motive := fun t => t.event k = s.event k) _ State.decideDrive rfl
    (fun t ht d _ => (t.decideDrive_event_of_ne d ha hd).trans ht)

theorem State.decideDrive_of_not_asked {s : State} {d : Drive} (h : ¬ s.loadAsked d = true) : s.decideDrive d = s :=
  if_neg h

/-- The load decision leaves a drive alone that its first step does not pass. -/
theorem State.loadDecision_drive_of_not_asked {s : State} {d : Drive} (h : ¬ s.loadAsked d = true) :
    s.loadDecision.drive d = s.drive d := by
  obtain ⟨t, _, -, hturn, hslot, hkept⟩ :=
    oneDriveAtATime_decideDrive.foldl_turn s (List.nodup_finRange 16) (List.mem_finRange d)
  have hasked : ¬ t.loadAsked d = true := by
    rw [State.loadAsked_iff, hslot, hkept .transport (by simp), ← State.loadAsked_iff]
    exact h
  exact hturn.trans ((congrArg (fun u : State => u.drive d) (State.decideDrive_of_not_asked hasked)).trans hslot)

theorem State.loadDecision_drive_of_not_empty {s : State} {d : Drive} (h : (s.drive d).state ≠ .empty) :
    s.loadDecision.drive d = s.drive d :=
  State.loadDecision_drive_of_not_asked fun ha => h ((s.loadAsked_iff d).mp ha).1

/-- With auto-feed clear the load decision does nothing (R55). -/
theorem State.loadDecision_of_autoFeed_clear {s : State} (h : s.transport.autoFeed = false) : s.loadDecision = s :=
  List.foldlRecOn (motive := fun t => t = s) _ State.decideDrive rfl (fun t ht d _ => by
    rw [ht]
    exact State.decideDrive_of_not_asked (by simp [State.loadAsked, h]))

/-! ### The statement -/

section
variable {s : State} {d : Drive} (h : s.loadAsked d = true)
include h

theorem State.decideDrive_of_asked : s.decideDrive d = (s.takePending d).loadIfAllowed d := if_pos h

/-- A drive that fails at a later step of the decision keeps what step 2 did. -/
theorem State.decideDrive_of_refused
    (hr : ∀ a, (s.drive d).pendingTaken.active = some a → ¬ (s.takePending d).loadAllowed d a.order = true) :
    s.decideDrive d = s.takePending d := by
  rw [State.decideDrive_of_asked h, State.loadIfAllowed]
  split
  · next a ha => exact if_neg (hr a (s.takePending_drive_self d ▸ ha))
  · rfl

theorem State.decideDrive_of_allowed {a : Assignment} (ha : (s.drive d).pendingTaken.active = some a)
    (hp : (s.takePending d).loadAllowed d a.order = true) :
    s.decideDrive d = (s.takePending d).startLoading d a.order := by
  rw [State.decideDrive_of_asked h, State.loadIfAllowed, State.takePending_drive_self, ha]
  exact if_pos hp

end

/-- Steps 3 to 6 of the load decision see the state before step 2, but for the drive's rung. -/
theorem State.loadAllowed_takePending_iff (s : State) (d : Drive) (o : OrderNo) :
    (s.takePending d).loadAllowed d o = true ↔ (s.order o).state = .opened ∧
      (s.order o).passed + (s.order o).inProgress < (s.order o).quantity ∧ s.code (s.drive d).pendingTaken.rung ≠ 0 ∧
      ∃ i : Fin 4, (s.station (spindleStation i)).loaded = true ∧
        (s.station (spindleStation i)).mediaClass = (s.order o).mediaClass := by
  rw [State.loadAllowed_iff, State.takePending_drive_self]
  simp

/-- Settles O25. -/
theorem loadDecisionOfOneDrive : Obligations.LoadDecisionOfOneDrive := by
  refine ⟨fun s d => ?_, fun s => rfl⟩
  intro x t first y passes
  have hfirst : s.loadAsked d = true ↔ first := s.loadAsked_iff d
  have hy : y = x.pendingTaken := by
    simp only [y, DriveSlot.pendingTaken]
    cases x.pendingCopy <;> rfl
  have hpasses (o : OrderNo) : (s.takePending d).loadAllowed d o = true ↔ passes o := by
    rw [State.loadAllowed_takePending_iff]
    simp only [passes, hy]
    exact Iff.rfl
  refine ⟨fun h => State.decideDrive_of_not_asked (mt hfirst.mp h), fun h => ⟨fun e he => s.decideDrive_drive_of_ne d he,
    fun hr => ?refused, fun a ha hp => ?allowed⟩⟩
  case refused =>
    have ht : t = s.takePending d := State.decideDrive_of_refused (hfirst.mpr h) fun a ha => by
      rw [hpasses]
      exact hr a (hy ▸ ha)
    rw [ht, State.takePending_drive_self, hy]
    exact ⟨rfl, (changes_takePending s d).mono (by simp)⟩
  case allowed =>
    have ht : t = (s.takePending d).startLoading d a.order :=
      State.decideDrive_of_allowed (hfirst.mpr h) (hy ▸ ha) ((hpasses a.order).mpr hp)
    have hkept := changes_takePending s d
    obtain ⟨o, n, w, st, hslot⟩ := (s.takePending d).loadingAsked_drive_self d
    rw [s.takePending_drive_self d, ← hy] at hslot
    rw [ht, State.startLoading_drive]
    refine ⟨by rw [hslot], by rw [hslot], by rw [hslot], by rw [hslot]; exact ha, by rw [hslot],
      fun hnone => ?_, ?_, fun p hne => ?_, ?_, (State.startLoading_told _ d a.order).1, ?_⟩
    · obtain ⟨hout, hcheck, hnumber⟩ := x.pendingTaken_port
      obtain ⟨-, hidle, -⟩ := h
      rw [State.loadingAsked_drive_of_free, State.takePending_drive_self, ← hy, hy, hnumber]
      rw [State.takePending_drive_self, DriveSlot.portFree_iff]
      exact ⟨hout.trans hnone, hcheck.trans hidle⟩
    · rw [State.startLoading_order, if_pos rfl]
      simp
    · rw [State.startLoading_order, if_neg hne]
      simp
    · rw [State.startLoading_queue, hkept .queue (by simp)]
      simp [State.loadEntry, Entry.fresh]
    · exact (hkept.mono (by simp)).trans ((changes_startLoading _ d a.order).mono (by simp))

end Sys2Proof.Machine
end

section
/-! The settings memory (R200 to R202): Store Settings, its endings and the settings load (O55). -/

namespace Sys2Proof.Machine

/-! ### The events that retiring LOADs can raise -/

theorem State.loadRetired_event_of_ne (s : State) (d : Option Drive) {k : EventClass} (h : k ≠ .applyDone) :
    (s.loadRetired d).event k = s.event k := by
  unfold State.loadRetired
  split
  · split
    · rw [State.askDrive_event_of_ne _ _ _ h]
      rfl
    · rfl
  · rfl

theorem State.retireLoad_event_of_ne (s : State) (e : Entry) {k : EventClass} (h : k ≠ .applyDone) :
    (s.retireLoad e).event k = s.event k := by
  rw [State.retireLoad, State.loadRetired_event_of_ne _ _ h]
  simp

theorem State.retireStranded_event_of_ne (s : State) (lost : Nat → Bool) {k : EventClass} (h : k ≠ .applyDone) :
    (s.retireStranded lost).event k = s.event k :=
  List.foldlRecOn (motive := fun t => t.event k = s.event k) s.queue
    (fun (t : State) e => if e.stranded lost then t.retireLoad e else t) rfl (fun t ht e _ => by
      split
      · exact (t.retireLoad_event_of_ne e h).trans ht
      · exact ht)

/-! ### Store Settings (R202) -/

theorem exec_storeSettings_of_handlesAsNew {f : CmdFrame} {s : State} (hb : f.body = [])
    (hn : s.handlesAsNew f.tag f.resend) :
    exec (.storeSettings f) s = .next (State.storeSettings (cmdReply f 25) () s) :=
  congrArg _ (State.answer_of_handlesAsNew _ (parseNone_nil hb) hn)

/-- The copy holds the ladder and, of each station, what R200 lists. -/
theorem State.settingsCopy_stations (s : State) (i : StationNo) :
    s.settingsCopy.stations[i.val] = (s.station i).stored i := by
  simp [State.settingsCopy]

theorem kindOfStation_of_lt {i : StationNo} (h : i.val < 4) : kindOfStation i = .spindle := if_pos h

theorem kindOfStation_of_ge {i : StationNo} (h : 21 ≤ i.val) : kindOfStation i = .bin := by
  rw [kindOfStation, if_neg (by omega), if_neg (by omega), if_neg (by omega)]

/-! ### How an access ends (R201, R202) -/

/-- The end of an access: IDLE, with one SETTINGS event. -/
theorem State.settingsEnd_effect (s : State) (r : SettingsResult) :
    (s.settingsEnd r).settings = { s.settings with access := .idle, storing := none } ∧
      RaisedOnly .settings 0 (some (.settings r)) s (s.settingsEnd r) ∧
      Changes [.settings, .events, .outbound] s (s.settingsEnd r) := by
  have hkept := changes_raise (s.modSettings (fun x => { x with access := .idle, storing := none })) .settings 0
    (some (.settings r))
  exact ⟨hkept .settings (by simp), raisedOnly_raise (s.modSettings _) _ _ _,
    ((changes_modSettings s _).mono (by simp)).trans (hkept.mono (by simp))⟩

/-- An access that ends after the settings alone have changed. -/
theorem State.settingsEnd_modSettings (s : State) (f : Settings → Settings) (r : SettingsResult) :
    ((s.modSettings f).settingsEnd r).settings = { f s.settings with access := .idle, storing := none } ∧
      RaisedOnly .settings 0 (some (.settings r)) s ((s.modSettings f).settingsEnd r) ∧
      Changes [.settings, .events, .outbound] s ((s.modSettings f).settingsEnd r) := by
  obtain ⟨hset, hraised, hkept⟩ := (s.modSettings f).settingsEnd_effect r
  exact ⟨hset, hraised, ((changes_modSettings s f).mono (by simp)).trans hkept⟩

theorem exec_settingsStoreAck {s : State} (h : s.settings.access = .storing) (ok : Bool) :
    exec (.settingsStoreAck ok) s = .next (if ok then s.storeDone else s.storeFailed) :=
  congrArg _ (if_pos h)

theorem exec_settingsStoreTimeout {s : State} (h : s.settings.access = .storing) :
    exec .settingsStoreTimeout s = .next s.storeFailed :=
  congrArg _ (if_pos h)

theorem exec_settingsLoadTimeout {s : State} (h : s.settings.access = .loading) :
    exec .settingsLoadTimeout s = .next (s.settingsEnd .failed) :=
  congrArg _ (if_pos h)

theorem exec_settingsLoadEnd {s : State} (h : s.settings.access = .loading) (r : SpiRead) :
    exec (.settingsLoadEnd r) s = .next (s.settingsLoaded r) :=
  congrArg _ (if_pos h)

theorem imageGood_iff (i : StoredImage) : imageGood i = true ↔ i.crc = crc32 (settingsBytes i.values) :=
  decide_eq_true_iff

/-- A load after the next power-on takes nothing from an image whose CRC does not match. -/
theorem State.powerOn_load_of_bad {t : State} (ha : t.settings.access ≠ .storing)
    (hbad : imageGood t.settings.eeprom = false) :
    ∃ u w, exec .powerOn t = .next u ∧ exec (.settingsLoadEnd .contents) u = .next w ∧
      w.settings.access = .idle ∧ RaisedOnly .settings 0 (some (.settings .failed)) u w ∧
      Changes [.settings, .events, .outbound] u w := by
  have hw : t.powerOn.settingsLoaded .contents = t.powerOn.settingsEnd .failed := by
    rw [State.settingsLoaded, State.settingsRead, State.powerOn_eeprom_of_not_storing ha, if_neg (by simp [hbad])]
  obtain ⟨hset, hraised, hkept⟩ := t.powerOn.settingsEnd_effect .failed
  refine ⟨t.powerOn, _, rfl, exec_settingsLoadEnd rfl .contents, ?_⟩
  rw [hw]
  exact ⟨by rw [hset], hraised, hkept⟩

/-! ### A settings load that ends well (R201) -/

/-- A fold whose steps each replace one item of a table: at the end each item has been replaced once. -/
theorem get_foldl {σ ι α : Type} {get : σ → ι → α} {act : σ → ι → σ} {new : ι → α → α}
    (hself : ∀ t i, get (act t i) i = new i (get t i)) (hne : ∀ t {i j}, j ≠ i → get (act t i) j = get t j)
    {l : List ι} (hl : l.Nodup) {i : ι} (hi : i ∈ l) (s : σ) : get (l.foldl act s) i = new i (get s i) := by
  have hkept {l : List ι} (hi : i ∉ l) (t : σ) : get (l.foldl act t) i = get t i :=
    List.foldlRecOn (motive := fun u => get u i = get t i) l act rfl
      (fun u hu j hj => (hne u (ne_of_mem_of_not_mem hj hi).symm).trans hu)
  obtain ⟨before, rest, rfl⟩ := List.append_of_mem hi
  obtain ⟨hbefore, hrest⟩ : i ∉ before ∧ i ∉ rest := by
    rw [List.nodup_middle, List.nodup_cons, List.mem_append, not_or] at hl
    exact hl.1
  rw [List.foldl_append, List.foldl_cons, hkept hrest, hself, hkept hbefore]

theorem State.loadCodes_code (s : State) (v : SettingsValues) (g : Rung) :
    (s.loadCodes v).code g = if s.settings.ladderWritten[g.val] = true then s.code g else v.codes[g.val] := by
  refine get_foldl (get := State.code)
    (new := fun g c => if s.settings.ladderWritten[g.val] = true then c else v.codes[g.val])
    (fun t g => ?_) (fun t g h hne => ?_) (List.nodup_finRange 8) (List.mem_finRange g) s
  · split
    · rfl
    · exact t.code_setCode_self g _
  · split
    · rfl
    · exact t.code_setCode_of_ne _ hne

theorem State.loadStations_station (s : State) (v : SettingsValues) (k : StationNo) :
    (s.loadStations v).station k =
      if s.settings.mapWritten[k.val] = true then s.station k
      else (s.station k).takes k (storedArgs v.stations[k.val]) := by
  refine get_foldl (get := State.station)
    (new := fun k x => if s.settings.mapWritten[k.val] = true then x else x.takes k (storedArgs v.stations[k.val]))
    (fun t k => ?_) (fun t k j hne => ?_) (List.nodup_finRange 24) (List.mem_finRange k) s
  · split
    · rfl
    · exact t.station_modStation_self k _
  · split
    · rfl
    · exact t.station_modStation_of_ne _ _ _ hne.symm

/-- The state once every stored value has been taken (R201). -/
def State.storedTaken (s : State) (v : SettingsValues) : State := (s.loadCodes v).loadStations v

theorem changes_storedTaken (s : State) (v : SettingsValues) : Changes [.ladder, .stations] s (s.storedTaken v) :=
  ((changes_loadCodes s v).mono (by simp)).trans ((changes_loadStations _ v).mono (by simp))

theorem State.storedTaken_code (s : State) (v : SettingsValues) (g : Rung) :
    (s.storedTaken v).code g = if s.settings.ladderWritten[g.val] = true then s.code g else v.codes[g.val] := by
  have hladder : (s.storedTaken v).ladder = (s.loadCodes v).ladder := changes_loadStations _ v .ladder (by simp)
  rw [← State.loadCodes_code, State.code, hladder]
  rfl

theorem State.storedTaken_station (s : State) (v : SettingsValues) (k : StationNo) :
    (s.storedTaken v).station k =
      if s.settings.mapWritten[k.val] = true then s.station k
      else (s.station k).takes k (storedArgs v.stations[k.val]) := by
  have hstation : (s.loadCodes v).station k = s.station k := by
    rw [State.station, changes_loadCodes s v .stations (by simp)]
    rfl
  have hsettings : (s.loadCodes v).settings = s.settings := changes_loadCodes s v .settings (by simp)
  rw [State.storedTaken, State.loadStations_station, hstation]
  simp only [hsettings]

/-- The whole of a settings load that reads a good image (R201). -/
def State.settingsTaken (s : State) (v : SettingsValues) : State :=
  ((((s.storedTaken v).retireStranded (s.lostTo (s.storedTaken v))).loadDecision).settingsEnd .loaded).arbiter

theorem State.settingsRead_of_good {s : State} {i : StoredImage} (h : imageGood i = true) :
    s.settingsRead i = s.settingsTaken i.values := if_pos h

theorem State.settingsRead_of_bad {s : State} {i : StoredImage} (h : ¬ imageGood i = true) :
    s.settingsRead i = s.settingsEnd .failed := if_neg h

theorem State.settingsTaken_code (s : State) (v : SettingsValues) (g : Rung) :
    (s.settingsTaken v).code g = if s.settings.ladderWritten[g.val] = true then s.code g else v.codes[g.val] := by
  rw [← State.storedTaken_code]
  simp [State.settingsTaken]

theorem State.settingsTaken_station (s : State) (v : SettingsValues) (k : StationNo) :
    (s.settingsTaken v).station k =
      if s.settings.mapWritten[k.val] = true then s.station k
      else (s.station k).takes k (storedArgs v.stations[k.val]) := by
  rw [← State.storedTaken_station]
  simp [State.settingsTaken]

theorem State.settingsTaken_event (s : State) (v : SettingsValues) :
    (s.settingsTaken v).event .settings = (s.event .settings).raised .settings 0 (some (.settings .loaded)) := by
  obtain ⟨-, ⟨hraised, -⟩, -⟩ := (((s.storedTaken v).retireStranded
    (s.lostTo (s.storedTaken v))).loadDecision).settingsEnd_effect .loaded
  rw [State.settingsTaken, Untouched.arbiter_event, hraised, State.loadDecision_event_of_ne _ (by decide) (by decide),
    State.retireStranded_event_of_ne _ _ (by decide), State.event, changes_storedTaken s v .events (by simp)]
  rfl

theorem State.settingsTaken_access (s : State) (v : SettingsValues) : (s.settingsTaken v).settings.access = .idle := by
  rw [State.settingsTaken, Untouched.arbiter_settings, (State.settingsEnd_effect _ _).1]

/-- The image that a settings read answers with is the one that is taken (R201). -/
theorem State.settingsLoaded_eq {s : State} {r : SpiRead} {i : StoredImage}
    (h : r = .image i ∨ (r = .contents ∧ s.settings.eeprom = i)) :
    s.settingsLoaded r = (s.modSettings (fun x => { x with eeprom := i })).settingsRead i := by
  rcases h with rfl | ⟨rfl, rfl⟩ <;> rfl

theorem Station.takes_stored (x : Station) (k : StationNo) (v : StoredStation) :
    (x.takes k (storedArgs v)).kind = v.kind ∧ (x.takes k (storedArgs v)).lift = v.lift.toNat ∧
      (x.takes k (storedArgs v)).rotate = v.rotate.toNat ∧ (x.takes k (storedArgs v)).count = x.count ∧
      (x.takes k (storedArgs v)).loaded = x.loaded ∧
      (k.val < 4 → (x.takes k (storedArgs v)).mediaClass = v.value.toNat) ∧
      (21 ≤ k.val → (x.takes k (storedArgs v)).capacity = v.value.toNat) :=
  ⟨rfl, rfl, rfl, rfl, rfl, fun hk => if_pos (kindOfStation_of_lt hk), fun hk => if_pos (kindOfStation_of_ge hk)⟩

/-- A store that fails (R202): what the EEPROM may then hold, and that a bad image is of no use to the next load. -/
theorem State.storeFailed_effect (s : State) :
    s.storeFailed.settings.access = .idle ∧ s.storeFailed.settings.storing = none ∧
      s.storeFailed.settings.ladderWritten = s.settings.ladderWritten ∧
      s.storeFailed.settings.mapWritten = s.settings.mapWritten ∧
      (s.storeFailed.settings.eeprom = s.settings.eeprom ∨
        (∃ v, s.settings.storing = some v ∧
          s.storeFailed.settings.eeprom = { values := v, crc := crc32 (settingsBytes v) }) ∨
        (s.storeFailed.settings.eeprom.crc ≠ crc32 (settingsBytes s.storeFailed.settings.eeprom.values) ∧
          ∃ u w, exec .powerOn s.storeFailed = .next u ∧ exec (.settingsLoadEnd .contents) u = .next w ∧
            w.settings.access = .idle ∧ RaisedOnly .settings 0 (some (.settings .failed)) u w ∧
            Changes [.settings, .events, .outbound] u w)) ∧
      RaisedOnly .settings 0 (some (.settings .failed)) s s.storeFailed ∧
      Changes [.settings, .events, .outbound] s s.storeFailed := by
  obtain ⟨hset, hraised, hkept⟩ := s.settingsEnd_modSettings (·.storeCut) .failed
  have hset : s.storeFailed.settings = { s.settings.storeCut with access := .idle, storing := none } := hset
  have heeprom : s.storeFailed.settings.eeprom = s.settings.afterFailure := by rw [hset]; rfl
  refine ⟨by rw [hset], by rw [hset], by rw [hset]; rfl, by rw [hset]; rfl, ?_, hraised, hkept⟩
  rcases s.settings.afterFailure_cases with hsame | ⟨v, hv, hcopy⟩ | hbad
  · exact .inl (heeprom.trans hsame)
  · exact .inr (.inl ⟨v, hv, heeprom.trans hcopy⟩)
  · rw [← heeprom] at hbad
    refine .inr (.inr ⟨fun h => ?_, State.powerOn_load_of_bad (by simp [hset]) hbad⟩)
    rw [(imageGood_iff _).mpr h] at hbad
    cases hbad

/-- Settles O55. -/
theorem settingsLoadAndStore : Obligations.SettingsLoadAndStore := by
  refine ⟨fun f s hb hn => ?store, fun s hs => ⟨fun v hv => ?done, ⟨_, exec_settingsStoreAck hs false,
    s.storeFailed_effect⟩, _, exec_settingsStoreTimeout hs, s.storeFailed_effect⟩, fun s hs =>
    ⟨⟨_, exec_settingsLoadTimeout hs, ?timeout⟩, ⟨_, exec_settingsLoadEnd hs _, ?failed⟩, fun r i hi => ?loaded⟩⟩
  case store =>
    refine ⟨_, exec_storeSettings_of_handlesAsNew hb hn, ?_⟩
    rw [State.storeSettings]
    split
    · refine ⟨⟨s.settingsCopy, rfl, rfl, fun i => ?_⟩, replied_replyPlain_of_feed rfl,
        State.replyPlain_outbound (s.modSettings _) _ _,
        ((changes_modSettings s _).mono (by simp)).trans ((changes_replyPlain _ _ _).mono (by simp))⟩
      rw [State.settingsCopy_stations]
      exact ⟨rfl, rfl, rfl, fun h => by rw [Station.stored, kindOfStation_of_lt h],
        fun h => by rw [Station.stored, kindOfStation_of_ge h]⟩
    · exact repliedOnly_replyPlain s _ _
  case done =>
    refine ⟨_, exec_settingsStoreAck hs true, ?_⟩
    rw [if_pos rfl, State.storeDone, hv]
    exact s.settingsEnd_modSettings _ _
  case timeout =>
    obtain ⟨hset, hraised, hkept⟩ := s.settingsEnd_effect .failed
    exact ⟨by rw [hset], hraised, hkept⟩
  case failed =>
    obtain ⟨hset, hraised, hkept⟩ := s.settingsEnd_effect .failed
    exact ⟨by rw [State.settingsLoaded, hset], hraised, hkept⟩
  case loaded =>
    refine ⟨_, exec_settingsLoadEnd hs r, ?_⟩
    rw [State.settingsLoaded_eq hi]
    by_cases hgood : imageGood i = true
    · rw [State.settingsRead_of_good hgood]
      refine ⟨State.settingsTaken_access _ _, fun hbad => absurd ((imageGood_iff i).mp hgood) hbad, fun _ =>
        ⟨fun g => State.settingsTaken_code _ _ g, fun k => ?_, State.settingsTaken_event _ _⟩⟩
      have hk := State.settingsTaken_station (s.modSettings (fun x => { x with eeprom := i })) i.values k
      split
      · next hw => exact hk.trans (if_pos hw)
      · next hw =>
        rw [hk.trans (if_neg hw)]
        exact Station.takes_stored _ _ _
    · obtain ⟨hset, hraised, hkept⟩ := s.settingsEnd_modSettings (fun x => { x with eeprom := i }) .failed
      rw [State.settingsRead_of_bad hgood]
      exact ⟨by rw [hset], fun _ => ⟨by rw [hset], hraised, hkept⟩, fun h => absurd ((imageGood_iff i).mpr h) hgood⟩

end Sys2Proof.Machine
end

section
/-! Drive ports (R50 to R53): Port Check and Port Reset (O35), and how a port check ends (O36). -/

namespace Sys2Proof.Machine

theorem raisedOnly_of_events {s t u : State} {c : EventClass} {m : Word16} {v : Option EventValue}
    (h : u.events = t.events) (ht : RaisedOnly c m v s t) : RaisedOnly c m v s u := by
  obtain ⟨hraised, hothers⟩ := ht
  exact ⟨(State.event_congr h c).trans hraised, fun k hk => (State.event_congr h k).trans (hothers k hk)⟩

/-! ### A waiting request that is dropped (R46, R75) -/

/-- A SPEED of an Apply Now waits. -/
def DriveSlot.speedWaits (x : DriveSlot) : Bool := x.waiting.any (·.isApplySpeed)

theorem DriveSlot.speedWaits_iff (x : DriveSlot) : x.speedWaits = true ↔ ∃ c g, x.waiting = some (.speed c g .apply) := by
  unfold DriveSlot.speedWaits
  cases x.waiting with
  | none => simp
  | some req =>
    cases req with
    | speed c g who => cases who <;> simp [DriveRequest.isApplySpeed]
    | _ => simp [DriveRequest.isApplySpeed]

/-- A drive whose waiting request is gone. -/
def DriveSlot.unwaited (x : DriveSlot) : DriveSlot :=
  { x with waiting := none, applyStatus := if x.speedWaits then .speedFailed else x.applyStatus }

section
variable (s : State) (d : Drive)

theorem State.dropWaiting_of_speed (h : (s.drive d).speedWaits = true) :
    s.dropWaiting d = (s.modDrive d (fun x => { x with waiting := none })).endApply d .speedFailed := by
  unfold State.dropWaiting
  cases hw : (s.drive d).waiting with
  | none => simp [DriveSlot.speedWaits, hw] at h
  | some req => exact if_pos (by simpa [DriveSlot.speedWaits, hw] using h)

theorem State.dropWaiting_of_other (h : ¬ (s.drive d).speedWaits = true) :
    s.dropWaiting d = s.modDrive d (fun x => { x with waiting := none }) := by
  unfold State.dropWaiting
  cases hw : (s.drive d).waiting with
  | none => rfl
  | some req => exact if_neg (by simpa [DriveSlot.speedWaits, hw] using h)

theorem State.dropWaiting_drive : (s.dropWaiting d).drive d = (s.drive d).unwaited := by
  unfold DriveSlot.unwaited
  by_cases h : (s.drive d).speedWaits = true
  · rw [State.dropWaiting_of_speed s d h, State.endApply_drive_self, State.drive_modDrive_self, if_pos h]
  · rw [State.dropWaiting_of_other s d h, State.drive_modDrive_self, if_neg h]

theorem State.dropWaiting_event_of_other (h : ¬ (s.drive d).speedWaits = true) : (s.dropWaiting d).events = s.events := by
  rw [State.dropWaiting_of_other s d h]
  rfl

theorem State.dropWaiting_outbound_of_other (h : ¬ (s.drive d).speedWaits = true) :
    (s.dropWaiting d).outbound = s.outbound := by
  rw [State.dropWaiting_of_other s d h]
  rfl

theorem raisedOnly_dropWaiting (h : (s.drive d).speedWaits = true) :
    RaisedOnly .applyDone (bitMask d.val) none s (s.dropWaiting d) := by
  rw [State.dropWaiting_of_speed s d h]
  exact raisedOnly_raise (State.modDrive _ _ _) _ _ _

theorem State.dropWaiting_outbound_of_speed (h : (s.drive d).speedWaits = true) :
    (s.dropWaiting d).outbound = s.outbound ++ s.placedBy .applyDone := by
  rw [State.dropWaiting_of_speed s d h]
  exact State.raise_outbound (State.modDrive _ _ _) _ _ _

end

/-! ### Port Check (R52) -/

theorem exec_portCheck_of_handlesAsNew {f : CmdFrame} {m : Word16} {s : State} (hp : parseMask f.body = some m)
    (hn : s.handlesAsNew f.tag f.resend) : exec (.portCheck f) s = .next (State.portCheck (cmdReply f 19) m s) :=
  congrArg _ (State.answer_of_handlesAsNew _ hp hn)

theorem DriveSlot.checkable_iff (x : DriveSlot) :
    x.checkable = true ↔ (x.state = .absent ∨ x.state = .empty ∨ x.state = .faulted) ∧ x.checkPhase = .idle := by
  simp [DriveSlot.checkable, or_assoc]

/-- The ports that a Port Check takes (R52). -/
def State.checkedPorts (s : State) (m : Word16) : List Drive := (maskDrives m).filter (fun d => (s.drive d).checkable)

/-- The mask of the ports that a Port Check refuses (R52). -/
def State.refusedPorts (s : State) (m : Word16) : Word16 :=
  driveMask (fun d => m.getLsbD d.val && !(s.drive d).checkable)

theorem State.mem_checkedPorts (s : State) (m : Word16) (d : Drive) :
    d ∈ s.checkedPorts m ↔ m.getLsbD d.val = true ∧ (s.drive d).checkable = true := by
  rw [State.checkedPorts, List.mem_filter, mem_maskDrives]

theorem State.nodup_checkedPorts (s : State) (m : Word16) : (s.checkedPorts m).Nodup := (nodup_maskDrives m).filter _

theorem State.getLsbD_refusedPorts (s : State) (m : Word16) (d : Drive) :
    (s.refusedPorts m).getLsbD d.val = true ↔ m.getLsbD d.val = true ∧ ¬ (s.drive d).checkable = true := by
  rw [State.refusedPorts, getLsbD_driveMask]
  simp

theorem oneDriveAtATime_startCheck : OneDriveAtATime [.drives] (fun s d => s.modDrive d (·.startCheck)) where
  drive_of_ne s _ _ h := s.drive_modDrive_of_ne _ _ _ h.symm
  changes s d := changes_modDrive s d _

theorem State.portCheck_eq (rt : ReplyTo) (m : Word16) (s : State) :
    State.portCheck rt m s =
      (s.checkedPorts m).foldl (fun t d => t.modDrive d (·.startCheck)) (s.reply rt .ok (s.refusedPorts m) 0) := rfl

theorem changes_portCheckStarts (rt : ReplyTo) (m : Word16) (s : State) :
    Changes [.drives] (s.reply rt .ok (s.refusedPorts m) 0) (State.portCheck rt m s) :=
  oneDriveAtATime_startCheck.foldl_changes _ _

theorem State.portCheck_drive (rt : ReplyTo) (m : Word16) (s : State) (d : Drive) :
    (State.portCheck rt m s).drive d = if m.getLsbD d.val = true ∧ (s.drive d).checkable = true then
      (s.drive d).startCheck else s.drive d := by
  rw [State.portCheck_eq]
  split
  · next h =>
    exact get_foldl (get := State.drive) (new := fun _ x => x.startCheck) (fun t i => t.drive_modDrive_self i _)
      (fun t i j hne => t.drive_modDrive_of_ne _ _ _ hne.symm) (s.nodup_checkedPorts m) ((s.mem_checkedPorts m d).mpr h) _
  · next h =>
    exact oneDriveAtATime_startCheck.foldl_drive_of_notMem _ (mt (s.mem_checkedPorts m d).mp h)

/-! ### Port Reset (R53) -/

theorem exec_portReset_of_handlesAsNew {f : CmdFrame} {d : Drive} {s : State} (hp : parseName 16 f.body = some d)
    (hn : s.handlesAsNew f.tag f.resend) : exec (.portReset f) s = .next (State.portReset (cmdReply f 20) d s) :=
  congrArg _ (State.answer_of_handlesAsNew _ hp hn)

theorem DriveSlot.resettable_iff (x : DriveSlot) :
    x.resettable = true ↔ (x.state = .faulted ∨ x.state = .absent) ∧ x.checkPhase = .idle := by
  simp [DriveSlot.resettable]

/-- A port with its requests forgotten and a check begun (R53). -/
def State.portForgotten (s : State) (d : Drive) : State :=
  ((s.dropWaiting d).modDrive d (fun x => { x with outstanding := none, timeoutCount := 0 })).modDrive d (·.startCheck)

theorem State.portReset_of_resettable {s : State} {d : Drive} (rt : ReplyTo) (h : (s.drive d).resettable = true) :
    State.portReset rt d s = (s.portForgotten d).replyPlain rt .ok := if_pos h

theorem changes_portForgotten_dropWaiting (s : State) (d : Drive) :
    Changes [.drives] (s.dropWaiting d) (s.portForgotten d) :=
  (changes_modDrive _ d _).trans (changes_modDrive _ d _)

theorem State.portForgotten_drive_self (s : State) (d : Drive) :
    (s.portForgotten d).drive d =
      { s.drive d with outstanding := none, waiting := none, timeoutCount := 0, checkPhase := .checking,
                       resultsValid := false,
                       applyStatus := if (s.drive d).speedWaits then .speedFailed else (s.drive d).applyStatus } := by
  rw [State.portForgotten, State.drive_modDrive_self, State.drive_modDrive_self, State.dropWaiting_drive]
  rfl

theorem State.portForgotten_drive_of_ne (s : State) {d e : Drive} (h : e ≠ d) :
    (s.portForgotten d).drive e = s.drive e := by
  rw [State.portForgotten, State.drive_modDrive_of_ne _ _ _ _ h.symm, State.drive_modDrive_of_ne _ _ _ _ h.symm,
    State.dropWaiting_drive_of_ne _ h]

/-- Settles O35. -/
theorem portCheckAndReset : Obligations.PortCheckAndReset := by
  refine ⟨fun f m s hp hn => ?check, fun f d s hp hn => ?reset⟩
  case check =>
    have hkept := changes_portCheckStarts (cmdReply f 19) m s
    simp only [← DriveSlot.checkable_iff]
    exact ⟨_, s.refusedPorts m, exec_portCheck_of_handlesAsNew hp hn, hkept .feed (by simp), hkept .outbound (by simp),
      s.getLsbD_refusedPorts m, State.portCheck_drive _ m s,
      ((changes_reply s _ _ _ _).mono (by simp)).trans (hkept.mono (by simp))⟩
  case reset =>
    simp only [← DriveSlot.speedWaits_iff]
    refine ⟨_, exec_portReset_of_handlesAsNew hp hn, ?_⟩
    split
    · next h =>
      have hkept := changes_portForgotten_dropWaiting s d
      rw [State.portReset_of_resettable _ ((s.drive d).resettable_iff.mpr h)]
      simp only [Untouched.replyPlain_drive, State.replyPlain_outbound]
      refine ⟨⟨_, State.portForgotten_drive_self s d, fun hw => if_pos hw, fun hw => if_neg hw⟩,
        fun e he => State.portForgotten_drive_of_ne s he, replied_replyPlain_of_feed ?_, fun hw => ⟨?_, ?_⟩,
        fun hw => ⟨?_, ?_⟩, ?_⟩
      · exact (hkept .feed (by simp)).trans (changes_dropWaiting s d .feed (by simp))
      · exact (hkept .events (by simp)).trans (State.dropWaiting_event_of_other s d hw)
      · rw [hkept .outbound (by simp), State.dropWaiting_outbound_of_other s d hw]
      · exact raisedOnly_of_events ((changes_replyPlain _ _ _ .events (by simp)).trans (hkept .events (by simp)))
          (raisedOnly_dropWaiting s d hw)
      · rw [hkept .outbound (by simp), State.dropWaiting_outbound_of_speed s d hw]
      · exact (((changes_dropWaiting s d).mono (by simp)).trans (hkept.mono (by simp))).trans
          ((changes_replyPlain _ _ _).mono (by simp))
    · next h =>
      rw [State.portReset, if_neg (mt (s.drive d).resettable_iff.mp h)]
      exact repliedOnly_replyPlain s _ _

/-! ### How a port check ends (R50) -/

/-- The result of a check stored at drive `d`, with the port's bit raised. -/
def State.checkResulted (s : State) (d : Drive) (r : CheckResult) : State :=
  (s.modDrive d (fun x => { x with checkResult := some r, resultsValid := true })).raise .portCheck (bitMask d.val) none

theorem State.checkEnd_of_good (s : State) (d : Drive) :
    s.checkEnd d .good =
      ((s.checkResulted d .good).modDrive d (fun x => { x with checkPhase := .sensing })).sendDrive d .sense := rfl

/-- A drive whose check has failed: ABSENT, with DRIVE-STATE if it was not. -/
def State.checkFailed (s : State) (d : Drive) (r : CheckResult) : State :=
  let b := (s.checkResulted d r).modDrive d (fun x => { x with checkPhase := .idle, state := .absent, phase := .noPhase })
  if (s.drive d).state = .absent then b else b.raiseDrive d

theorem State.checkEnd_of_bad (s : State) (d : Drive) {r : CheckResult} (h : r ≠ .good) :
    s.checkEnd d r = ((s.checkFailed d r).dropWaiting d).loadDecision := if_neg h

section
variable (s : State) (d : Drive) (r : CheckResult)

theorem State.checkResulted_event :
    (s.checkResulted d r).event .portCheck = (s.event .portCheck).raised .portCheck (bitMask d.val) none :=
  State.raise_event _ _ _ _

theorem State.checkFailed_drive_self : (s.checkFailed d r).drive d =
    { s.drive d with checkResult := some r, resultsValid := true, checkPhase := .idle, state := .absent,
                     phase := .noPhase } := by
  unfold State.checkFailed State.checkResulted
  dsimp only
  split <;> simp

theorem State.checkFailed_drive_of_ne {e : Drive} (h : e ≠ d) : (s.checkFailed d r).drive e = s.drive e := by
  unfold State.checkFailed State.checkResulted
  dsimp only
  split <;> simp [State.drive_modDrive_of_ne _ _ _ _ h.symm]

theorem State.checkFailed_event :
    (s.checkFailed d r).event .portCheck = (s.event .portCheck).raised .portCheck (bitMask d.val) none := by
  rw [← State.checkResulted_event s d r]
  unfold State.checkFailed
  dsimp only
  split
  · rfl
  · exact State.raise_event_of_ne _ _ _ (by decide)

theorem State.checkFailed_told (h : (s.drive d).state ≠ .absent) :
    ((s.checkFailed d r).event .driveState).told d := by
  rw [State.checkFailed, if_neg h, State.raiseDrive, State.raise_event]
  exact EventRecord.told_raised_self _ _ _ _

end

/-- What the end of a check leaves, for each result (R50). -/
theorem State.checkEnd_effect (s : State) (d : Drive) (r : CheckResult) :
    (s.checkEnd d r).arbiter.event .portCheck = (s.event .portCheck).raised .portCheck (bitMask d.val) none ∧
      (if r = .good then
        (s.checkEnd d r).arbiter.drive d =
          { s.drive d with checkResult := some .good, resultsValid := true, checkPhase := .sensing,
                           outstanding := some { req := .sense, number := (s.drive d).nextNumber },
                           nextNumber := (s.drive d).nextNumber + 1 } ∧
          ∀ e, e ≠ d → (s.checkEnd d r).arbiter.drive e = s.drive e
      else
        ((s.checkEnd d r).arbiter.drive d).checkResult = some r ∧
          ((s.checkEnd d r).arbiter.drive d).resultsValid = true ∧
          ((s.checkEnd d r).arbiter.drive d).checkPhase = .idle ∧
          ((s.checkEnd d r).arbiter.drive d).state = .absent ∧ ((s.checkEnd d r).arbiter.drive d).phase = .noPhase ∧
          ((s.checkEnd d r).arbiter.drive d).waiting = none ∧
          ((s.checkEnd d r).arbiter.drive d).trayRecord = (s.drive d).trayRecord ∧
          (∀ e, e ≠ d → (s.drive e).state ≠ .empty → (s.checkEnd d r).arbiter.drive e = s.drive e) ∧
          ((s.drive d).state ≠ .absent → ((s.checkEnd d r).arbiter.event .driveState).pending = true)) ∧
      Changes [.drives, .orders, .records, .queue, .transport, .printer, .events, .outbound] s
        (s.checkEnd d r).arbiter := by
  refine ⟨?_, ?_, ((changes_checkEnd s d r).mono (by simp)).trans ((changes_arbiter _).mono (by simp))⟩
  · rw [Untouched.arbiter_event]
    by_cases h : r = .good
    · rw [h]
      exact s.checkResulted_event d .good
    · rw [State.checkEnd_of_bad s d h, State.loadDecision_event_of_ne _ (by decide) (by decide),
        State.dropWaiting_event_of_ne _ _ (by decide), State.checkFailed_event]
  · simp only [Untouched.arbiter_drive, Untouched.arbiter_event]
    split
    · next h =>
      rw [h, State.checkEnd_of_good]
      refine ⟨?_, fun e he => ?_⟩
      · simp [State.sendDrive, State.checkResulted, DriveSlot.sent]
      · simp [State.sendDrive, State.checkResulted, State.drive_modDrive_of_ne _ _ _ _ he.symm]
    · next h =>
      rw [State.checkEnd_of_bad s d h]
      have hslot : (((s.checkFailed d r).dropWaiting d).loadDecision).drive d = ((s.checkFailed d r).drive d).unwaited := by
        rw [← State.dropWaiting_drive]
        refine State.loadDecision_drive_of_not_empty ?_
        rw [State.dropWaiting_drive, State.checkFailed_drive_self]
        simp [DriveSlot.unwaited]
      rw [hslot, State.checkFailed_drive_self]
      refine ⟨rfl, rfl, rfl, rfl, rfl, rfl, rfl, fun e he hne => ?_, fun hs => ?_⟩
      · have hdrop : ((s.checkFailed d r).dropWaiting d).drive e = s.drive e := by
          rw [State.dropWaiting_drive_of_ne _ he, State.checkFailed_drive_of_ne s d r he]
        rw [State.loadDecision_drive_of_not_empty (by rw [hdrop]; exact hne), hdrop]
      · have hdropped := closed_dropWaiting (closed_told [.drives, .outbound, .events] .driveState d)
          (List.Subset.refl _) (d := d) (State.checkFailed_told s d r hs)
        exact (closed_loadDecision (closed_told _ .driveState d) (List.Subset.refl _) hdropped).1

theorem DriveSlot.exchanging_iff (x : DriveSlot) : x.exchanging = true ↔ x.checkPhase = .checking ∧ x.outstanding = none := by
  simp [DriveSlot.exchanging]

theorem exec_portCheckExchangeEnd {s : State} {d : Drive} (h : (s.drive d).exchanging = true) (r : ExchangeResult) :
    exec (.portCheckExchangeEnd d r) s = .next (s.checkEnd d (checkResultOf r)).arbiter := by
  show execPortCheckExchangeEnd d r s = _
  rw [execPortCheckExchangeEnd, if_pos h]

theorem exec_portCheckTimeout {s : State} {d : Drive} (h : (s.drive d).exchanging = true) :
    exec (.portCheckTimeout d) s = .next (s.checkEnd d .noResponse).arbiter := by
  show execPortCheckTimeout d s = _
  rw [execPortCheckTimeout, if_pos h]

/-- Settles O36. -/
theorem portCheckEnds : Obligations.PortCheckEnds := by
  intro d s hphase hout
  have hx : (s.drive d).exchanging = true := (s.drive d).exchanging_iff.mpr ⟨hphase, hout⟩
  refine ⟨fun r => ⟨_, exec_portCheckExchangeEnd hx r, ?_⟩, _, exec_portCheckTimeout hx, s.checkEnd_effect d .noResponse⟩
  cases r with
  | good => exact s.checkEnd_effect d .good
  | linkErrors => exact s.checkEnd_effect d .linkErrors
  | wrongDevice => exact s.checkEnd_effect d .wrongDevice

end Sys2Proof.Machine
end

section
/-! A wave inside a step: the block accumulator (R8 to R11; O17) and the release rule (R31 to R33; O18). -/

namespace Sys2Proof.Machine

theorem raisedOnly_raise_of_events {s u : State} (h : u.events = s.events) (c : EventClass) (m : Word16)
    (v : Option EventValue) : RaisedOnly c m v s (u.raise c m v) := by
  obtain ⟨hraised, hothers⟩ := raisedOnly_raise u c m v
  exact ⟨by rw [hraised, State.event_congr h], fun k hk => by rw [hothers k hk, State.event_congr h]⟩

/-! ### One sector in the accumulator (R8) -/

theorem State.modAcc_modAcc (s : State) (w : WaveNo) (f g : Accumulator → Accumulator) :
    (s.modAcc w f).modAcc w g = s.modAcc w (fun a => g (f a)) := by
  unfold State.modAcc State.acc
  simp

theorem State.modAcc_acc (s : State) (w : WaveNo) : s.modAcc w (fun _ => s.acc w) = s := by
  unfold State.modAcc State.acc
  simp

/-- An accumulator that has counted `n` sectors more and run `bytes` through its CRC. -/
def Accumulator.counted (a : Accumulator) (n : Nat) (bytes : List Byte) : Accumulator :=
  { a with taken := a.taken + n, crc := crcRun a.crc bytes }

theorem Accumulator.counted_counted (a : Accumulator) (m n : Nat) (b c : List Byte) :
    (a.counted m b).counted n c = a.counted (m + n) (b ++ c) := by
  simp [Accumulator.counted, crcRun_append, Nat.add_assoc]

/-- The sectors of the block in progress of a wave that fills or checks image slot `i`. -/
def State.blockSize (s : State) (w : WaveNo) (i : SlotNo) : Nat := min 16 ((s.image i).length - 16 * (s.acc w).block)

section
variable {s : State} {w : WaveNo} {i : SlotNo} (p : List Byte) (ha : (s.acc w).slot = some i)
include ha

/-- Short of the block's end a sector is only counted and run through the CRC. -/
theorem State.takeSector_of_short (h : (s.acc w).taken + 1 < s.blockSize w i) :
    s.takeSector w p = (s.modAcc w (·.counted 1 p), false) := by
  have hsize : Config.blockSectors = 16 := rfl
  unfold State.blockSize at h
  unfold State.takeSector
  dsimp only
  rw [ha]
  dsimp only
  rw [if_neg (by rw [Bool.or_eq_true, decide_eq_true_iff, decide_eq_true_iff, hsize]; omega)]
  rfl

/-- What the block's last sector does. -/
theorem State.takeSector_of_full (h : (s.acc w).taken + 1 = s.blockSize w i) :
    s.takeSector w p =
      match (s.acc w).mode with
      | .fill =>
        (((s.modAcc w (·.counted 1 p)).fillDigest i (crcFinish (crcRun (s.acc w).crc p))
          (decide ((s.acc w).block + 1 = blocksOf (s.image i).length))).modAcc w
          (·.advanced (decide ((s.acc w).block + 1 = blocksOf (s.image i).length))), false)
      | .check =>
        if (s.image i).digests[(s.acc w).block]? = some (crcFinish (crcRun (s.acc w).crc p)) then
          ((s.modAcc w (·.counted 1 p)).modAcc w
            (·.advanced (decide ((s.acc w).block + 1 = blocksOf (s.image i).length))), false)
        else ((s.modAcc w (·.counted 1 p)).raiseImage i .complete .conflict, true)
      | .idle => (s, false) := by
  have hsize : Config.blockSectors = 16 := rfl
  unfold State.blockSize at h
  unfold State.takeSector
  dsimp only
  rw [ha]
  dsimp only
  rw [if_pos (by rw [Bool.or_eq_true, decide_eq_true_iff, decide_eq_true_iff, hsize]; omega)]
  rfl

end

/-! ### Several sectors -/

theorem State.takeSectors_append (s : State) (w : WaveNo) (ps qs : List (List Byte)) :
    s.takeSectors w (ps ++ qs) =
      if (s.takeSectors w ps).2 = true then s.takeSectors w ps else (s.takeSectors w ps).1.takeSectors w qs := by
  induction ps generalizing s with
  | nil => rfl
  | cons p ps ih =>
    rw [List.cons_append, State.takeSectors, State.takeSectors]
    rcases s.takeSector w p with ⟨t, conflict⟩
    cases conflict with
    | true => rfl
    | false => exact ih t

theorem State.takeSectors_singleton (s : State) (w : WaveNo) (p : List Byte) :
    s.takeSectors w [p] = s.takeSector w p := by
  rw [State.takeSectors]
  rcases s.takeSector w p with ⟨t, conflict⟩
  cases conflict <;> rfl

/-- Sectors short of the block's end are only counted and run through the CRC. -/
theorem State.takeSectors_of_short {s : State} {w : WaveNo} {i : SlotNo} (ha : (s.acc w).slot = some i)
    (ps : List (List Byte)) (h : (s.acc w).taken + ps.length < s.blockSize w i) :
    s.takeSectors w ps = (s.modAcc w (·.counted ps.length ps.flatten), false) := by
  induction ps generalizing s with
  | nil =>
    rw [State.takeSectors]
    congr 1
    exact (s.modAcc_acc w).symm
  | cons p ps ih =>
    rw [List.length_cons] at h
    rw [State.takeSectors, State.takeSector_of_short p ha (by omega)]
    have hacc : (s.modAcc w (·.counted 1 p)).acc w = (s.acc w).counted 1 p := s.acc_modAcc_self w _
    have hsize : (s.modAcc w (·.counted 1 p)).blockSize w i = s.blockSize w i := by
      rw [State.blockSize, hacc]
      rfl
    have hrest := ih (s := s.modAcc w (·.counted 1 p)) (by rw [hacc]; exact ha) (by
      rw [hsize, hacc, Accumulator.counted]
      dsimp only
      omega)
    refine hrest.trans ?_
    rw [State.modAcc_modAcc]
    simp only [Accumulator.counted_counted, List.length_cons, List.flatten_cons, Nat.add_comm 1]

/-- The block's end comes with the last sector of the list: what it does, on the state that has counted the others. -/
theorem State.takeSectors_of_full {s : State} {w : WaveNo} {i : SlotNo} (ha : (s.acc w).slot = some i)
    (init : List (List Byte)) (p : List Byte) (h : (s.acc w).taken + (init ++ [p]).length = s.blockSize w i) :
    s.takeSectors w (init ++ [p]) = (s.modAcc w (·.counted init.length init.flatten)).takeSector w p := by
  rw [List.length_append, List.length_singleton] at h
  rw [State.takeSectors_append, State.takeSectors_of_short ha init (by omega)]
  exact State.takeSectors_singleton _ _ _

/-! ### What the accumulator leaves alone -/

/-- Between `s` and `t` only wave `w`'s accumulator, which still names slot `i`, and slot `i` may have changed. -/
def TakenInto (w : WaveNo) (i : SlotNo) (s t : State) : Prop :=
  (t.acc w).slot = some i ∧ (∀ v, v ≠ w → t.acc v = s.acc v) ∧ ∀ j, j ≠ i → t.image j = s.image j

section
variable {w : WaveNo} {i : SlotNo} {s t : State} (h : TakenInto w i s t)
include h

theorem takenInto_modAcc {f : Accumulator → Accumulator} (hf : (f (t.acc w)).slot = (t.acc w).slot) :
    TakenInto w i s (t.modAcc w f) := by
  obtain ⟨hslot, haccs, himages⟩ := h
  refine ⟨by rw [State.acc_modAcc_self, hf, hslot], fun v hv => ?_, himages⟩
  rw [State.acc_modAcc_of_ne _ _ _ _ hv.symm, haccs v hv]

theorem takenInto_modImage (f : ImageSlot → ImageSlot) : TakenInto w i s (t.modImage i f) := by
  obtain ⟨hslot, haccs, himages⟩ := h
  refine ⟨hslot, haccs, fun j hj => ?_⟩
  rw [State.image_modImage_of_ne _ _ _ _ hj.symm, himages j hj]

theorem takenInto_raise (c : EventClass) (m : Word16) (v : Option EventValue) : TakenInto w i s (t.raise c m v) := by
  obtain ⟨hslot, haccs, himages⟩ := h
  have hkept := changes_raise t c m v
  have haccs' : (t.raise c m v).accs = t.accs := hkept .accs (by simp)
  have himages' : (t.raise c m v).images = t.images := hkept .images (by simp)
  simp only [TakenInto, State.acc, State.image, haccs', himages'] at hslot haccs himages ⊢
  exact ⟨hslot, haccs, himages⟩

theorem takenInto_fillDigest (digest : Word32) (last : Bool) : TakenInto w i s (t.fillDigest i digest last) := by
  unfold State.fillDigest
  dsimp only
  split
  · exact takenInto_raise (takenInto_modImage (takenInto_modImage h _) _) _ _ _
  · exact takenInto_modImage h _

theorem takenInto_takeSector (p : List Byte) : TakenInto w i s (t.takeSector w p).1 := by
  have hcounted := takenInto_modAcc h (f := (·.counted 1 p)) rfl
  unfold State.takeSector
  dsimp only
  rw [h.1]
  dsimp only
  split
  · split
    · exact takenInto_modAcc (takenInto_fillDigest hcounted _ _) rfl
    · split
      · exact takenInto_modAcc hcounted rfl
      · exact takenInto_raise hcounted _ _ _
    · exact h
  · exact hcounted

theorem takenInto_takeSectors (ps : List (List Byte)) : TakenInto w i s (t.takeSectors w ps).1 := by
  induction ps generalizing t with
  | nil => exact h
  | cons p ps ih =>
    have hp := takenInto_takeSector h p
    rw [State.takeSectors]
    rcases hq : t.takeSector w p with ⟨u, conflict⟩
    rw [hq] at hp
    cases conflict with
    | true => exact hp
    | false => exact ih hp

end

/-! ### The end of a block -/

/-- The state that has counted the block's last sector but not yet finished the block. -/
def State.blockCounted (s : State) (w : WaveNo) (ps : List (List Byte)) : State :=
  s.modAcc w (·.counted ps.length ps.flatten)

/-- Where `before` has run through the CRC before the sectors `ps`, the finished CRC is that of the whole block. -/
theorem crcFinish_counted {c : Word32} {before : List Byte} (hc : c = crcRun crcInit before) (bytes : List Byte) :
    crcFinish (crcRun c bytes) = crc32 (before ++ bytes) := by
  rw [hc, ← crcRun_append]
  rfl

section
variable {s : State} {w : WaveNo} {i : SlotNo} {before : List Byte} {ps : List (List Byte)}
  (ha : (s.acc w).slot = some i) (hcrc : (s.acc w).crc = crcRun crcInit before)
  (hshort : (s.acc w).taken < s.blockSize w i) (h : (s.acc w).taken + ps.length = s.blockSize w i)
include ha hcrc hshort h

/-- What the sectors that end a block do (R10, R11), in the terms of the state before them. -/
theorem State.takeSectors_of_block (hm : (s.acc w).mode ≠ .idle) :
    s.takeSectors w ps =
      match (s.acc w).mode with
      | .fill =>
        (((s.blockCounted w ps).fillDigest i (crc32 (before ++ ps.flatten))
          (decide ((s.acc w).block + 1 = blocksOf (s.image i).length))).modAcc w
          (·.advanced (decide ((s.acc w).block + 1 = blocksOf (s.image i).length))), false)
      | .check =>
        if (s.image i).digests[(s.acc w).block]? = some (crc32 (before ++ ps.flatten)) then
          ((s.blockCounted w ps).modAcc w
            (·.advanced (decide ((s.acc w).block + 1 = blocksOf (s.image i).length))), false)
        else ((s.blockCounted w ps).raiseImage i .complete .conflict, true)
      | .idle => (s, false) := by
  obtain ⟨init, p, rfl⟩ : ∃ init p, ps = init ++ [p] :=
    ⟨ps.dropLast, ps.getLast (List.ne_nil_of_length_pos (by omega)), (List.dropLast_append_getLast _).symm⟩
  have hacc : (s.modAcc w (·.counted init.length init.flatten)).acc w = (s.acc w).counted init.length init.flatten :=
    s.acc_modAcc_self w _
  have hsize : (s.modAcc w (·.counted init.length init.flatten)).blockSize w i = s.blockSize w i := by
    rw [State.blockSize, hacc]
    rfl
  have hfull := State.takeSector_of_full (s := s.modAcc w (·.counted init.length init.flatten)) p
    (by rw [hacc]; exact ha) (by
      rw [hsize, hacc, ← h, List.length_append, List.length_singleton, Accumulator.counted]
      dsimp only
      omega)
  have hwhole : (s.modAcc w (·.counted init.length init.flatten)).modAcc w (·.counted 1 p) =
      s.blockCounted w (init ++ [p]) := by
    rw [State.modAcc_modAcc, State.blockCounted]
    simp only [Accumulator.counted_counted, List.length_append, List.length_singleton, List.flatten_append,
      List.flatten_singleton]
  have hdigest : crcFinish (crcRun ((s.acc w).counted init.length init.flatten).crc p) =
      crc32 (before ++ (init ++ [p]).flatten) := by
    rw [Accumulator.counted, ← crcRun_append, crcFinish_counted hcrc, List.flatten_append, List.flatten_singleton]
  rw [State.takeSectors_of_full ha init p h, hfull, hacc, hwhole, hdigest]
  have hmode : ((s.acc w).counted init.length init.flatten).mode = (s.acc w).mode := rfl
  rw [hmode]
  cases hmode : (s.acc w).mode with
  | idle => exact absurd hmode hm
  | fill => rfl
  | check => rfl

/-- In FILL mode the finished CRC joins the digest table (R10). -/
theorem State.takeSectors_fill (hm : (s.acc w).mode = .fill) :
    s.takeSectors w ps =
      (((s.blockCounted w ps).fillDigest i (crc32 (before ++ ps.flatten))
          (decide ((s.acc w).block + 1 = blocksOf (s.image i).length))).modAcc w
          (·.advanced (decide ((s.acc w).block + 1 = blocksOf (s.image i).length))), false) := by
  rw [State.takeSectors_of_block ha hcrc hshort h (by simp [hm]), hm]

/-- In CHECK mode the finished CRC is compared with the stored digest (R11). -/
theorem State.takeSectors_check (hm : (s.acc w).mode = .check) :
    s.takeSectors w ps =
      if (s.image i).digests[(s.acc w).block]? = some (crc32 (before ++ ps.flatten)) then
        ((s.blockCounted w ps).modAcc w
          (·.advanced (decide ((s.acc w).block + 1 = blocksOf (s.image i).length))), false)
      else ((s.blockCounted w ps).raiseImage i .complete .conflict, true) := by
  rw [State.takeSectors_of_block ha hcrc hshort h (by simp [hm]), hm]

end

theorem changes_blockCounted (s : State) (w : WaveNo) (ps : List (List Byte)) : Changes [.accs] s (s.blockCounted w ps) :=
  changes_modAcc s w _

theorem State.blockCounted_acc (s : State) (w : WaveNo) (ps : List (List Byte)) :
    (s.blockCounted w ps).acc w = (s.acc w).counted ps.length ps.flatten := s.acc_modAcc_self w _

/-- The next block's accumulator (R8 step 3). -/
theorem Accumulator.advanced_counted (a : Accumulator) (n : Nat) (bytes : List Byte) :
    (a.counted n bytes).advanced false = { a with block := a.block + 1, taken := 0, crc := crcInit } := rfl

theorem State.fillDigest_digests (s : State) (i : SlotNo) (digest : Word32) (last : Bool) :
    ((s.fillDigest i digest last).image i).digests = (s.image i).digests ++ [digest] := by
  cases last <;> simp [State.fillDigest]

/-- The last digest makes the slot COMPLETE (R10). -/
theorem State.fillDigest_last (s : State) (i : SlotNo) (digest : Word32) :
    ((s.fillDigest i digest true).image i).state = .complete ∧
      ((s.fillDigest i digest true).image i).fillingWave = none ∧
      RaisedOnly .imageState 0 (some (.image i .complete .filled)) s (s.fillDigest i digest true) := by
  refine ⟨by simp [State.fillDigest], by simp [State.fillDigest], ?_⟩
  exact raisedOnly_raise_of_events (u := (s.modImage i _).modImage i _) rfl _ _ _

/-- Settles O17. -/
theorem blockDigest : Obligations.BlockDigest := by
  refine ⟨fun s w i before ps => ?_, State.takeSectors_append⟩
  intro a size ha hcrc hshort t conflict digest last next
  obtain ⟨-, haccs, himages⟩ : TakenInto w i s t := takenInto_takeSectors ⟨ha, fun _ _ => rfl, fun _ _ => rfl⟩ ps
  refine ⟨haccs, himages, (changes_takeSectors s w ps).mono (by simp), fun hmore => ?_, fun hfull =>
    ⟨fun hm => ?fill, fun hm => ?check⟩⟩
  · have hps := State.takeSectors_of_short ha ps hmore
    refine ⟨by simp [conflict, hps], ?_, by rw [show t = s.blockCounted w ps from congrArg Prod.fst hps]; exact changes_blockCounted s w ps⟩
    simp only [t, hps, State.acc_modAcc_self, Accumulator.counted, crcRun_append, ← hcrc]
    rfl
  case fill =>
    have hps := State.takeSectors_fill ha hcrc hshort hfull hm
    have ht : t = ((s.blockCounted w ps).fillDigest i digest (decide last)).modAcc w (·.advanced (decide last)) :=
      congrArg Prod.fst hps
    have himage : t.image i = ((s.blockCounted w ps).fillDigest i digest (decide last)).image i := by
      rw [ht]
      rfl
    refine ⟨by simp [conflict, hps], by rw [himage, State.fillDigest_digests]; rfl, fun hl => ?_, fun hl => ?_⟩
    · rw [himage, decide_eq_true hl]
      obtain ⟨hstate, hfilling, hraised⟩ := (s.blockCounted w ps).fillDigest_last i digest
      refine ⟨hstate, hfilling, ?_⟩
      rw [ht, decide_eq_true hl]
      exact hraised
    · rw [decide_eq_false hl] at ht himage
      have hunfilled : (s.blockCounted w ps).fillDigest i digest false =
        (s.blockCounted w ps).modImage i (fun x => { x with digests := x.digests ++ [digest] }) := rfl
      rw [hunfilled] at ht himage
      refine ⟨?_, ?_, ?_⟩
      · have hacc : t.acc w = ((s.blockCounted w ps).acc w).advanced false := by
          rw [ht, State.acc_modAcc_self]
          rfl
        rw [hacc, State.blockCounted_acc]
        exact Accumulator.advanced_counted a _ _
      · rw [himage, State.image_modImage_self]
        rfl
      · have hcounted : Changes [.images, .accs] s (s.blockCounted w ps) := (changes_blockCounted s w ps).mono (by simp)
        rw [ht]
        exact (hcounted.trans ((changes_modImage _ i _).mono (by simp))).trans ((changes_modAcc _ w _).mono (by simp))
  case check =>
    have hps := State.takeSectors_check ha hcrc hshort hfull hm
    by_cases hd : (s.image i).digests[a.block]? = some digest
    · rw [if_pos hd] at hps
      have ht : t = (s.blockCounted w ps).modAcc w (·.advanced (decide last)) := congrArg Prod.fst hps
      have hno : ¬ conflict := by simp [conflict, hps]
      refine ⟨⟨fun hc => absurd hc hno, fun hne => absurd hd hne⟩, by rw [ht]; rfl, fun hc => absurd hc hno, fun _ =>
        ⟨?_, fun hl => ?_⟩⟩
      · rw [ht]
        exact (changes_blockCounted s w ps).trans (changes_modAcc _ w _)
      · rw [ht, decide_eq_false hl, State.acc_modAcc_self, State.blockCounted_acc]
        exact Accumulator.advanced_counted a _ _
    · rw [if_neg hd] at hps
      have ht : t = (s.blockCounted w ps).raiseImage i .complete .conflict := congrArg Prod.fst hps
      have hyes : conflict := congrArg Prod.snd hps
      refine ⟨⟨fun _ => hd, fun _ => hyes⟩, ?_, fun _ => ?_, fun hc => absurd hyes hc⟩
      · rw [ht, Untouched.raiseImage_image]
        rfl
      · rw [ht]
        exact raisedOnly_raise_of_events (u := s.blockCounted w ps) rfl _ _ _

end Sys2Proof.Machine
end

section
/-! The release rule (R31 to R33; O18). -/

namespace Sys2Proof.Machine

/-! ### What may be released (R31) -/

theorem Wave.passedBy_iff (x : Wave) (e : HeldEntry) :
    x.passedBy e = true ↔ x.attachments ≠ [] ∧ ∀ a ∈ x.attachments, e.last < a.cursor := by
  simp [Wave.passedBy]

theorem Wave.releasable_le (x : Wave) : x.releasable ≤ x.held.length := (List.takeWhile_prefix _).length_le

theorem Wave.take_releasable (x : Wave) : x.held.take x.releasable = x.held.takeWhile x.passedBy :=
  (List.prefix_iff_eq_take.mp (List.takeWhile_prefix _)).symm

theorem Wave.drop_releasable (x : Wave) : x.held.drop x.releasable = x.held.dropWhile x.passedBy := by
  have h : x.held.takeWhile x.passedBy ++ x.held.dropWhile x.passedBy = x.held := List.takeWhile_append_dropWhile
  conv_lhs => rw [← h, Wave.releasable, List.drop_left]

/-- Every released entry has been passed by every attached cursor. -/
theorem Wave.passedBy_of_mem_take {x : Wave} {e : HeldEntry} (h : e ∈ x.held.take x.releasable) : x.passedBy e = true := by
  rw [Wave.take_releasable] at h
  exact List.mem_takeWhile_imp h

/-- The oldest entry that stays has not. -/
theorem Wave.not_passedBy_of_head {x : Wave} {e : HeldEntry} (h : (x.held.drop x.releasable).head? = some e) :
    ¬ x.passedBy e = true := by
  rw [Wave.drop_releasable] at h
  have := List.head?_dropWhile_not x.passedBy x.held
  rw [h] at this
  simpa using this

/-! ### The steps of a release (R31 to R33) -/

/-- A wave whose join gate the first release has closed (R32). -/
def Wave.gateClosed (x : Wave) : Wave := { x with state := if x.state = .opened then .streaming else x.state }

/-- A wave whose releases have been credited when a credit frame was due (R33). -/
def Wave.creditSent (x : Wave) : Wave := { x with lastCredited := if x.creditDue then x.releasedTotal else x.lastCredited }

section
variable (s : State) (w : WaveNo)

theorem State.closeGate_wave_self : (s.closeGate w).wave w = (s.wave w).gateClosed := by
  unfold State.closeGate Wave.gateClosed
  split
  · next h => simp
  · next h => simp

theorem State.closeGate_wave_of_ne {v : WaveNo} (h : v ≠ w) : (s.closeGate w).wave v = s.wave v := by
  unfold State.closeGate
  split
  · simp [State.wave_modWave_of_ne _ _ _ _ h.symm]
  · rfl

theorem State.closeGate_outbound :
    (s.closeGate w).outbound = s.outbound ++ (if (s.wave w).state = .opened then s.placedBy .waveState else []) := by
  unfold State.closeGate
  split
  · exact State.raise_outbound (s.modWave w _) _ _ _
  · exact (List.append_nil _).symm

theorem State.closeGate_waveState :
    (s.closeGate w).event .waveState = if (s.wave w).state = .opened then
      (s.event .waveState).waveRaised w .streaming .gateClosed else s.event .waveState := by
  unfold State.closeGate
  split
  · exact State.raise_event (s.modWave w _) _ _ _
  · rfl

theorem State.closeGate_event_of_ne {k : EventClass} (h : k ≠ .waveState) : (s.closeGate w).event k = s.event k := by
  unfold State.closeGate
  split
  · exact State.raise_event_of_ne (s.modWave w _) _ _ h
  · rfl

theorem State.creditIfDue_wave_self : (s.creditIfDue w).wave w = (s.wave w).creditSent := by
  unfold State.creditIfDue State.sendCredit Wave.creditSent
  split
  · simp [State.emit]
  · rfl

theorem State.creditIfDue_wave_of_ne {v : WaveNo} (h : v ≠ w) : (s.creditIfDue w).wave v = s.wave v := by
  unfold State.creditIfDue State.sendCredit
  split
  · simp [State.emit, State.wave_modWave_of_ne _ _ _ _ h.symm]
  · rfl

theorem State.creditIfDue_outbound :
    (s.creditIfDue w).outbound = s.outbound ++
      (if (s.wave w).creditDue then [.credit w (s.wave w).releasedTotal (s.wave w).head] else []) := by
  unfold State.creditIfDue
  split
  · rfl
  · exact (List.append_nil _).symm

theorem State.creditIfDue_event (k : EventClass) : (s.creditIfDue w).event k = s.event k := by
  unfold State.creditIfDue
  split <;> rfl

end

/-- The wave after `n` releases, `n` above 0. -/
def Wave.afterRelease (x : Wave) : Wave := ((x.released x.releasable).gateClosed).creditSent

section
variable (s : State) (w : WaveNo)

theorem State.releaseRule_of_none (h : (s.wave w).releasable = 0) : s.releaseRule w = s := if_pos h

theorem State.releaseRule_of_some (h : (s.wave w).releasable ≠ 0) :
    s.releaseRule w = ((s.modWave w (·.released (s.wave w).releasable)).closeGate w).creditIfDue w := if_neg h

theorem State.releaseRule_wave_self (h : (s.wave w).releasable ≠ 0) :
    (s.releaseRule w).wave w = (s.wave w).afterRelease := by
  rw [State.releaseRule_of_some s w h, State.creditIfDue_wave_self, State.closeGate_wave_self, State.wave_modWave_self]
  rfl

theorem State.releaseRule_wave_of_ne {v : WaveNo} (h : v ≠ w) : (s.releaseRule w).wave v = s.wave v := by
  by_cases hn : (s.wave w).releasable = 0
  · rw [State.releaseRule_of_none s w hn]
  · rw [State.releaseRule_of_some s w hn, State.creditIfDue_wave_of_ne _ _ h, State.closeGate_wave_of_ne _ _ h,
      State.wave_modWave_of_ne _ _ _ _ h.symm]

/-- The frames of a release: the closing gate's EVENT frame, then the credit frame when it is due. -/
theorem State.releaseRule_outbound (h : (s.wave w).releasable ≠ 0) :
    (s.releaseRule w).outbound = s.outbound ++ (if (s.wave w).state = .opened then s.placedBy .waveState else []) ++
      (if ((s.wave w).released (s.wave w).releasable).gateClosed.creditDue then
        [.credit w ((s.wave w).releasedTotal + (s.wave w).releasable) (s.wave w).head] else []) := by
  rw [State.releaseRule_of_some s w h, State.creditIfDue_outbound, State.closeGate_outbound, State.closeGate_wave_self,
    State.wave_modWave_self]
  rfl

/-- The release rule raises at most WAVE-STATE, at the first release of an OPEN wave (R32). -/
theorem State.releaseRule_waveState :
    (s.releaseRule w).event .waveState = if (s.wave w).releasable ≠ 0 ∧ (s.wave w).state = .opened then
      (s.event .waveState).waveRaised w .streaming .gateClosed else s.event .waveState := by
  by_cases hn : (s.wave w).releasable = 0
  · rw [State.releaseRule_of_none s w hn, if_neg (fun h => h.1 hn)]
  · rw [State.releaseRule_of_some s w hn, State.creditIfDue_event, State.closeGate_waveState, State.wave_modWave_self]
    simp only [hn, ne_eq, not_false_eq_true, true_and]
    rfl

theorem State.releaseRule_event_of_ne {k : EventClass} (h : k ≠ .waveState) : (s.releaseRule w).event k = s.event k := by
  by_cases hn : (s.wave w).releasable = 0
  · rw [State.releaseRule_of_none s w hn]
  · rw [State.releaseRule_of_some s w hn, State.creditIfDue_event, State.closeGate_event_of_ne _ _ h]
    rfl

end

theorem Wave.creditDue_iff (x : Wave) :
    x.creditDue = true ↔ 256 ≤ x.releasedTotal - x.lastCredited ∨ (x.held = [] ∧ x.lastCredited < x.releasedTotal) := by
  have hstep : Config.creditStep = 256 := rfl
  rw [Wave.creditDue, Bool.or_eq_true, Bool.and_eq_true, decide_eq_true_iff, decide_eq_true_iff, List.isEmpty_iff, hstep]

/-- Settles O18. -/
theorem releaseRule : Obligations.ReleaseRule := by
  intro s w x t y
  have hstay (e : HeldEntry) (he : (x.held.drop x.releasable).head? = some e) :
      x.attachments = [] ∨ ∃ a ∈ x.attachments, a.cursor ≤ e.last := by
    have hnot := mt (x.passedBy_iff e).mpr (Wave.not_passedBy_of_head he)
    by_contra hc
    push Not at hc
    exact hnot hc
  have hpassed (e : HeldEntry) (he : e ∈ x.held.take x.releasable) :
      x.attachments ≠ [] ∧ ∀ a ∈ x.attachments, e.last < a.cursor :=
    (x.passedBy_iff e).mp (Wave.passedBy_of_mem_take he)
  by_cases hn : x.releasable = 0
  · have ht : t = s := State.releaseRule_of_none s w hn
    have hy : y = x := congrArg (fun u : State => u.wave w) ht
    rw [hn] at hstay hpassed
    rw [hy, ht]
    exact ⟨0, Nat.zero_le _, rfl, rfl, rfl, hpassed, hstay, rfl, fun _ => rfl, fun h => absurd h (Nat.lt_irrefl 0),
      fun _ _ => rfl, Changes.refl s⟩
  · have hy : y = x.afterRelease := State.releaseRule_wave_self s w hn
    refine ⟨x.releasable, x.releasable_le, by rw [hy]; rfl, by rw [hy]; rfl, by rw [hy]; rfl, hpassed, ?_,
      by rw [hy]; rfl, fun h => absurd h hn, fun _ => ⟨by rw [hy]; rfl, by rw [hy]; rfl, ?_⟩,
      fun v hv => State.releaseRule_wave_of_ne s w hv, (changes_releaseRule s w).mono (by simp)⟩
    · rw [hy]
      exact hstay
    · have hout := State.releaseRule_outbound s w hn
      have hdue := ((x.released x.releasable).gateClosed).creditDue_iff
      rw [hy]
      split
      · next h =>
        rw [if_pos (hdue.mpr h)] at hout
        exact ⟨if_pos (hdue.mpr h), hout⟩
      · next h =>
        rw [if_neg (mt hdue.mp h), List.append_nil] at hout
        exact ⟨if_neg (mt hdue.mp h), hout⟩

end Sys2Proof.Machine
end

section
/-! How a drive goes to FAULTED (R64): what the detach of one drive and the context rule leave of it, its tray record,
and `FaultedWith` for the end of any request. -/

namespace Sys2Proof.Machine

/-! ### Records that keep all but their use -/

/-- Of the disc records at most the use differs (R130, R144, R147). -/
def UseOnly (s t : State) : Prop := ∀ n, ∃ u, t.record n = { s.record n with use := u }

theorem UseOnly.of_records {s t : State} (h : t.records = s.records) : UseOnly s t :=
  fun n => ⟨(s.record n).use, State.record_congr h n⟩

theorem UseOnly.trans {s t u : State} (hst : UseOnly s t) (htu : UseOnly t u) : UseOnly s u := fun n => by
  obtain ⟨a, ha⟩ := hst n
  obtain ⟨b, hb⟩ := htu n
  exact ⟨b, hb.trans (by rw [ha])⟩

theorem useOnly_arbiter (s : State) : UseOnly s s.arbiter := s.arbiter_record

theorem useOnly_returnSetAside (s : State) (m : Option RecNo) : UseOnly s (s.returnSetAside m) := fun n => by
  cases m with
  | none => exact ⟨_, rfl⟩
  | some m =>
    by_cases h : m = n
    · subst h
      refine ⟨if (s.record m).use = .setAside then .free else (s.record m).use, ?_⟩
      rw [State.returnSetAside, State.record_modRecord_self]
      split <;> rfl
    · exact ⟨_, s.record_modRecord_of_ne m n _ h⟩

theorem useOnly_retire (s : State) (e : Entry) : UseOnly s (s.retire e) := by
  have hq : UseOnly s (s.setQueue (s.queue.erase e)) := .of_records rfl
  refine hq.trans ((useOnly_returnSetAside _ e.setAside).trans (.of_records ?_))
  unfold State.retire
  dsimp only
  split
  · exact (changes_printerTray _) .records (by simp)
  · exact (changes_printerTray _) .records (by simp)

theorem useOnly_dropEntry (s : State) (d : Drive) : UseOnly s (s.dropEntry d) := by
  unfold State.dropEntry
  split
  · split
    · exact (useOnly_retire s _).trans (.of_records ((changes_unreserve _ _) .records (by simp)))
    · exact .of_records rfl
  · exact .of_records rfl

/-! ### One drive's detach (R36, R37) -/

/-- What follows the drive's side in a detach: DETACH, the release rule, and the end of a wave left without held
sectors or without drives. -/
def State.afterDetach (s : State) (w : WaveNo) (d : Drive) : State :=
  (((s.raiseDetach w (bitMask d.val)).releaseRule w).drainedCheck w).abortIfEmpty w

theorem State.detachOne_of_attached {s : State} {d : Drive} {w : WaveNo} (h : s.waveOf d = some w)
    (side : State → State) : s.detachOne d side = (side (s.unattach w d)).afterDetach w d := by
  simp only [State.detachOne, h, State.afterDetach]

theorem State.detachOne_of_unattached {s : State} {d : Drive} (h : s.waveOf d = none) (side : State → State) :
    s.detachOne d side = side s := by
  simp only [State.detachOne, h]

/-- The abort of a wave without attachments touches no drive and no disc. -/
theorem changes_abortWave_of_empty {s : State} {w : WaveNo} (h : (s.wave w).attachments = []) (c : AbortCause) :
    Changes [.images, .accs, .waves, .outbound, .events] s (s.abortWave w c) := by
  have hdetached : s.detachedForAbort w c = s.modWave w (fun x => { x with timerRunning := false }) := by
    simp [State.detachedForAbort, Wave.drives, h, State.detachAll, State.tellDetach]
  rw [State.abortWave_eq, hdetached]
  exact (((changes_modWave s w _).mono (by simp)).trans ((changes_modWave _ w _).mono (by simp))).trans
    (((changes_waveEndAtImage _ w _ _).mono (by simp)).trans ((changes_raise _ _ _ _).mono (by simp)))

theorem changes_abortIfEmpty_waveSide (s : State) (w : WaveNo) :
    Changes [.images, .accs, .waves, .outbound, .events] s (s.abortIfEmpty w) := by
  unfold State.abortIfEmpty
  split
  next h => exact changes_abortWave_of_empty h.1 _
  next => exact Changes.refl _

/-- The wave's side of a detach touches no drive and no disc. -/
theorem changes_afterDetach (s : State) (w : WaveNo) (d : Drive) :
    Changes [.images, .accs, .waves, .outbound, .events] s (s.afterDetach w d) :=
  (((changes_raiseDetach s w _).mono (by simp)).trans ((changes_releaseRule _ w).mono (by simp))).trans
    (((changes_drainedCheck _ w).mono (by simp)).trans (changes_abortIfEmpty_waveSide _ w))

/-- A detach shows at the drives as the drive's side alone. -/
theorem State.detachOne_drives {s : State} {d : Drive} {side : State → State}
    (h : ∀ w, (side (s.unattach w d)).drives = (side s).drives) : (s.detachOne d side).drives = (side s).drives := by
  cases hw : s.waveOf d with
  | none => rw [State.detachOne_of_unattached hw]
  | some w => rw [State.detachOne_of_attached hw, (changes_afterDetach _ w d) .drives (by simp), h]

/-- A detach shows at a disc record as the drive's side alone. -/
theorem State.detachOne_record {s : State} {d : Drive} {side : State → State} {n : RecNo}
    (h : ∀ w, (side (s.unattach w d)).record n = (side s).record n) :
    (s.detachOne d side).record n = (side s).record n := by
  cases hw : s.waveOf d with
  | none => rw [State.detachOne_of_unattached hw]
  | some w => rw [State.detachOne_of_attached hw, State.record_congr ((changes_afterDetach _ w d) .records (by simp)), h]

theorem State.failBurn_unattach_record (s : State) (w : WaveNo) (d e : Drive) (c : FailCause) (n : RecNo) :
    ((s.unattach w e).failBurn d c).record n = (s.failBurn d c).record n := by
  have hholds : (s.unattach w e).holds d n = s.holds d n := rfl
  rw [State.failBurn_record, State.failBurn_record, hholds]
  rfl

/-! ### The context rule (R103) -/

/-- The context that takes the queue's head: its new holder has sent its first READ (R103, R105). -/
def State.headTaken (s : State) (c : Fin 4) (d : Drive) (rest : List Drive) : State :=
  ((s.setVerifyQueue rest).modSave d (fun v => { v with sub := .active })).setContext c
    (some { drive := d, work := (s.save d).progress, slice := 0, reading := none })

theorem State.takeContext_of_free {s : State} {c : Fin 4} {d : Drive} {rest : List Drive} (hc : s.freeContext = some c)
    (hq : s.verifyQueue = d :: rest) : s.takeContext = (s.headTaken c d rest).readSend c := by
  simp only [State.takeContext, hc, hq, State.headTaken]

theorem State.takeContext_of_busy {s : State} (h : s.freeContext = none) : s.takeContext = s := by
  simp only [State.takeContext, h]

theorem State.takeContext_of_nil {s : State} (h : s.verifyQueue = []) : s.takeContext = s := by
  unfold State.takeContext
  split
  next hq => simp [h] at hq
  next => rfl

/-- What a context sends next is asked for on its drive's port (R105). -/
theorem State.readSend_of_some {s : State} {c : Fin 4} {x : Context} (h : s.context c = some x) :
    s.readSend c = (s.modContext c (fun y => { y with
      reading := some ⟨x.work.next, (s.save x.drive).readBlocks x.work.next⟩ })).askDrive x.drive
        (.read (16 * x.work.next) ((s.save x.drive).readCount x.work.next)) := by
  simp only [State.readSend, h]

/-- A drive that does not wait in the queue is asked for nothing when its head takes a context. -/
theorem State.takeContext_drive {s : State} {d : Drive} (h : d ∉ s.verifyQueue) :
    s.takeContext.drive d = s.drive d ∧ d ∉ s.takeContext.verifyQueue := by
  cases hc : s.freeContext with
  | none => rw [State.takeContext_of_busy hc]; exact ⟨rfl, h⟩
  | some c =>
    cases hq : s.verifyQueue with
    | nil => rw [State.takeContext_of_nil hq]; exact ⟨rfl, h⟩
    | cons e rest =>
      have hmem : d ≠ e ∧ d ∉ rest := by simpa [hq] using h
      have hholder : (s.headTaken c e rest).context c =
          some { drive := e, work := (s.save e).progress, slice := 0, reading := none } := by
        simp [State.headTaken, State.context_setContext]
      rw [State.takeContext_of_free hc hq, State.readSend_of_some hholder, State.askDrive_drive_of_ne _ _ hmem.1]
      refine ⟨rfl, ?_⟩
      rw [(changes_askDrive _ _ _) .verifyQueue (by simp)]
      exact hmem.2

theorem State.contextRule_drive {s : State} {d : Drive} (h : d ∉ s.verifyQueue) : s.contextRule.drive d = s.drive d :=
  (List.foldlRecOn (motive := fun t : State => t.drive d = s.drive d ∧ d ∉ t.verifyQueue) s.verifyQueue
    (fun t _ => t.takeContext) ⟨rfl, h⟩
    (fun _ ⟨hdrive, hqueue⟩ _ _ =>
      ⟨(State.takeContext_drive hqueue).1.trans hdrive, (State.takeContext_drive hqueue).2⟩)).1

theorem State.contextRule_of_nil {s : State} (h : s.verifyQueue = []) : s.contextRule = s := by
  rw [State.contextRule, h]
  rfl

theorem State.contextRule_of_busy {s : State} (h : s.freeContext = none) : s.contextRule = s :=
  List.foldlRecOn (motive := fun t : State => t = s) s.verifyQueue (fun t _ => t.takeContext) rfl
    (fun _ ht _ _ => by rw [ht, State.takeContext_of_busy h])

theorem State.freeContext_eq_none_iff (s : State) : s.freeContext = none ↔ ∀ c, s.context c ≠ none := by
  simp [State.freeContext, allContexts]

theorem State.freeContext_of_lowest {s : State} {c : Fin 4} (hc : s.context c = none)
    (hlow : ∀ b, b < c → s.context b ≠ none) : s.freeContext = some c := by
  rw [State.freeContext, allContexts, ← Fin.find?_eq_find?_finRange, Fin.find?_eq_some_iff]
  exact ⟨by simp [hc], fun b hb => by simpa [Option.isSome_iff_ne_none] using hlow b hb⟩

section
variable {s : State} {c : Fin 4} {q : Drive} {rest : List Drive}

theorem State.headTaken_context_self : (s.headTaken c q rest).context c =
    some { drive := q, work := (s.save q).progress, slice := 0, reading := none } := by
  simp [State.headTaken, State.context_setContext]

theorem State.headTaken_save (e : Drive) :
    (s.headTaken c q rest).save e = if e = q then { s.save q with sub := .active } else s.save e := by
  by_cases h : e = q
  · subst h; simp [State.headTaken]
  · simp [State.headTaken, State.save_modSave_of_ne _ _ _ _ (Ne.symm h), h]

/-- The head of the queue has taken context `c` and its READ is under way. -/
def State.headReads (s : State) (c : Fin 4) (q : Drive) (rest : List Drive) : State :=
  (s.headTaken c q rest).readSend c

theorem State.headReads_eq : s.headReads c q rest =
    ((s.headTaken c q rest).modContext c (fun y => { y with
      reading := some ⟨(s.save q).progress.next, (s.save q).readBlocks (s.save q).progress.next⟩ })).askDrive q
        (.read (16 * (s.save q).progress.next) ((s.save q).readCount (s.save q).progress.next)) := by
  rw [State.headReads, State.readSend_of_some State.headTaken_context_self, State.headTaken_save, if_pos rfl]
  simp only [VerifySave.readBlocks, VerifySave.readCount]

theorem State.headReads_context_self : (s.headReads c q rest).context c =
    some { drive := q, work := (s.save q).progress, slice := 0,
           reading := some ⟨(s.save q).progress.next, (s.save q).readBlocks (s.save q).progress.next⟩ } := by
  rw [State.headReads_eq, State.context_congr ((changes_askDrive _ q _) .contexts (by simp)), State.modContext,
    State.context_setContext, if_pos rfl, State.headTaken_context_self]
  rfl

theorem State.headReads_context_of_ne {b : Fin 4} (h : b ≠ c) : (s.headReads c q rest).context b = s.context b := by
  rw [State.headReads_eq, State.context_congr ((changes_askDrive _ q _) .contexts (by simp)), State.modContext,
    State.context_setContext, if_neg h.symm, State.headTaken, State.context_setContext, if_neg h.symm]
  rfl

theorem State.headReads_verifyQueue : (s.headReads c q rest).verifyQueue = rest := by
  rw [State.headReads_eq, (changes_askDrive _ q _) .verifyQueue (by simp)]
  rfl

theorem State.headReads_save (e : Drive) :
    (s.headReads c q rest).save e = if e = q then { s.save q with sub := .active } else s.save e := by
  rw [State.headReads_eq, State.save_congr ((changes_askDrive _ q _) .saves (by simp))]
  exact State.headTaken_save (c := c) (rest := rest) e

/-- With one context FREE the context rule ends when the queue's head has taken it. -/
theorem State.contextRule_of_one_free (hq : s.verifyQueue = q :: rest) (hc : s.context c = none)
    (hothers : ∀ b, b ≠ c → s.context b ≠ none) : s.contextRule = s.headReads c q rest := by
  have hfree : s.freeContext = some c := State.freeContext_of_lowest hc (fun b hb => hothers b hb.ne)
  have hbusy : (s.headReads c q rest).freeContext = none := by
    rw [State.freeContext_eq_none_iff]
    intro b
    by_cases h : b = c
    · rw [h, State.headReads_context_self]; simp
    · rw [State.headReads_context_of_ne h]; exact hothers b h
  rw [State.contextRule, hq, List.foldl_cons, State.takeContext_of_free hfree hq]
  exact List.foldlRecOn (motive := fun t : State => t = s.headReads c q rest) rest (fun t _ => t.takeContext) rfl
    (fun _ ht _ _ => by rw [ht, State.takeContext_of_busy hbusy])

end

/-! ### Leaving a verify (R109, R113) -/

section
variable (s : State) (d : Drive) (e : LastEnding)

theorem State.leaveVerify_verifyQueue : (s.leaveVerify d e).verifyQueue = s.verifyQueue.filter (fun x => decide (x ≠ d)) := by
  have h : (s.giveBack d).verifyQueue = s.verifyQueue := (changes_giveBack s d) .verifyQueue (by simp)
  exact congrArg (List.filter _) h

theorem State.notMem_leaveVerify : d ∉ (s.leaveVerify d e).verifyQueue := by
  simp [State.leaveVerify_verifyQueue]

variable {s d} {c : Fin 4} {y : Context}

theorem State.leaveVerify_of_context (hc : s.contextOf d = some c) (hy : s.context c = some y) :
    s.leaveVerify d e = (((s.modSave d (fun v => { v with progress := y.work })).setContext c none).leaveQueue d).modSave d
      (fun v => { v with sub := .outside, lastEnding := e }) := by
  simp only [State.leaveVerify, State.giveBack, hc, hy]

theorem State.leaveVerify_save (hc : s.contextOf d = some c) (hy : s.context c = some y) :
    (s.leaveVerify d e).save d = { s.save d with progress := y.work, sub := .outside, lastEnding := e } := by
  rw [State.leaveVerify_of_context e hc hy, State.save_modSave_self, State.leaveQueue, State.save_setVerifyQueue',
    State.save_setContext', State.save_modSave_self]

theorem State.leaveVerify_context (hc : s.contextOf d = some c) (hy : s.context c = some y) (b : Fin 4) :
    (s.leaveVerify d e).context b = if b = c then none else s.context b := by
  rw [State.leaveVerify_of_context e hc hy, State.context_modSave', State.leaveQueue, State.context_setVerifyQueue',
    State.context_setContext]
  by_cases h : b = c
  · rw [if_pos h, if_pos h.symm]
  · rw [if_neg h, if_neg (Ne.symm h)]
    rfl

end

/-! ### The way to FAULTED (R64) -/

/-- The first half of R64: the drive is FAULTED, nothing waits on its port and its disc has the cause. -/
def State.faultStarted (s : State) (d : Drive) : State :=
  ((s.modDrive d (fun x => { x with state := .faulted, phase := .noPhase, checkPhase := .idle })).dropWaiting d).giveCause
    (s.drive d).trayRecord .driveFault

/-- The last half of R64, after the drive's work has let it go. -/
def State.faultSettled (s : State) (d : Drive) : State :=
  (((s.dropEntry d).modDrive d (fun x => { x with entry := none })).raiseDrive d).loadDecision

theorem State.driveFaulted_eq (s : State) (d : Drive) :
    s.driveFaulted d = ((s.faultStarted d).faultWork d (s.drive d).state).faultSettled d := rfl

/-- A drive gone to FAULTED, its entry still named. -/
def DriveSlot.toFaulted (x : DriveSlot) : DriveSlot :=
  { x.unwaited with state := .faulted, phase := .noPhase, checkPhase := .idle }

section
variable (s : State) (d : Drive)

theorem State.faultStarted_drive : (s.faultStarted d).drive d = (s.drive d).toFaulted := by
  rw [State.faultStarted, Untouched.giveCause_drive, State.dropWaiting_drive, State.drive_modDrive_self]
  rfl

theorem State.faultStarted_drive_of_ne {e : Drive} (h : e ≠ d) : (s.faultStarted d).drive e = s.drive e := by
  rw [State.faultStarted, Untouched.giveCause_drive, State.dropWaiting_drive_of_ne _ h,
    State.drive_modDrive_of_ne _ _ _ _ h.symm]

theorem State.faultStarted_record (n : RecNo) : (s.faultStarted d).record n =
    if s.holds d n then (s.record n).addCause .driveFault else s.record n := by
  have hrecord : ∀ m, ((s.modDrive d (fun x => { x with state := .faulted, phase := .noPhase, checkPhase := .idle
      })).dropWaiting d).record m = s.record m :=
    fun m => State.record_congr ((changes_dropWaiting _ d) .records (by simp)) m
  rw [State.faultStarted, State.giveCause, State.writeRecordO_record, hrecord,
    State.names_congr (s := s) (fun m => by rw [hrecord]) (fun m => by rw [hrecord])]
  rfl

theorem State.faultStarted_event_of_ne {k : EventClass} (h : k ≠ .applyDone) :
    (s.faultStarted d).event k = s.event k := by
  rw [State.faultStarted, Untouched.giveCause_event, State.dropWaiting_event_of_ne _ _ h]
  rfl

theorem changes_faultStarted : Changes [.drives, .records, .outbound, .events] s (s.faultStarted d) :=
  ((changes_modDrive s d _).mono (by simp)).trans
    (((changes_dropWaiting _ d).mono (by simp)).trans ((changes_giveCause _ _ _).mono (by simp)))

theorem changes_faultSettled :
    Changes [.drives, .orders, .records, .queue, .transport, .printer, .outbound, .events] s (s.faultSettled d) :=
  (((changes_dropEntry s d).mono (by simp)).trans ((changes_modDrive _ d _).mono (by simp))).trans
    (((changes_raiseDrive _ d).mono (by simp)).trans ((changes_loadDecision _).mono (by simp)))

theorem State.faultSettled_drive (h : (s.drive d).state = .faulted) :
    (s.faultSettled d).drive d = { s.drive d with entry := none } := by
  have hslot : (((s.dropEntry d).modDrive d (fun x => { x with entry := none })).raiseDrive d).drive d =
      { s.drive d with entry := none } := by
    rw [State.drive_congr ((changes_raiseDrive _ d) .drives (by simp)), State.drive_modDrive_self,
      State.drive_congr ((changes_dropEntry s d) .drives (by simp))]
  rw [State.faultSettled, State.loadDecision_drive_of_not_empty (by rw [hslot]; simp [h]), hslot]

theorem useOnly_faultSettled : UseOnly s (s.faultSettled d) :=
  (useOnly_dropEntry s d).trans (.of_records (by
    unfold State.faultSettled
    rw [(changes_loadDecision _) .records (by simp), (changes_raiseDrive _ d) .records (by simp)]
    rfl))

theorem State.faultSettled_event_of_ne {k : EventClass} (ha : k ≠ .applyDone) (hd : k ≠ .driveState) :
    (s.faultSettled d).event k = s.event k := by
  rw [State.faultSettled, State.loadDecision_event_of_ne _ ha hd, State.raiseDrive, State.raise_event_of_ne _ _ _ hd,
    State.event_modDrive', State.event_congr ((changes_dropEntry s d) .events (by simp))]

end

/-! ### The drive's work at the way to FAULTED -/

theorem State.failBurn_drive (s : State) (d e : Drive) (c : FailCause) : (s.failBurn d c).drive e = s.drive e :=
  State.drive_congr ((changes_failBurn s d c) .drives (by simp)) e

/-- A drive's work lets it go without a word on its port or its disc's place. -/
theorem State.faultWork_drive (s : State) (d : Drive) (before : DriveState) :
    (s.faultWork d before).drive d = s.drive d := by
  unfold State.faultWork
  split
  · have h : (s.detachOne d (fun t => t.failBurn d .driveFault)).drives = (s.failBurn d .driveFault).drives :=
      State.detachOne_drives fun w => by
        rw [(changes_failBurn _ d _) .drives (by simp), (changes_failBurn s d _) .drives (by simp)]; rfl
    rw [State.drive_congr h, State.failBurn_drive]
  · split
    · have hqueue : d ∉ (((s.leaveVerify d .driveFault).writeVerify d .fail).verifyDown d).verifyQueue := by
        simp only [Untouched.verifyDown_verifyQueue, Untouched.writeVerify_verifyQueue]
        exact s.notMem_leaveVerify d _
      rw [State.verifyFaulted, State.contextRule_drive hqueue]
      simp only [Untouched.verifyDown_drive, Untouched.writeVerify_drive, Untouched.leaveVerify_drive]
    · rfl

theorem State.faultWork_burning_record (s : State) (d : Drive) (n : RecNo) :
    (s.faultWork d .burning).record n = if s.holds d n then (s.record n).burnFailed .driveFault else s.record n := by
  rw [State.faultWork, if_pos rfl, State.detachOne_record (fun w => s.failBurn_unattach_record w d d _ n),
    State.failBurn_record]

theorem State.faultWork_verifying_record (s : State) (d : Drive) (n : RecNo) :
    (s.faultWork d .verifying).record n = if s.holds d n then
      { s.record n with verify := .fail, errorBlocks := ((s.leaveVerify d .driveFault).save d).progress.errors }
    else s.record n := by
  have hrecord : ∀ m, (s.leaveVerify d .driveFault).record m = s.record m :=
    fun m => State.record_congr ((changes_leaveVerify s d _) .records (by simp)) m
  have hdrive : (s.leaveVerify d .driveFault).drive d = s.drive d :=
    State.drive_congr ((changes_leaveVerify s d _) .drives (by simp)) d
  rw [State.faultWork, if_neg (by decide), if_pos rfl, State.verifyFaulted, Untouched.contextRule_record,
    Untouched.verifyDown_record, State.writeVerify, State.writeRecordO_record, hdrive, hrecord,
    State.names_congr (s := s) (fun m => by rw [hrecord]) (fun m => by rw [hrecord])]
  rfl

theorem State.faultWork_of_other {s : State} {d : Drive} {before : DriveState} (hb : before ≠ .burning)
    (hv : before ≠ .verifying) : s.faultWork d before = s := by
  rw [State.faultWork, if_neg hb, if_neg hv]

theorem State.faultWork_cause {s : State} {d : Drive} {n : RecNo} (before : DriveState) {c : FailCause}
    (h : (s.record n).cause = some c) : ((s.faultWork d before).record n).cause = some c := by
  by_cases hb : before = .burning
  · rw [hb, State.faultWork_burning_record]
    split
    · simp [DiscRecord.burnFailed, h]
    · exact h
  · by_cases hv : before = .verifying
    · rw [hv, State.faultWork_verifying_record]
      split <;> exact h
    · rw [State.faultWork_of_other hb hv]
      exact h

/-! ### FAULTED -/

section
variable (s : State) (d : Drive)

theorem State.driveFaulted_drive : (s.driveFaulted d).drive d = { (s.drive d).toFaulted with entry := none } := by
  have hslot : ((s.faultStarted d).faultWork d (s.drive d).state).drive d = (s.drive d).toFaulted := by
    rw [State.faultWork_drive, State.faultStarted_drive]
  rw [State.driveFaulted_eq, State.faultSettled_drive _ _ (by rw [hslot]; rfl), hslot]

theorem State.driveFaulted_cause {n : RecNo} (h : s.holds d n = true) :
    ((s.driveFaulted d).record n).cause = ((s.record n).cause <|> some .driveFault) := by
  have hstarted : ((s.faultStarted d).record n).cause = ((s.record n).cause <|> some .driveFault) := by
    rw [State.faultStarted_record, if_pos h]
    rfl
  obtain ⟨c, hc⟩ : ∃ c, ((s.record n).cause <|> some .driveFault) = some c := by cases (s.record n).cause <;> simp
  obtain ⟨u, hu⟩ := useOnly_faultSettled ((s.faultStarted d).faultWork d (s.drive d).state) d n
  rw [hc] at hstarted ⊢
  rw [State.driveFaulted_eq, hu]
  exact State.faultWork_cause _ hstarted

end

theorem State.holds_of_trayRecord {s : State} {d : Drive} {k : Token} (hk : (s.drive d).trayRecord = some k)
    (hl : s.live k = true) : s.holds d k.num = true := by
  simp [State.holds, State.names, hk, hl]

/-- A drive with no request outstanding goes to FAULTED with the last fault it has (R64). -/
theorem faultedWith_driveFaulted {s : State} {d : Drive} {f : DriveFailure} (ho : (s.drive d).outstanding = none)
    (hf : (s.drive d).lastFault = some f) : FaultedWith d f s (s.driveFaulted d) := by
  unfold FaultedWith
  rw [State.driveFaulted_drive]
  refine ⟨rfl, rfl, rfl, ho, rfl, rfl, hf, rfl, fun k hk hl => ?_⟩
  exact s.driveFaulted_cause d (State.holds_of_trayRecord hk hl)

/-- What is told of a drive gone to FAULTED reads of the state before it only the tray record and its cause. -/
theorem FaultedWith.of_start {d : Drive} {f : DriveFailure} {s u t : State} (h : FaultedWith d f u t)
    (hk : (u.drive d).trayRecord = (s.drive d).trayRecord) (hl : ∀ k, u.live k = s.live k)
    (hc : ∀ n, (u.record n).cause = (s.record n).cause) : FaultedWith d f s t := by
  unfold FaultedWith at h ⊢
  rw [hk] at h
  simpa only [hl, hc] using h

/-- A step after it that leaves the drive's fields but the apply status, and the records but their use. -/
theorem FaultedWith.then {d : Drive} {f : DriveFailure} {s t u : State} (h : FaultedWith d f s t)
    (hd : ∃ st, u.drive d = { t.drive d with applyStatus := st }) (hr : UseOnly t u) : FaultedWith d f s u := by
  obtain ⟨st, hst⟩ := hd
  unfold FaultedWith at h ⊢
  obtain ⟨hstate, hphase, hcheck, hout, hwait, hentry, hlast, htray, hcause⟩ := h
  rw [hst]
  refine ⟨hstate, hphase, hcheck, hout, hwait, hentry, hlast, htray, fun k hk hl => ?_⟩
  obtain ⟨x, hx⟩ := hr k.num
  rw [hx]
  exact hcause k hk hl

end Sys2Proof.Machine
end

section
/-! How a request on a drive link or on the printer link ends (R45 to R48, R168): the step of an answer and of a
timeout, the endings that put the drive in FAULTED, and the answers that change nothing (O38). -/

namespace Sys2Proof.Machine

/-! ### The step of an answer -/

theorem exec_replyRow (req : DriveRequest) (d : Drive) (n : Byte) (r : DriveReply) (s : State) :
    exec (req.replyRow d n r) s = .next (s.driveReply d n r) := by
  cases req <;> rfl

section
variable {s : State} {d : Drive} {req : DriveRequest} {n : Byte}

/-- The answer to the outstanding request ends it (R45). -/
theorem exec_replyRow_of_outstanding (h : (s.drive d).outstanding = some { req := req, number := n })
    (r : DriveReply) : exec (req.replyRow d n r) s = .next (s.requestEnded d req (req.ending r)).arbiter := by
  rw [exec_replyRow]
  simp only [State.driveReply, h, if_true]

theorem State.driveTimeout_of_outstanding (h : (s.drive d).outstanding = some { req := req, number := n }) :
    s.driveTimeout d = (s.requestEnded d req .timeout).arbiter := by
  simp only [State.driveTimeout, h]

theorem State.driveReply_stale (h : ∀ o, (s.drive d).outstanding = some o → o.number ≠ n) (r : DriveReply) :
    s.driveReply d n r = s := by
  unfold State.driveReply
  split
  next o ho => exact if_neg (h o ho)
  next => rfl

end

/-! ### The endings that put the drive in FAULTED (R47, R48, R51) -/

theorem Ending.faults_timeout (req : DriveRequest) (x : DriveSlot) :
    Ending.timeout.faults req (x.ended req .timeout) = decide (1 ≤ x.timeoutCount) := by
  simp [Ending.faults, DriveSlot.ended]

theorem Ending.faults_fault (req : DriveRequest) (x : DriveSlot) (c : FaultCause) :
    (Ending.fault c).faults req (x.ended req (.fault c)) = true ↔
      c = .tray ∨ req = .trayOpen ∨ req = .trayClose ∨ (req = .sense ∧ x.checkPhase = .sensing ∧ c ≠ .noDisc) := by
  simp [Ending.faults, DriveSlot.ended, or_assoc, and_assoc]

section
variable {s : State} {d : Drive} {req : DriveRequest} {e : Ending}

/-- The drive has gone to FAULTED at the ending of its request (R64, R96). -/
def State.endedFaulted (s : State) (d : Drive) (req : DriveRequest) (e : Ending) : State :=
  ((s.modDrive d (·.ended req e)).faultedClose d req).driveFaulted d

theorem State.requestEnded_of_faults (h : e.faults req ((s.drive d).ended req e) = true) :
    s.requestEnded d req e = if req.isApplySpeed then ((s.endedFaulted d req e).endApply d .speedFailed).loadDecision
      else s.endedFaulted d req e := by
  have hport : (s.modDrive d (·.ended req e)).drive d = (s.drive d).ended req e := s.drive_modDrive_self d _
  simp only [State.requestEnded, hport, h, if_true]
  rfl

theorem State.faultedClose_drive (u : State) (x : Drive) : (u.faultedClose d req).drive x = u.drive x := by
  unfold State.faultedClose
  split
  · exact State.drive_congr ((changes_writeRecordO u _ _) .drives (by simp)) x
  · rfl

theorem State.faultedClose_record (u : State) (n : RecNo) : ∃ b, (u.faultedClose d req).record n =
    { u.record n with burn := b } := by
  unfold State.faultedClose
  split
  · rw [State.writeRecordO_record]
    split <;> exact ⟨_, rfl⟩
  · exact ⟨_, rfl⟩

theorem faultedWith_endedFaulted {f : DriveFailure} (hf : e.failure req.kind = some f) :
    FaultedWith d f s (s.endedFaulted d req e) := by
  have hslot : ((s.modDrive d (·.ended req e)).faultedClose d req).drive d = (s.drive d).ended req e := by
    rw [State.faultedClose_drive, State.drive_modDrive_self]
  have hrecord : ∀ n, ∃ b, ((s.modDrive d (·.ended req e)).faultedClose d req).record n = { s.record n with burn := b } :=
    fun n => State.faultedClose_record (d := d) (req := req) (s.modDrive d (·.ended req e)) n
  refine FaultedWith.of_start (faultedWith_driveFaulted ?_ ?_) ?_ (fun k => ?_) (fun n => ?_)
  · rw [hslot]; rfl
  · rw [hslot]; simp [DriveSlot.ended, hf]
  · rw [hslot]; rfl
  · obtain ⟨b, hb⟩ := hrecord k.num
    simp [State.live, hb]
  · obtain ⟨b, hb⟩ := hrecord n
    rw [hb]

/-- An ending that faults leaves the drive in FAULTED, whichever request ended and whatever waited (R47, R48). -/
theorem faultedWith_requestEnded {f : DriveFailure} (h : e.faults req ((s.drive d).ended req e) = true)
    (hf : e.failure req.kind = some f) : FaultedWith d f s (s.requestEnded d req e).arbiter := by
  have hended := faultedWith_endedFaulted (s := s) (d := d) hf
  refine FaultedWith.then (t := s.requestEnded d req e) ?_ ⟨_, Untouched.arbiter_drive _ _⟩ (useOnly_arbiter _)
  rw [State.requestEnded_of_faults h]
  split
  · have hslot : ((s.endedFaulted d req e).endApply d .speedFailed).drive d =
        { (s.endedFaulted d req e).drive d with applyStatus := .speedFailed } := by
      rw [State.endApply_drive_self]
    refine hended.then ⟨.speedFailed, ?_⟩ (.of_records ?_)
    · rw [State.loadDecision_drive_of_not_empty, hslot]
      rw [hslot]
      exact fun hempty => by simp [hended.1] at hempty
    · rw [(changes_loadDecision _) .records (by simp), (changes_endApply _ d _) .records (by simp)]
  · exact hended

theorem faultedWith_driveTimeout {n : Byte} (ho : (s.drive d).outstanding = some { req := req, number := n })
    (h : 1 ≤ (s.drive d).timeoutCount) : FaultedWith d (.timeout req.kind) s (s.driveTimeout d) := by
  rw [State.driveTimeout_of_outstanding ho]
  exact faultedWith_requestEnded (by rw [Ending.faults_timeout]; simpa using h) rfl

end

/-! ### An answer or a timeout that a request waits behind (R46, R168) -/

/-- The waiting request has been sent at the end of the outstanding one, and nothing else has been done. -/
theorem waitingSent_requestEnded {s : State} {d : Drive} {req q : DriveRequest} {e : Ending}
    (waits : (s.drive d).waiting = some q) (good : e.faults req ((s.drive d).ended req e) = false)
    (other : req.isApplySpeed = false) (plain : ¬ (req = .sense ∧ (s.drive d).checkPhase = .sensing)) :
    WaitingSent d q (if e = .timeout then (s.drive d).timeoutCount + 1 else 0) (e.failure req.kind) s
      (s.requestEnded d req e).arbiter := by
  rw [State.requestEnded_waiting waits good other plain]
  have hwaits : ((s.modDrive d (·.ended req e)).drive d).waiting = some q := by
    rw [State.drive_modDrive_self]; exact waits
  have hsent : (s.modDrive d (·.ended req e)).sendWaiting d =
      ((s.modDrive d (·.ended req e)).modDrive d (fun x => { x with waiting := none })).modDrive d (·.sent q) := by
    simp only [State.sendWaiting, hwaits, State.sendDrive]
  refine ⟨_, rfl, fun x hx => ?_, ?_, ?_⟩
  · rw [hsent, State.drive_modDrive_of_ne _ _ _ _ hx.symm, State.drive_modDrive_of_ne _ _ _ _ hx.symm,
      State.drive_modDrive_of_ne _ _ _ _ hx.symm]
  · exact (changes_modDrive s d _).trans (changes_sendWaiting _ d)
  · rw [hsent, State.drive_modDrive_self, State.drive_modDrive_self, State.drive_modDrive_self]
    rfl

theorem exec_printReplyRow (req : PrinterRequest) (n : Byte) (r : PrinterReply) (s : State) :
    exec (req.replyRow n r) s = .next (s.printReply n r) := by
  cases req <;> rfl

theorem State.printReply_stale {s : State} {n : Byte} (h : ∀ o, s.printer.outstanding = some o → o.number ≠ n)
    (r : PrinterReply) : s.printReply n r = s := by
  unfold State.printReply
  split
  next o ho => exact if_neg (h o ho)
  next => rfl

theorem exec_printReplyRow_of_outstanding {s : State} {req : PrinterRequest} {n : Byte}
    (h : s.printer.outstanding = some { req := req, number := n }) (r : PrinterReply) :
    exec (req.replyRow n r) s = .next (s.printEnded req (.ofReply r)).arbiter := by
  rw [exec_printReplyRow]
  simp only [State.printReply, h, if_true]

theorem State.printTimeout_of_outstanding {s : State} {req : PrinterRequest} {n : Byte}
    (h : s.printer.outstanding = some { req := req, number := n }) :
    s.printTimeout = (s.printEnded req .timeout).arbiter := by
  simp only [State.printTimeout, h]

theorem waitingPrintSent_printEnded {s : State} {req q : PrinterRequest} (e : PrintEnding)
    (waits : s.printer.waiting = some q) (plain : s.printer.checkPhase ≠ .sensing) :
    WaitingPrintSent q (e.failure req.kind) s (s.printEnded req e).arbiter := by
  rw [State.printEnded_waiting waits plain]
  have hwaits : (s.modPrinter (·.ended req e)).printer.waiting = some q := waits
  refine ⟨_, rfl, (changes_modPrinter s _).trans (changes_sendWaitingPrint _), ?_⟩
  simp only [State.sendWaitingPrint, hwaits]
  rfl

/-! ### Answers that find nothing to answer -/

theorem State.armOutcome_stale {s : State} {n : Byte} (h : ∀ p, s.transport.outstanding = some p → p.number ≠ n)
    (o : ArmOutcome) : s.armOutcome n o = s := by
  unfold State.armOutcome
  split
  next p hp => exact if_neg (h p hp)
  next => rfl

theorem State.takesDropped_iff (s : State) : s.takesDropped = true ↔
    s.transport.mode = .running ∧ (s.transport.phase = .travelDst ∨ s.transport.phase = .place) := by
  simp [State.takesDropped]

theorem exec_portCheck_stale {s : State} {d : Drive}
    (h : (s.drive d).checkPhase ≠ .checking ∨ (s.drive d).outstanding ≠ none) :
    exec (.portCheckTimeout d) s = .next s ∧ ∀ r, exec (.portCheckExchangeEnd d r) s = .next s := by
  have hidle : ¬ (s.drive d).exchanging = true := by
    rw [DriveSlot.exchanging_iff]
    exact fun ⟨hc, ho⟩ => h.elim (fun hn => hn hc) (fun hn => hn ho)
  exact ⟨congrArg Host.Outcome.next (if_neg hidle), fun r => congrArg Host.Outcome.next (if_neg hidle)⟩

theorem exec_printerCheck_stale {s : State} (h : s.printer.checkPhase ≠ .checking) :
    exec .printerCheckTimeout s = .next s ∧ ∀ r, exec (.printerCheckExchangeEnd r) s = .next s := by
  have hidle : ¬ s.printerChecking = true := by simpa [State.printerChecking] using h
  exact ⟨congrArg Host.Outcome.next (if_neg hidle), fun r => congrArg Host.Outcome.next (if_neg hidle)⟩

/-- The second part of O38 for one ending of a request that another waits behind. -/
theorem exec_replyRow_waiting {s : State} {d : Drive} {req q : DriveRequest} {n : Byte} {r : DriveReply} {e : Ending}
    (ho : (s.drive d).outstanding = some { req := req, number := n }) (he : req.ending r = e) (ht : e ≠ .timeout)
    (waits : (s.drive d).waiting = some q) (good : e.faults req ((s.drive d).ended req e) = false)
    (other : req.isApplySpeed = false) (plain : ¬ (req = .sense ∧ (s.drive d).checkPhase = .sensing)) :
    ∃ t, exec (req.replyRow d n r) s = .next t ∧ WaitingSent d q 0 (e.failure req.kind) s t := by
  have hsent := waitingSent_requestEnded waits good other plain
  rw [if_neg ht] at hsent
  subst he
  exact ⟨_, exec_replyRow_of_outstanding ho r, hsent⟩

theorem DriveRequest.isApplySpeed_eq_false {req : DriveRequest} (h : ∀ c g, req ≠ .speed c g .apply) :
    req.isApplySpeed = false := by
  cases req with
  | speed c g who => cases who with
    | apply => exact absurd rfl (h c g)
    | loading => rfl
  | _ => rfl

theorem DriveRequest.ending_done {req : DriveRequest} (h : ∀ first count, req ≠ .read first count) (p : Bool)
    (cls : Fin 16) : req.ending (.done p cls) = .done p cls.val := by
  cases req with
  | read first count => exact absurd rfl (h first count)
  | _ => rfl

theorem DriveRequest.ending_data {first count : Nat} {data : List Byte} (h : data.length = 2048 * count) :
    DriveRequest.ending (.read first count) (.data data) = .data data :=
  if_pos (h.trans (Nat.mul_comm _ _))

/-- Settles O38: an answer is compared with the number of what is outstanding, and an end with what runs; a request
that waits is sent at the end of the one before it, whose ending acts on the port alone. -/
theorem staleAnswersChangeNothing : Obligations.StaleAnswersChangeNothing := by
  unfold Obligations.StaleAnswersChangeNothing
  refine ⟨fun s => ⟨fun d n r h => ?_, fun d h => ?_, fun d h => exec_portCheck_stale h, fun n o h => ?_, fun h => ?_,
    fun h => ?_, fun n r h => ?_, fun h => ?_, fun h => exec_printerCheck_stale h, fun h => ?_, fun h => ?_⟩, ?_, ?_⟩
  · have hstale : (.next (s.driveReply d n r) : Host.Outcome State Fault Refusal) = .next s :=
      congrArg _ (State.driveReply_stale h r)
    exact ⟨hstale, hstale, hstale, hstale, hstale, hstale, hstale⟩
  · exact congrArg Host.Outcome.next (by simp only [State.driveTimeout, h])
  · have hstale : (.next (s.armOutcome n o) : Host.Outcome State Fault Refusal) = .next s :=
      congrArg _ (State.armOutcome_stale h o)
    exact ⟨hstale, hstale, hstale, hstale⟩
  · exact congrArg Host.Outcome.next (by simp only [State.armTimeout, h])
  · refine congrArg Host.Outcome.next (if_neg ?_)
    rw [State.takesDropped_iff]
    exact fun ⟨hmode, hphase⟩ => h.elim (fun hn => hn hmode) (fun ⟨hd, hp⟩ => hphase.elim hd hp)
  · have hstale : (.next (s.printReply n r) : Host.Outcome State Fault Refusal) = .next s :=
      congrArg _ (State.printReply_stale h r)
    exact ⟨hstale, hstale, hstale, hstale, hstale, hstale⟩
  · exact congrArg Host.Outcome.next (by simp only [State.printTimeout, h])
  · exact ⟨congrArg Host.Outcome.next (if_neg h), fun r => congrArg Host.Outcome.next (if_neg h)⟩
  · exact ⟨congrArg Host.Outcome.next (if_neg h), fun ok => congrArg Host.Outcome.next (if_neg h)⟩
  · intro d req q n s x ho waits hspeed hsense
    have other := DriveRequest.isApplySpeed_eq_false hspeed
    have plain : ¬ (req = .sense ∧ x.checkPhase = .sensing) := fun ⟨hr, hp⟩ => hsense hr hp
    refine ⟨⟨s.driveTimeout d, rfl, ?_⟩, fun hread p cls => ?_, fun first count data hread hlen => ?_, fun c => ?_⟩
    · by_cases hcount : x.timeoutCount = 0
      · have good : Ending.timeout.faults req (x.ended req .timeout) = false := by
          simp [Ending.faults_timeout, hcount]
        have hsent := waitingSent_requestEnded waits good other plain
        rw [if_pos rfl] at hsent
        rw [if_pos hcount, State.driveTimeout_of_outstanding ho]
        simpa [x, hcount, Ending.failure] using hsent
      · rw [if_neg hcount]
        exact faultedWith_driveTimeout ho (Nat.one_le_iff_ne_zero.mpr hcount)
    · exact exec_replyRow_waiting ho (DriveRequest.ending_done hread p cls) (by simp) waits rfl other plain
    · subst hread
      exact exec_replyRow_waiting ho (DriveRequest.ending_data hlen) (by simp) waits rfl other plain
    · have hending : req.ending (.fault c) = .fault c := rfl
      split
      next hc =>
        have hfaults := (Ending.faults_fault req x c).mpr (by tauto)
        exact ⟨_, exec_replyRow_of_outstanding ho _,
          faultedWith_requestEnded hfaults rfl⟩
      next hc =>
        have good : ¬ (Ending.fault c).faults req (x.ended req (.fault c)) = true := by
          rw [Ending.faults_fault]
          tauto
        exact exec_replyRow_waiting ho hending (by simp) waits (by simpa using good) other plain
  · intro req q n s ho waits plain
    exact ⟨⟨_, congrArg Host.Outcome.next (State.printTimeout_of_outstanding ho),
        waitingPrintSent_printEnded .timeout waits plain⟩,
      fun p => ⟨_, exec_printReplyRow_of_outstanding ho _, waitingPrintSent_printEnded (.done p) waits plain⟩,
      fun c => ⟨_, exec_printReplyRow_of_outstanding ho _, waitingPrintSent_printEnded (.fault c) waits plain⟩⟩

end Sys2Proof.Machine
end

section
/-! The arbiter (R146, R147): which entry it chooses, what becomes of the queue, and the move it starts (O34). -/

namespace Sys2Proof.Machine

/-! ### Whether the arm is free -/

theorem State.armFree_iff (s : State) : s.armFree = true ↔
    s.transport.mode = .running ∧ s.transport.phase = .idle ∧ s.transport.outstanding = none ∧
      ∀ e ∈ s.queue, e.current = false := by
  simp [State.armFree, State.currentEntry, and_assoc]

theorem State.arbiter_of_not_free {s : State} (h : ¬ s.armFree = true) : s.arbiter = s := if_neg h

theorem State.arbiter_of_choice {s : State} {k : Nat} (h : s.armFree = true) (hk : s.choice = some k) :
    s.arbiter = s.dispatch k := by
  simp only [State.arbiter, h, if_true, hk]

/-! ### The choice -/

theorem State.choice_of_none {s : State} (h : ∀ e ∈ s.queue, s.eligible e = false) : s.choice = none := by
  have hlong : s.queue.findIdx? (fun e => s.eligible e && decide (Config.passOverLimit ≤ e.passOver)) = none :=
    List.findIdx?_eq_none_iff.mpr fun e he => by simp [h e he]
  have hnone : s.queue.filter s.eligible = [] := List.filter_eq_nil_iff.mpr fun e he => by simp [h e he]
  simp only [State.choice, hlong, hnone]
  rfl

section
variable {s : State} {k : Nat} {e : Entry}

/-- The oldest eligible entry passed over 8 times comes first (R146). -/
theorem State.choice_of_passedOver (hk : s.queue[k]? = some e) (he : s.eligible e = true) (hlimit : 8 ≤ e.passOver)
    (hfirst : ∀ j x, j < k → s.queue[j]? = some x → s.eligible x = true → x.passOver < 8) : s.choice = some k := by
  have hconst : Config.passOverLimit = 8 := rfl
  obtain ⟨hlt, rfl⟩ := List.getElem?_eq_some_iff.mp hk
  have hfound : s.queue.findIdx? (fun e => s.eligible e && decide (Config.passOverLimit ≤ e.passOver)) = some k := by
    rw [List.findIdx?_eq_some_iff_getElem]
    refine ⟨hlt, by simp [he, hconst, hlimit], fun j hj => ?_⟩
    have hshort := hfirst j _ hj (List.getElem?_eq_getElem (hj.trans hlt))
    simp only [hconst, Bool.and_eq_true, decide_eq_true_eq, not_and, not_le]
    exact hshort
  simp only [State.choice, hfound]

/-- With none passed over 8 times the oldest of the lowest class is chosen (R146). -/
theorem State.choice_of_lowest (hk : s.queue[k]? = some e) (he : s.eligible e = true)
    (hlow : ∀ j x, s.queue[j]? = some x → s.eligible x = true →
      x.passOver < 8 ∧ (e.class < x.class ∨ (e.class = x.class ∧ k ≤ j))) : s.choice = some k := by
  have hconst : Config.passOverLimit = 8 := rfl
  have hnone : s.queue.findIdx? (fun e => s.eligible e && decide (Config.passOverLimit ≤ e.passOver)) = none := by
    rw [List.findIdx?_eq_none_iff]
    intro x hx
    obtain ⟨j, hj⟩ := List.mem_iff_getElem?.mp hx
    cases hel : s.eligible x with
    | false => rfl
    | true =>
      have hshort := (hlow j x hj hel).1
      simp [hconst, hshort]
  have hclass : ((s.queue.filter s.eligible).map Entry.class).min? = some e.class := by
    rw [List.min?_eq_some_iff]
    refine ⟨List.mem_map_of_mem (List.mem_filter.mpr ⟨List.mem_of_getElem? hk, he⟩), fun c hc => ?_⟩
    obtain ⟨x, hx, rfl⟩ := List.mem_map.mp hc
    obtain ⟨hmem, hel⟩ := List.mem_filter.mp hx
    obtain ⟨j, hj⟩ := List.mem_iff_getElem?.mp hmem
    exact (hlow j x hj hel).2.elim le_of_lt (fun h => h.1.le)
  have hfound : s.queue.findIdx? (fun x => s.eligible x && decide (x.class = e.class)) = some k := by
    rw [List.findIdx?_eq_some_iff_getElem]
    obtain ⟨hlt, rfl⟩ := List.getElem?_eq_some_iff.mp hk
    refine ⟨hlt, by simp [he], fun j hj => ?_⟩
    have hlater := hlow j _ (List.getElem?_eq_getElem (hj.trans hlt))
    simp only [Bool.and_eq_true, decide_eq_true_eq, not_and]
    intro hel hsame
    have := (hlater hel).2
    omega
  simp only [State.choice, hnone, hclass, hfound]

end

/-! ### The queue after a choice -/

/-- The chosen entry as it becomes current, with its source and destination resolved (R147). -/
def State.madeCurrent (s : State) (e : Entry) : Entry :=
  { e with
    current := true
    pickSent := false
    srcAt := match e.source with
      | .station i => some i
      | .mediaClass c => s.loadedSpindle c
      | .arm => none
    dstAt := some (s.destOf e)
    setAside := if e.kind = .load then s.freeRecord else none }

theorem State.chosen_getElem? (s : State) (k j : Nat) : (s.chosen k)[j]? = s.queue[j]?.map (fun e =>
    if j = k then s.madeCurrent e
    else if s.eligible e then { e with passOver := min 255 (e.passOver + 1) } else e) := by
  rw [State.chosen, List.getElem?_mapIdx]
  rfl

theorem State.chosen_length (s : State) (k : Nat) : (s.chosen k).length = s.queue.length := by simp [State.chosen]

/-- The chosen entry is the only current one. -/
theorem State.find?_current_chosen {s : State} {k : Nat} {e : Entry} (hk : s.queue[k]? = some e)
    (hfree : ∀ x ∈ s.queue, x.current = false) : (s.chosen k).find? (·.current) = some (s.madeCurrent e) := by
  have hnew : (s.chosen k)[k]? = some (s.madeCurrent e) := by rw [State.chosen_getElem?, hk, Option.map_some, if_pos rfl]
  obtain ⟨hlt, hget⟩ := List.getElem?_eq_some_iff.mp hnew
  refine List.find?_eq_some_iff_getElem.mpr ⟨rfl, k, hlt, hget, fun j hj => ?_⟩
  have hold := s.chosen_getElem? k j
  rw [List.getElem?_eq_getElem (hj.trans hlt), List.getElem?_eq_getElem ((s.chosen_length k) ▸ hj.trans hlt),
    Option.map_some, if_neg hj.ne, Option.some_inj] at hold
  have hidle := hfree _ (List.getElem_mem ((s.chosen_length k) ▸ hj.trans hlt))
  rw [hold]
  split <;> simpa using hidle

/-! ### The dispatch -/

section
variable {s : State} {k : Nat} {e : Entry}

/-- A dispatch is the new queue, the set-aside record and the start of the move (R147, R149). -/
theorem State.dispatch_eq (hk : s.queue[k]? = some e) (hfree : ∀ x ∈ s.queue, x.current = false) :
    s.dispatch k = (((s.setQueue (s.chosen k)).modTransport (fun t => { t with pickMisses := 0 })).setAside
      (s.madeCurrent e).setAside).startMove (s.madeCurrent e) := by
  have hcurrent : ((s.setQueue (s.chosen k)).modTransport (fun t => { t with pickMisses := 0 })).currentEntry =
      some (s.madeCurrent e) := State.find?_current_chosen hk hfree
  simp only [State.dispatch, hcurrent]

/-- The transport when a GOTO to station `i` has gone out in arm phase `p` (R149). -/
def Transport.going (x : Transport) (i : Station) (p : ArmPhase) : Transport :=
  { x with phase := p, outstanding := some { op := .goto i.lift i.rotate, number := x.nextNumber, abandoned := false },
           nextNumber := x.nextNumber + 1 }

theorem State.sendGoto_transport (s : State) (i : StationNo) (p : ArmPhase) :
    (s.sendGoto i p).transport = s.transport.going (s.station i) p := rfl

theorem State.startMove_transport_of_source {i : StationNo} (h : e.srcAt = some i) :
    (s.startMove e).transport = s.transport.going (s.station i) .travelSrc := by
  simp only [State.startMove, h, State.sendGoto_transport]

theorem State.startMove_transport_of_arm {i : StationNo} (h : e.srcAt = none) (hd : e.dstAt = some i) :
    (s.startMove e).transport = s.transport.going (s.station i) .travelDst := by
  simp only [State.startMove, h, hd, State.sendGoto_transport]

end

/-! ### Where the chosen entry goes -/

theorem State.loadedSpindle_eq_some_iff (s : State) (c : Nat) (i : StationNo) : s.loadedSpindle c = some i ↔
    ∃ j : Fin 4, i = spindleStation j ∧ (s.station (spindleStation j)).loaded = true ∧
      (s.station (spindleStation j)).mediaClass = c ∧ ∀ l : Fin 4, l < j →
        ¬ ((s.station (spindleStation l)).loaded = true ∧ (s.station (spindleStation l)).mediaClass = c) := by
  have hlist : spindleStations = (List.finRange 4).map spindleStation := by decide
  rw [State.loadedSpindle, hlist, List.find?_map, ← Fin.find?_eq_find?_finRange, Option.map_eq_some_iff]
  simp only [Fin.find?_eq_some_iff, Function.comp_apply, Bool.and_eq_true, decide_eq_true_eq, Bool.and_eq_false_iff,
    decide_eq_false_iff_not]
  constructor
  · rintro ⟨j, ⟨⟨hl, hc⟩, hlow⟩, rfl⟩
    exact ⟨j, rfl, hl, hc, fun l hlt ⟨h₁, h₂⟩ => (hlow l hlt).elim (fun h => by simp [h] at h₁) (fun h => h h₂)⟩
  · rintro ⟨j, rfl, hl, hc, hlow⟩
    refine ⟨j, ⟨⟨hl, hc⟩, fun l hlt => ?_⟩, rfl⟩
    have := hlow l hlt
    simp only [not_and] at this
    by_cases h : (s.station (spindleStation l)).loaded = true
    · exact .inr (this h)
    · exact .inl (by simpa using h)

theorem State.destOf_byVerdict {s : State} {e : Entry} {k : Token} (h : e.dest = .byVerdict) (hk : e.token = some k)
    (hl : s.live k = true) : s.destOf e =
      if (s.record k.num).verdictAtDispatch = .pass then
        (if (s.station stationB0).count < (s.station stationB0).capacity then stationB0 else stationB1)
      else stationBX := by
  have hverdict : s.entryVerdict e = (s.record k.num).verdictAtDispatch := by
    simp [State.entryVerdict, hk, State.liveRecord, hl]
  rw [State.destOf, h]
  simp only [hverdict, State.binFor, State.binTakes]
  cases (s.record k.num).verdictAtDispatch <;> simp

/-- Settles O34: the choice is R146's, the chosen entry takes its stations from R147, and the move starts at its source
or, from the arm, at its destination. -/
theorem arbiterChoice : Obligations.ArbiterChoice := by
  unfold Obligations.ArbiterChoice
  intro s free t
  refine ⟨fun h => State.arbiter_of_not_free (mt s.armFree_iff.mp h), fun h => ?_, changes_arbiter s,
    fun hfree k e hk he hchosen => ?_⟩
  · simp only [t, State.arbiter, State.choice_of_none h]
    split <;> rfl
  have hchoice : s.choice = some k := by
    split at hchosen
    next hlimit => exact State.choice_of_passedOver hk he hlimit hchosen
    next => exact State.choice_of_lowest hk he hchosen
  have hnone : ∀ x ∈ s.queue, x.current = false := hfree.2.2.2
  have ht : t = (((s.setQueue (s.chosen k)).modTransport (fun t => { t with pickMisses := 0 })).setAside
      (s.madeCurrent e).setAside).startMove (s.madeCurrent e) := by
    rw [← State.dispatch_eq hk hnone]
    exact State.arbiter_of_choice (s.armFree_iff.mpr hfree) hchoice
  have hqueue : t.queue = s.chosen k := by
    rw [ht, changes_startMove _ _ .queue (by simp), changes_setAside _ _ .queue (by simp)]
    rfl
  have htransport : ∀ i, (s.madeCurrent e).srcAt = some i → t.transport =
      { s.transport with pickMisses := 0 }.going (s.station i) .travelSrc := fun i hi => by
    rw [ht, State.startMove_transport_of_source hi, changes_setAside _ _ .transport (by simp),
      State.station_congr ((changes_setAside _ _) .stations (by simp))]
    rfl
  have harm : ∀ i, e.source = .arm → (s.madeCurrent e).dstAt = some i → t.transport =
      { s.transport with pickMisses := 0 }.going (s.station i) .travelDst := fun i hsource hi => by
    have hsrc : (s.madeCurrent e).srcAt = none := by simp [State.madeCurrent, hsource]
    rw [ht, State.startMove_transport_of_arm hsrc hi, changes_setAside _ _ .transport (by simp),
      State.station_congr ((changes_setAside _ _) .stations (by simp))]
    rfl
  have hsource : ∀ c, e.source = .mediaClass c → ∃ i, s.loadedSpindle c = some i := fun c hc =>
    Option.isSome_iff_exists.mp ((State.canGive_mediaClass hc).mp ((s.eligible_iff e).mp he).1).1
  refine ⟨by rw [hqueue, s.chosen_length], fun j x hx hj => ?_, s.madeCurrent e, ?_, rfl, rfl, rfl, ?_, ?_, ?_, ?_, ?_, ?_,
    ?_, ?_, ?_⟩
  · rw [hqueue, s.chosen_getElem?, hx, Option.map_some, if_neg hj]
  · rw [hqueue, s.chosen_getElem?, hk, Option.map_some, if_pos rfl]
  · intro i hi
    simp only [State.madeCurrent, hi]
  · intro c hc
    obtain ⟨i, hi⟩ := hsource c hc
    obtain ⟨j, rfl, hj⟩ := (s.loadedSpindle_eq_some_iff c i).mp hi
    exact ⟨j, by simp only [State.madeCurrent, hc, hi], hj⟩
  · intro i hi
    simp only [State.madeCurrent, State.destOf, hi]
  · rintro hverdict tok r htok hlive rfl
    exact congrArg some (State.destOf_byVerdict hverdict htok hlive)
  · intro hload n hn
    have haside : (s.madeCurrent e).setAside = some n := by simp only [State.madeCurrent, hload, if_true, hn]
    refine ⟨haside, ?_⟩
    rw [ht, State.record_congr ((changes_startMove _ _) .records (by simp)), haside]
    exact congrArg DiscRecord.use (State.record_modRecord_self _ _ _)
  · intro hother
    have haside : (s.madeCurrent e).setAside = none := by simp only [State.madeCurrent, hother, if_false]
    rw [ht, changes_startMove _ _ .records (by simp), haside]
    rfl
  · cases hs : (s.madeCurrent e).srcAt with
    | some i => rw [htransport i hs]; rfl
    | none =>
      cases hsrc : e.source with
      | station i => simp [State.madeCurrent, hsrc] at hs
      | mediaClass c =>
        obtain ⟨i, hi⟩ := hsource c hsrc
        simp [State.madeCurrent, hsrc, hi] at hs
      | arm => rw [harm _ hsrc rfl]; rfl
  · intro i hi
    rw [htransport i hi]
    exact ⟨rfl, rfl⟩
  · intro i hsrc hi
    rw [harm i hsrc hi]
    exact ⟨rfl, rfl⟩

end Sys2Proof.Machine
end

section
/-! The outcome of an arm operation (R148): AT-TARGET, the ways into HELD, and the end of an abandoned operation
(O47). -/

namespace Sys2Proof.Machine

/-! ### How an outcome is taken -/

section
variable {s : State} {op : ArmOp} {n : Byte}

theorem State.armOutcome_of_outstanding
    (h : s.transport.outstanding = some { op := op, number := n, abandoned := false }) (o : ArmOutcome) :
    s.armOutcome n o = (s.clearOp.opEnded op o).arbiter := by
  simp [State.armOutcome, h]

theorem State.armTimeout_of_outstanding
    (h : s.transport.outstanding = some { op := op, number := n, abandoned := false }) :
    s.armTimeout = (s.clearOp.opTimedOut op).arbiter := by
  simp [State.armTimeout, h]

end

/-- The arbiter does nothing while an operation is outstanding (R146). -/
theorem State.arbiter_of_outstanding {s : State} (h : s.transport.outstanding ≠ none) : s.arbiter = s :=
  State.arbiter_of_not_free fun hfree => h ((s.armFree_iff.mp hfree).2.2.1)

theorem State.arbiter_of_not_running {s : State} (h : s.transport.mode ≠ .running) : s.arbiter = s :=
  State.arbiter_of_not_free fun hfree => h (s.armFree_iff.mp hfree).1

/-! ### HELD (R155) -/

theorem State.enterHeld_transport (s : State) (c : HeldCause) : (s.enterHeld c).transport = s.transport.held c := by
  rw [State.enterHeld, Untouched.raise_transport]
  rfl

theorem State.enterHeld_queue (s : State) (c : HeldCause) : (s.enterHeld c).queue = s.queue :=
  changes_enterHeld s c .queue (by simp)

theorem State.enterHeld_armHeld (s : State) (c : HeldCause) :
    (s.enterHeld c).event .armHeld = (s.event .armHeld).raised .armHeld 0 (some (.armHeld c)) :=
  State.raise_event _ _ _ _

theorem heldWith_enterHeld (s : State) (c : HeldCause) : HeldWith c s (s.enterHeld c) := by
  unfold HeldWith
  rw [State.enterHeld_transport, State.enterHeld_armHeld]
  refine ⟨rfl, rfl, rfl, rfl, rfl, fun o ho => ?_, rfl⟩
  obtain ⟨p, -, rfl⟩ := Option.map_eq_some_iff.mp (show s.transport.outstanding.map _ = some o from ho)
  rfl

/-- The same where the operation that failed has been cleared before. -/
theorem heldWith_clearOp_enterHeld (s : State) (c : HeldCause) : HeldWith c s (s.clearOp.enterHeld c) := by
  unfold HeldWith
  rw [State.enterHeld_transport, State.enterHeld_armHeld]
  exact ⟨rfl, rfl, rfl, rfl, rfl, fun _ ho => by simp [State.clearOp, Transport.held, Transport.abandon] at ho, rfl⟩

/-- The transport has stopped in HELD in the phase it was in, its queue untouched. -/
def StoppedWith (c : HeldCause) (s t : State) : Prop :=
  HeldWith c s t ∧ t.transport.phase = s.transport.phase ∧ t.queue = s.queue ∧
    Changes [.transport, .events, .outbound] s t

theorem stoppedWith_enterHeld (s : State) (c : HeldCause) : StoppedWith c s (s.enterHeld c) := by
  refine ⟨heldWith_enterHeld s c, ?_, s.enterHeld_queue c, (changes_enterHeld s c).mono (by simp)⟩
  rw [State.enterHeld_transport]
  rfl

theorem State.enterHeld_arbiter (s : State) (c : HeldCause) : (s.enterHeld c).arbiter = s.enterHeld c := by
  apply State.arbiter_of_not_running
  rw [State.enterHeld_transport]
  exact fun h => nomatch h

theorem stoppedWith_clearOp_enterHeld (s : State) (c : HeldCause) : StoppedWith c s (s.clearOp.enterHeld c).arbiter := by
  rw [State.enterHeld_arbiter]
  refine ⟨heldWith_clearOp_enterHeld s c, ?_, s.clearOp.enterHeld_queue c,
    ((changes_clearOp s).mono (by simp)).trans ((changes_enterHeld _ c).mono (by simp))⟩
  rw [State.enterHeld_transport]
  rfl

/-! ### AT-TARGET (R149) -/

theorem State.currentEntry_clearOp (s : State) : s.clearOp.currentEntry = s.currentEntry := rfl

theorem State.opEnded_atTarget {s : State} {e : Entry} (l r : Nat) (h : s.currentEntry = some e) :
    s.clearOp.opEnded (.goto l r) .atTarget =
      if s.transport.phase = .travelSrc then s.clearOp.sendPick else s.clearOp.arrived e := by
  simp only [State.opEnded, State.currentEntry_clearOp, h]
  rfl

/-! ### The end of an abandoned operation (R148) -/

/-- A mode that is not RUNNING stays as it is at the end of an abandoned operation. -/
theorem State.abandonedEnded_mode (u : State) : u.clearOp.abandonedEnded.transport.mode = u.transport.mode := by
  unfold State.abandonedEnded
  split <;> rfl

theorem State.abandonedEnded_transport (u : State) : u.clearOp.abandonedEnded.transport =
    if u.transport.phase = .homing then { u.transport with
      outstanding := some { op := .home, number := u.transport.nextNumber, abandoned := false },
      nextNumber := u.transport.nextNumber + 1 }
    else { u.transport with outstanding := none } := by
  unfold State.abandonedEnded
  have hphase : u.clearOp.transport.phase = u.transport.phase := rfl
  rw [hphase]
  split <;> rfl

/-- Settles O47: the outcome of an operation is taken in the phase that sent it, and every way into HELD stops the arm
where it is. -/
theorem armAdvancesOrHolds : Obligations.ArmAdvancesOrHolds := by
  unfold Obligations.ArmAdvancesOrHolds
  rintro n op e s ⟨hmode, hout, hcurrent⟩ x sends stops
  refine ⟨fun l r hop => ⟨fun hphase => ?_, fun i hphase hi => ?_⟩, fun hop => ?_, fun hop _ => ?_, fun hphase => ?_,
    fun u o ho habandoned => ?_⟩
  · subst hop
    have ht : s.armOutcome n .atTarget = s.clearOp.sendPick := by
      rw [State.armOutcome_of_outstanding hout, State.opEnded_atTarget l r hcurrent, if_pos hphase]
      exact State.arbiter_of_outstanding (by simp [State.sendPick, State.sendArm])
    refine ⟨_, congrArg Host.Outcome.next ht, rfl, rfl, ?_⟩
    exact ((changes_clearOp s).mono (by simp)).trans ((changes_sendPick _).mono (by simp))
  · subst hop
    have ht : s.armOutcome n .atTarget = (s.clearOp.arrived e).arbiter := by
      rw [State.armOutcome_of_outstanding hout, State.opEnded_atTarget l r hcurrent, if_neg (by rw [hphase]; decide)]
    have htakes : s.clearOp.canTake e i = s.canTake e i := rfl
    refine ⟨_, congrArg Host.Outcome.next ht, ?_⟩
    simp only [State.arrived, hi, htakes]
    split
    next h =>
      rw [State.arbiter_of_outstanding (by simp [State.sendArm])]
      exact ⟨rfl, (changes_clearOp s).trans ((changes_modTransport _ _).trans (changes_modTransport _ _))⟩
    next h => exact stoppedWith_clearOp_enterHeld s .refused
  · subst hop
    have ht : s.armOutcome n .stuck = (s.clearOp.enterHeld .stuck).arbiter := by
      rw [State.armOutcome_of_outstanding hout]
      simp only [State.opEnded, State.currentEntry_clearOp, hcurrent]
    exact ⟨_, congrArg Host.Outcome.next ht, stoppedWith_clearOp_enterHeld s .stuck⟩
  · have ht : s.armTimeout = (s.clearOp.enterHeld .timeout).arbiter := by
      rw [State.armTimeout_of_outstanding hout]
      cases op with
      | home => exact absurd rfl hop
      | _ => rfl
    exact ⟨_, congrArg Host.Outcome.next ht, stoppedWith_clearOp_enterHeld s .timeout⟩
  · have htakes : s.takesDropped = true := s.takesDropped_iff.mpr ⟨hmode, hphase⟩
    exact ⟨_, congrArg Host.Outcome.next (if_pos htakes), stoppedWith_enterHeld s .dropped⟩
  · have hend : ∀ r, u.armOutcome o.number r = u.clearOp.abandonedEnded.arbiter := fun r => by
      simp [State.armOutcome, ho, habandoned]
    have htimeout : u.armTimeout = u.clearOp.abandonedEnded.arbiter := by simp [State.armTimeout, ho, habandoned]
    refine ⟨u.clearOp.abandonedEnded, (changes_clearOp u).trans (changes_abandonedEnded _), fun hm => ?_, u.abandonedEnded_transport,
      congrArg Host.Outcome.next htimeout, fun r => ?_⟩
    · exact State.arbiter_of_not_running (by rwa [u.abandonedEnded_mode])
    · have hr : (.next (u.armOutcome o.number r) : Host.Outcome State Fault Refusal) =
          .next u.clearOp.abandonedEnded.arbiter := congrArg _ (hend r)
      exact ⟨hr, hr, hr, hr⟩

end Sys2Proof.Machine
end

section
/-! A PICK at a tray or at PR (R62, R150, R153, R177): what the station's owner does, and the outcome (O49). -/

namespace Sys2Proof.Machine

/-! ### A tray that closes (R62, R63) -/

section
variable (s : State) (d : Drive)

/-- A drive that closes its tray, before it asks for TRAY-CLOSE. -/
def State.trayClosing (s : State) (d : Drive) : State :=
  if (s.drive d).state = .unloading then
    s.modDrive d (fun x => { x with state := .unloading, phase := .trayClosing, entry := none })
  else (s.modDrive d (fun x => { x with state := .unloading, phase := .trayClosing, entry := none })).raiseDrive d

theorem State.closeTray_eq : s.closeTray d = (s.trayClosing d).askDrive d .trayClose := rfl

theorem State.trayClosing_drive_self : (s.trayClosing d).drive d =
    { s.drive d with state := .unloading, phase := .trayClosing, entry := none } := by
  unfold State.trayClosing
  split
  · exact State.drive_modDrive_self _ _ _
  · rw [State.drive_congr ((changes_raiseDrive _ d) .drives (by simp)), State.drive_modDrive_self]

theorem State.closeTray_drive_of_ne {e : Drive} (h : e ≠ d) : (s.closeTray d).drive e = s.drive e := by
  rw [State.closeTray_eq, State.askDrive_drive_of_ne _ _ h, State.trayClosing]
  split
  · exact State.drive_modDrive_of_ne _ _ _ _ h.symm
  · rw [State.drive_congr ((changes_raiseDrive _ d) .drives (by simp)), State.drive_modDrive_of_ne _ _ _ _ h.symm]

theorem State.closeTray_discSide : ((s.closeTray d).drive d).discSide =
    (.unloading, .trayClosing, none, (s.drive d).trayRecord) := by
  rw [State.closeTray_eq, State.askDrive_discSide, State.trayClosing_drive_self]
  rfl

end

/-- The TRAY-CLOSE of a drive whose port is free has gone out. -/
theorem State.closeTray_outstanding {s : State} {d : Drive} (ho : (s.drive d).outstanding = none)
    (hc : (s.drive d).checkPhase = .idle) : ((s.closeTray d).drive d).outstanding =
      some { req := .trayClose, number := (s.drive d).nextNumber } := by
  have hfree : ((s.trayClosing d).drive d).portFree = true := by
    rw [State.trayClosing_drive_self]
    simp [DriveSlot.portFree, ho, hc]
  rw [State.closeTray_eq, State.askDrive_drive_of_free _ _ _ hfree, State.trayClosing_drive_self]
  rfl

/-- A disc has been picked from the tray of drive `d` (R62). -/
def TrayPicked (d : Drive) (s t : State) : Prop :=
  (t.drive d).trayRecord = none ∧ (t.drive d).entry = none ∧ (t.drive d).state = .unloading ∧
    (t.drive d).phase = .trayClosing ∧ (∀ f, f ≠ d → t.drive f = s.drive f) ∧
    ((s.drive d).outstanding = none → (s.drive d).checkPhase = .idle →
      (t.drive d).outstanding = some { req := .trayClose, number := (s.drive d).nextNumber })

theorem trayPicked_pickTray (s : State) (d : Drive) : TrayPicked d s (s.pickTray d) := by
  have hslot : (s.modDrive d (fun x => { x with trayRecord := none })).drive d = { s.drive d with trayRecord := none } :=
    s.drive_modDrive_self d _
  have hside := State.closeTray_discSide (s.modDrive d (fun x => { x with trayRecord := none })) d
  rw [hslot] at hside
  simp only [DriveSlot.discSide, Prod.mk.injEq] at hside
  obtain ⟨hstate, hphase, hentry, htray⟩ := hside
  refine ⟨htray, hentry, hstate, hphase, fun f hf => ?_, fun ho hc => ?_⟩
  · rw [State.pickTray, State.closeTray_drive_of_ne _ _ hf, State.drive_modDrive_of_ne _ _ _ _ hf.symm]
  · have hsent := State.closeTray_outstanding (s := s.modDrive d (fun x => { x with trayRecord := none })) (d := d)
    rw [hslot] at hsent
    exact hsent ho hc

/-! ### The printer after a pick (R177) -/

/-- What a request asked for on the printer link leaves of the printer, and when it goes out (R168). -/
theorem State.askPrinter_printer (s : State) (q : PrinterRequest) :
    (s.askPrinter q).printer.state = s.printer.state ∧ (s.askPrinter q).printer.phase = s.printer.phase ∧
      (s.askPrinter q).printer.token = s.printer.token ∧
      (s.printer.outstanding = none → s.printer.checkPhase = .idle →
        (s.askPrinter q).printer.outstanding = some { req := q, number := s.printer.nextNumber }) := by
  unfold State.askPrinter State.sendPrinter
  split
  next => exact ⟨rfl, rfl, rfl, fun _ _ => rfl⟩
  next h => exact ⟨rfl, rfl, rfl, fun ho hc => absurd (by simp [ho, hc]) h⟩

/-- A disc has been picked from PR (R177): the printer lets it go by its fault run and the queue. -/
def PrinterPicked (s t : State) : Prop :=
  t.printer.token = none ∧ t.drives = s.drives ∧
    (2 ≤ s.printer.faultRun → t.printer.state = .faulted ∧ t.event .printer =
      (s.event .printer).raised .printer 0 (some (.printer .faulted .repeatedFaults))) ∧
    (s.printer.faultRun < 2 → (∃ f ∈ s.queue, f.dest = .station stationPR) →
      t.printer = { s.printer with token := none, state := .opened, phase := .noPhase }) ∧
    (s.printer.faultRun < 2 → (∀ f ∈ s.queue, f.dest ≠ .station stationPR) →
      t.printer.state = .idle ∧ t.printer.phase = .closing ∧
      (s.printer.outstanding = none → s.printer.checkPhase = .idle →
        t.printer.outstanding = some { req := .trayIn, number := s.printer.nextNumber }))

theorem State.any_boundForPR_iff (s : State) :
    s.queue.any (·.boundForPR) = true ↔ ∃ f ∈ s.queue, f.dest = .station stationPR := by
  simp [Entry.boundForPR]

theorem printerPicked_printerPicked (s : State) : PrinterPicked s s.printerPicked := by
  have hdrives : s.printerPicked.drives = s.drives := changes_printerPicked s .drives (by simp)
  unfold PrinterPicked
  rw [hdrives]
  unfold State.printerPicked
  by_cases hrun : 2 ≤ s.printer.faultRun
  · have hprinter : ((s.modPrinter (fun p => { p with token := none })).printerFaulted .repeatedFaults).printer =
        { s.printer with token := none, state := .faulted, phase := .noPhase, waiting := none, checkPhase := .idle,
                         resetRunning := false } := by
      rw [State.printerFaulted, State.raisePrinter, Untouched.raise_printer]
      rfl
    simp only [if_pos hrun, hprinter]
    exact ⟨trivial, trivial, fun _ => ⟨trivial, State.raise_event _ _ _ _⟩, fun h => absurd hrun (not_le.mpr h),
      fun h => absurd hrun (not_le.mpr h)⟩
  · simp only [if_neg hrun]
    refine ⟨?_, trivial, fun h => absurd h hrun, fun _ hbound => ?_, fun _ hnone => ?_⟩
    · split
      · rfl
      · exact (State.askPrinter_printer _ _).2.2.1
    · rw [if_pos (s.any_boundForPR_iff.mpr hbound)]
      rfl
    · rw [if_neg (mt s.any_boundForPR_iff.mp (fun ⟨f, hf, hd⟩ => hnone f hf hd))]
      obtain ⟨hstate, hphase, -, hsent⟩ := State.askPrinter_printer
        ((s.modPrinter (fun p => { p with token := none })).modPrinter (fun p => { p with state := .idle, phase := .closing
          })) .trayIn
      exact ⟨hstate, hphase, hsent⟩

/-! ### The pick at a station -/

/-- The disc of token `k` has been picked at station `i`, a tray or PR: its record is ON-ARM and the station's owner
has been told (R150). -/
def StationPicked (i : StationNo) (k : Token) (s t : State) : Prop :=
  t.record k.num = { s.record k.num with location := .onArm } ∧ (∀ m, m ≠ k.num → t.record m = s.record m) ∧
    t.queue = s.queue ∧ t.stations = s.stations ∧ (∀ d, i = trayOf d → TrayPicked d s t ∧ t.printer = s.printer) ∧
    (i = stationPR → PrinterPicked s t)

/-- The record of a disc that the arm holds. -/
def State.onArm (s : State) (k : Token) : State := s.modRecord k.num (fun r => { r with location := .onArm })

section
variable {s : State} {e : Entry} {i : StationNo} {k : Token}

theorem State.writeRecord_onArm (hk : e.token = some k) (hl : s.live k = true) :
    s.writeRecord? e.token (fun r => { r with location := .onArm }) = s.onArm k := by
  simp only [hk, State.writeRecord?, State.writeRecord, hl, if_true, State.onArm]

theorem State.pickDone_of_tray {d : Drive} (hi : e.srcAt = some i) (hd : trayDrive i = some d) (hlow : 4 ≤ i.val)
    (hk : e.token = some k) (hl : s.live k = true) : s.pickDone e = (s.onArm k).pickTray d := by
  simp only [State.pickDone, hi, if_neg (not_lt.mpr hlow), hd, State.writeRecord_onArm hk hl]

theorem State.pickDone_of_printer (hi : e.srcAt = some i) (hd : trayDrive i = none) (hlow : 4 ≤ i.val)
    (hk : e.token = some k) (hl : s.live k = true) : s.pickDone e = (s.onArm k).printerPicked := by
  simp only [State.pickDone, hi, if_neg (not_lt.mpr hlow), hd, State.writeRecord_onArm hk hl]

end

theorem stationPicked_pickDone {s : State} {e : Entry} {i : StationNo} {k : Token} (hi : e.srcAt = some i)
    (hlow : 4 ≤ i.val) (hhigh : i.val ≤ 20) (hk : e.token = some k) (hl : s.live k = true) :
    StationPicked i k s (s.pickDone e) := by
  have hrecord : ∀ t : State, t.records = (s.onArm k).records →
      t.record k.num = { s.record k.num with location := .onArm } ∧ ∀ m, m ≠ k.num → t.record m = s.record m :=
    fun t ht => ⟨(State.record_congr ht _).trans (State.record_modRecord_self _ _ _),
      fun m hm => (State.record_congr ht m).trans (State.record_modRecord_of_ne _ _ _ _ hm.symm)⟩
  by_cases hpr : i = stationPR
  · have hdrive : trayDrive i = none := by rw [hpr]; decide
    rw [State.pickDone_of_printer hi hdrive hlow hk hl]
    obtain ⟨hself, hothers⟩ := hrecord (s.onArm k).printerPicked (changes_printerPicked _ .records (by simp))
    refine ⟨hself, hothers, changes_printerPicked _ .queue (by simp), changes_printerPicked _ .stations (by simp),
      fun d hd => ?_, fun _ => ?_⟩
    · rw [hd, trayDrive_trayOf] at hdrive
      cases hdrive
    · exact printerPicked_printerPicked (s.onArm k)
  · obtain ⟨d, rfl⟩ : ∃ d : Drive, i = trayOf d := by
      have hne : i.val ≠ 20 := fun h => hpr (Fin.ext h)
      exact ⟨⟨i.val - 4, by omega⟩, Fin.ext (by simp only [trayOf]; omega)⟩
    rw [State.pickDone_of_tray hi (trayDrive_trayOf d) hlow hk hl]
    obtain ⟨hself, hothers⟩ := hrecord ((s.onArm k).pickTray d) (changes_pickTray _ d .records (by simp))
    refine ⟨hself, hothers, changes_pickTray _ d .queue (by simp), changes_pickTray _ d .stations (by simp),
      fun f hf => ?_, fun h => absurd h hpr⟩
    obtain rfl : d = f := by
      have := congrArg Fin.val hf
      simp only [trayOf] at this
      exact Fin.ext (by omega)
    exact ⟨trayPicked_pickTray (s.onArm k) d, changes_pickTray _ d .printer (by simp)⟩

/-! ### The outcome of a PICK (R150, R153) -/

theorem State.pickEnded_of_station {s : State} {e : Entry} {i : StationNo} (hi : e.srcAt = some i) (hlow : 4 ≤ i.val)
    {o : ArmOutcome} (ho : o = .gripped ∨ o = .double) : s.pickEnded e o = s.gripped e := by
  rcases ho with rfl | rfl
  · simp only [State.pickEnded, hi]
  · simp only [State.pickEnded, hi, if_neg (not_lt.mpr hlow)]

theorem State.pickEnded_miss_of_station {s : State} {e : Entry} {i : StationNo} (hi : e.srcAt = some i)
    (hlow : 4 ≤ i.val) : s.pickEnded e .miss = s.stationMiss e := by
  simp only [State.pickEnded, hi, if_neg (not_lt.mpr hlow)]

theorem State.opEnded_pick {s : State} {e : Entry} (h : s.currentEntry = some e) {o : ArmOutcome}
    (ho : o = .gripped ∨ o = .double ∨ o = .miss) : s.clearOp.opEnded .pick o = s.clearOp.pickEnded e o := by
  rcases ho with rfl | rfl | rfl <;> simp only [State.opEnded, State.currentEntry_clearOp, h]

/-- The way to the destination, once a pick is done. -/
theorem State.travelToDest_eq {s : State} {e : Entry} {j : StationNo} (h : e.dstAt = some j) :
    s.travelToDest e = s.sendGoto j .travelDst := by
  simp only [State.travelToDest, h]

theorem State.currentEntry_current {s : State} {e : Entry} (h : s.currentEntry = some e) : e.current = true :=
  List.find?_some (p := fun e : Entry => e.current) h

/-- A retirement leaves every record but one set aside. -/
theorem State.retire_record_of_kept {s : State} (e : Entry) {n : RecNo} (h : (s.record n).use ≠ .setAside) :
    (s.retire e).record n = s.record n := by
  have haside : ((s.setQueue (s.queue.erase e)).returnSetAside e.setAside).record n = s.record n := by
    cases e.setAside with
    | none => rfl
    | some m =>
      by_cases hm : m = n
      · subst hm
        rw [State.returnSetAside, State.record_modRecord_self, State.record_setQueue', if_neg h]
      · exact State.record_modRecord_of_ne _ _ _ _ hm
  unfold State.retire
  dsimp only
  rw [State.record_congr ((changes_printerTray _) .records (by simp))]
  split
  · exact haside
  · exact haside

/-- A MISS at a station (R153): HELD with the record at UNKNOWN and the entry retired. -/
def MissedAt (e : Entry) (k : Token) (s t : State) : Prop :=
  HeldWith .miss s t ∧ t.transport.phase = .idle ∧ t.queue = s.queue.erase e ∧ (t.record k.num).location = .unknown ∧
    (t.record k.num).use = .inUse ∧ t.drives = s.drives

/-- The state of a MISS at a station before the entry is retired. -/
def State.stationMissed (s : State) (k : Token) : State :=
  ((s.modTransport (fun t => { t with pickMisses := 0 })).modRecord k.num (fun r => { r with location := .unknown
    })).enterHeld .miss

theorem State.stationMiss_eq {s : State} {e : Entry} {k : Token} (hk : e.token = some k) (hl : s.live k = true) :
    s.stationMiss e = (s.stationMissed k).retire e := by
  have hlive : (s.modTransport (fun t => { t with pickMisses := 0 })).live k = true := hl
  simp only [State.stationMiss, hk, State.writeRecord?, State.writeRecord, hlive, if_true, State.stationMissed]

theorem missedAt_stationMiss {s : State} {e : Entry} {k : Token} (hk : e.token = some k) (hl : s.live k = true)
    (hcurrent : e.current = true) : MissedAt e k s (s.clearOp.stationMiss e).arbiter := by
  rw [State.stationMiss_eq hk (show s.clearOp.live k = true from hl)]
  have hrecord : (s.clearOp.stationMissed k).record k.num = { s.record k.num with location := .unknown } := by
    rw [State.stationMissed, State.record_congr ((changes_enterHeld _ _) .records (by simp)), State.record_modRecord_self]
    rfl
  have huse : (s.record k.num).use = .inUse := by
    simp only [State.live, Bool.and_eq_true, decide_eq_true_eq] at hl
    exact hl.1
  have htransport : ((s.clearOp.stationMissed k).retire e).transport =
      ({ s.clearOp.transport with pickMisses := 0 }.held .miss).afterRetirement := by
    rw [State.retire_transport, if_pos hcurrent, State.stationMissed, State.enterHeld_transport]
    rfl
  have hheld : ((s.clearOp.stationMissed k).retire e).transport.mode = .held := by
    rw [htransport]
    rfl
  have hevent : ((s.clearOp.stationMissed k).retire e).event .armHeld =
      (s.event .armHeld).raised .armHeld 0 (some (.armHeld .miss)) := by
    rw [State.event_congr ((changes_retire _ e) .events (by simp)), State.stationMissed, State.enterHeld_armHeld]
    rfl
  rw [State.arbiter_of_not_running (by rw [hheld]; decide)]
  unfold MissedAt HeldWith
  rw [htransport, hevent, State.retire_record_of_kept e (by rw [hrecord]; exact ne_of_eq_of_ne huse (by decide)), hrecord, State.retire_queue,
    (changes_retire _ e) .drives (by simp)]
  refine ⟨⟨rfl, rfl, rfl, rfl, rfl, fun o ho => ?_, rfl⟩, rfl, ?_, rfl, huse, ?_⟩
  · simp [State.clearOp, Transport.held, Transport.abandon, Transport.afterRetirement] at ho
  · rw [State.stationMissed, State.enterHeld_queue]
    rfl
  · rw [State.stationMissed, (changes_enterHeld _ _) .drives (by simp)]
    rfl

/-- Settles O49: GRIPPED and DOUBLE tell the station's owner and the arm goes on; MISS marks the record, retires the
entry and enters HELD. -/
theorem stationPickOutcome : Obligations.StationPickOutcome := by
  unfold Obligations.StationPickOutcome
  rintro n e i j k s ⟨hmode, hout, hcurrent⟩ hi hlow hhigh hk hl hj x
  refine ⟨fun o ho => ?_, ?_⟩
  · have ht : s.armOutcome n o =
        ((s.clearOp.modTransport (fun t => { t with pickMisses := 0 })).pickDone e).sendGoto j .travelDst := by
      rw [State.armOutcome_of_outstanding hout, State.opEnded_pick hcurrent (by tauto), State.pickEnded_of_station hi hlow ho,
        State.gripped, State.travelToDest_eq hj]
      exact State.arbiter_of_outstanding (by simp [State.sendGoto, State.sendArm])
    have htransport := State.pickDone_transport (s.clearOp.modTransport (fun t => { t with pickMisses := 0 })) e
    obtain ⟨hself, hothers, hqueue, hstations, htray, hpr⟩ := stationPicked_pickDone
      (s := s.clearOp.modTransport (fun t => { t with pickMisses := 0 })) hi hlow hhigh hk hl
    refine ⟨_, congrArg Host.Outcome.next ht, ?_, hself, hothers, hqueue, fun d hd => ?_, fun h => hpr h⟩
    · rw [State.sendGoto_transport, htransport, State.station_congr hstations]
      rfl
    · obtain ⟨⟨hrecord, hentry, hstate, hphase, hrest, hsent⟩, hprinter⟩ := htray d hd
      exact ⟨hrecord, hentry, hstate, hphase, hrest, hsent, hprinter⟩
  · have ht : s.armOutcome n .miss = (s.clearOp.stationMiss e).arbiter := by
      rw [State.armOutcome_of_outstanding hout, State.opEnded_pick hcurrent (by tauto), State.pickEnded_miss_of_station hi hlow]
    refine ⟨_, congrArg Host.Outcome.next ht, ?_⟩
    exact missedAt_stationMiss hk hl (State.currentEntry_current hcurrent)

end Sys2Proof.Machine
end

section
/-! The end of a disc record (R134) with the notice that may cause a downshift (R79, R80): O29, and what later proofs
read of an ended record. -/

namespace Sys2Proof.Machine

/-! ### The orders at a load decision -/

/-- The order keeps its state and its results, and its count of discs in progress too unless it is OPEN. -/
def Order.reservedOnly (x y : Order) : Prop :=
  y.state = x.state ∧ y.passed = x.passed ∧ y.failed = x.failed ∧ y.quantity = x.quantity ∧
    (x.state ≠ .opened → y.inProgress = x.inProgress)

theorem Order.reservedOnly_refl (x : Order) : x.reservedOnly x := ⟨rfl, rfl, rfl, rfl, fun _ => rfl⟩

theorem Order.reservedOnly_trans {x y z : Order} (hxy : x.reservedOnly y) (hyz : y.reservedOnly z) :
    x.reservedOnly z := by
  obtain ⟨hs, hp, hf, hq, hi⟩ := hxy
  obtain ⟨hs', hp', hf', hq', hi'⟩ := hyz
  exact ⟨hs'.trans hs, hp'.trans hp, hf'.trans hf, hq'.trans hq,
    fun h => (hi' (by rwa [hs])).trans (hi h)⟩

theorem State.takePending_order (s : State) (d : Drive) (o : OrderNo) : (s.takePending d).order o = s.order o :=
  State.order_congr ((changes_takePending s d) .orders (by simp)) o

theorem State.decideDrive_order (s : State) (d : Drive) (o : OrderNo) :
    (s.order o).reservedOnly ((s.decideDrive d).order o) := by
  unfold State.decideDrive State.loadIfAllowed
  split
  · split
    next a ha =>
      split
      next hallowed =>
        have hopen := ((State.loadAllowed_iff _ _ _).mp hallowed).1
        rw [State.startLoading_order]
        split
        next h =>
          subst h
          rw [State.takePending_order] at hopen ⊢
          exact ⟨rfl, rfl, rfl, rfl, fun hn => absurd hopen hn⟩
        next => rw [State.takePending_order]; exact Order.reservedOnly_refl _
      next => rw [State.takePending_order]; exact Order.reservedOnly_refl _
    next => rw [State.takePending_order]; exact Order.reservedOnly_refl _
  · exact Order.reservedOnly_refl _

theorem State.loadDecision_order (s : State) (o : OrderNo) : (s.order o).reservedOnly (s.loadDecision.order o) :=
  List.foldlRecOn (motive := fun t : State => (s.order o).reservedOnly (t.order o)) _ State.decideDrive
    (Order.reservedOnly_refl _) (fun t ht d _ => Order.reservedOnly_trans ht (t.decideDrive_order d o))

/-! ### The steps of a record's end -/

/-- A record with the cause of its end (R132). -/
def DiscRecord.withEnd (r : DiscRecord) (cause : Option FailCause) : DiscRecord := { r with cause := r.cause <|> cause }

section
variable (s : State) (k : Token) (cause : Option FailCause) (final : Place)

/-- The record of token `k` at its end. -/
def State.lastRecord : DiscRecord := (s.record k.num).withEnd cause

/-- The state with the end's cause in the record. -/
def State.endCaused : State := s.modRecord k.num (·.withEnd cause)

/-- The end of a record up to its release: DISC-DONE, the order's counts and the notice to the drive (R134). -/
def State.endTold : State :=
  let r := s.lastRecord k cause
  let v := r.verdictAtEnd final
  (((s.endCaused k cause).emit (.discDone k.num r final v)).chargeOrder r.order v).noticeEnd r.drive v r.cause

/-- The record is free. -/
def State.endFreed : State := (s.endTold k cause final).modRecord k.num (fun x => { x with use := .free })

end

section
variable {s : State} {k : Token}

theorem DiscRecord.withEnd_none (r : DiscRecord) : r.withEnd none = r := by
  have h : (r.cause <|> none) = r.cause := by cases r.cause <;> rfl
  rw [DiscRecord.withEnd, h]

theorem State.endCaused_none (s : State) (k : Token) : s.endCaused k none = s := by
  rw [State.endCaused, State.modRecord, DiscRecord.withEnd_none, State.record, Vector.set_getElem_self]

theorem State.giveCause_of_live (hl : s.live k = true) (c : FailCause) :
    s.giveCause (some k) c = s.endCaused k (some c) :=
  if_pos hl

/-- The end of a record is its release, and then the load decision of its order (R134). -/
theorem State.endRecord_eq (hl : s.live k = true) (cause : Option FailCause) (final : Place) :
    s.endRecord k cause final = (s.endFreed k cause final).reloadFor (s.lastRecord k cause).order := by
  have hrecord : (s.endCaused k cause).record k.num = s.lastRecord k cause := State.record_modRecord_self _ _ _
  cases cause with
  | none =>
    rw [State.endCaused_none] at hrecord
    simp only [State.endRecord, hrecord, State.endFreed, State.endTold, State.endCaused_none]
  | some c =>
    simp only [State.endRecord, State.giveCause_of_live hl, hrecord, State.endFreed, State.endTold]

variable (s k) (cause : Option FailCause) (final : Place)

theorem State.endTold_record (n : RecNo) : (s.endTold k cause final).record n = (s.endCaused k cause).record n := by
  unfold State.endTold
  dsimp only
  rw [State.record_congr ((changes_noticeEnd _ _ _ _) .records (by simp)),
    State.record_congr ((changes_chargeOrder _ _ _) .records (by simp))]
  rfl

theorem State.endFreed_record_self :
    (s.endFreed k cause final).record k.num = { s.lastRecord k cause with use := .free } := by
  rw [State.endFreed, State.record_modRecord_self, State.endTold_record, State.endCaused, State.record_modRecord_self]
  rfl

theorem State.endFreed_record_of_ne {n : RecNo} (h : n ≠ k.num) : (s.endFreed k cause final).record n = s.record n := by
  rw [State.endFreed, State.record_modRecord_of_ne _ _ _ _ h.symm, State.endTold_record, State.endCaused,
    State.record_modRecord_of_ne _ _ _ _ h.symm]

theorem changes_endTold : Changes [.records, .drives, .orders, .events, .outbound] s (s.endTold k cause final) := by
  unfold State.endTold
  have hemit : Changes [.outbound] (s.endCaused k cause) ((s.endCaused k cause).emit (.discDone k.num (s.lastRecord k cause)
      final ((s.lastRecord k cause).verdictAtEnd final))) :=
    changes_of_closed fun _ hc h => hc.discDone (by simp) _ _ _ _ _ h
  exact (((changes_modRecord s _ _).mono (by simp)).trans (hemit.mono (by simp))).trans
    (((changes_chargeOrder _ _ _).mono (by simp)).trans ((changes_noticeEnd _ _ _ _).mono (by simp)))

theorem changes_endFreed : Changes [.records, .drives, .orders, .events, .outbound] s (s.endFreed k cause final) :=
  (changes_endTold s k cause final).trans ((changes_modRecord _ _ _).mono (by simp))

theorem changes_endFreed_of_no_order (h : (s.lastRecord k cause).order = none) :
    Changes [.records, .drives, .events, .outbound] s (s.endFreed k cause final) := by
  have hemit : Changes [.outbound] (s.endCaused k cause) ((s.endCaused k cause).emit (.discDone k.num (s.lastRecord k cause)
      final ((s.lastRecord k cause).verdictAtEnd final))) :=
    changes_of_closed fun _ hc h => hc.discDone (by simp) _ _ _ _ _ h
  simp only [State.endFreed, State.endTold, h, State.chargeOrder]
  exact (((changes_modRecord s _ _).mono (by simp)).trans (hemit.mono (by simp))).trans
    (((changes_noticeEnd _ _ _ _).mono (by simp)).trans ((changes_modRecord _ _ _).mono (by simp)))

/-- What DISC-DONE tells comes before every other frame of the end (R134). -/
theorem joined_endFreed : Joined [.discDone k.num (s.lastRecord k cause) final
    ((s.lastRecord k cause).verdictAtEnd final)] s (s.endFreed k cause final) :=
  joined_of_closed (ps := [.drives, .orders, .records, .outbound, .events])
    (u := (s.endCaused k cause).emit (.discDone k.num (s.lastRecord k cause) final
      ((s.lastRecord k cause).verdictAtEnd final))) rfl
    (fun _ hc h => hc.records (by simp) _ _ _ (closed_noticeEnd hc (by simp) (closed_chargeOrder hc (by simp) h)))

end

section
variable {s : State} {k : Token} (hl : s.live k = true) (cause : Option FailCause) (final : Place)
include hl

theorem State.endRecord_record (n : RecNo) :
    (s.endRecord k cause final).record n = (s.endFreed k cause final).record n := by
  rw [State.endRecord_eq hl, State.record_congr ((changes_reloadFor _ _) .records (by simp))]

theorem State.endRecord_record_self :
    (s.endRecord k cause final).record k.num = { s.lastRecord k cause with use := .free } := by
  rw [State.endRecord_record hl, State.endFreed_record_self]

theorem State.endRecord_record_of_ne {n : RecNo} (h : n ≠ k.num) :
    (s.endRecord k cause final).record n = s.record n := by
  rw [State.endRecord_record hl, State.endFreed_record_of_ne _ _ _ _ h]

theorem joined_endRecord : Joined [.discDone k.num (s.lastRecord k cause) final
    ((s.lastRecord k cause).verdictAtEnd final)] s (s.endRecord k cause final) := by
  rw [State.endRecord_eq hl]
  exact joined_of_closed (ps := [.drives, .orders, .records, .queue, .printer, .outbound, .events])
    (u := (s.endCaused k cause).emit (.discDone k.num (s.lastRecord k cause) final
      ((s.lastRecord k cause).verdictAtEnd final))) rfl
    (fun _ hc h => closed_reloadFor hc (by simp) (hc.records (by simp) _ _ _
      (closed_noticeEnd hc (by simp) (closed_chargeOrder hc (by simp) h))))

end

/-! ### The verdict and the order's counts -/

theorem Place.isSpindle_iff (p : Place) : p.isSpindle = true ↔ ∃ i : Fin 4, p = .station (spindleStation i) := by
  cases p with
  | station i =>
    simp only [Place.isSpindle, decide_eq_true_eq, Place.station.injEq]
    exact ⟨fun h => ⟨⟨i.val, h⟩, rfl⟩, fun ⟨j, hj⟩ => hj ▸ j.isLt⟩
  | _ => simp [Place.isSpindle]

/-- The tests of R133 in their order. -/
theorem DiscRecord.verdictAtEnd_eq (r : DiscRecord) (final : Place) : r.verdictAtEnd final =
    if r.cause ≠ none then .fail
    else if ∃ i : Fin 4, final = .station (spindleStation i) then .returned
    else if r.burn = .pass ∧ (r.verify = .pass ∨ r.verify = .skipped) ∧ (r.print = .pass ∨ r.print = .notRequired) then
      .pass
    else .fail := by
  simp only [← Place.isSpindle_iff, DiscRecord.verdictAtEnd, DiscRecord.verdictAtDispatch]
  cases r.cause <;> simp

/-- An order after the end of a disc of it, completed when its quantity has passed (R128, R134). -/
def Order.settled (x : Order) (v : Verdict) : Order :=
  { x.charge v with state := if v = .pass ∧ x.passed + 1 = x.quantity then .complete else x.state }

section
variable (s : State) (o : OrderNo) (v : Verdict)

theorem State.chargeOrder_completes_iff : (v = .pass ∧ ((s.modOrder o (·.charge v)).order o).passed =
    ((s.modOrder o (·.charge v)).order o).quantity) ↔ v = .pass ∧ (s.order o).passed + 1 = (s.order o).quantity := by
  rw [State.order_modOrder_self]
  exact and_congr_right fun h => by subst h; rfl

theorem State.chargeOrder_order : (s.chargeOrder (some o) v).order o = (s.order o).settled v := by
  simp only [State.chargeOrder, State.chargeOrder_completes_iff, Order.settled]
  split
  · rw [State.raiseOrder, Untouched.raise_order, State.order_modOrder_self, State.order_modOrder_self]
  · rw [State.order_modOrder_self]
    cases v <;> rfl

theorem State.chargeOrder_orderState : (s.chargeOrder (some o) v).event .orderState =
    if v = .pass ∧ (s.order o).passed + 1 = (s.order o).quantity then
      (s.event .orderState).raised .orderState (bitMask o.val) none
    else s.event .orderState := by
  simp only [State.chargeOrder, State.chargeOrder_completes_iff]
  split
  · rw [State.raiseOrder, State.raise_event]
    rfl
  · rfl

end

/-! ### The notice to the drive (R79, R80) -/

/-- The causes that R79 counts. -/
theorem FailCause.counts_iff (c : FailCause) : c.counts = true ↔
    c = .writeFault ∨ c = .closeFault ∨ c = .verifyErrors ∨ c = .unreadable := by
  cases c <;> simp [FailCause.counts]

section
variable {s : State} {d : Drive} {a : Assignment}

theorem State.noticeEnd_of_counted {c : Option FailCause} (h : c.any (·.counts) = true) :
    s.noticeEnd (some d) .fail c = s.countFailure d := by
  simp only [State.noticeEnd, h, if_true]

theorem State.noticeEnd_of_other {v : Verdict} {c : Option FailCause} (hv : v ≠ .pass)
    (h : ¬ (v = .fail ∧ c.any (·.counts) = true)) : s.noticeEnd (some d) v c = s := by
  cases v with
  | pass => exact absurd rfl hv
  | returned => rfl
  | fail => exact if_neg fun hc => h ⟨rfl, hc⟩

theorem State.countFailure_of_below (ha : (s.drive d).active = some a) (h : (s.drive d).failCount + 1 < a.threshold) :
    s.countFailure d = s.modDrive d (fun x => { x with failCount := (s.drive d).failCount + 1 }) := by
  simp only [State.countFailure, ha, if_neg (not_le.mpr h)]

theorem State.countFailure_of_reached (ha : (s.drive d).active = some a) (h : a.threshold ≤ (s.drive d).failCount + 1) :
    s.countFailure d = s.downshift d a := by
  simp only [State.countFailure, ha, if_pos h]

/-- A rung below the floor rises by 1 (R80). -/
theorem State.downshift_of_below (h : (s.drive d).rung.val < a.floor.val) :
    ∃ g : Rung, g.val = (s.drive d).rung.val + 1 ∧
      s.downshift d a = (s.modDrive d (fun x => { x with failCount := 0, rung := g })).raise .downshift 0
        (some (.downshift d (some g))) :=
  ⟨⟨(s.drive d).rung.val + 1, by omega⟩, rfl, dif_pos h⟩

theorem State.downshift_of_floor (h : ¬ (s.drive d).rung.val < a.floor.val) :
    s.downshift d a = (s.modDrive d (fun x => { x with failCount := 0 })).raise .downshift 0
      (some (.downshift d none)) := dif_neg h

theorem State.noticeEnd_drive_of_ne (v : Verdict) (c : Option FailCause) {e : Drive} (h : e ≠ d) :
    (s.noticeEnd (some d) v c).drive e = s.drive e := by
  have hmod : ∀ f, (s.modDrive d f).drive e = s.drive e := fun f => State.drive_modDrive_of_ne _ _ _ _ h.symm
  unfold State.noticeEnd State.countFailure State.downshift
  cases v with
  | pass => exact hmod _
  | returned => rfl
  | fail =>
    dsimp only
    split_ifs
    · split
      · split_ifs
        · rw [Untouched.raise_drive, hmod]
        · rw [Untouched.raise_drive, hmod]
        · exact hmod _
      · exact hmod _
    · rfl

end

/-! ### The statement -/

/-- The end of a record that names an order, before and after the load decision (R128, R134). -/
theorem endFreed_order (s : State) (k : Token) (cause : Option FailCause) (final : Place) {o : OrderNo}
    (ho : (s.lastRecord k cause).order = some o) : (s.endFreed k cause final).order o =
      (s.order o).settled ((s.lastRecord k cause).verdictAtEnd final) := by
  unfold State.endFreed State.endTold
  dsimp only
  rw [State.order_modRecord', State.order_congr ((changes_noticeEnd _ _ _ _) .orders (by simp)), ho,
    State.chargeOrder_order]
  rfl

theorem State.noticeEnd_event_of_ne (s : State) (d : Option Drive) (v : Verdict) (c : Option FailCause) {k : EventClass}
    (h : k ≠ .downshift) : (s.noticeEnd d v c).event k = s.event k := by
  unfold State.noticeEnd State.countFailure State.downshift
  split
  · split
    · rfl
    · split_ifs
      · dsimp only
        split
        · split_ifs
          · rw [State.raise_event_of_ne _ _ _ h]; rfl
          · rw [State.raise_event_of_ne _ _ _ h]; rfl
          · rfl
        · rfl
      · rfl
    · rfl
  · rfl

theorem endFreed_orderState (s : State) (k : Token) (cause : Option FailCause) (final : Place) {o : OrderNo}
    (ho : (s.lastRecord k cause).order = some o) : (s.endFreed k cause final).event .orderState =
      if (s.lastRecord k cause).verdictAtEnd final = .pass ∧ (s.order o).passed + 1 = (s.order o).quantity then
        (s.event .orderState).raised .orderState (bitMask o.val) none
      else s.event .orderState := by
  unfold State.endFreed State.endTold
  dsimp only
  rw [State.event_modRecord', State.noticeEnd_event_of_ne _ _ _ _ (by decide), ho, State.chargeOrder_orderState]
  rfl

/-- Settles O29: the end is cause, DISC-DONE, order, notice and release in this order, with the load decision after it;
a notice counts the failures of R79 and shifts down at the threshold. -/
theorem endOfRecordAndDownshift : Obligations.EndOfRecordAndDownshift := by
  unfold Obligations.EndOfRecordAndDownshift
  refine ⟨fun s k cause final hl => ?_, fun s d v c => ?_⟩
  · intro c r v t
    have hv : v = (s.lastRecord k cause).verdictAtEnd final := (DiscRecord.verdictAtEnd_eq (s.lastRecord k cause) final).symm
    refine ⟨State.endRecord_record_self hl cause final, fun n hn => State.endRecord_record_of_ne hl cause final hn, ?_,
      fun o ho => ?_, fun ho => ?_, (changes_endRecord s k cause final).mono (by simp)⟩
    · rw [hv]
      exact joined_endRecord hl cause final
    · have ht : t = (s.endFreed k cause final).loadDecision := by
        have horder : (s.lastRecord k cause).order = some o := ho
        simp only [t, State.endRecord_eq hl, State.reloadFor, horder, Option.isSome_some, if_true]
      obtain ⟨hstate, hpassed, hfailed, -, hprogress⟩ := (s.endFreed k cause final).loadDecision_order o
      rw [← ht, endFreed_order s k cause final ho, ← hv] at hstate hpassed hfailed hprogress
      refine ⟨⟨s.endFreed k cause final, ht, s.endFreed_record_self k cause final, ?_, changes_endFreed s k cause final⟩,
        hstate, hpassed.trans ?_, hfailed.trans ?_, fun h => (hprogress ?_).trans ?_, fun hpass hquantity => ?_⟩
      · rw [endFreed_order s k cause final ho]
        cases (s.lastRecord k cause).verdictAtEnd final <;> rfl
      · cases v <;> rfl
      · cases v <;> rfl
      · simp only [Order.settled]
        split
        next => decide
        next hn => exact h.resolve_right hn
      · cases v <;> rfl
      · rw [ht, State.loadDecision_event_of_ne _ (by decide) (by decide), endFreed_orderState s k cause final ho, ← hv,
          if_pos ⟨hpass, hquantity⟩]
    · have hnone : (s.lastRecord k cause).order = none := ho
      simp only [t, State.endRecord_eq hl, State.reloadFor, hnone, Option.isSome_none, Bool.false_eq_true, if_false]
      exact changes_endFreed_of_no_order s k cause final hnone
  · intro x t counted
    have hcounted : counted ↔ v = .fail ∧ c.any (·.counts) = true := by
      cases c <;> simp [counted, FailCause.counts_iff]
    refine ⟨fun hv => ?_, fun hv hn => ?_, fun hc a ha => ⟨fun h => ?_, fun h hrung => ?_, fun h hrung => ?_⟩,
      fun e he => State.noticeEnd_drive_of_ne v c he, (changes_noticeEnd s (some d) v c).mono (by simp), rfl⟩
    · subst hv
      exact ⟨State.drive_modDrive_self _ _ _, changes_modDrive s d _⟩
    · exact State.noticeEnd_of_other hv (mt hcounted.mpr hn)
    all_goals
      obtain ⟨hfail, hany⟩ := hcounted.mp hc
      subst hfail
      have ht : t = s.countFailure d := State.noticeEnd_of_counted hany
    · rw [ht, State.countFailure_of_below ha h]
      exact ⟨State.drive_modDrive_self _ _ _, changes_modDrive s d _⟩
    · obtain ⟨g, hg, hshift⟩ := State.downshift_of_below (s := s) hrung
      refine ⟨g, hg, ?_⟩
      rw [ht, State.countFailure_of_reached ha h, hshift, Untouched.raise_drive, State.drive_modDrive_self]
      exact ⟨rfl, raisedOnly_raise_of_events rfl _ _ _⟩
    · rw [ht, State.countFailure_of_reached ha h, State.downshift_of_floor hrung, Untouched.raise_drive,
        State.drive_modDrive_self]
      exact ⟨rfl, raisedOnly_raise_of_events rfl _ _ _⟩

end Sys2Proof.Machine
end

section
/-! What the load decision leaves of the queue and the printer, and what a spindle's pick does: the station, the record
and the current entry (R141, R150). -/

namespace Sys2Proof.Machine

/-! ### The printer tray where it stands still (R172) -/

/-- The printer's tray has nothing to do for the queue. -/
def State.trayStill (s : State) : Prop :=
  ¬ (s.printer.state = .idle ∧ s.printer.phase = .noPhase ∧ s.queue.any (·.boundForPR) = true) ∧
    ¬ (s.printer.state = .opened ∧ ¬ s.queue.any (·.boundForPR) = true)

theorem State.printerTray_of_still {s : State} (h : s.trayStill) : s.printerTray = s := by
  rw [State.printerTray, if_neg h.1, if_neg h.2]

/-! ### What joins the queue at a load decision (R56) -/

/-- An entry as a load decision enqueues it: a LOAD of a class that some LOADED spindle holds. -/
def State.joinsAsLoad (s : State) (f : Entry) : Prop :=
  f.kind = .load ∧ f.token = none ∧ f.current = false ∧ f.boundForPR = false ∧
    ∃ c, f.source = .mediaClass c ∧ (s.loadedSpindle c).isSome = true

/-- The queue has grown by LOADs at its tail, and the printer's tray has stood still if it did before. -/
def LoadsJoined (s t : State) : Prop :=
  (∃ added, t.queue = s.queue ++ added ∧ ∀ f ∈ added, s.joinsAsLoad f) ∧ t.stations = s.stations ∧
    (s.trayStill → t.printer = s.printer)

theorem LoadsJoined.of_changes {ps : List Part} {s t : State} (h : Changes ps s t) (hq : .queue ∉ ps) (hs : .stations ∉ ps)
    (hp : .printer ∉ ps) : LoadsJoined s t :=
  ⟨⟨[], by rw [h .queue hq, List.append_nil], fun _ hf => nomatch hf⟩, h .stations hs, fun _ => h .printer hp⟩

theorem LoadsJoined.refl (s : State) : LoadsJoined s s :=
  .of_changes (Changes.refl (ps := []) s) (by simp) (by simp) (by simp)

theorem State.loadedSpindle_congr {s t : State} (h : t.stations = s.stations) (c : Nat) :
    t.loadedSpindle c = s.loadedSpindle c := by
  simp only [State.loadedSpindle, State.station_congr h]

theorem any_boundForPR_append {q added : List Entry} (h : ∀ f ∈ added, f.boundForPR = false) :
    (q ++ added).any (·.boundForPR) = q.any (·.boundForPR) := by
  have hnone : added.any (·.boundForPR) = false := by simpa using h
  rw [List.any_append, hnone, Bool.or_false]

theorem State.trayStill_congr {s t : State} (hp : t.printer = s.printer)
    (hq : t.queue.any (·.boundForPR) = s.queue.any (·.boundForPR)) : t.trayStill ↔ s.trayStill := by
  rw [State.trayStill, hp, hq, State.trayStill]

theorem LoadsJoined.trans {s t u : State} (hst : LoadsJoined s t) (htu : LoadsJoined t u) : LoadsJoined s u := by
  obtain ⟨⟨added, hq, hadded⟩, hs, hp⟩ := hst
  obtain ⟨⟨added', hq', hadded'⟩, hs', hp'⟩ := htu
  refine ⟨⟨added ++ added', by rw [hq', hq, List.append_assoc], fun f hf => ?_⟩, hs'.trans hs, fun hstill => ?_⟩
  · rcases List.mem_append.mp hf with hf | hf
    · exact hadded f hf
    · obtain ⟨hk, ht, hc, hb, c, hsource, hloaded⟩ := hadded' f hf
      exact ⟨hk, ht, hc, hb, c, hsource, by rwa [State.loadedSpindle_congr hs] at hloaded⟩
  · have htray : t.trayStill := (State.trayStill_congr (hp hstill)
      (by rw [hq, any_boundForPR_append fun f hf => (hadded f hf).2.2.2.1])).mpr hstill
    exact (hp' htray).trans (hp hstill)

theorem boundForPR_loadEntry (s : State) (d : Drive) (o : OrderNo) : (s.loadEntry d o).boundForPR = false := by
  have hne : trayOf d ≠ stationPR := fun h => by
    have := congrArg Fin.val h
    simp only [trayOf, stationPR] at this
    omega
  simp [State.loadEntry, Entry.boundForPR, Entry.fresh, hne]

theorem loadsJoined_startLoading {s : State} {d : Drive} {o : OrderNo}
    (h : (s.loadedSpindle (s.order o).mediaClass).isSome = true) : LoadsJoined s (s.startLoading d o) := by
  have hentry : s.joinsAsLoad (s.loadEntry d o) := ⟨rfl, rfl, rfl, boundForPR_loadEntry s d o, _, rfl, h⟩
  refine ⟨⟨[s.loadEntry d o], s.startLoading_queue d o, fun f hf => by rwa [List.mem_singleton.mp hf]⟩,
    changes_startLoading s d o .stations (by simp), fun hstill => ?_⟩
  have hasked : (s.loadingAsked d).printer = s.printer := by
    rw [State.loadingAsked, changes_askDrive _ _ _ .printer (by simp)]
    rfl
  have hqueue : (s.loadingAsked d).queue = s.queue := by
    rw [State.loadingAsked, changes_askDrive _ _ _ .queue (by simp)]
    rfl
  have htray : ((s.loadingAsked d).setQueue ((s.loadingAsked d).queue ++ [s.loadEntry d o])).trayStill := by
    have hsame : ((s.loadingAsked d).queue ++ [s.loadEntry d o]).any (·.boundForPR) = s.queue.any (·.boundForPR) := by
      rw [hqueue]
      exact any_boundForPR_append fun f hf => by rw [List.mem_singleton.mp hf]; exact boundForPR_loadEntry s d o
    exact (State.trayStill_congr
      (t := (s.loadingAsked d).setQueue ((s.loadingAsked d).queue ++ [s.loadEntry d o])) hasked hsame).mpr hstill
  rw [State.startLoading_eq, changes_raiseDrive _ _ .printer (by simp), changes_reserve _ _ .printer (by simp),
    State.enqueue, State.printerTray_of_still htray]
  exact hasked

theorem loadsJoined_decideDrive (s : State) (d : Drive) : LoadsJoined s (s.decideDrive d) := by
  unfold State.decideDrive
  split
  next hasked =>
    have htaken : LoadsJoined s (s.takePending d) :=
      .of_changes (changes_takePending s d) (by simp) (by simp) (by simp)
    refine htaken.trans ?_
    unfold State.loadIfAllowed
    split
    next a ha =>
      split
      next hallowed =>
        refine loadsJoined_startLoading ?_
        have := (State.loadAllowed_iff _ _ _).mp hallowed
        rw [State.loadedSpindle_isSome_iff]
        tauto
      next => exact LoadsJoined.refl _
    next => exact LoadsJoined.refl _
  next => exact LoadsJoined.refl _

theorem loadsJoined_loadDecision (s : State) : LoadsJoined s s.loadDecision :=
  List.foldlRecOn (motive := fun t : State => LoadsJoined s t) _ State.decideDrive
    (LoadsJoined.refl s) (fun t ht d _ => ht.trans (loadsJoined_decideDrive t d))

theorem LoadsJoined.currentEntry {s t : State} (h : LoadsJoined s t) : t.currentEntry = s.currentEntry := by
  obtain ⟨⟨added, hq, hadded⟩, -, -⟩ := h
  have hnone : added.find? (·.current) = none := by
    rw [List.find?_eq_none]
    exact fun f hf => by simp [(hadded f hf).2.2.1]
  rw [State.currentEntry, hq, List.find?_append, hnone, Option.or_none, State.currentEntry]

/-! ### A retirement of stranded LOADs (R141) -/

theorem State.retireLoad_record_of_kept {s : State} (e : Entry) {n : RecNo} (h : (s.record n).use ≠ .setAside) :
    (s.retireLoad e).record n = s.record n := by
  rw [State.retireLoad, State.record_congr ((changes_loadRetired _ _) .records (by simp)),
    State.record_congr ((changes_unreserve _ _) .records (by simp)), State.retire_record_of_kept e h]

theorem State.retireStranded_record_of_kept {s : State} (lost : Nat → Bool) {n : RecNo}
    (h : (s.record n).use ≠ .setAside) : (s.retireStranded lost).record n = s.record n :=
  List.foldlRecOn (motive := fun t : State => t.record n = s.record n) s.queue
    (fun t e => if e.stranded lost then t.retireLoad e else t) rfl (fun t ht e _ => by
      split
      · rw [State.retireLoad_record_of_kept e (by rw [ht]; exact h), ht]
      · exact ht)

/-- A current entry whose disc has been picked is not among the stranded LOADs. -/
theorem State.retireStranded_currentEntry {s : State} (lost : Nat → Bool)
    (h : ∀ e ∈ s.queue, e.current = true → e.token.isSome = true) :
    (s.retireStranded lost).currentEntry = s.currentEntry := by
  rw [State.currentEntry, State.retireStranded_queue, List.find?_filter, State.currentEntry]
  refine List.find?_congr fun e he => ?_
  cases hc : e.current with
  | false => simp
  | true =>
    have htoken := h e he hc
    have hn : e.stranded lost = false := by
      rw [← Bool.not_eq_true, Entry.stranded_iff]
      rintro ⟨-, hnone, -⟩
      simp [hnone] at htoken
    simp [hn]

/-! ### Discs taken from a spindle (R141) -/

section
variable (s : State) (i : StationNo) (n : Nat)

/-- The spindle with `n` discs fewer. -/
def State.discsTaken : State := s.modStation i (·.taken n)

/-- The discs taken leave the spindle EMPTY. -/
def State.emptiedBy : Prop := (s.station i).loaded = true ∧ (s.station i).count ≤ n

variable {s i n}

theorem State.takeFrom_of_left (h : ¬ s.emptiedBy i n) : s.takeFrom i n = s.discsTaken i n :=
  if_neg fun ⟨hl, hc⟩ => h ⟨hl, Nat.sub_eq_zero_iff_le.mp hc⟩

theorem State.takeFrom_of_emptied (h : s.emptiedBy i n) :
    s.takeFrom i n = (((s.discsTaken i n).raise .spindleEmpty (bitMask i.val) none).retireStranded
      (s.lostTo (s.discsTaken i n))).loadDecision :=
  if_pos ⟨h.1, Nat.sub_eq_zero_iff_le.mpr h.2⟩

theorem State.takeFrom_stations : (s.takeFrom i n).stations = (s.discsTaken i n).stations := by
  by_cases h : s.emptiedBy i n
  · rw [State.takeFrom_of_emptied h, changes_loadDecision _ .stations (by simp),
      changes_retireStranded _ _ .stations (by simp), changes_raise _ _ _ _ .stations (by simp)]
  · rw [State.takeFrom_of_left h]

theorem State.takeFrom_station : (s.takeFrom i n).station i = (s.station i).taken n := by
  rw [State.station_congr State.takeFrom_stations, State.discsTaken, State.station_modStation_self]

theorem State.takeFrom_station_of_ne {j : StationNo} (h : j ≠ i) : (s.takeFrom i n).station j = s.station j := by
  rw [State.station_congr State.takeFrom_stations, State.discsTaken, State.station_modStation_of_ne _ _ _ _ h.symm]

/-- No station moves when discs are taken. -/
theorem State.takeFrom_targets (j : StationNo) : ((s.takeFrom i n).station j).lift = (s.station j).lift ∧
    ((s.takeFrom i n).station j).rotate = (s.station j).rotate := by
  by_cases h : j = i
  · rw [h, State.takeFrom_station]
    exact ⟨rfl, rfl⟩
  · rw [State.takeFrom_station_of_ne h]
    exact ⟨rfl, rfl⟩

theorem State.takeFrom_record_of_inUse {m : RecNo} (hm : (s.record m).use = .inUse) :
    (s.takeFrom i n).record m = s.record m := by
  by_cases h : s.emptiedBy i n
  · have hraised : ((s.discsTaken i n).raise .spindleEmpty (bitMask i.val) none).record m = s.record m :=
      State.record_congr ((changes_raise _ _ _ _) .records (by simp)) m
    rw [State.takeFrom_of_emptied h, State.record_congr ((changes_loadDecision _) .records (by simp)),
      State.retireStranded_record_of_kept _ (by rw [hraised]; exact ne_of_eq_of_ne hm (by decide)), hraised]
  · rw [State.takeFrom_of_left h]
    rfl

theorem State.takeFrom_currentEntry (hpicked : ∀ e ∈ s.queue, e.current = true → e.token.isSome = true) :
    (s.takeFrom i n).currentEntry = s.currentEntry := by
  by_cases h : s.emptiedBy i n
  · have hqueue : ((s.discsTaken i n).raise .spindleEmpty (bitMask i.val) none).queue = s.queue :=
      changes_raise (s.discsTaken i n) _ _ _ .queue (by simp)
    rw [State.takeFrom_of_emptied h, (loadsJoined_loadDecision _).currentEntry,
      State.retireStranded_currentEntry _ (by rw [hqueue]; exact hpicked), State.currentEntry, hqueue, State.currentEntry]
  · rw [State.takeFrom_of_left h]
    rfl

/-- SPINDLE-EMPTY is raised once when the spindle has become EMPTY. -/
theorem State.takeFrom_spindleEmpty (h : s.emptiedBy i n) : (s.takeFrom i n).event .spindleEmpty =
    (s.event .spindleEmpty).raised .spindleEmpty (bitMask i.val) none := by
  rw [State.takeFrom_of_emptied h, State.loadDecision_event_of_ne _ (by decide) (by decide),
    retireStranded_event_of_ne _ _ (by decide), State.raise_event]
  rfl

end

/-! ### The current entry changed -/

theorem State.currentEntry_modCurrent {s : State} {e : Entry} {f : Entry → Entry} (h : s.currentEntry = some e)
    (hf : ∀ x : Entry, x.current = true → (f x).current = true) : (s.modCurrent f).currentEntry = some (f e) := by
  have hcurrent := State.currentEntry_current h
  have hmap : (s.modCurrent f).currentEntry =
      (s.queue.find? (·.current)).map (fun e => if e.current then f e else e) := by
    rw [State.currentEntry, State.modCurrent, State.setQueue_queue, List.find?_map]
    refine congrArg _ (List.find?_congr fun x _ => ?_)
    cases hx : x.current with
    | false => simp [hx]
    | true => simp [hx, hf x hx]
  rw [hmap, show s.queue.find? (·.current) = some e from h, Option.map_some, if_pos hcurrent]

/-! ### The pick of a LOAD (R150) -/

section
variable {s : State} {e : Entry} {i : StationNo} {m : RecNo}

/-- A LOAD's pick before the disc leaves the count: the set-aside record is in use and the current entry names it. -/
def State.loadTaken (s : State) (i : StationNo) (e : Entry) (m : RecNo) : State :=
  (s.takeRecord m (s.loadRecord i e)).modCurrent (fun x => { x with token := some (s.nextToken m), setAside := none })

theorem State.pickDone_of_spindle (hi : e.srcAt = some i) (hlow : i.val < 4) (hm : e.setAside = some m) :
    s.pickDone e = (s.loadTaken i e m).takeFrom i 1 := by
  simp only [State.pickDone, hi, if_pos hlow, State.pickLoad, hm, State.loadTaken]

theorem State.loadTaken_record : (s.loadTaken i e m).record m =
    { s.loadRecord i e with use := .inUse, gen := (s.record m).gen + 1 } := by
  have h : (s.loadTaken i e m).record m = (s.takeRecord m (s.loadRecord i e)).record m := rfl
  rw [h, State.takeRecord, State.record_modRecord_self]

theorem State.loadTaken_picked : ∀ x ∈ (s.loadTaken i e m).queue, x.current = true → x.token.isSome = true :=
  State.modCurrent_token _ _ fun _ => rfl

theorem State.loadTaken_currentEntry (h : s.currentEntry = some e) : (s.loadTaken i e m).currentEntry =
    some { e with token := some (s.nextToken m), setAside := none } :=
  State.currentEntry_modCurrent (s := s.takeRecord m (s.loadRecord i e)) h fun _ hx => hx

end

end Sys2Proof.Machine
end

section
/-! The end of a HOME (R156, R158): that of a Transport Start and that of a Resume (O51). -/

namespace Sys2Proof.Machine

/-! ### How a HOME's end is taken -/

section
variable {s : State} {n : Byte}
  (hout : s.transport.outstanding = some { op := .home, number := n, abandoned := false })
include hout

theorem exec_homeOutcome (holding : Bool) :
    exec (.homeOutcome n (.homed holding)) s = .next (s.clearOp.homed holding).arbiter :=
  congrArg Host.Outcome.next (State.armOutcome_of_outstanding hout _)

theorem exec_homeTimeout : exec .armOperationTimeout s = .next s.clearOp.homeTimedOut.arbiter :=
  congrArg Host.Outcome.next (State.armTimeout_of_outstanding hout)

theorem exec_startHomed (h : s.transport.mode ≠ .held) (holding : Bool) :
    exec (.homeOutcome n (.homed holding)) s = .next (s.clearOp.startHomed holding).arbiter := by
  rw [exec_homeOutcome hout, State.homed, if_neg (show s.clearOp.transport.mode ≠ .held from h)]

theorem exec_resumeHomed (h : s.transport.mode = .held) (holding : Bool) :
    exec (.homeOutcome n (.homed holding)) s = .next (s.clearOp.resumeHomed holding).arbiter := by
  rw [exec_homeOutcome hout, State.homed, if_pos (show s.clearOp.transport.mode = .held from h)]

end

/-! ### A disc found in the gripper (R156, R158) -/

/-- The orphan record of a disc in the gripper and its PURGE to BX. -/
def State.armOrphan (s : State) (m : RecNo) : State :=
  (s.takeRecord m (DiscRecord.orphanAt 0 none .onArm)).enqueue
    (Entry.fresh .purge .arm (.station stationBX) (some (s.nextToken m)) none none)

section
variable {s : State} {m : RecNo}

theorem State.orphanOnArm_of_free (h : s.freeRecord = some m) : s.orphanOnArm = some (s.armOrphan m) := by
  simp only [State.orphanOnArm, h, State.armOrphan]

theorem State.orphanOnArm_of_none (h : s.freeRecord = none) : s.orphanOnArm = none := by
  simp only [State.orphanOnArm, h]

theorem changes_armOrphan : Changes [.records, .queue, .printer] s (s.armOrphan m) :=
  ((changes_modRecord s m _).mono (by simp)).trans ((changes_enqueue _ _).mono (by simp))

theorem State.armOrphan_record : (s.armOrphan m).record m =
    { DiscRecord.orphanAt 0 none .onArm with use := .inUse, gen := (s.record m).gen + 1 } := by
  rw [State.armOrphan, State.record_congr ((changes_enqueue _ _) .records (by simp)), State.takeRecord,
    State.record_modRecord_self]

theorem State.armOrphan_mem : Entry.fresh .purge .arm (.station stationBX) (some (s.nextToken m)) none none ∈
    (s.armOrphan m).queue := by
  rw [State.armOrphan, State.enqueue_queue]
  simp

end

/-! ### Back in RUNNING (R158) -/

/-- The transport in RUNNING again, before the load decision. -/
def State.resumedMode (s : State) : State := s.modTransport (·.resumed)

theorem State.resumed_eq (s : State) :
    s.resumed = if s.transport.heldCopy = true then s.resumedMode.loadDecision else s.resumedMode := rfl

theorem State.resumed_arbiter (s : State) : s.resumed.arbiter =
    if s.transport.heldCopy = true then s.resumedMode.loadDecision.arbiter else s.resumedMode.arbiter := by
  rw [State.resumed_eq]
  split <;> rfl

section
variable (s : State)

theorem loadsJoined_resumed : LoadsJoined s s.resumed := by
  have hmode : LoadsJoined s s.resumedMode := .of_changes (changes_modTransport s _) (by simp) (by simp) (by simp)
  rw [State.resumed_eq]
  split
  · exact hmode.trans (loadsJoined_loadDecision _)
  · exact hmode

theorem State.resumed_transport : s.resumed.transport = s.transport.resumed := by
  rw [State.resumed_eq]
  split
  · rw [changes_loadDecision _ .transport (by simp)]
    rfl
  · rfl

theorem State.resumed_record (m : RecNo) : s.resumed.record m = s.record m :=
  State.record_congr ((changes_resumed s) .records (by simp)) m

theorem State.resumed_drive {d : Drive} (h : (s.drive d).state ≠ .empty) : s.resumed.drive d = s.drive d := by
  rw [State.resumed_eq]
  split
  · exact State.loadDecision_drive_of_not_empty (s := s.resumedMode) h
  · rfl

theorem State.resumed_event_of_ne {k : EventClass} (ha : k ≠ .applyDone) (hd : k ≠ .driveState) :
    s.resumed.event k = s.event k := by
  rw [State.resumed_eq]
  split
  · exact State.loadDecision_event_of_ne _ ha hd
  · rfl

end

/-! ### A disc that goes on to its destination (R158) -/

/-- The move goes on from TRAVEL-DST to station `j`, in RUNNING. -/
def State.wentOn (s : State) (j : StationNo) : State := (s.sendGoto j .travelDst).resumed

section
variable {s : State} {j : StationNo}

theorem State.goOn_resumed {e : Entry} (h : s.currentEntry = some e) (hj : e.dstAt = some j) :
    s.goOn.resumed = s.wentOn j := by
  simp only [State.goOn, h, State.travelToDest_eq hj, State.wentOn]

theorem State.wentOn_transport : (s.wentOn j).transport = (s.transport.going (s.station j) .travelDst).resumed := by
  rw [State.wentOn, State.resumed_transport, State.sendGoto_transport]

theorem State.wentOn_arbiter : (s.wentOn j).arbiter = s.wentOn j :=
  State.arbiter_of_outstanding (by rw [State.wentOn_transport]; exact fun h => nomatch h)

theorem loadsJoined_wentOn : LoadsJoined s (s.wentOn j) :=
  (LoadsJoined.of_changes (changes_sendGoto s j .travelDst (by decide)) (by simp) (by simp) (by simp)).trans (loadsJoined_resumed _)

theorem State.wentOn_record (m : RecNo) : (s.wentOn j).record m = s.record m := State.resumed_record _ m

theorem State.wentOn_drive {d : Drive} (h : (s.drive d).state ≠ .empty) : (s.wentOn j).drive d = s.drive d :=
  State.resumed_drive (s.sendGoto j .travelDst) h

theorem State.wentOn_event_of_ne {k : EventClass} (ha : k ≠ .applyDone) (hd : k ≠ .driveState) :
    (s.wentOn j).event k = s.event k :=
  State.resumed_event_of_ne _ ha hd

end

/-! ### The HOME of a Transport Start (R156) -/

/-- RUNNING with the arm IDLE. -/
theorem State.run_transport (s : State) : s.run.transport = { s.transport with mode := .running, phase := .idle } := rfl

section
variable {s : State} {n : Byte}

theorem State.armIdle_transport (s : State) : s.armIdle.transport = { s.transport with phase := .idle } := rfl

/-- HELD with the arm IDLE, after a HOME that could not take the transport to RUNNING. -/
theorem heldWith_armIdle_enterHeld (s : State) (c : HeldCause) :
    HeldWith c s (s.clearOp.armIdle.enterHeld c).arbiter ∧
      (s.clearOp.armIdle.enterHeld c).arbiter.transport.phase = .idle ∧
      Changes [.transport, .events, .outbound] s (s.clearOp.armIdle.enterHeld c).arbiter := by
  rw [State.enterHeld_arbiter]
  refine ⟨?_, ?_, ?_⟩
  · unfold HeldWith
    rw [State.enterHeld_transport, State.enterHeld_armHeld]
    exact ⟨rfl, rfl, rfl, rfl, rfl,
      fun _ ho => by simp [State.armIdle, State.clearOp, Transport.held, Transport.abandon] at ho, rfl⟩
  · rw [State.enterHeld_transport]
    rfl
  · exact (((changes_clearOp s).mono (by simp)).trans ((changes_modTransport _ _).mono (by simp))).trans
      ((changes_enterHeld _ c).mono (by simp))

end

/-! ### HELD again (R158) -/

theorem State.heldAgain_effect (s : State) (c : HeldCause) (h : s.transport.mode = .held) :
    (s.clearOp.heldAgain c).arbiter.transport =
      { s.transport with outstanding := none, phase := .idle, heldCause := some c } ∧
    RaisedOnly .armHeld 0 (some (.armHeld c)) s (s.clearOp.heldAgain c).arbiter ∧
    Changes [.transport, .events, .outbound] s (s.clearOp.heldAgain c).arbiter := by
  have htransport : (s.clearOp.heldAgain c).transport =
      { s.transport with outstanding := none, phase := .idle, heldCause := some c } := by
    rw [State.heldAgain, Untouched.raise_transport]
    rfl
  rw [State.arbiter_of_not_running (by rw [htransport]; exact fun hr => by simp [h] at hr)]
  exact ⟨htransport, raisedOnly_raise_of_events rfl _ _ _,
    (((changes_clearOp s).mono (by simp)).trans ((changes_modTransport _ _).mono (by simp))).trans
      ((changes_raise _ _ _ _).mono (by simp))⟩

/-! ### The current entry at Resume's HOME (R158) -/

section
variable {s : State} {e : Entry}

theorem State.picked_iff {k : Token} (hk : e.token = some k) (hl : s.live k = true) :
    s.picked e = true ↔ (s.record k.num).location = .onArm := by
  simp [State.picked, hk, hl]

theorem State.resumeHomed_of_idle (h : s.currentEntry = none) : s.resumeHomed false = s.armIdle.resumed := by
  simp only [State.resumeHomed, h]
  rfl

theorem State.resumeHomed_of_orphan {m : RecNo} (h : s.currentEntry = none) (hm : s.freeRecord = some m) :
    s.resumeHomed true = (s.armOrphan m).armIdle.resumed := by
  simp only [State.resumeHomed, h, State.orphanOnArm_of_free hm]
  rfl

theorem State.resumeHomed_of_full (h : s.currentEntry = none) (hm : s.freeRecord = none) :
    s.resumeHomed true = s.heldAgain .noRecord := by
  simp only [State.resumeHomed, h, State.orphanOnArm_of_none hm]
  rfl

theorem State.resumeHomed_held (h : s.currentEntry = some e) (hp : s.picked e = true) :
    s.resumeHomed true = (s.resolveAgain e).goOn.resumed := by
  simp only [State.resumeHomed, h, hp, if_true]

theorem State.resumeHomed_lost (h : s.currentEntry = some e) (hp : s.picked e = true) :
    s.resumeHomed false = ((((s.endLost e.token).retire e).tellLoad e).armIdle).resumed := by
  simp only [State.resumeHomed, h, hp, if_true]
  rfl

theorem State.resumeHomed_gripped (h : s.currentEntry = some e) (hp : s.picked e = false) :
    s.resumeHomed true = (((s.modTransport (fun t => { t with pickMisses := 0 })).pickDone e).goOn).resumed := by
  simp only [State.resumeHomed, h, hp, if_true]
  rfl

theorem State.resumeHomed_unpicked (h : s.currentEntry = some e) (hp : s.picked e = false) :
    s.resumeHomed false = (((s.returnSetAside e.setAside).modCurrent (·.uncurrent)).armIdle).resumed := by
  simp only [State.resumeHomed, h, hp]
  rfl

end

/-! ### The statement -/

section
variable {s : State} {n : Byte}
  (hout : s.transport.outstanding = some { op := .home, number := n, abandoned := false })
include hout

theorem homeOfTransportStart (hmode : s.transport.mode ≠ .held) :
    (∃ u, exec (.homeOutcome n (.homed false)) s = .next u.arbiter ∧
      u.transport = { s.transport with mode := .running, phase := .idle, outstanding := none } ∧
      Changes [.transport] s u) ∧
    (∀ m, s.freeRecord = some m → ∃ u, exec (.homeOutcome n (.homed true)) s = .next u.arbiter ∧
      u = (s.clearOp.armOrphan m).run) ∧
    (s.freeRecord = none → ∃ t, exec (.homeOutcome n (.homed true)) s = .next t ∧ HeldWith .noRecord s t ∧
      t.transport.phase = .idle ∧ Changes [.transport, .events, .outbound] s t) ∧
    ∃ t, exec .armOperationTimeout s = .next t ∧ HeldWith .timeout s t ∧ t.transport.phase = .idle ∧
      Changes [.transport, .events, .outbound] s t := by
  refine ⟨⟨s.clearOp.run, exec_startHomed hout hmode false, rfl, (changes_clearOp s).trans (changes_modTransport _ _)⟩,
    fun m hm => ⟨_, ?_, rfl⟩, fun hnone => ⟨_, ?_, heldWith_armIdle_enterHeld s .noRecord⟩,
    ⟨_, ?_, heldWith_armIdle_enterHeld s .timeout⟩⟩
  · rw [exec_startHomed hout hmode, State.startHomed, if_pos rfl,
      State.orphanOnArm_of_free (show s.clearOp.freeRecord = some m from hm)]
  · rw [exec_startHomed hout hmode, State.startHomed, if_pos rfl,
      State.orphanOnArm_of_none (show s.clearOp.freeRecord = none from hnone)]
  · rw [exec_homeTimeout hout, State.homeTimedOut, if_neg (show s.clearOp.transport.mode ≠ .held from hmode)]

end

/-! ### The statement for a Resume -/

theorem Joined.of_closed {ps : List Part} {first : List OutFrame} {s t u : State} (h : Joined first s t)
    (hu : ∀ P : State → Prop, Closed anyUpdate ps P → P t → P u) : Joined first s u := by
  obtain ⟨later, hlater⟩ := h
  obtain ⟨more, hmore⟩ := hu _ (closed_grows t.outbound) (List.prefix_refl _)
  exact ⟨later ++ more, by simp [← hmore, hlater]⟩

/-- The transport in RUNNING after Resume, in arm phase `p` (R158). -/
def Transport.runs (x : Transport) (p : ArmPhase) : Transport :=
  { x with mode := .running, phase := p, outstanding := none, autoFeed := x.heldCopy, heldCause := none }

/-- The transport in RUNNING after Resume, on its way to station `i`. -/
def Transport.runsTo (x : Transport) (i : Station) : Transport :=
  { x.runs .travelDst with
    outstanding := some { op := .goto i.lift i.rotate, number := x.nextNumber, abandoned := false },
    nextNumber := x.nextNumber + 1 }

section
variable {s : State} {n : Byte}
  (hout : s.transport.outstanding = some { op := .home, number := n, abandoned := false })
  (hmode : s.transport.mode = .held)
include hout hmode

/-- A step that returns to RUNNING, told by the state before the load decision. -/
theorem exec_resumed {holding : Bool} {v : State} (hv : s.clearOp.resumeHomed holding = v.resumed)
    (hcopy : v.transport.heldCopy = s.transport.heldCopy) : exec (.homeOutcome n (.homed holding)) s =
      .next (if s.transport.heldCopy = true then v.resumedMode.loadDecision.arbiter else v.resumedMode.arbiter) := by
  rw [exec_resumeHomed hout hmode, hv, State.resumed_arbiter, hcopy]

/-- A disc still in the gripper whose pick is done goes on to its destination, resolved again. -/
theorem home_held {e : Entry} (he : s.currentEntry = some e) (hp : s.picked e = true) :
    ∃ t, exec (.homeOutcome n (.homed true)) s = .next t ∧
      t.transport = s.transport.runsTo (s.station (s.destOf e)) := by
  have hcurrent : (s.clearOp.resolveAgain e).currentEntry = some { e with dstAt := some (s.destOf e) } :=
    State.currentEntry_modCurrent (s := s.clearOp) he fun _ hx => hx
  refine ⟨(s.clearOp.resolveAgain e).wentOn (s.destOf e), ?_, ?_⟩
  · rw [exec_resumeHomed hout hmode, State.resumeHomed_held (s := s.clearOp) he hp, State.goOn_resumed hcurrent rfl,
      State.wentOn_arbiter]
  · rw [State.wentOn_transport]
    rfl

/-- The state in which the entry of a disc lost from the arm has been let go (R158). -/
def State.lostLetGo (s : State) (e : Entry) : State :=
  ((((s.clearOp.endLost e.token).retire e).tellLoad e).armIdle).resumedMode

theorem home_lost {e : Entry} {k : Token} (he : s.currentEntry = some e) (hk : e.token = some k) (hl : s.live k = true)
    (hp : s.picked e = true) : exec (.homeOutcome n (.homed false)) s = .next (if s.transport.heldCopy = true then
        (s.lostLetGo e).loadDecision.arbiter else (s.lostLetGo e).arbiter) ∧
      ((s.lostLetGo e).record k.num).use = .free ∧ (s.lostLetGo e).transport = s.transport.runs .idle ∧
      Joined [.discDone k.num ((s.record k.num).withEnd (some .lost)) .onArm .fail] s (s.lostLetGo e) := by
  have hlive : s.clearOp.live k = true := hl
  have hend : s.clearOp.endLost e.token = s.clearOp.endRecord k (some .lost) .onArm := by rw [hk]; rfl
  have htransport : (((s.clearOp.endLost e.token).retire e).tellLoad e).transport =
      { s.transport with outstanding := none, phase := .idle } := by
    rw [changes_tellLoad _ _ .transport (by simp), State.retire_transport, if_pos (State.currentEntry_current he),
      State.endLost_transport, Transport.afterRetirement, if_neg]
    · rfl
    · exact fun h => by simp [State.clearOp, hmode] at h
  have hrecord : ((s.clearOp.endLost e.token).record k.num).use = .free := by
    rw [hend, State.endRecord_record_self hlive]
  refine ⟨exec_resumed hout hmode (State.resumeHomed_lost (s := s.clearOp) he hp) ?_, ?_, ?_, ?_⟩
  · rw [State.armIdle_transport, htransport]
  · have hkept : (s.lostLetGo e).record k.num = (s.clearOp.endLost e.token).record k.num := by
      have htold : (s.lostLetGo e).record k.num = (((s.clearOp.endLost e.token).retire e).tellLoad e).record k.num := rfl
      rw [htold, State.record_congr ((changes_tellLoad _ _) .records (by simp)),
        State.retire_record_of_kept _ (ne_of_eq_of_ne hrecord (by decide))]
    rw [hkept, hrecord]
  · have hgo : (s.lostLetGo e).transport =
      { (((s.clearOp.endLost e.token).retire e).tellLoad e).transport with phase := .idle }.resumed := rfl
    rw [hgo, htransport]
    rfl
  · have hverdict : (s.clearOp.lastRecord k (some .lost)).verdictAtEnd .onArm = .fail := by
      rw [DiscRecord.verdictAtEnd_eq, if_pos]
      simp [State.lastRecord, DiscRecord.withEnd]
    have hjoined := joined_endRecord hlive (some .lost) .onArm
    rw [hverdict, ← hend] at hjoined
    exact Joined.of_closed (ps := [.drives, .records, .queue, .transport, .printer, .outbound, .events]) (s := s) hjoined
      fun _ hc h => hc.transport (by simp) _ _ (.inl trivial) (hc.transport (by simp) _ _ (.inl trivial)
        (closed_tellLoad hc (by simp) (closed_retire hc (by simp) h)))

/-- A disc gripped at a spindle before its PICK was answered goes on as a pick (R150, R158). -/
theorem home_gripped_spindle {e : Entry} {i : Fin 4} {m : RecNo} {j : StationNo} (he : s.currentEntry = some e)
    (hp : s.picked e = false) (hi : e.srcAt = some (spindleStation i)) (hm : e.setAside = some m) (hj : e.dstAt = some j) :
    ∃ t, exec (.homeOutcome n (.homed true)) s = .next t ∧ (t.record m).use = .inUse ∧ (t.record m).location = .onArm ∧
      (t.station (spindleStation i)).count = (s.station (spindleStation i)).count - 1 ∧
      t.transport = { s.transport with pickMisses := 0 }.runsTo (s.station j) := by
  obtain ⟨c, hc⟩ : ∃ c, c = s.clearOp.modTransport (fun t => { t with pickMisses := 0 }) := ⟨_, rfl⟩
  have hdone : c.pickDone e = (c.loadTaken (spindleStation i) e m).takeFrom (spindleStation i) 1 :=
    State.pickDone_of_spindle hi i.isLt hm
  have hcurrent : (c.pickDone e).currentEntry = some { e with token := some (c.nextToken m), setAside := none } := by
    rw [hdone, State.takeFrom_currentEntry State.loadTaken_picked]
    exact State.loadTaken_currentEntry (by rw [hc]; exact he)
  have hrecord : (c.pickDone e).record m = { c.loadRecord (spindleStation i) e with
      use := .inUse, gen := (c.record m).gen + 1 } := by
    rw [hdone, State.takeFrom_record_of_inUse (by rw [State.loadTaken_record]), State.loadTaken_record]
  have hstation : (c.pickDone e).station (spindleStation i) = (s.station (spindleStation i)).taken 1 := by
    rw [hdone, State.takeFrom_station, hc]
    rfl
  refine ⟨(c.pickDone e).wentOn j, ?_, ?_, ?_, ?_, ?_⟩
  · rw [exec_resumeHomed hout hmode, State.resumeHomed_gripped (s := s.clearOp) he hp, ← hc,
      State.goOn_resumed hcurrent hj, State.wentOn_arbiter]
  · rw [State.wentOn_record, hrecord]
  · rw [State.wentOn_record, hrecord]
    rfl
  · rw [State.station_congr loadsJoined_wentOn.2.1, hstation]
    rfl
  · obtain ⟨hlift, hrotate⟩ := State.takeFrom_targets (s := c.loadTaken (spindleStation i) e m) (i := spindleStation i)
      (n := 1) j
    rw [State.wentOn_transport, State.pickDone_transport, hdone, Transport.going, hlift, hrotate, hc]
    rfl

/-- A disc gripped at a tray or at PR before its PICK was answered: the station's owner is told (R150, R158). -/
theorem home_gripped_station {e : Entry} {k : Token} {i j : StationNo} (he : s.currentEntry = some e)
    (hp : s.picked e = false) (hk : e.token = some k) (hl : s.live k = true) (hi : e.srcAt = some i) (hlow : 4 ≤ i.val)
    (hhigh : i.val ≤ 20) (hj : e.dstAt = some j) :
    ∃ y, StationPicked i k s y ∧ exec (.homeOutcome n (.homed true)) s = .next (y.wentOn j) ∧
      (y.wentOn j).transport = { s.transport with pickMisses := 0 }.runsTo (s.station j) := by
  refine ⟨(s.clearOp.modTransport (fun t => { t with pickMisses := 0 })).pickDone e, ?_, ?_, ?_⟩
  · exact stationPicked_pickDone (s := s.clearOp.modTransport (fun t => { t with pickMisses := 0 })) hi hlow hhigh hk hl
  all_goals
    obtain ⟨-, -, hqueue, hstations, -, -⟩ := stationPicked_pickDone
      (s := s.clearOp.modTransport (fun t => { t with pickMisses := 0 })) hi hlow hhigh hk hl
  · have hcurrent : ((s.clearOp.modTransport (fun t => { t with pickMisses := 0 })).pickDone e).currentEntry = some e := by
      rw [State.currentEntry, hqueue]
      exact he
    rw [exec_resumeHomed hout hmode, State.resumeHomed_gripped (s := s.clearOp) he hp, State.goOn_resumed hcurrent hj,
      State.wentOn_arbiter]
  · rw [State.wentOn_transport, State.pickDone_transport, State.station_congr hstations]
    rfl

/-- The state in which an entry not picked waits its turn again (R158). -/
def State.waitsAgain (s : State) (e : Entry) : State :=
  (((s.clearOp.returnSetAside e.setAside).modCurrent (·.uncurrent)).armIdle).resumedMode

theorem home_unpicked {e : Entry} (he : s.currentEntry = some e) (hp : s.picked e = false) :
    exec (.homeOutcome n (.homed false)) s = .next (if s.transport.heldCopy = true then
        (s.waitsAgain e).loadDecision.arbiter else (s.waitsAgain e).arbiter) ∧
      (s.waitsAgain e).transport = s.transport.runs .idle ∧ (s.waitsAgain e).currentEntry = none ∧
      (s.waitsAgain e).queue.length = s.queue.length ∧
      ∀ m, e.setAside = some m → (s.record m).use = .setAside → ((s.waitsAgain e).record m).use = .free := by
  refine ⟨exec_resumed hout hmode (State.resumeHomed_unpicked (s := s.clearOp) he hp) ?_, ?_, ?_, ?_, fun m hm huse => ?_⟩
  · have hcopy : ((s.clearOp.returnSetAside e.setAside).modCurrent (·.uncurrent)).armIdle.transport.heldCopy =
        (s.clearOp.returnSetAside e.setAside).transport.heldCopy := rfl
    rw [hcopy, State.returnSetAside_transport]
    rfl
  · have hgo : (s.waitsAgain e).transport =
      { (s.clearOp.returnSetAside e.setAside).transport with phase := .idle }.resumed := rfl
    rw [hgo, State.returnSetAside_transport]
    rfl
  · rw [State.currentEntry_eq_none_iff]
    intro x hx
    obtain ⟨y, -, rfl⟩ := List.mem_map.mp hx
    cases hy : y.current with
    | false => simpa using hy
    | true => simp [Entry.uncurrent]
  · have hlength : (s.waitsAgain e).queue.length = (s.clearOp.returnSetAside e.setAside).queue.length := List.length_map _
    rw [hlength, State.returnSetAside_queue]
    rfl
  · have hkept : (s.waitsAgain e).record m = (s.clearOp.returnSetAside (some m)).record m := by rw [← hm]; rfl
    have hset : (s.clearOp.record m).use = .setAside := huse
    rw [hkept, State.returnSetAside, State.record_modRecord_self, if_pos hset]

end

/-- The printer's tray has nothing more to do once a disc has been picked from PR. -/
theorem trayStill_of_printerPicked {s t : State} (h : PrinterPicked s t) (hq : t.queue = s.queue) : t.trayStill := by
  obtain ⟨-, -, hfaulted, hbound, hunbound⟩ := h
  by_cases hrun : 2 ≤ s.printer.faultRun
  · have hstate := (hfaulted hrun).1
    exact ⟨fun h => by simp [hstate] at h, fun h => by simp [hstate] at h⟩
  · by_cases hb : ∃ f ∈ s.queue, f.dest = .station stationPR
    · have hprinter := hbound (not_le.mp hrun) hb
      have hany : t.queue.any (·.boundForPR) = true := by rw [hq, s.any_boundForPR_iff]; exact hb
      exact ⟨fun h => by simp [hprinter] at h, fun h => h.2 hany⟩
    · obtain ⟨hstate, hphase, -⟩ := hunbound (not_le.mp hrun) fun f hf hd => hb ⟨f, hf, hd⟩
      exact ⟨fun h => by simp [hphase] at h, fun h => by simp [hstate] at h⟩

/-- Settles O51: the HOME of a Transport Start ends in RUNNING or HELD by what the gripper holds; that of a Resume by
the current entry and whether its pick was done. -/
theorem homeOutcomeEffect : Obligations.HomeOutcomeEffect := by
  unfold Obligations.HomeOutcomeEffect
  intro n s hout x orphan runs
  have horphan : ∀ (m : RecNo) (u : State), u.records = (s.clearOp.armOrphan m).records →
      u.queue = (s.clearOp.armOrphan m).queue → orphan m u := fun m u hr hq =>
    ⟨(State.record_congr hr m).trans (State.armOrphan_record (s := s.clearOp)), _,
      by rw [hq]; exact State.armOrphan_mem, rfl, rfl, rfl, rfl⟩
  have hchanges : ∀ m, Changes [.records, .queue, .transport, .printer] s (s.clearOp.armOrphan m) := fun m =>
    ((changes_clearOp s).mono (by simp)).trans (changes_armOrphan.mono (by simp))
  refine ⟨fun hmode => ?_, fun hmode => ⟨fun he => ?_, fun m he hm => ?_, fun he hm => ?_, ?_, ?_, ?_, ?_, ?_⟩⟩
  · obtain ⟨hempty, hfound, hfull, htimeout⟩ := homeOfTransportStart hout hmode
    refine ⟨hempty, fun m hm => ?_, hfull, htimeout⟩
    obtain ⟨u, hexec, rfl⟩ := hfound m hm
    refine ⟨_, hexec, horphan m _ rfl rfl, ?_, (hchanges m).trans ((changes_modTransport _ _).mono (by simp))⟩
    rw [State.run_transport, changes_armOrphan .transport (by simp)]
    rfl
  · exact ⟨_, exec_resumed hout hmode (State.resumeHomed_of_idle (s := s.clearOp) he) rfl, rfl,
      ((changes_clearOp s).trans (changes_modTransport _ _)).trans (changes_modTransport _ _)⟩
  · have htransport : (s.clearOp.armOrphan m).transport = { s.transport with outstanding := none } :=
      changes_armOrphan .transport (by simp)
    have hcopy : (s.clearOp.armOrphan m).armIdle.transport.heldCopy = x.heldCopy := by
      rw [State.armIdle_transport, htransport]
    refine ⟨_, exec_resumed hout hmode (State.resumeHomed_of_orphan (s := s.clearOp) he hm) hcopy, ?_,
      horphan m _ rfl rfl, ((hchanges m).trans ((changes_modTransport _ _).mono (by simp))).trans
        ((changes_modTransport _ _).mono (by simp))⟩
    have hgo : (s.clearOp.armOrphan m).armIdle.resumedMode.transport =
      { (s.clearOp.armOrphan m).transport with phase := .idle }.resumed := rfl
    rw [hgo, htransport]
    rfl
  · refine ⟨_, ?_, State.heldAgain_effect s .noRecord hmode⟩
    rw [exec_resumeHomed hout hmode, State.resumeHomed_of_full (s := s.clearOp) he hm]
  · intro e k i j he hk hl hlocation hi hlow hhigh hj
    have hp : s.picked e = false := by
      rw [← Bool.not_eq_true, State.picked_iff hk hl]
      exact hlocation
    obtain ⟨y, ⟨hself, -, hqueue, -, htray, hpr⟩, hexec, htransport⟩ :=
      home_gripped_station hout hmode he hp hk hl hi hlow hhigh hj
    refine ⟨_, hexec, htransport, (State.wentOn_record _).trans hself, fun d hd => ?_, fun h => ?_⟩
    · obtain ⟨⟨hrecord, hentry, hstate, hphase, -, hsent⟩, -⟩ := htray d hd
      rw [State.wentOn_drive (by rw [hstate]; decide)]
      exact ⟨hrecord, hentry, hstate, hphase, hsent⟩
    · have hpicked := hpr h
      rw [loadsJoined_wentOn.2.2 (trayStill_of_printerPicked hpicked hqueue),
        State.wentOn_event_of_ne (by decide) (by decide)]
      obtain ⟨htoken, -, hrest⟩ := hpicked
      exact ⟨htoken, hrest⟩
  · intro e k he hk hl hlocation
    have hp := (State.picked_iff hk hl).mpr hlocation
    refine ⟨fun j hj => ?_, ?_⟩
    · subst hj
      exact home_held hout hmode he hp
    · obtain ⟨hexec, hfree, htransport, hjoined⟩ := home_lost hout hmode he hk hl hp
      exact ⟨_, hexec, hfree, htransport, hjoined⟩
  · intro e i m j he hnone hi hm hj
    exact home_gripped_spindle hout hmode he (by simp [State.picked, hnone]) hi hm hj
  · intro e he hp
    exact ⟨_, home_unpicked hout hmode he hp⟩
  · refine ⟨_, ?_, State.heldAgain_effect s .timeout hmode⟩
    rw [exec_homeTimeout hout, State.homeTimedOut, if_pos (show s.clearOp.transport.mode = .held from hmode)]

end Sys2Proof.Machine
end

section
/-! A PLACE answered RELEASED (R57, R134, R142, R151, R173): what the station's owner does with the disc, and the
retirement of the entry (O50). -/

namespace Sys2Proof.Machine

/-! ### What a record's end leaves of the queue and the events -/

section
variable {s : State} {k : Token} (hl : s.live k = true) (cause : Option FailCause) (final : Place)
include hl

theorem loadsJoined_endRecord : LoadsJoined s (s.endRecord k cause final) := by
  have hfreed : LoadsJoined s (s.endFreed k cause final) :=
    .of_changes (changes_endFreed s k cause final) (by simp) (by simp) (by simp)
  rw [State.endRecord_eq hl, State.reloadFor]
  split
  · exact hfreed.trans (loadsJoined_loadDecision _)
  · exact hfreed

theorem State.endRecord_event_of_ne {c : EventClass} (hd : c ≠ .downshift) (ho : c ≠ .orderState) (ha : c ≠ .applyDone)
    (hs : c ≠ .driveState) : (s.endRecord k cause final).event c = s.event c := by
  have hcharge : ∀ (t : State) (o : Option OrderNo) (v : Verdict), (t.chargeOrder o v).event c = t.event c := by
    intro t o v
    unfold State.chargeOrder State.raiseOrder
    split
    · dsimp only
      split
      · rw [State.raise_event_of_ne _ _ _ ho]
        rfl
      · rfl
    · rfl
  have hfreed : (s.endFreed k cause final).event c = s.event c := by
    unfold State.endFreed State.endTold
    dsimp only
    rw [State.event_modRecord', State.noticeEnd_event_of_ne _ _ _ _ hd, hcharge]
    rfl
  rw [State.endRecord_eq hl, State.reloadFor]
  split
  · rw [State.loadDecision_event_of_ne _ ha hs, hfreed]
  · exact hfreed

end

/-! ### The retirement of the current entry (R144, R151) -/

/-- The printer keeps its fields at a retirement while its tray has nothing to do with the queue (R172). -/
theorem State.retire_printer {s : State} (e : Entry) (hidle : s.printer.state ≠ .idle) (hopen : s.printer.state ≠ .opened) :
    (s.retire e).printer = s.printer := by
  have hstill : ∀ t : State, t.printer = s.printer → t.printerTray.printer = s.printer := fun t ht => by
    rw [State.printerTray_of_still ⟨fun h => hidle (ht ▸ h.1), fun h => hopen (ht ▸ h.1)⟩, ht]
  have haside : ((s.setQueue (s.queue.erase e)).returnSetAside e.setAside).printer = s.printer :=
    changes_returnSetAside (s.setQueue (s.queue.erase e)) _ .printer (by simp)
  unfold State.retire
  dsimp only
  split
  · exact hstill _ haside
  · exact hstill _ haside

/-- The transport when the current entry of a move has been retired (R144, R157). -/
def Transport.freed (x : Transport) : Transport :=
  { x with outstanding := none, phase := .idle, parkWaiting := false,
           mode := if x.parkWaiting = true then .parked else .running }

theorem Transport.afterRetirement_running {x : Transport} (ho : x.outstanding = none) (hm : x.mode = .running) :
    x.afterRetirement = x.freed := by
  unfold Transport.afterRetirement Transport.freed Transport.abandon
  rw [ho]
  cases hp : x.parkWaiting with
  | false => rw [if_neg (by simp)]; simp [hm]
  | true => rw [if_pos ⟨rfl, hm⟩]; simp

section
variable {s t : State} {e : Entry}

theorem State.retireCurrent_of_grown (he : s.currentEntry = some e) (hq : ∃ added, t.queue = s.queue ++ added) :
    t.retireCurrent = t.retire e := by
  obtain ⟨added, hadded⟩ := hq
  have hcurrent : t.currentEntry = some e := by
    rw [State.currentEntry, hadded, List.find?_append, show s.queue.find? (·.current) = some e from he, Option.some_or]
  simp only [State.retireCurrent, hcurrent]

theorem State.erase_grown (he : s.currentEntry = some e) {added : List Entry} (hq : t.queue = s.queue ++ added) :
    (t.retire e).queue = s.queue.erase e ++ added := by
  rw [State.retire_queue, hq, List.erase_append_left _ (List.mem_of_find?_eq_some he)]

end

/-! ### What each station does with the disc (R151) -/

section
variable {s : State} {i : StationNo} {k : Token}

theorem State.placeAt_of_spindle (h : i.val < 4) (tok : Option Token) : s.placeAt i tok = s.placeOnSpindle i tok := if_pos h

theorem State.placeAt_of_tray {d : Drive} (tok : Option Token) : s.placeAt (trayOf d) tok =
    (s.writeRecord? tok (fun r => { r with location := .station (trayOf d) })).placeNotice d tok := by
  have hn : ¬ (trayOf d).val < 4 := by simp [trayOf]
  simp only [State.placeAt, if_neg hn, trayDrive_trayOf]

theorem State.placeAt_of_printer (tok : Option Token) : s.placeAt stationPR tok =
    (s.writeRecord? tok (fun r => { r with location := .station stationPR })).printerPlaced tok := by
  have hn : ¬ stationPR.val < 4 := by decide
  have hd : trayDrive stationPR = none := by decide
  simp only [State.placeAt, if_neg hn, hd, if_true]

theorem State.placeAt_of_bin (h : 21 ≤ i.val) (tok : Option Token) : s.placeAt i tok = s.placeInBin i tok := by
  have hn : ¬ i.val < 4 := by omega
  have hd : trayDrive i = none := trayDrive_of_ge (by omega)
  have hne : i ≠ stationPR := fun hi => by
    rw [hi] at h
    exact absurd h (by decide)
  simp only [State.placeAt, if_neg hn, hd, if_neg hne]

end

/-! ### Into a bin and onto a spindle -/

section
variable {s : State} {k : Token} (hl : s.live k = true) (i : StationNo)

/-- The bin with one disc more. -/
def State.binFilled (s : State) (i : StationNo) : State := s.modStation i (fun x => { x with count := x.count + 1 })

/-- The spindle with one disc more, LOADED. -/
def State.spindleFilled (s : State) (i : StationNo) : State :=
  s.modStation i (fun x => { x with count := x.count + 1, loaded := true })

theorem State.placeInBin_eq (k : Token) : s.placeInBin i (some k) =
    ((s.binFilled i).endRecord k none (.station i)).raiseBinFull i := rfl

theorem State.placeOnSpindle_eq (k : Token) : s.placeOnSpindle i (some k) =
    ((s.spindleFilled i).endRecord k none (.station i)).loadDecision := rfl

theorem State.lastRecord_none (s : State) (k : Token) : s.lastRecord k none = s.record k.num :=
  DiscRecord.withEnd_none _

include hl

/-- A disc in a bin: the count has risen, the record has ended there, and a full bin is told of (R142). -/
theorem binned_placeInBin :
    (∃ added, (s.placeInBin i (some k)).queue = s.queue ++ added) ∧
    ((s.placeInBin i (some k)).station i).count = (s.station i).count + 1 ∧
    ((s.placeInBin i (some k)).record k.num).use = .free ∧
    Joined [.discDone k.num (s.record k.num) (.station i) ((s.record k.num).verdictAtEnd (.station i))] s
      (s.placeInBin i (some k)) ∧
    ((s.station i).count + 1 = (s.station i).capacity → (s.placeInBin i (some k)).event .binFull =
      (s.event .binFull).raised .binFull (bitMask (i.val - 21)) none) := by
  have hlive : (s.binFilled i).live k = true := hl
  have hloads := loadsJoined_endRecord hlive none (.station i)
  obtain ⟨⟨added, hqueue, -⟩, hstations, -⟩ := hloads
  have hkept := changes_raiseBinFull ((s.binFilled i).endRecord k none (.station i)) i
  have hstation : ((s.binFilled i).endRecord k none (.station i)).station i =
      { s.station i with count := (s.station i).count + 1 } := by
    rw [State.station_congr hstations, State.binFilled, State.station_modStation_self]
  rw [State.placeInBin_eq]
  refine ⟨⟨added, ?_⟩, ?_, ?_, ?_, fun hfull => ?_⟩
  · rw [hkept .queue (by simp), hqueue]
    rfl
  · rw [State.station_congr (hkept .stations (by simp)), hstation]
  · rw [State.record_congr (hkept .records (by simp)), State.endRecord_record_self hlive]
  · have hjoined := joined_endRecord hlive none (.station i)
    rw [State.lastRecord_none] at hjoined
    exact Joined.of_closed (s := s) (ps := [.outbound, .events]) hjoined fun _ hc h => closed_raiseBinFull hc (by simp) h
  · rw [State.raiseBinFull, if_pos (by rw [hstation]; exact hfull), State.raise_event,
      State.endRecord_event_of_ne hlive none _ (by decide) (by decide) (by decide) (by decide)]
    rfl

/-- A disc back on its spindle: the count has risen, the spindle is LOADED, and the record has ended there (R141). -/
theorem returned_placeOnSpindle :
    (∃ added, (s.placeOnSpindle i (some k)).queue = s.queue ++ added) ∧
    ((s.placeOnSpindle i (some k)).station i).count = (s.station i).count + 1 ∧
    ((s.placeOnSpindle i (some k)).station i).loaded = true ∧
    ((s.placeOnSpindle i (some k)).record k.num).use = .free ∧
    Joined [.discDone k.num (s.record k.num) (.station i) ((s.record k.num).verdictAtEnd (.station i))] s
      (s.placeOnSpindle i (some k)) := by
  have hlive : (s.spindleFilled i).live k = true := hl
  obtain ⟨⟨added, hqueue, -⟩, hstations, -⟩ :=
    (loadsJoined_endRecord hlive none (.station i)).trans (loadsJoined_loadDecision _)
  have hstation : (((s.spindleFilled i).endRecord k none (.station i)).loadDecision).station i =
      { s.station i with count := (s.station i).count + 1, loaded := true } := by
    rw [State.station_congr hstations, State.spindleFilled, State.station_modStation_self]
  rw [State.placeOnSpindle_eq, hstation]
  refine ⟨⟨added, hqueue⟩, rfl, rfl, ?_, ?_⟩
  · rw [State.record_congr ((changes_loadDecision _) .records (by simp)), State.endRecord_record_self hlive]
  · have hjoined := joined_endRecord hlive none (.station i)
    rw [State.lastRecord_none] at hjoined
    exact Joined.of_closed (s := s) (ps := [.drives, .orders, .queue, .printer, .outbound, .events]) hjoined
      fun _ hc h => closed_loadDecision hc (by simp) h

end

/-! ### Into a tray and to the printer -/

theorem State.writeRecord_of_live {s : State} {k : Token} (hl : s.live k = true) (f : DiscRecord → DiscRecord) :
    s.writeRecord? (some k) f = s.modRecord k.num f :=
  if_pos hl

section
variable {s : State} {k : Token} (hl : s.live k = true)
include hl

/-- A disc in a tray: the drive has the record and closes the tray (R57). -/
theorem placedInTray_placeAt (d : Drive) :
    (s.placeAt (trayOf d) (some k)).queue = s.queue ∧
    (s.placeAt (trayOf d) (some k)).record k.num =
      { s.record k.num with location := .station (trayOf d), drive := some d } ∧
    ((s.placeAt (trayOf d) (some k)).drive d).trayRecord = some k ∧
    ((s.placeAt (trayOf d) (some k)).drive d).entry = none ∧
    ((s.placeAt (trayOf d) (some k)).drive d).phase = .trayClosing ∧
    ((s.drive d).outstanding = none → (s.drive d).checkPhase = .idle →
      ((s.placeAt (trayOf d) (some k)).drive d).outstanding =
        some { req := .trayClose, number := (s.drive d).nextNumber }) := by
  obtain ⟨m, hm⟩ : ∃ m, m = s.modRecord k.num (fun r => { r with location := .station (trayOf d) }) := ⟨_, rfl⟩
  obtain ⟨y, hy⟩ : ∃ y, y = (m.modDrive d (fun x => { x with trayRecord := some k, entry := none, phase := .trayClosing
    })).modRecord k.num (fun r => { r with drive := some d }) := ⟨_, rfl⟩
  have hlive : (m.modDrive d (fun x => { x with trayRecord := some k, entry := none, phase := .trayClosing })).live k =
      true := by
    rw [hm]
    simpa [State.live] using hl
  have hplace : s.placeAt (trayOf d) (some k) = y.askDrive d .trayClose := by
    rw [State.placeAt_of_tray, State.writeRecord_of_live hl, ← hm, State.placeNotice, State.writeRecord_of_live hlive, hy]
  have hslot : y.drive d = { s.drive d with trayRecord := some k, entry := none, phase := .trayClosing } := by
    rw [hy, State.drive_modRecord', State.drive_modDrive_self, hm]
    rfl
  have hside := State.askDrive_discSide y d .trayClose
  rw [hslot] at hside
  simp only [DriveSlot.discSide, Prod.mk.injEq] at hside
  obtain ⟨-, hphase, hentry, htray⟩ := hside
  rw [hplace]
  refine ⟨?_, ?_, htray, hentry, hphase, fun ho hc => ?_⟩
  · rw [changes_askDrive _ _ _ .queue (by simp), hy, hm]
    rfl
  · rw [State.record_congr ((changes_askDrive _ _ _) .records (by simp)), hy, State.record_modRecord_self,
      State.record_modDrive', hm, State.record_modRecord_self]
  · have hfree : (y.drive d).portFree = true := by rw [hslot]; simp [DriveSlot.portFree, ho, hc]
    rw [State.askDrive_drive_of_free _ _ _ hfree, hslot]
    rfl

/-- The state of a disc placed at PR, before the printer acts. -/
def State.atPrinter (s : State) (k : Token) : State :=
  (s.modRecord k.num (fun r => { r with location := .station stationPR })).modPrinter (fun p => { p with token := some k })

theorem State.placeAt_printer_of_clean (hc : (s.record k.num).cause = none) : s.placeAt stationPR (some k) =
    ((s.atPrinter k).modPrinter (fun p => { p with state := .printing, phase := .trayIn })).askPrinter .trayIn := by
  have hlive : (s.modRecord k.num (fun r => { r with location := .station stationPR })).live k = true := by
    simpa [State.live] using hl
  rw [State.placeAt_of_printer, State.writeRecord_of_live hl]
  simp only [State.printerPlaced, Option.bind_some, State.liveRecord, hlive, if_true, State.record_modRecord_self, hc,
    Option.isSome_none, Bool.false_eq_true, if_false, State.atPrinter]

theorem State.placeAt_printer_of_failed (hc : (s.record k.num).cause ≠ none) :
    s.placeAt stationPR (some k) = (s.atPrinter k).waitPick := by
  have hlive : (s.modRecord k.num (fun r => { r with location := .station stationPR })).live k = true := by
    simpa [State.live] using hl
  rw [State.placeAt_of_printer, State.writeRecord_of_live hl]
  simp only [State.printerPlaced, Option.bind_some, State.liveRecord, hlive, if_true, State.record_modRecord_self,
    Option.isSome_iff_ne_none.mpr hc, State.atPrinter]

end

/-- The entry that the printer enqueues in WAIT-PICK (R174). -/
def State.pickEntry (s : State) : Entry :=
  if s.orphanAtPR then Entry.fresh .purge (.station stationPR) (.station stationBX) s.printer.token none none
  else Entry.fresh .clear (.station stationPR) .byVerdict s.printer.token none none

theorem State.pickEntry_source (s : State) : s.pickEntry.source = .station stationPR ∧ s.pickEntry.token = s.printer.token ∧
    s.pickEntry.drive = none ∧ s.pickEntry.current = false := by
  unfold State.pickEntry
  split <;> exact ⟨rfl, rfl, rfl, rfl⟩

/-- The printer in WAIT-PICK, before its entry joins the queue. -/
def State.atWaitPick (s : State) : State := s.modPrinter (fun p => { p with state := .discharge, phase := .waitPick })

/-- A printer in DISCHARGE, FAULTED, OFFLINE or PRINTING has no tray to move for the queue (R172). -/
theorem State.trayStill_of_state {s : State} (hidle : s.printer.state ≠ .idle) (hopen : s.printer.state ≠ .opened) :
    s.trayStill := ⟨fun h => hidle h.1, fun h => hopen h.1⟩

theorem State.waitPick_eq (s : State) : s.waitPick =
    (s.atWaitPick.setQueue (s.queue ++ [s.atWaitPick.pickEntry])).resetEnded .discharge := by
  have hstill : (s.atWaitPick.setQueue (s.atWaitPick.queue ++ [s.atWaitPick.pickEntry])).printerTray =
      s.atWaitPick.setQueue (s.atWaitPick.queue ++ [s.atWaitPick.pickEntry]) :=
    State.printerTray_of_still (State.trayStill_of_state (by simp [State.atWaitPick]) (by simp [State.atWaitPick]))
  have henqueue : s.waitPick = (s.atWaitPick.enqueue s.atWaitPick.pickEntry).resetEnded .discharge := rfl
  rw [henqueue, State.enqueue, hstill]
  rfl

theorem State.resetEnded_printer (s : State) (st : PrinterState) :
    (s.resetEnded st).printer = { s.printer with resetRunning := false } := by
  unfold State.resetEnded
  split
  next => rw [State.raisePrinter, Untouched.raise_printer]; rfl
  next h => rw [← Bool.eq_false_iff.mpr h]

theorem State.waitPick_printer (s : State) : s.waitPick.printer =
    { s.printer with state := .discharge, phase := .waitPick, resetRunning := false } := by
  rw [State.waitPick_eq, State.resetEnded_printer]
  rfl

theorem State.waitPick_queue (s : State) : s.waitPick.queue = s.queue ++ [s.atWaitPick.pickEntry] := by
  rw [State.waitPick_eq, changes_resetEnded _ _ .queue (by simp)]
  rfl

/-! ### The statement -/

theorem State.queue_placeAt_printer {s : State} {k : Token} (hl : s.live k = true) :
    ∃ added, (s.placeAt stationPR (some k)).queue = s.queue ++ added := by
  by_cases hc : (s.record k.num).cause = none
  · refine ⟨[], ?_⟩
    rw [State.placeAt_printer_of_clean hl hc, changes_askPrinter _ _ .queue (by simp), List.append_nil]
    rfl
  · refine ⟨[(s.atPrinter k).atWaitPick.pickEntry], ?_⟩
    rw [State.placeAt_printer_of_failed hl hc, State.waitPick_queue]
    rfl

theorem StationNo.cases (i : StationNo) : i.val < 4 ∨ (∃ d, i = trayOf d) ∨ i = stationPR ∨ 21 ≤ i.val := by
  rcases lt_or_ge i.val 4 with h | h
  · exact .inl h
  · rcases lt_trichotomy i.val 20 with h' | h' | h'
    · exact .inr (.inl ⟨⟨i.val - 4, by omega⟩, Fin.ext (by simp only [trayOf]; omega)⟩)
    · exact .inr (.inr (.inl (Fin.ext h')))
    · exact .inr (.inr (.inr h'))

/-- A place takes nothing from the queue (R151). -/
theorem State.queue_placeAt {s : State} {k : Token} (hl : s.live k = true) (i : StationNo) :
    ∃ added, (s.placeAt i (some k)).queue = s.queue ++ added := by
  rcases StationNo.cases i with h | ⟨d, rfl⟩ | rfl | h
  · rw [State.placeAt_of_spindle h]
    exact (returned_placeOnSpindle hl i).1
  · exact ⟨[], by rw [(placedInTray_placeAt hl d).1, List.append_nil]⟩
  · exact State.queue_placeAt_printer hl
  · rw [State.placeAt_of_bin h]
    exact (binned_placeInBin hl i).1

theorem Joined.of_outbound {first : List OutFrame} {s t u : State} (h : Joined first s t) (hu : u.outbound = t.outbound) :
    Joined first s u := by
  obtain ⟨later, hlater⟩ := h
  exact ⟨later, hu.trans hlater⟩

/-- What a disc placed at PR leaves of its record, the printer and the queue (R173), its entry retired. -/
theorem placedAtPrinter {s : State} {e : Entry} {k : Token} (he : s.currentEntry = some e) (hl : s.live k = true) :
    let u := (s.placeAt stationPR (some k)).retire e
    u.record k.num = { s.record k.num with location := .station stationPR } ∧ u.printer.token = some k ∧
      ((s.record k.num).cause = none → u.printer.state = .printing ∧ u.printer.phase = .trayIn ∧
        (s.printer.outstanding = none → s.printer.checkPhase = .idle →
          u.printer.outstanding = some { req := .trayIn, number := s.printer.nextNumber })) ∧
      ((s.record k.num).cause ≠ none → u.printer.state = .discharge ∧ u.printer.phase = .waitPick ∧
        ∃ f ∈ u.queue, f.source = .station stationPR ∧ f.token = some k) := by
  intro u
  have huse : (s.record k.num).use = .inUse := by
    simp only [State.live, Bool.and_eq_true, decide_eq_true_eq] at hl
    exact hl.1
  have hat : (s.atPrinter k).record k.num = { s.record k.num with location := .station stationPR } := by
    rw [State.atPrinter, State.record_modPrinter', State.record_modRecord_self]
  have hrecord : (s.placeAt stationPR (some k)).records = (s.atPrinter k).records →
      u.record k.num = { s.record k.num with location := .station stationPR } := fun hr => by
    have hplaced := (State.record_congr hr k.num).trans hat
    rw [State.retire_record_of_kept e (by rw [hplaced]; exact ne_of_eq_of_ne huse (by decide)), hplaced]
  by_cases hc : (s.record k.num).cause = none
  · have hplace := State.placeAt_printer_of_clean hl hc
    obtain ⟨hstate, hphase, htoken, hsent⟩ := State.askPrinter_printer
      ((s.atPrinter k).modPrinter (fun p => { p with state := .printing, phase := .trayIn })) .trayIn
    rw [← hplace] at hstate hphase htoken hsent
    have hprinter : u.printer = (s.placeAt stationPR (some k)).printer :=
      State.retire_printer e (by rw [hstate]; simp) (by rw [hstate]; simp)
    refine ⟨hrecord ?_, ?_, fun _ => ?_, fun h => absurd hc h⟩
    · rw [hplace, changes_askPrinter _ _ .records (by simp)]
      rfl
    · rw [hprinter, htoken]
      rfl
    · rw [hprinter]
      exact ⟨hstate, hphase, hsent⟩
  · have hplace := State.placeAt_printer_of_failed hl hc
    have hwait := (s.atPrinter k).waitPick_printer
    rw [← hplace] at hwait
    have hprinter : u.printer = (s.placeAt stationPR (some k)).printer :=
      State.retire_printer e (by rw [hwait]; simp) (by rw [hwait]; simp)
    refine ⟨hrecord ?_, ?_, fun h => absurd h hc, fun _ => ⟨?_, ?_, (s.atPrinter k).atWaitPick.pickEntry, ?_,
      (State.pickEntry_source _).1, (State.pickEntry_source (s.atPrinter k).atWaitPick).2.1⟩⟩
    · rw [hplace, changes_waitPick _ .records (by simp)]
    · rw [hprinter, hwait]
      rfl
    · rw [hprinter, hwait]
    · rw [hprinter, hwait]
    · rw [State.erase_grown (t := s.placeAt stationPR (some k)) he (by rw [hplace, State.waitPick_queue]; rfl)]
      exact List.mem_append_right _ (List.mem_singleton_self _)

/-- Settles O50: the station's owner takes the disc, and the entry that brought it, still current, is retired. -/
theorem placeOutcomeEffect : Obligations.PlaceOutcomeEffect := by
  unfold Obligations.PlaceOutcomeEffect
  rintro n e i k s ⟨hmode, hout, hcurrent⟩ hi hk hl x r
  have hlive : s.clearOp.live k = true := hl
  have hgrown := State.queue_placeAt hlive i
  have hretired : s.clearOp.released e = (s.clearOp.placeAt i (some k)).retire e := by
    simp only [State.released, hi, hk]
    exact State.retireCurrent_of_grown (s := s.clearOp) hcurrent hgrown
  have hexec : s.armOutcome n .released = ((s.clearOp.placeAt i (some k)).retire e).arbiter := by
    rw [State.armOutcome_of_outstanding hout, ← hretired]
    simp only [State.opEnded, State.currentEntry_clearOp, hcurrent]
  have hkept := changes_retire (s.clearOp.placeAt i (some k)) e
  refine ⟨_, (s.clearOp.placeAt i (some k)).retire e, congrArg Host.Outcome.next hexec, rfl, ?_, ?_, fun d hd => ?_,
    fun hd => ?_, fun hbin => ?_, fun a ha => ?_⟩
  · rw [State.retire_transport, if_pos (State.currentEntry_current hcurrent),
      changes_placeAt s.clearOp i (some k) .transport (by simp)]
    exact Transport.afterRetirement_running rfl hmode
  · obtain ⟨added, hadded⟩ := hgrown
    exact ⟨added, State.erase_grown (s := s.clearOp) hcurrent hadded⟩
  · subst hd
    obtain ⟨-, hrecord, hslot⟩ := placedInTray_placeAt hlive d
    have huse : ((s.clearOp.placeAt (trayOf d) (some k)).record k.num).use ≠ .setAside := by
      rw [hrecord]
      simp only [State.live, Bool.and_eq_true, decide_eq_true_eq] at hl
      exact ne_of_eq_of_ne hl.1 (by decide)
    rw [State.retire_record_of_kept e huse, State.drive_congr (hkept .drives (by simp))]
    exact ⟨hrecord, hslot⟩
  · subst hd
    exact placedAtPrinter (s := s.clearOp) hcurrent hlive
  · obtain ⟨-, hcount, hfree, hjoined, hfull⟩ := binned_placeInBin hlive i
    rw [← State.placeAt_of_bin hbin] at hcount hfree hjoined hfull
    rw [State.station_congr (hkept .stations (by simp)), State.event_congr (hkept .events (by simp)),
      State.retire_record_of_kept e (ne_of_eq_of_ne hfree (by decide))]
    exact ⟨hcount, hfree, Joined.of_outbound hjoined (hkept .outbound (by simp)), hfull⟩
  · have hlow : i.val < 4 := by rw [ha]; exact a.isLt
    obtain ⟨-, hcount, hloaded, hfree, hjoined⟩ := returned_placeOnSpindle hlive i
    rw [← State.placeAt_of_spindle hlow] at hcount hloaded hfree hjoined
    have hverdict : r.verdictAtEnd (.station i) = if r.cause = none then .returned else .fail := by
      rw [DiscRecord.verdictAtEnd_eq]
      by_cases hc : r.cause = none
      · rw [if_neg (not_not.mpr hc), if_pos ⟨a, by rw [ha]⟩, if_pos hc]
      · rw [if_pos hc, if_neg hc]
    rw [State.station_congr (hkept .stations (by simp)), State.retire_record_of_kept e (ne_of_eq_of_ne hfree (by decide)),
      ← hverdict]
    exact ⟨hcount, hloaded, hfree, Joined.of_outbound hjoined (hkept .outbound (by simp))⟩

end Sys2Proof.Machine
end

section
/-! A PICK answered at a spindle (R141, R150, R152): GRIPPED, DOUBLE and MISS (O48). -/

namespace Sys2Proof.Machine

/-! ### The drives at a retirement of LOADs (R59) -/

section
variable (s : State)

theorem State.retireLoad_drives_before (e : Entry) : ((s.retire e).unreserve e.order).drives = s.drives :=
  (changes_unreserve _ _ .drives (by simp)).trans (changes_retire s e .drives (by simp))

/-- A LOAD's retirement tells no drive but its own. -/
theorem State.retireLoad_drive_of_ne {e : Entry} {d : Drive} (h : e.drive ≠ some d) :
    (s.retireLoad e).drive d = s.drive d := by
  rw [State.retireLoad, ← State.drive_congr (s.retireLoad_drives_before e) d]
  unfold State.loadRetired
  split
  next f hf =>
    have hne : d ≠ f := fun hd => h (by rw [hf, hd])
    split
    · rw [State.askDrive_drive_of_ne _ _ hne, State.drive_modDrive_of_ne _ _ _ _ hne.symm]
    · rfl
  next => rfl

/-- A LOADING drive whose LOAD is retired closes its tray (R59). -/
theorem State.retireLoad_drive_self {e : Entry} {d : Drive} (hd : e.drive = some d) (hstate : (s.drive d).state = .loading)
    (hentry : (s.drive d).entry = some .load) :
    ((s.retireLoad e).drive d).phase = .trayClosing ∧ ((s.retireLoad e).drive d).entry = none := by
  have hslot := State.drive_congr (s.retireLoad_drives_before e) d
  have htold : s.retireLoad e = (((s.retire e).unreserve e.order).modDrive d (fun x => { x with
      entry := none, phase := .trayClosing })).askDrive d .trayClose := by
    simp only [State.retireLoad, hd, State.loadRetired, hslot, hstate, hentry, and_self, if_true]
  have hside := State.askDrive_discSide (((s.retire e).unreserve e.order).modDrive d (fun x => { x with
      entry := none, phase := .trayClosing })) d .trayClose
  rw [← htold, State.drive_modDrive_self] at hside
  simp only [DriveSlot.discSide, Prod.mk.injEq] at hside
  exact ⟨hside.2.1, hside.2.2.1⟩

/-- A drive without a LOAD entry is told nothing by a LOAD's retirement. -/
theorem State.retireLoad_drive_of_idle (e : Entry) {d : Drive} (h : (s.drive d).entry ≠ some .load) :
    (s.retireLoad e).drive d = s.drive d := by
  by_cases hd : e.drive = some d
  · have hslot := State.drive_congr (s.retireLoad_drives_before e) d
    rw [State.retireLoad, hd, State.loadRetired, if_neg (by rw [hslot]; exact fun hl => h hl.2), hslot]
  · exact s.retireLoad_drive_of_ne hd

variable (lost : Nat → Bool)

theorem State.retireStranded_drive_of_ne {d : Drive} (h : ∀ f ∈ s.queue, f.stranded lost = true → f.drive ≠ some d) :
    (s.retireStranded lost).drive d = s.drive d :=
  List.foldlRecOn (motive := fun t : State => t.drive d = s.drive d) s.queue
    (fun t e => if e.stranded lost then t.retireLoad e else t) rfl (fun t ht e he => by
      split
      next hs => exact (t.retireLoad_drive_of_ne (h e he hs)).trans ht
      next => exact ht)

theorem State.retireStranded_drive_of_idle {d : Drive} (h : (s.drive d).entry ≠ some .load) :
    (s.retireStranded lost).drive d = s.drive d :=
  List.foldlRecOn (motive := fun t : State => t.drive d = s.drive d) s.queue
    (fun t e => if e.stranded lost then t.retireLoad e else t) rfl (fun t ht e _ => by
      split
      · exact (t.retireLoad_drive_of_idle e (by rw [ht]; exact h)).trans ht
      · exact ht)

end

/-! ### The queue and the records at a retirement -/

theorem find?_erase_of_neg {p : Entry → Bool} {e : Entry} (h : p e = false) (l : List Entry) :
    (l.erase e).find? p = l.find? p := by
  induction l with
  | nil => rfl
  | cons x l ih =>
    by_cases hx : x = e
    · rw [hx, List.erase_cons_head, List.find?_cons_of_neg (by simp [h])]
    · rw [List.erase_cons_tail (by simpa using hx), List.find?_cons, List.find?_cons, ih]

/-- The record set aside for a retired entry is free again (R144). -/
theorem State.retire_record_setAside {s : State} {e : Entry} {m : RecNo} (hm : e.setAside = some m)
    (huse : (s.record m).use = .setAside) : ((s.retire e).record m).use = .free := by
  have haside : (((s.setQueue (s.queue.erase e)).returnSetAside e.setAside).record m).use = .free := by
    rw [hm, State.returnSetAside, State.record_modRecord_self, State.record_setQueue', if_pos huse]
  unfold State.retire
  dsimp only
  rw [State.record_congr ((changes_printerTray _) .records (by simp))]
  split
  · exact haside
  · exact haside

/-! ### The loss of a spindle's class (R141) -/

/-- No LOADED spindle but `k` holds class `c`. -/
def State.onlyAt (s : State) (k : Fin 4) (c : Nat) : Prop :=
  ∀ a : Fin 4, a ≠ k → ¬ ((s.station (spindleStation a)).loaded = true ∧ (s.station (spindleStation a)).mediaClass = c)

theorem spindleStation_inj {a b : Fin 4} (h : spindleStation a = spindleStation b) : a = b :=
  Fin.ext (by simpa [spindleStation] using congrArg Fin.val h)

/-- A class held by one spindle alone is gone when that spindle is EMPTY and the others are as they were. -/
theorem State.loadedSpindle_none {s t : State} {k : Fin 4} {c : Nat} (h : s.onlyAt k c)
    (hk : (t.station (spindleStation k)).loaded = false)
    (hothers : ∀ j, j ≠ spindleStation k → t.station j = s.station j) : t.loadedSpindle c = none := by
  rw [← Option.not_isSome_iff_eq_none, State.loadedSpindle_isSome_iff]
  rintro ⟨a, hl, hc⟩
  by_cases ha : a = k
  · rw [ha, hk] at hl
    cases hl
  · have hne : spindleStation a ≠ spindleStation k := fun h => ha (spindleStation_inj h)
    rw [hothers _ hne] at hl hc
    exact h a ha ⟨hl, hc⟩

/-! ### A pick that leaves the arm on its way -/

section
variable {s : State} {e : Entry} {n : Byte}

/-- The state in which the outcome of a PICK acts: the operation and the count of misses are gone. -/
def State.pickAnswered (s : State) : State := s.clearOp.modTransport (fun t => { t with pickMisses := 0 })

/-- The transport on its way to station `i` after a PICK. -/
def Transport.goes (x : Transport) (p : ArmPhase) (i : Station) : Transport :=
  { x with pickMisses := 0, phase := p, nextNumber := x.nextNumber + 1,
           outstanding := some { op := .goto i.lift i.rotate, number := x.nextNumber, abandoned := false } }

theorem exec_pickOutcome (h : s.moves .pick n e) {o : ArmOutcome} (ho : o = .gripped ∨ o = .double ∨ o = .miss) :
    exec (.pickOutcome n o) s = .next (s.clearOp.pickEnded e o).arbiter := by
  obtain ⟨-, hout, hcurrent⟩ := h
  refine congrArg Host.Outcome.next ?_
  rw [State.armOutcome_of_outstanding hout, State.opEnded_pick hcurrent ho]

theorem State.sendGoto_arbiter (t : State) (i : StationNo) (p : ArmPhase) : (t.sendGoto i p).arbiter = t.sendGoto i p :=
  State.arbiter_of_outstanding fun h => nomatch h

end

/-! ### GRIPPED (R150) -/

/-- What a pick of `q` discs leaves of the spindle at station `i` (R141). -/
def DiscsLeft (i : StationNo) (q : Nat) (s t : State) : Prop :=
  (t.station i).count = (s.station i).count - q ∧
    ((t.station i).loaded = true ↔ (s.station i).loaded = true ∧ q < (s.station i).count) ∧
    ((s.station i).loaded = true → (s.station i).count ≤ q →
      t.event .spindleEmpty = (s.event .spindleEmpty).raised .spindleEmpty (bitMask i.val) none)

theorem discsLeft_takeFrom (s : State) (i : StationNo) (q : Nat) : DiscsLeft i q s (s.takeFrom i q) := by
  unfold DiscsLeft
  rw [State.takeFrom_station]
  refine ⟨rfl, ?_, fun hl hc => State.takeFrom_spindleEmpty ⟨hl, hc⟩⟩
  simp only [Station.taken, Bool.and_eq_true, decide_eq_true_eq]
  exact and_congr_right fun _ => by omega

theorem DiscsLeft.of_congr {i : StationNo} {q : Nat} {s t u v : State} (h : DiscsLeft i q t u)
    (hs : t.stations = s.stations) (he : t.events = s.events) (hs' : v.stations = u.stations)
    (he' : v.events = u.events) : DiscsLeft i q s v := by
  unfold DiscsLeft at h ⊢
  rwa [State.station_congr hs, State.event_congr he, ← State.station_congr hs', ← State.event_congr he'] at h

section
variable {s : State} {e : Entry} {k : Fin 4} {m : RecNo} {c : Nat} {o : OrderNo}

theorem State.loadRecord_eq (hsource : e.source = .mediaClass c) (horder : e.order = some o) :
    s.loadRecord (spindleStation k) e =
      { use := .free, gen := 0, origin := .spindle k, mediaClass := c, discCount := 1, order := some o, drive := none,
        rung := none, slot := some (s.order o).slot, location := .onArm, burn := .notYet, verify := .notYet,
        print := if (s.order o).template.isSome then .notYet else .notRequired, cause := none, errorBlocks := 0,
        serial := none } := by
  have hspindle : stationSpindle (spindleStation k) = some k := dif_pos k.isLt
  simp only [State.loadRecord, hspindle, hsource, horder, DiscRecord.fresh, DiscRecord.reset, Option.map_some]

end

section
variable {s : State} {e : Entry} {k : Fin 4} {m : RecNo} {c : Nat} {o : OrderNo} {j : StationNo} {n : Byte}

theorem changes_pickAnswered_loadTaken (s : State) (i : StationNo) (e : Entry) (m : RecNo) :
    Changes [.transport, .records, .queue] s (s.pickAnswered.loadTaken i e m) :=
  (((changes_clearOp s).mono (by simp)).trans ((changes_modTransport _ _).mono (by simp))).trans
    (((changes_modRecord _ m _).mono (by simp)).trans ((changes_modCurrent _ _).mono (by simp)))

/-- GRIPPED at a spindle: the record, the count and the way to the destination. -/
theorem spindle_gripped (hmoves : s.moves .pick n e) (hi : e.srcAt = some (spindleStation k))
    (hm : e.setAside = some m) (hj : e.dstAt = some j) :
    ∃ t, exec (.pickOutcome n .gripped) s = .next t ∧ t.transport = s.transport.goes .travelDst (s.station j) ∧
      DiscsLeft (spindleStation k) 1 s t ∧
      t.record m = { s.loadRecord (spindleStation k) e with use := .inUse, gen := (s.record m).gen + 1 } ∧
      t.currentEntry = some { e with token := some (s.nextToken m), setAside := none } := by
  have hdone : s.pickAnswered.pickDone e =
      (s.pickAnswered.loadTaken (spindleStation k) e m).takeFrom (spindleStation k) 1 :=
    State.pickDone_of_spindle hi k.isLt hm
  have hgripped : s.clearOp.pickEnded e .gripped = (s.pickAnswered.pickDone e).sendGoto j .travelDst := by
    simp only [State.pickEnded, hi, State.gripped, State.travelToDest_eq hj]
    rfl
  have hleft := discsLeft_takeFrom (s.pickAnswered.loadTaken (spindleStation k) e m) (spindleStation k) 1
  obtain ⟨hlift, hrotate⟩ := State.takeFrom_targets (s := s.pickAnswered.loadTaken (spindleStation k) e m)
    (i := spindleStation k) (n := 1) j
  refine ⟨(s.pickAnswered.pickDone e).sendGoto j .travelDst, ?_, ?_, ?_, ?_, ?_⟩
  · rw [exec_pickOutcome hmoves (by tauto), hgripped, State.sendGoto_arbiter]
  · rw [State.sendGoto_transport, State.pickDone_transport, hdone, Transport.going, hlift, hrotate]
    rfl
  · have hgo := changes_sendGoto (s.pickAnswered.pickDone e) j .travelDst (by decide)
    have htaken := changes_pickAnswered_loadTaken s (spindleStation k) e m
    rw [← hdone] at hleft
    exact hleft.of_congr (htaken .stations (by simp)) (htaken .events (by simp)) (hgo .stations (by simp))
      (hgo .events (by simp))
  · have hkept : ((s.pickAnswered.pickDone e).sendGoto j .travelDst).record m = (s.pickAnswered.pickDone e).record m := rfl
    rw [hkept, hdone, State.takeFrom_record_of_inUse (by rw [State.loadTaken_record]), State.loadTaken_record]
    rfl
  · have hkept : ((s.pickAnswered.pickDone e).sendGoto j .travelDst).currentEntry =
        (s.pickAnswered.pickDone e).currentEntry := rfl
    rw [hkept, hdone, State.takeFrom_currentEntry State.loadTaken_picked]
    exact State.loadTaken_currentEntry hmoves.2.2

/-! ### DOUBLE (R152) -/

/-- The current entry turned into the PURGE of a double pick. -/
def Entry.doubled (x : Entry) (i : StationNo) (tok : Token) : Entry :=
  { x with kind := .purge, source := .station i, dest := .station stationBX, token := some tok, drive := none,
           order := none, setAside := none, dstAt := some stationBX }

/-- A double pick before the discs leave the count: the record is in use and the current entry is a PURGE. -/
def State.doubleTaken (s : State) (i : StationNo) (m : RecNo) : State :=
  (s.takeRecord m (s.doubleRecord i)).modCurrent (·.doubled i (s.nextToken m))

theorem changes_clearOp_doubleTaken (s : State) (i : StationNo) (m : RecNo) :
    Changes [.transport, .records, .queue] s (s.clearOp.doubleTaken i m) :=
  ((changes_clearOp s).mono (by simp)).trans
    (((changes_modRecord _ m _).mono (by simp)).trans ((changes_modCurrent _ _).mono (by simp)))

theorem State.doublePick_eq {i : StationNo} (hm : e.setAside = some m) : s.doublePick i e =
    (((((s.doubleTaken i m).takeFrom i 2).enqueue (Entry.fresh .load e.source e.dest none e.drive e.order)).modTransport
      (fun t => { t with pickMisses := 0 })).sendGoto stationBX .travelDst) := by
  simp only [State.doublePick, hm]
  rfl

theorem State.doubleTaken_picked (i : StationNo) :
    ∀ x ∈ (s.doubleTaken i m).queue, x.current = true → x.token.isSome = true :=
  State.modCurrent_token _ _ fun _ => rfl

theorem State.doubleTaken_queue (i : StationNo) : (s.doubleTaken i m).queue =
    s.queue.map (fun x => if x.current then x.doubled i (s.nextToken m) else x) := rfl

theorem State.doubleRecord_eq : s.doubleRecord (spindleStation k) =
    { use := .free, gen := 0, origin := .spindle k, mediaClass := (s.station (spindleStation k)).mediaClass, discCount := 2,
      order := none, drive := none, rung := none, slot := none, location := .onArm, burn := .notYet, verify := .notYet,
      print := .notRequired, cause := some .doublePick, errorBlocks := 0, serial := none } := by
  have hspindle : stationSpindle (spindleStation k) = some k := dif_pos k.isLt
  simp only [State.doubleRecord, hspindle, DiscRecord.fresh, DiscRecord.reset]

/-- When the discs taken were the last of their class, no unpicked LOAD of it is left but one whose PICK is sent
(R141). -/
theorem State.takeFrom_stranded {q : Nat} {cls : Nat} (hemptied : s.emptiedBy (spindleStation k) q)
    (hcls : (s.station (spindleStation k)).mediaClass = cls) (honly : s.onlyAt k cls) :
    ∀ f ∈ (s.takeFrom (spindleStation k) q).queue, f.kind = .load → f.token = none → f.source = .mediaClass cls →
      f.pickSent = true := by
  obtain ⟨d, hd⟩ : ∃ d, d = s.discsTaken (spindleStation k) q := ⟨_, rfl⟩
  have hstation : d.station (spindleStation k) = (s.station (spindleStation k)).taken q := by
    rw [hd]
    exact State.station_modStation_self _ _ _
  have hgone : d.loadedSpindle cls = none := by
    refine State.loadedSpindle_none honly ?_ fun j hj => ?_
    · rw [hstation]
      simp [Station.taken, Nat.sub_eq_zero_of_le hemptied.2]
    · rw [hd]
      exact State.station_modStation_of_ne _ _ _ _ hj.symm
  have hheld : (s.loadedSpindle cls).isSome = true := by
    rw [State.loadedSpindle_isSome_iff]
    exact ⟨k, hemptied.1, hcls⟩
  have hlost : s.lostTo d cls = true := by simp [State.lostTo, hheld, hgone]
  rw [State.takeFrom_of_emptied hemptied, ← hd]
  obtain ⟨⟨added, hqueue, hadded⟩, -, -⟩ :=
    loadsJoined_loadDecision ((d.raise .spindleEmpty (bitMask (spindleStation k).val) none).retireStranded (s.lostTo d))
  intro f hf hkind htoken hsource
  rw [hqueue, List.mem_append, State.retireStranded_queue] at hf
  rcases hf with hf | hf
  · have hkept := (List.mem_filter.mp hf).2
    by_contra hsent
    have hstranded : f.stranded (s.lostTo d) = true := by
      rw [Entry.stranded_iff]
      exact ⟨hkind, htoken, by simpa using hsent, cls, hsource, hlost⟩
    simp [hstranded] at hkept
  · obtain ⟨-, -, -, -, c', hsource', hloaded⟩ := hadded f hf
    obtain rfl : cls = c' := by simpa [hsource] using hsource'
    have hstations : ((d.raise .spindleEmpty (bitMask (spindleStation k).val) none).retireStranded
        (s.lostTo d)).stations = d.stations :=
      (changes_retireStranded _ _ .stations (by simp)).trans (changes_raise _ _ _ _ .stations (by simp))
    rw [State.loadedSpindle_congr hstations, hgone] at hloaded
    cases hloaded

/-- A LOADING drive that only the current entry names is as it was when discs are taken. -/
theorem State.takeFrom_drive {i : StationNo} {q : Nat} {d : Drive} (hstate : (s.drive d).state = .loading)
    (hnone : ∀ f ∈ s.queue, f.token = none → f.drive ≠ some d) : (s.takeFrom i q).drive d = s.drive d := by
  by_cases h : s.emptiedBy i q
  · have hqueue : ((s.discsTaken i q).raise .spindleEmpty (bitMask i.val) none).queue = s.queue :=
      changes_raise (s.discsTaken i q) _ _ _ .queue (by simp)
    have hretired : (((s.discsTaken i q).raise .spindleEmpty (bitMask i.val) none).retireStranded
        (s.lostTo (s.discsTaken i q))).drive d = s.drive d := by
      rw [State.retireStranded_drive_of_ne, Untouched.raise_drive]
      · rfl
      · intro f hf hs
        rw [hqueue] at hf
        exact hnone f hf ((Entry.stranded_iff _ f).mp hs).2.1
    rw [State.takeFrom_of_emptied h, State.loadDecision_drive_of_not_empty (by rw [hretired, hstate]; decide), hretired]
  · rw [State.takeFrom_of_left h]
    rfl

/-- The LOAD that takes the place of a double pick at the queue's tail (R152). -/
def Entry.again (e : Entry) : Entry := Entry.fresh .load e.source e.dest none e.drive e.order

/-- The state of a double pick when the discs have left the count. -/
def State.doubleLeft (s : State) (k : Fin 4) (m : RecNo) : State :=
  (s.clearOp.doubleTaken (spindleStation k) m).takeFrom (spindleStation k) 2

/-- The state in which the double pick's discs are on their way to BX. -/
def State.doubleSent (s : State) (k : Fin 4) (m : RecNo) (e : Entry) : State :=
  (((s.doubleLeft k m).enqueue e.again).modTransport (fun t => { t with pickMisses := 0 })).sendGoto stationBX .travelDst

theorem exec_double (hmoves : s.moves .pick n e) (hi : e.srcAt = some (spindleStation k)) (hm : e.setAside = some m) :
    exec (.pickOutcome n .double) s = .next (s.doubleSent k m e) := by
  have hlow : (spindleStation k).val < 4 := k.isLt
  have hdouble : s.clearOp.pickEnded e .double = s.doubleSent k m e := by
    simp only [State.pickEnded, hi, if_pos hlow, State.doublePick_eq hm, State.doubleSent, State.doubleLeft, Entry.again]
  rw [exec_pickOutcome hmoves (by tauto), hdouble, State.doubleSent, State.sendGoto_arbiter]

theorem changes_doubleSent : Changes [.queue, .transport, .printer] (s.doubleLeft k m) (s.doubleSent k m e) :=
  (((changes_enqueue _ _).mono (by simp)).trans ((changes_modTransport _ _).mono (by simp))).trans
    ((changes_sendGoto _ _ _ (by decide)).mono (by simp))

theorem State.doubleSent_queue : (s.doubleSent k m e).queue = (s.doubleLeft k m).queue ++ [e.again] := by
  rw [State.doubleSent, changes_sendGoto _ _ _ (by decide) .queue (by simp), State.modTransport_queue, State.enqueue_queue]

theorem State.doubleSent_currentEntry (hcurrent : s.currentEntry = some e) :
    (s.doubleSent k m e).currentEntry = some (e.doubled (spindleStation k) (s.nextToken m)) := by
  have hleft : (s.doubleLeft k m).currentEntry = some (e.doubled (spindleStation k) (s.nextToken m)) := by
    rw [State.doubleLeft, State.takeFrom_currentEntry (State.doubleTaken_picked _)]
    exact State.currentEntry_modCurrent (s := s.clearOp.takeRecord m (s.clearOp.doubleRecord (spindleStation k)))
      hcurrent fun _ hx => hx
  rw [State.currentEntry, State.doubleSent_queue, List.find?_append,
    show (s.doubleLeft k m).queue.find? (·.current) = _ from hleft, Option.some_or]

theorem State.doubleSent_transport :
    (s.doubleSent k m e).transport = s.transport.goes .travelDst (s.station stationBX) := by
  obtain ⟨hlift, hrotate⟩ := State.takeFrom_targets (s := s.clearOp.doubleTaken (spindleStation k) m)
    (i := spindleStation k) (n := 2) stationBX
  have hbase : (s.doubleLeft k m).transport = s.clearOp.transport :=
    State.takeFrom_transport _ _ _ (State.doubleTaken_picked _)
  rw [State.doubleSent, State.sendGoto_transport, State.modTransport_transport,
    changes_enqueue _ _ .transport (by simp), hbase, State.station_modTransport',
    State.station_congr (changes_enqueue (s.doubleLeft k m) _ .stations (by simp)), Transport.going, State.doubleLeft,
    hlift, hrotate]
  rfl

/-- What the double pick of the statement tells of the record and the queue's front. -/
theorem State.doubleLeft_record : (s.doubleLeft k m).record m =
    { s.doubleRecord (spindleStation k) with use := .inUse, gen := (s.record m).gen + 1 } := by
  have htaken : (s.clearOp.doubleTaken (spindleStation k) m).record m =
      { s.doubleRecord (spindleStation k) with use := .inUse, gen := (s.record m).gen + 1 } := by
    have h : (s.clearOp.doubleTaken (spindleStation k) m).record m =
        (s.clearOp.takeRecord m (s.clearOp.doubleRecord (spindleStation k))).record m := rfl
    rw [h, State.takeRecord, State.record_modRecord_self]
    rfl
  rw [State.doubleLeft, State.takeFrom_record_of_inUse (by rw [htaken]), htaken]

theorem State.doubleLeft_of_left (h : ¬ s.emptiedBy (spindleStation k) 2) :
    (s.doubleLeft k m).queue.length = s.queue.length ∧ (s.doubleLeft k m).orders = s.orders := by
  rw [State.doubleLeft, State.takeFrom_of_left (s := s.clearOp.doubleTaken (spindleStation k) m) h]
  have hqueue := congrArg List.length (s.clearOp.doubleTaken_queue (m := m) (spindleStation k))
  exact ⟨hqueue.trans (List.length_map _), changes_clearOp_doubleTaken s (spindleStation k) m .orders (by simp)⟩

theorem State.doubleLeft_drive {d : Drive} (hstate : (s.drive d).state = .loading)
    (hnone : ∀ f ∈ s.queue, f.current = false → f.drive ≠ some d) : (s.doubleLeft k m).drive d = s.drive d := by
  refine State.takeFrom_drive (s := s.clearOp.doubleTaken (spindleStation k) m) hstate fun f hf htoken => ?_
  rw [State.doubleTaken_queue, List.mem_map] at hf
  obtain ⟨x, hx, rfl⟩ := hf
  cases hc : x.current with
  | true => simp [hc, Entry.doubled] at htoken
  | false => simpa [hc] using hnone x hx hc

/-! ### MISS (R152) -/

theorem spindle_firstMiss (hmoves : s.moves .pick n e) (hi : e.srcAt = some (spindleStation k))
    (hmisses : s.transport.pickMisses = 0) : exec (.pickOutcome n .miss) s =
      .next (s.clearOp.modTransport (fun t => { t with pickMisses := 1 })).sendPick := by
  have hlow : (spindleStation k).val < 4 := k.isLt
  have hmiss : s.clearOp.pickEnded e .miss = (s.clearOp.modTransport (fun t => { t with pickMisses := 1 })).sendPick := by
    simp only [State.pickEnded, hi, if_pos hlow, State.spindleMiss]
    exact if_pos hmisses
  rw [exec_pickOutcome hmoves (by tauto), hmiss, State.arbiter_of_outstanding (by simp [State.sendPick, State.sendArm])]

/-- The spindle found EMPTY at a second miss, SPINDLE-EMPTY raised. -/
def State.foundEmpty (s : State) (k : Fin 4) : State :=
  ((s.clearOp.spindleExhausted (spindleStation k)).modTransport (fun t => { t with pickMisses := 0 })).raise .spindleEmpty
    (bitMask (spindleStation k).val) none

theorem exec_secondMiss (hmoves : s.moves .pick n e) (hi : e.srcAt = some (spindleStation k))
    (hsource : e.source = .mediaClass c) (hmisses : s.transport.pickMisses ≠ 0) : exec (.pickOutcome n .miss) s =
      .next (s.clearOp.secondMiss (spindleStation k) e c).arbiter := by
  have hlow : (spindleStation k).val < 4 := k.isLt
  have hmiss : s.clearOp.pickEnded e .miss = s.clearOp.secondMiss (spindleStation k) e c := by
    simp only [State.pickEnded, hi, if_pos hlow, State.spindleMiss, hsource]
    exact if_neg hmisses
  rw [exec_pickOutcome hmoves (by tauto), hmiss]

theorem State.secondMiss_of_other {j : StationNo} (h : (s.foundEmpty k).loadedSpindle c = some j) :
    s.clearOp.secondMiss (spindleStation k) e c =
      ((((s.foundEmpty k).modCurrent (fun x => { x with srcAt := some j, pickSent := false })).sendGoto j
        .travelSrc).retireOthersStranded (s.clearOp.lostTo (s.foundEmpty k))).loadDecision := by
  unfold State.foundEmpty at h ⊢
  simp only [State.secondMiss, h]

/-- The LOADs of a class that is gone have been retired, that of the second miss first. -/
def State.classRetired (s : State) (k : Fin 4) (e : Entry) (c : Nat) : State :=
  ((s.foundEmpty k).retireLoad e).retireStranded (fun x => decide (x = c) || s.clearOp.lostTo (s.foundEmpty k) x)

theorem State.secondMiss_of_none (h : (s.foundEmpty k).loadedSpindle c = none) :
    s.clearOp.secondMiss (spindleStation k) e c = (s.classRetired k e c).loadDecision := by
  unfold State.classRetired
  unfold State.foundEmpty at h ⊢
  simp only [State.secondMiss, h]

theorem State.foundEmpty_station : (s.foundEmpty k).station (spindleStation k) =
    { s.station (spindleStation k) with count := 0, loaded := false } := by
  rw [State.foundEmpty, Untouched.raise_station, State.station_modTransport', State.spindleExhausted,
    State.station_modStation_self]
  rfl

theorem State.foundEmpty_station_of_ne {j : StationNo} (h : j ≠ spindleStation k) :
    (s.foundEmpty k).station j = s.station j := by
  rw [State.foundEmpty, Untouched.raise_station, State.station_modTransport', State.spindleExhausted,
    State.station_modStation_of_ne _ _ _ _ h.symm]
  rfl

theorem State.foundEmpty_event : (s.foundEmpty k).event .spindleEmpty =
    (s.event .spindleEmpty).raised .spindleEmpty (bitMask (spindleStation k).val) none :=
  State.raise_event _ _ _ _

theorem State.foundEmpty_transport : (s.foundEmpty k).transport =
    { s.transport with outstanding := none, pickMisses := 0 } := by
  rw [State.foundEmpty, Untouched.raise_transport]
  rfl

theorem State.foundEmpty_queue : (s.foundEmpty k).queue = s.queue := by
  rw [State.foundEmpty, Untouched.raise_queue]
  rfl

/-! ### The class has another spindle -/

/-- The move starts again at spindle station `j`, and the other LOADs of a class that is gone are retired. -/
def State.otherTried (s : State) (k : Fin 4) (j : StationNo) : State :=
  ((((s.foundEmpty k).modCurrent (fun x => { x with srcAt := some j, pickSent := false })).sendGoto j
    .travelSrc).retireOthersStranded (s.clearOp.lostTo (s.foundEmpty k)))

/-- The retirement of the others leaves the current entry. -/
theorem State.retireOthersStranded_keeps (s : State) (lost : Nat → Bool) :
    (s.retireOthersStranded lost).currentEntry = s.currentEntry ∧
      ∀ c, c ≠ .applyDone → (s.retireOthersStranded lost).event c = s.event c := by
  refine List.foldlRecOn (motive := fun t : State => t.currentEntry = s.currentEntry ∧
      ∀ c, c ≠ .applyDone → t.event c = s.event c) s.queue
    (fun t e => if !e.current && e.stranded lost then t.retireLoad e else t) ⟨rfl, fun _ _ => rfl⟩ fun t ht e _ => ?_
  obtain ⟨hcurrent, hevents⟩ := ht
  split
  next h =>
    have hidle : e.current = false := (Bool.not_eq_true' _).mp (Bool.and_eq_true_iff.mp h).1
    refine ⟨?_, fun c hc => (State.retireLoad_event_of_ne _ _ hc).trans (hevents c hc)⟩
    rw [← hcurrent, State.currentEntry, State.retireLoad_queue, State.currentEntry]
    exact find?_erase_of_neg hidle t.queue
  next => exact ⟨hcurrent, hevents⟩

theorem State.otherTried_transport : (s.otherTried k j).transport = s.transport.goes .travelSrc (s.station j) := by
  have hstation : ((s.foundEmpty k).station j).lift = (s.station j).lift ∧
      ((s.foundEmpty k).station j).rotate = (s.station j).rotate := by
    by_cases h : j = spindleStation k
    · rw [h, State.foundEmpty_station]
      exact ⟨rfl, rfl⟩
    · rw [State.foundEmpty_station_of_ne h]
      exact ⟨rfl, rfl⟩
  obtain ⟨hlift, hrotate⟩ := hstation
  have hmod : ((s.foundEmpty k).modCurrent (fun x => { x with srcAt := some j, pickSent := false })).transport =
      (s.foundEmpty k).transport := rfl
  have hat : ((s.foundEmpty k).modCurrent (fun x => { x with srcAt := some j, pickSent := false })).station j =
      (s.foundEmpty k).station j := rfl
  rw [State.otherTried, State.retireOthersStranded_transport, State.sendGoto_transport, hmod, hat, State.foundEmpty_transport,
    Transport.going, hlift, hrotate]
  rfl

theorem State.otherTried_currentEntry (hcurrent : s.currentEntry = some e) :
    (s.otherTried k j).currentEntry = some { e with srcAt := some j, pickSent := false } := by
  have hfound : (s.foundEmpty k).currentEntry = some e := by
    rw [State.currentEntry, State.foundEmpty_queue]
    exact hcurrent
  have hnew : ((s.foundEmpty k).modCurrent (fun x => { x with srcAt := some j, pickSent := false })).currentEntry =
      some { e with srcAt := some j, pickSent := false } := State.currentEntry_modCurrent hfound fun _ hx => hx
  rw [State.otherTried, (State.retireOthersStranded_keeps _ _).1, State.currentEntry,
    changes_sendGoto _ _ _ (by decide) .queue (by simp)]
  exact hnew

/-! ### The class is gone -/

theorem Transport.afterRetirement_freed (x : Transport) : x.freed.afterRetirement = x.freed := rfl

/-- Further retirements leave a transport whose current entry is gone. -/
theorem State.retireStranded_freed {x : Transport} (lost : Nat → Bool) (h : s.transport = x.freed) :
    (s.retireStranded lost).transport = x.freed :=
  List.foldlRecOn (motive := fun t : State => t.transport = x.freed) s.queue
    (fun t e => if e.stranded lost then t.retireLoad e else t) h (fun t ht e _ => by
      split
      · rw [State.retireLoad, changes_loadRetired _ _ .transport (by simp), changes_unreserve _ _ .transport (by simp),
          State.retire_transport, ht]
        split
        · exact x.afterRetirement_freed
        · rfl
      · exact ht)

theorem State.classRetired_transport (hmoves : s.moves .pick n e) : (s.classRetired k e c).transport =
    { s.transport with pickMisses := 0 }.freed := by
  refine State.retireStranded_freed _ ?_
  rw [State.retireLoad, changes_loadRetired _ _ .transport (by simp), changes_unreserve _ _ .transport (by simp),
    State.retire_transport, if_pos (State.currentEntry_current hmoves.2.2), State.foundEmpty_transport]
  exact Transport.afterRetirement_running rfl hmoves.1

theorem State.classRetired_queue : (s.classRetired k e c).queue = (s.queue.erase e).filter
    (fun f => !f.stranded (fun x => decide (x = c) || s.clearOp.lostTo (s.foundEmpty k) x)) := by
  rw [State.classRetired, State.retireStranded_queue, State.retireLoad_queue, State.foundEmpty_queue]

theorem State.classRetired_length (hcurrent : s.currentEntry = some e) :
    (s.classRetired k e c).queue.length < s.queue.length := by
  have hmem : e ∈ s.queue := List.mem_of_find?_eq_some hcurrent
  have hpos := List.length_pos_of_mem hmem
  have hle := List.length_filter_le (fun f : Entry => !f.stranded (fun x => decide (x = c) ||
    s.clearOp.lostTo (s.foundEmpty k) x)) (s.queue.erase e)
  rw [State.classRetired_queue]
  rw [List.length_erase_of_mem hmem] at hle
  omega

theorem State.classRetired_sent {f : Entry} (hf : f ∈ (s.classRetired k e c).queue) (hkind : f.kind = .load)
    (htoken : f.token = none) (hsource : f.source = .mediaClass c) : f.pickSent = true := by
  rw [State.classRetired_queue] at hf
  have hkept := (List.mem_filter.mp hf).2
  by_contra hsent
  have hstranded : f.stranded (fun x => decide (x = c) || s.clearOp.lostTo (s.foundEmpty k) x) = true := by
    rw [Entry.stranded_iff]
    exact ⟨hkind, htoken, by simpa using hsent, c, hsource, by simp⟩
  simp [hstranded] at hkept

theorem State.classRetired_record (hm : e.setAside = some m) (huse : (s.record m).use = .setAside) :
    ((s.classRetired k e c).record m).use = .free := by
  have hfound : (s.foundEmpty k).record m = s.record m := by
    rw [State.foundEmpty, Untouched.raise_record]
    rfl
  have hretired : (((s.foundEmpty k).retireLoad e).record m).use = .free := by
    rw [State.retireLoad, State.record_congr ((changes_loadRetired _ _) .records (by simp)),
      State.record_congr ((changes_unreserve _ _) .records (by simp)), State.retire_record_setAside hm (by rw [hfound, huse])]
  rw [State.classRetired, State.retireStranded_record_of_kept _ (ne_of_eq_of_ne hretired (by decide)), hretired]

theorem State.classRetired_drive {d : Drive} (hd : e.drive = some d) (hstate : (s.drive d).state = .loading)
    (hentry : (s.drive d).entry = some .load) :
    ((s.classRetired k e c).drive d).phase = .trayClosing ∧ ((s.classRetired k e c).drive d).entry = none := by
  have hfound : (s.foundEmpty k).drive d = s.drive d := by
    rw [State.foundEmpty, Untouched.raise_drive]
    rfl
  obtain ⟨hphase, hnone⟩ := (s.foundEmpty k).retireLoad_drive_self hd (by rw [hfound, hstate]) (by rw [hfound, hentry])
  rw [State.classRetired, State.retireStranded_drive_of_idle _ _ (by rw [hnone]; simp)]
  exact ⟨hphase, hnone⟩

end

/-! ### The statement -/

/-- The lowest other spindle of the class is what a second miss finds (R147, R152). -/
theorem State.foundEmpty_loadedSpindle {s : State} {k a : Fin 4} {c : Nat} (ha : a ≠ k)
    (hl : (s.station (spindleStation a)).loaded = true) (hc : (s.station (spindleStation a)).mediaClass = c)
    (hlow : ∀ b : Fin 4, b < a → b ≠ k → ¬ ((s.station (spindleStation b)).loaded = true ∧
      (s.station (spindleStation b)).mediaClass = c)) : (s.foundEmpty k).loadedSpindle c = some (spindleStation a) := by
  have hne : ∀ b : Fin 4, b ≠ k → spindleStation b ≠ spindleStation k := fun b hb h => hb (spindleStation_inj h)
  rw [State.loadedSpindle_eq_some_iff]
  refine ⟨a, rfl, ?_, ?_, fun b hb => ?_⟩
  · rw [State.foundEmpty_station_of_ne (hne a ha), hl]
  · rw [State.foundEmpty_station_of_ne (hne a ha), hc]
  · by_cases hbk : b = k
    · rw [hbk, State.foundEmpty_station]
      exact fun h => nomatch h.1
    · rw [State.foundEmpty_station_of_ne (hne b hbk)]
      exact hlow b hb hbk

theorem State.foundEmpty_none {s : State} {k : Fin 4} {c : Nat} (h : s.onlyAt k c) :
    (s.foundEmpty k).loadedSpindle c = none :=
  State.loadedSpindle_none h (by rw [State.foundEmpty_station]) fun _ hj => State.foundEmpty_station_of_ne hj

/-- A second miss leaves the spindle EMPTY and told of, whether or not its class has another. -/
theorem State.secondMiss_foundEmpty (s : State) (k : Fin 4) (e : Entry) (c : Nat) :
    (s.clearOp.secondMiss (spindleStation k) e c).stations = (s.foundEmpty k).stations ∧
      (s.clearOp.secondMiss (spindleStation k) e c).event .spindleEmpty = (s.foundEmpty k).event .spindleEmpty := by
  cases h : (s.foundEmpty k).loadedSpindle c with
  | some j =>
    have hgo : Changes [.queue, .transport] (s.foundEmpty k) (((s.foundEmpty k).modCurrent (fun x => { x with
        srcAt := some j, pickSent := false })).sendGoto j .travelSrc) :=
      ((changes_modCurrent _ _).mono (by simp)).trans ((changes_sendGoto _ _ _ (by decide)).mono (by simp))
    rw [State.secondMiss_of_other h, State.loadDecision_event_of_ne _ (by decide) (by decide),
      (State.retireOthersStranded_keeps _ _).2 _ (by decide), changes_loadDecision _ .stations (by simp),
      changes_retireOthersStranded _ _ .stations (by simp)]
    exact ⟨hgo .stations (by simp), State.event_congr (hgo .events (by simp)) _⟩
  | none =>
    rw [State.secondMiss_of_none h, State.loadDecision_event_of_ne _ (by decide) (by decide), State.classRetired,
      State.retireStranded_event_of_ne _ _ (by decide), State.retireLoad_event_of_ne _ _ (by decide),
      changes_loadDecision _ .stations (by simp), changes_retireStranded _ _ .stations (by simp),
      changes_retireLoad _ _ .stations (by simp)]
    exact ⟨rfl, rfl⟩

/-- Settles O48: a PICK at a spindle acts on the set-aside record and the count; a second MISS tries another spindle of
the class or retires its LOADs. -/
theorem spindlePickOutcome : Obligations.SpindlePickOutcome := by
  unfold Obligations.SpindlePickOutcome
  intro n e k m c o j s i hmoves hkind hi hsource horder htoken hm hj x goes token left
  refine ⟨?_, ?_, fun hmisses => ?_, fun hmisses => ?_⟩
  · obtain ⟨t, hexec, htransport, hleft, hrecord, hcurrent⟩ := spindle_gripped hmoves hi hm hj
    rw [State.loadRecord_eq hsource horder] at hrecord
    exact ⟨t, hexec, htransport, hleft, hrecord, hcurrent⟩
  · have hkept := changes_doubleSent (s := s) (k := k) (m := m) (e := e)
    refine ⟨_, exec_double hmoves hi hm, State.doubleSent_transport, ?_, ?_,
      ⟨_, State.doubleSent_currentEntry hmoves.2.2, rfl, rfl, rfl, rfl, rfl⟩,
      ⟨(s.doubleLeft k m).queue, State.doubleSent_queue, fun hleft => ?_, fun hloaded hcount honly => ?_⟩,
      fun d hd hstate hnone => ?_⟩
    · have htaken := changes_clearOp_doubleTaken s i m
      exact (discsLeft_takeFrom (s.clearOp.doubleTaken i m) i 2).of_congr (htaken .stations (by simp))
        (htaken .events (by simp)) (hkept .stations (by simp)) (hkept .events (by simp))
    · rw [State.record_congr (hkept .records (by simp)), State.doubleLeft_record, State.doubleRecord_eq]
    · obtain ⟨hlength, horders⟩ := State.doubleLeft_of_left (s := s) (k := k) (m := m) fun ⟨hl, hc⟩ =>
        hleft.elim (fun h => by simp [i, hl] at h) (fun h => absurd hc (not_le.mpr h))
      exact ⟨hlength, (hkept .orders (by simp)).trans horders⟩
    · exact State.takeFrom_stranded (s := s.clearOp.doubleTaken i m) ⟨hloaded, hcount⟩ rfl honly
    · rw [State.drive_congr (hkept .drives (by simp)), State.doubleLeft_drive hstate hnone]
  · refine ⟨_, spindle_firstMiss hmoves hi hmisses, rfl, ?_⟩
    exact (((changes_clearOp s).mono (by simp)).trans ((changes_modTransport _ _).mono (by simp))).trans
      (changes_sendPick _)
  · obtain ⟨hstations, hevent⟩ := s.secondMiss_foundEmpty k e c
    have hstation : ((s.clearOp.secondMiss i e c).arbiter).station i = { s.station i with count := 0, loaded := false } := by
      rw [Untouched.arbiter_station, State.station_congr hstations, State.foundEmpty_station]
    refine ⟨_, exec_secondMiss hmoves hi hsource hmisses, by rw [hstation], by rw [hstation], ?_,
      fun a ha hl hc hlow => ?_, fun honly => ?_⟩
    · rw [State.event_congr ((changes_arbiter _) .events (by simp)), hevent, State.foundEmpty_event]
    · have hother := State.secondMiss_of_other (e := e) (State.foundEmpty_loadedSpindle ha hl hc hlow)
      have htransport : (s.clearOp.secondMiss i e c).transport = s.transport.goes .travelSrc (s.station (spindleStation a)) := by
        rw [hother, changes_loadDecision _ .transport (by simp)]
        exact State.otherTried_transport
      rw [State.arbiter_of_outstanding (by rw [htransport]; exact fun h => nomatch h)]
      refine ⟨htransport, ?_⟩
      rw [hother, (loadsJoined_loadDecision _).currentEntry]
      exact State.otherTried_currentEntry hmoves.2.2
    · refine ⟨s.classRetired k e c, ?_, State.classRetired_length hmoves.2.2, State.classRetired_transport hmoves,
        State.classRetired_record hm, fun f hf hk ht hs => State.classRetired_sent hf hk ht hs,
        fun d hd hstate hentry => State.classRetired_drive hd hstate hentry⟩
      rw [State.secondMiss_of_none (State.foundEmpty_none honly)]

end Sys2Proof.Machine
end

section
/-! The printer's link: which request goes out when a request has ended, and Printer Reset with the link check and the
SENSE that settles it (R168, R170, R171): O52. -/

namespace Sys2Proof.Machine

/-! ### The records that the arbiter keeps (R147) -/

/-- The arbiter's current entry has set aside nothing or a free record (R147). -/
theorem State.setAside_of_chosen {s : State} {k : Nat} {e : Entry} (hfree : ∀ x ∈ s.queue, x.current = false)
    (he : e ∈ s.chosen k) (hc : e.current = true) : e.setAside = none ∨ e.setAside = s.freeRecord := by
  obtain ⟨j, hj⟩ := List.mem_iff_getElem?.mp he
  rw [State.chosen_getElem?, Option.map_eq_some_iff] at hj
  obtain ⟨x, hx, rfl⟩ := hj
  have hidle := hfree x (List.mem_of_getElem? hx)
  by_cases hjk : j = k
  · simp only [if_pos hjk, State.madeCurrent]
    split
    · exact .inr rfl
    · exact .inl rfl
  · rw [if_neg hjk] at hc
    split at hc
    · exact absurd (hc.symm.trans hidle) (by simp)
    · exact absurd (hc.symm.trans hidle) (by simp)

/-- The arbiter leaves the records that are not free (R147). -/
theorem State.arbiter_record_of_kept {s : State} {n : RecNo} (h : (s.record n).use ≠ .free) :
    s.arbiter.record n = s.record n := by
  by_cases hfree : s.armFree = true
  · cases hchoice : s.choice with
    | none => simp only [State.arbiter, hchoice, ite_self]
    | some k =>
      rw [State.arbiter_of_choice hfree hchoice, State.dispatch]
      split
      next e he =>
        have hmem : e ∈ s.chosen k := List.mem_of_find?_eq_some he
        have hcurrent : e.current = true := State.currentEntry_current he
        rw [State.record_congr (State.startMove_records _ _)]
        cases haside : e.setAside with
        | none => rfl
        | some m =>
          have hm : s.freeRecord = some m := by
            have := State.setAside_of_chosen ((State.armFree_iff s).mp hfree).2.2.2 hmem hcurrent
            rw [haside] at this
            exact (this.resolve_left (by simp)).symm
          have huse : (s.record m).use = .free := by simpa using List.find?_some hm
          have hne : m ≠ n := fun hmn => h (hmn ▸ huse)
          exact State.record_modRecord_of_ne _ _ _ _ hne
      next => rfl
  · rw [State.arbiter_of_not_free hfree]

/-! ### Requests on the printer link (R168) -/

theorem State.askPrinter_of_free {s : State} (q : PrinterRequest) (ho : s.printer.outstanding = none)
    (hc : s.printer.checkPhase = .idle) : s.askPrinter q = s.sendPrinter q := by
  rw [State.askPrinter, if_pos (by simp [ho, hc])]

theorem State.printerClose_printer {s : State} (ho : s.printer.outstanding = none) (hc : s.printer.checkPhase = .idle) :
    s.printerClose.printer = Printer.sent { s.printer with state := .idle, phase := .closing } .trayIn := by
  rw [State.printerClose, State.askPrinter_of_free _ (by exact ho) (by exact hc)]
  rfl

theorem State.printerEject_printer {s : State} (ho : s.printer.outstanding = none) (hc : s.printer.checkPhase = .idle) :
    s.printerEject.printer = Printer.sent { s.printer with state := .discharge, phase := .ejecting } .trayOut := by
  rw [State.printerEject, State.askPrinter_of_free _ (by exact ho) (by exact hc)]
  rfl

theorem State.printerFaulted_printer (s : State) (c : PrinterCause) : (s.printerFaulted c).printer =
    { s.printer with state := .faulted, phase := .noPhase, waiting := none, checkPhase := .idle, resetRunning := false } := by
  rw [State.printerFaulted, Untouched.raisePrinter_printer]
  rfl

theorem raisedOnly_printerFaulted (s : State) (c : PrinterCause) :
    RaisedOnly .printer 0 (some (.printer .faulted c)) s (s.printerFaulted c) :=
  raisedOnly_raise_of_events rfl _ _ _

theorem RaisedOnly.of_start {c : EventClass} {m : Word16} {v : Option EventValue} {s t u : State}
    (h : t.events = s.events) (hu : RaisedOnly c m v t u) : RaisedOnly c m v s u := by
  obtain ⟨hraised, hothers⟩ := hu
  exact ⟨by rw [hraised, State.event_congr h], fun k hk => by rw [hothers k hk, State.event_congr h]⟩

theorem raisedOnly_arbiter {c : EventClass} {m : Word16} {v : Option EventValue} {s t : State}
    (h : RaisedOnly c m v s t) : RaisedOnly c m v s t.arbiter :=
  raisedOnly_of_events (Untouched.arbiter_events t) h

/-! ### Printer Reset (R171) -/

theorem exec_printerReset_of_handlesAsNew {f : CmdFrame} {s : State} (hb : f.body = [])
    (hn : s.handlesAsNew f.tag f.resend) :
    exec (.printerReset f) s = .next (State.printerReset (cmdReply f 21) () s) :=
  congrArg Host.Outcome.next (State.answer_of_handlesAsNew (rt := cmdReply f 21) _ (parseNone_nil hb) hn)

/-! ### The exchange of a link check (R170) -/

section
variable {s : State} (h : s.printer.checkPhase = .checking)
include h

theorem exec_printerCheckExchangeEnd_of_checking (r : ExchangeResult) :
    exec (.printerCheckExchangeEnd r) s = .next (s.printerCheckEnd (checkResultOf r)).arbiter := by
  have hc : s.printerChecking = true := by simpa [State.printerChecking] using h
  exact congrArg Host.Outcome.next (if_pos hc)

theorem exec_printerCheckTimeout_of_checking :
    exec .printerCheckTimeout s = .next (s.printerCheckEnd .noResponse).arbiter := by
  have hc : s.printerChecking = true := by simpa [State.printerChecking] using h
  exact congrArg Host.Outcome.next (if_pos hc)

end

/-- The printer after a link check whose result is not GOOD (R170). -/
def Printer.offlineBy (p : Printer) (r : CheckResult) : Printer :=
  { p with checkResult := some r, checkPhase := .idle, state := .offline, phase := .noPhase, waiting := none,
           resetRunning := false }

/-- A link check that does not find its printer (R170). -/
theorem offline_printerCheckEnd (s : State) {r : CheckResult} (hr : r ≠ .good) :
    (s.printerCheckEnd r).arbiter.printer = s.printer.offlineBy r ∧
      RaisedOnly .printer 0 (some (.printer .offline (.check r))) s (s.printerCheckEnd r).arbiter ∧
      Changes [.printer, .records, .queue, .transport, .events, .outbound] s (s.printerCheckEnd r).arbiter := by
  have hend : s.printerCheckEnd r = (s.modPrinter (·.offlineBy r)).raisePrinter .offline (.check r) := by
    rw [State.printerCheckEnd]
    exact if_neg hr
  rw [hend]
  refine ⟨?_, raisedOnly_arbiter (raisedOnly_raise_of_events rfl _ _ _), ?_⟩
  · rw [Untouched.arbiter_printer, Untouched.raisePrinter_printer]
    rfl
  · exact ((changes_modPrinter s _).mono (by simp)).trans
      (((changes_raisePrinter _ _ _).mono (by simp)).trans ((changes_arbiter _).mono (by simp)))

/-! ### The SENSE of a link check (R170, R171) -/

/-- The end of the record leaves the printer in FAULTED or OFFLINE as it stands: no LOAD that it enqueues moves the tray. -/
theorem State.endRecord_printer {s : State} (k : Token) (cause : Option FailCause) (final : Place)
    (hidle : s.printer.state ≠ .idle) (hopen : s.printer.state ≠ .opened) :
    (s.endRecord k cause final).printer = s.printer := by
  unfold State.endRecord
  dsimp only
  have hreload : ∀ (t : State) (o : Option OrderNo), t.printer = s.printer → (t.reloadFor o).printer = s.printer := by
    intro t o ht
    unfold State.reloadFor
    split
    · have hstill : t.trayStill := State.trayStill_of_state (by rwa [ht]) (by rwa [ht])
      exact ((loadsJoined_loadDecision t).2.2 hstill).trans ht
    · exact ht
  refine hreload _ _ ?_
  rw [State.modRecord_printer, changes_noticeEnd _ _ _ _ .printer (by simp), changes_chargeOrder _ _ _ .printer (by simp)]
  cases cause with
  | none => rfl
  | some c => exact changes_giveCause s (some k) c .printer (by simp)

/-- The printer that the SENSE of a link check has found there, before its tray moves (R170). -/
def State.printerSettled (s : State) (req : PrinterRequest) (present : Bool) : State :=
  (s.modPrinter (·.ended req (.done present))).modPrinter (fun p => { p with checkPhase := .idle, waiting := none })

section
variable {s : State} {n : Byte} (hc : s.printer.checkPhase = .sensing)
  (ho : s.printer.outstanding = some { req := .sense, number := n })
include hc

theorem State.printEnded_of_sensing (req : PrinterRequest) (e : PrintEnding) :
    s.printEnded req e = (s.modPrinter (·.ended req e)).printActs req e := by
  rw [State.printEnded]
  exact if_neg fun hn => hn.2 hc

include ho

theorem exec_printerSenseReply_done (present : Bool) : exec (.printerSenseReply n (.done present)) s =
    .next (if present then (s.printerSettled .sense present).printerOccupied
      else (s.printerSettled .sense present).printerEmpty).arbiter := by
  have hphase : (s.modPrinter (·.ended .sense (.done present))).printer.checkPhase = .sensing := hc
  refine (exec_printReplyRow_of_outstanding ho (.done present)).trans (congrArg (fun t : State => Host.Outcome.next t.arbiter) ?_)
  rw [State.printEnded_of_sensing hc]
  simp only [PrintEnding.ofReply, State.printActs, State.printerDone, hphase, if_true, State.printerSensed]
  rfl

end

theorem State.printerSettled_printer (s : State) (req : PrinterRequest) (present : Bool) :
    (s.printerSettled req present).printer =
      { s.printer with outstanding := none, checkPhase := .idle, waiting := none } := rfl

section
variable {s : State} (ho : s.printer.outstanding = none) (hc : s.printer.checkPhase = .idle)
include ho hc

/-- A printer found without a disc draws its tray in (R170). -/
theorem State.printerEmpty_printer (hidle : s.printer.state ≠ .idle) (hopen : s.printer.state ≠ .opened) :
    s.printerEmpty.printer =
      Printer.sent { s.printer with token := none, state := .idle, phase := .closing } .trayIn := by
  unfold State.printerEmpty
  split
  next k hk =>
    have hend : ((s.endRecord k (some .lost) (.station stationPR)).modPrinter (fun p => { p with token := none })).printer =
        { s.printer with token := none } := by
      rw [State.modPrinter_printer, State.endRecord_printer _ _ _ hidle hopen]
    rw [State.printerClose_printer (by rw [hend]; exact ho) (by rw [hend]; exact hc), hend]
  next hk =>
    rw [State.printerClose_printer ho hc, ← hk]

omit ho hc in
theorem joined_printerEmpty {k : Token} (hk : s.printer.token = some k) (hl : s.live k = true) :
    Joined [.discDone k.num { s.record k.num with cause := (s.record k.num).cause <|> some .lost } (.station stationPR)
      .fail] s s.printerEmpty := by
  have hverdict : (s.lastRecord k (some .lost)).verdictAtEnd (.station stationPR) = .fail := by
    rw [DiscRecord.verdictAtEnd_eq, if_pos]
    simp [State.lastRecord, DiscRecord.withEnd]
  have hjoined := joined_endRecord hl (some .lost) (.station stationPR)
  rw [hverdict] at hjoined
  refine Joined.of_outbound hjoined ?_
  simp only [State.printerEmpty, hk]
  rw [changes_printerClose _ .outbound (by simp), State.modPrinter_outbound]

/-- A disc found that has a record goes out again (R170). -/
theorem State.printerOccupied_printer {k : Token} (hk : s.printer.token = some k) :
    s.printerOccupied.printer = Printer.sent { s.printer with state := .discharge, phase := .ejecting } .trayOut := by
  have heject : s.printerOccupied = s.printerEject := by simp only [State.printerOccupied, hk]
  rw [heject, State.printerEject_printer ho hc]

end

section
variable {s : State} (hk : s.printer.token = none)
include hk

/-- A disc found without a record: it gets one as an orphan (R130, R170). -/
theorem State.printerOccupied_of_orphan {m : RecNo} (hm : s.freeRecord = some m) : s.printerOccupied =
    ((s.takeRecord m (DiscRecord.orphanAt 0 none (.station stationPR))).modPrinter
      (fun p => { p with token := some (s.nextToken m) })).printerEject := by
  simp only [State.printerOccupied, hk, hm]

theorem State.printerOccupied_record_of_orphan {m : RecNo} (hm : s.freeRecord = some m) : s.printerOccupied.record m =
    { DiscRecord.orphanAt 0 none (.station stationPR) with use := .inUse, gen := (s.record m).gen + 1 } := by
  rw [State.printerOccupied_of_orphan hk hm, State.record_congr (changes_printerEject _ .records (by simp)),
    State.record_modPrinter', State.takeRecord, State.record_modRecord_self]

theorem State.printerOccupied_of_full (hm : s.freeRecord = none) : s.printerOccupied =
    (s.modPrinter (fun p => { p with lastFault := some .noRecord })).printerFaulted (.failure .noRecord) := by
  simp only [State.printerOccupied, hk, hm]

theorem State.printerOccupied_printer_of_full (hm : s.freeRecord = none) :
    s.printerOccupied.printer.state = .faulted ∧ s.printerOccupied.printer.lastFault = some .noRecord := by
  rw [State.printerOccupied_of_full hk hm, State.printerFaulted_printer]
  exact ⟨rfl, rfl⟩

theorem raisedOnly_printerOccupied_of_full (hm : s.freeRecord = none) :
    RaisedOnly .printer 0 (some (.printer .faulted (.failure .noRecord))) s s.printerOccupied := by
  rw [State.printerOccupied_of_full hk hm]
  exact RaisedOnly.of_start (t := s.modPrinter _) rfl (raisedOnly_printerFaulted _ _)

end

theorem State.printerFailed_of_sensing {s : State} {f : PrinterFailure} (hc : s.printer.checkPhase = .sensing)
    (hstate : s.printer.state = .faulted ∨ s.printer.state = .offline) :
    s.printerFailed f = s.printerFaulted (.failure f) := by
  unfold State.printerFailed
  rcases hstate with h | h
  · rw [h]; simp [hc]
  · rw [h]

/-- A SENSE of a link check that fails leaves the printer in FAULTED (R176). -/
theorem stops_printEnded_of_sensing {s : State} {e : PrintEnding} {f : PrinterFailure} {req : PrinterRequest}
    (hc : s.printer.checkPhase = .sensing) (hstate : s.printer.state = .faulted ∨ s.printer.state = .offline)
    (hf : e.failure req.kind = some f) (hacts : ∀ t : State, t.printActs req e = t.printerFailed f) :
    let t := (s.printEnded req e).arbiter
    t.printer.state = .faulted ∧ t.printer.checkPhase = .idle ∧ t.printer.lastFault = some f ∧
      RaisedOnly .printer 0 (some (.printer .faulted (.failure f))) s t := by
  intro t
  have ht : t = ((s.modPrinter (·.ended req e)).printerFaulted (.failure f)).arbiter := by
    rw [← State.printerFailed_of_sensing (s := s.modPrinter (·.ended req e)) hc hstate, ← hacts,
      ← State.printEnded_of_sensing hc]
  have hprinter : t.printer = { s.printer.ended req e with
      state := .faulted, phase := .noPhase, waiting := none, checkPhase := .idle, resetRunning := false } := by
    rw [ht, Untouched.arbiter_printer, State.printerFaulted_printer]
    rfl
  rw [hprinter]
  refine ⟨rfl, rfl, ?_, ?_⟩
  · simp [Printer.ended, hf]
  · rw [ht]
    exact raisedOnly_arbiter (.of_start rfl (raisedOnly_printerFaulted _ _))

/-- Settles O52: Printer Reset, the exchange of the check, and the SENSE by what it finds. -/
theorem printerResetAndCheck : Obligations.PrinterResetAndCheck := by
  refine ⟨fun f s hb hn => ⟨_, exec_printerReset_of_handlesAsNew hb hn, ?reset⟩, fun s hc => ?exchange, fun n s hc ho hstate => ?sense⟩
  case reset =>
    unfold State.printerReset
    split
    · exact ⟨rfl, replied_replyPlain_of_feed rfl, State.replyPlain_outbound (s.modPrinter _) _ _,
        ((changes_modPrinter s _).mono (by simp)).trans ((changes_replyPlain _ _ _).mono (by simp))⟩
    · exact repliedOnly_replyPlain s _ _
  case exchange =>
    intro offline
    refine ⟨⟨_, exec_printerCheckExchangeEnd_of_checking hc .good, ?_, ?_⟩,
      ⟨_, exec_printerCheckExchangeEnd_of_checking hc .linkErrors, offline_printerCheckEnd s (by decide)⟩,
      ⟨_, exec_printerCheckExchangeEnd_of_checking hc .wrongDevice, offline_printerCheckEnd s (by decide)⟩,
      ⟨_, exec_printerCheckTimeout_of_checking hc, offline_printerCheckEnd s (by decide)⟩⟩
    · rw [Untouched.arbiter_printer]
      rfl
    · exact ((((changes_modPrinter s _).trans (changes_modPrinter _ _)).trans (changes_modPrinter _ _)).mono (by simp)).trans
        ((changes_arbiter _).mono (by simp))
  case sense =>
    intro sends
    have hidle : s.printer.state ≠ .idle := by rcases hstate with h | h <;> simp [h]
    have hopen : s.printer.state ≠ .opened := by rcases hstate with h | h <;> simp [h]
    have hdone := exec_printerSenseReply_done hc ho
    refine ⟨⟨_, hdone false, ?_⟩, fun k hk => ⟨_, hdone true, ?_⟩, fun m hk hm => ⟨_, hdone true, ?_⟩,
      fun hk hm => ⟨_, hdone true, ?_⟩, fun c => ⟨_, exec_printReplyRow_of_outstanding ho (.fault c), ?_⟩,
      ⟨_, congrArg Host.Outcome.next (State.printTimeout_of_outstanding ho), ?_⟩⟩
    · simp only [sends, Untouched.arbiter_printer, Bool.false_eq_true, if_false]
      rw [State.printerEmpty_printer (s := s.printerSettled .sense false) rfl rfl hidle hopen]
      refine ⟨⟨rfl, rfl⟩, rfl, rfl, rfl, fun k hk hl => ?_⟩
      exact Joined.of_outbound (joined_printerEmpty (s := s.printerSettled .sense false) hk hl)
        (Untouched.arbiter_outbound _)
    · simp only [sends, Untouched.arbiter_printer, if_true]
      rw [State.printerOccupied_printer (s := s.printerSettled .sense true) rfl rfl hk]
      exact ⟨⟨rfl, rfl⟩, rfl, rfl, hk⟩
    · simp only [sends, Untouched.arbiter_printer, if_true]
      rw [State.printerOccupied_of_orphan (s := s.printerSettled .sense true) hk hm,
        State.printerEject_printer rfl rfl]
      refine ⟨⟨rfl, rfl⟩, rfl, rfl, rfl, ?_⟩
      have hrecord := State.printerOccupied_record_of_orphan (s := s.printerSettled .sense true) hk hm
      rw [← State.printerOccupied_of_orphan (s := s.printerSettled .sense true) hk hm,
        State.arbiter_record_of_kept (hrecord ▸ RecordUse.noConfusion), hrecord]
      rfl
    · obtain ⟨hfaulted, hlast⟩ := State.printerOccupied_printer_of_full (s := s.printerSettled .sense true) hk hm
      rw [Untouched.arbiter_printer]
      exact ⟨hfaulted, hlast, raisedOnly_arbiter (.of_start (t := s.printerSettled .sense true) rfl
        (raisedOnly_printerOccupied_of_full hk hm))⟩
    · exact stops_printEnded_of_sensing hc hstate rfl fun _ => rfl
    · exact stops_printEnded_of_sensing hc hstate rfl fun _ => rfl

end Sys2Proof.Machine
end

section
/-! What ends a print: its record, its serial, its snapshot and the artwork's flag (R174, R175), and the requests on the
printer link that fail (R175, R176): O54. -/

namespace Sys2Proof.Machine

/-! ### A request that ends with nothing waiting (R168) -/

theorem State.printEnded_of_awaits {s : State} {req : PrinterRequest} {n : Byte} (h : s.printerAwaits req n)
    (e : PrintEnding) : s.printEnded req e = (s.modPrinter (·.ended req e)).printActs req e := by
  obtain ⟨-, hwaiting, -⟩ := h
  rw [State.printEnded]
  refine if_neg fun hn => ?_
  rw [State.modPrinter_printer, Printer.ended, hwaiting] at hn
  exact absurd hn.1 (by simp)

theorem exec_printReplyRow_of_awaits {s : State} {req : PrinterRequest} {n : Byte} (h : s.printerAwaits req n)
    (r : PrinterReply) : exec (req.replyRow n r) s =
      .next ((s.modPrinter (·.ended req (.ofReply r))).printActs req (.ofReply r)).arbiter := by
  rw [exec_printReplyRow_of_outstanding h.1, State.printEnded_of_awaits h]

theorem exec_printerRequestTimeout_of_awaits {s : State} {req : PrinterRequest} {n : Byte} (h : s.printerAwaits req n) :
    exec .printerRequestTimeout s = .next ((s.modPrinter (·.ended req .timeout)).printActs req .timeout).arbiter := by
  rw [← State.printEnded_of_awaits h]
  exact congrArg Host.Outcome.next (State.printTimeout_of_outstanding h.1)

/-! ### The snapshot's serial and the artwork's flag (R174, R175, R178) -/

/-- A print is over: its serial is accounted for by `f`, and the snapshot and the artwork's flag are cleared. -/
def State.snapshotEnded (s : State) (f : Template → Template) : State := (s.accountSerial f).clearSnapshot

section
variable (s : State) (f : Template → Template)

theorem changes_snapshotEnded : Changes [.printer, .artworks, .templates] s (s.snapshotEnded f) :=
  ((changes_accountSerial s f).mono (by simp)).trans ((changes_clearSnapshot _).mono (by simp))

theorem State.snapshotEnded_printer : (s.snapshotEnded f).printer = { s.printer with snapshot := none } := by
  have hsame : (s.accountSerial f).printer = s.printer := changes_accountSerial s f .printer (by simp)
  unfold State.snapshotEnded State.clearSnapshot
  rw [hsame]
  split
  next => rw [State.modPrinter_printer, State.modArtwork_printer, hsame]
  next h => rw [hsame, ← h]

variable {s f} {p : Snapshot} (hp : s.printer.snapshot = some p)
include hp

theorem State.snapshotEnded_of_some : s.snapshotEnded f =
    ((if p.serial.isSome then s.modTemplate p.template f else s).modArtwork p.art (fun a => { a with inUse := false })
      ).modPrinter (fun x => { x with snapshot := none }) := by
  have hsame : (s.accountSerial f).printer.snapshot = some p := by rw [changes_accountSerial s f .printer (by simp), hp]
  simp only [State.snapshotEnded, State.clearSnapshot, hsame]
  simp only [State.accountSerial, hp]

theorem State.snapshotEnded_artwork : (s.snapshotEnded f).artwork p.art = { s.artwork p.art with inUse := false } := by
  rw [State.snapshotEnded_of_some hp, State.artwork_modPrinter', State.artwork_modArtwork_self]
  split <;> rfl

theorem State.snapshotEnded_template : (s.snapshotEnded f).template p.template =
    if p.serial.isSome then f (s.template p.template) else s.template p.template := by
  rw [State.snapshotEnded_of_some hp, State.template_modPrinter', State.template_modArtwork']
  split
  · rw [State.template_modTemplate_self]
  · rfl

end

/-! ### A print that fails (R175) -/

/-- The record at PR when its print has failed. -/
def DiscRecord.printFailed (r : DiscRecord) : DiscRecord :=
  { r with print := .fail, cause := r.cause <|> some .printFault }

/-- The record at the printer has print result FAIL, and PRINT-FAULT unless it had a cause. -/
def State.printFailRecorded (s : State) : State :=
  (s.giveCause s.printer.token .printFault).writeRecord? s.printer.token (fun r => { r with print := .fail })

theorem changes_printFailRecorded (s : State) : Changes [.records] s s.printFailRecorded :=
  (changes_giveCause s _ _).trans (changes_writeRecordO _ _ _)

theorem State.printFailRecorded_record {s : State} {k : Token} (hk : s.printer.token = some k) (hl : s.live k = true) :
    s.printFailRecorded.record k.num = (s.record k.num).printFailed := by
  have hlive : (s.modRecord k.num (·.addCause .printFault)).live k = true := by
    simpa [State.live, DiscRecord.addCause] using hl
  have hcause : s.giveCause (some k) .printFault = s.modRecord k.num (·.addCause .printFault) := if_pos hl
  rw [State.printFailRecorded, hk, hcause, State.writeRecord_of_live hlive, State.record_modRecord_self,
    State.record_modRecord_self]
  rfl

/-- The printer's fault run when a print fails (R175; log entry 33). -/
def Printer.runAfter (x : Printer) (counted : Bool) : Nat := if counted then min 2 (x.faultRun + 1) else x.faultRun

/-- A print has failed, before PRINTER is raised and the disc goes out. -/
def State.printSpoiled (s : State) (counted : Bool) : State :=
  let t := s.printFailRecorded.snapshotEnded (·.countVoided)
  if counted then t.modPrinter (fun p => { p with faultRun := min 2 (p.faultRun + 1) }) else t

theorem State.printFault_eq (s : State) (c : PrinterCause) (counted : Bool) :
    s.printFault c counted = ((s.printSpoiled counted).raisePrinter .discharge c).printerEject := rfl

section
variable (s : State) (counted : Bool)

theorem changes_printSpoiled : Changes [.printer, .artworks, .templates, .records] s (s.printSpoiled counted) := by
  have hended : Changes [.printer, .artworks, .templates, .records] s (s.printFailRecorded.snapshotEnded (·.countVoided)) :=
    ((changes_printFailRecorded s).mono (by simp)).trans ((changes_snapshotEnded _ _).mono (by simp))
  unfold State.printSpoiled
  dsimp only
  split
  · exact hended.trans ((changes_modPrinter _ _).mono (by simp))
  · exact hended

theorem State.printSpoiled_printer : (s.printSpoiled counted).printer =
    { s.printer with snapshot := none, faultRun := s.printer.runAfter counted } := by
  have hended : (s.printFailRecorded.snapshotEnded (·.countVoided)).printer = { s.printer with snapshot := none } := by
    rw [State.snapshotEnded_printer, changes_printFailRecorded s .printer (by simp)]
  unfold State.printSpoiled
  cases counted with
  | true => simp only [if_true, State.modPrinter_printer, hended, Printer.runAfter]
  | false => simp only [Bool.false_eq_true, if_false, hended, Printer.runAfter]

/-- Of what the spoiled print leaves, the count of the fault run is in the printer alone. -/
theorem changes_faultCounted :
    Changes [.printer] (s.printFailRecorded.snapshotEnded (·.countVoided)) (s.printSpoiled counted) := by
  unfold State.printSpoiled
  dsimp only
  split
  · exact changes_modPrinter _ _
  · exact .refl _

end

section
variable (s : State) (c : PrinterCause) (counted : Bool)

theorem changes_printFault_of_spoiled :
    Changes [.printer, .events, .outbound] (s.printSpoiled counted) (s.printFault c counted) := by
  rw [State.printFault_eq]
  exact ((changes_raisePrinter _ _ _).mono (by simp)).trans ((changes_printerEject _).mono (by simp))

theorem raisedOnly_printFault : RaisedOnly .printer 0 (some (.printer .discharge c)) s (s.printFault c counted) := by
  rw [State.printFault_eq]
  exact .of_start (t := s.printSpoiled counted) (changes_printSpoiled s counted .events (by simp))
    (raisedOnly_of_events (changes_printerEject _ .events (by simp)) (raisedOnly_raise _ _ _ _))

variable {s}

theorem State.printFault_printer (ho : s.printer.outstanding = none) (hc : s.printer.checkPhase = .idle) :
    (s.printFault c counted).printer = Printer.sent { s.printer with
      state := .discharge, phase := .ejecting, snapshot := none, faultRun := s.printer.runAfter counted } .trayOut := by
  have hspoiled : ((s.printSpoiled counted).raisePrinter .discharge c).printer =
      { s.printer with snapshot := none, faultRun := s.printer.runAfter counted } := by
    rw [Untouched.raisePrinter_printer, State.printSpoiled_printer]
  rw [State.printFault_eq, State.printerEject_printer (by rw [hspoiled]; exact ho) (by rw [hspoiled]; exact hc), hspoiled]

theorem State.printFault_record {k : Token} (hk : s.printer.token = some k) (hl : s.live k = true) :
    (s.printFault c counted).record k.num = (s.record k.num).printFailed := by
  rw [State.record_congr (changes_printFault_of_spoiled s c counted .records (by simp)),
    State.record_congr (changes_faultCounted s counted .records (by simp)),
    State.record_congr (changes_snapshotEnded _ _ .records (by simp)), State.printFailRecorded_record hk hl]

variable {p : Snapshot} (hp : s.printer.snapshot = some p)
include hp

theorem State.snapshot_printFailRecorded : s.printFailRecorded.printer.snapshot = some p := by
  rw [changes_printFailRecorded s .printer (by simp), hp]

theorem State.printFault_artwork :
    (s.printFault c counted).artwork p.art = { s.artwork p.art with inUse := false } := by
  rw [State.artwork_congr (changes_printFault_of_spoiled s c counted .artworks (by simp)),
    State.artwork_congr (changes_faultCounted s counted .artworks (by simp)),
    State.snapshotEnded_artwork (State.snapshot_printFailRecorded hp),
    State.artwork_congr (changes_printFailRecorded s .artworks (by simp))]

theorem State.printFault_template : (s.printFault c counted).template p.template =
    if p.serial.isSome then (s.template p.template).countVoided else s.template p.template := by
  rw [State.template_congr (changes_printFault_of_spoiled s c counted .templates (by simp)),
    State.template_congr (changes_faultCounted s counted .templates (by simp)),
    State.snapshotEnded_template (State.snapshot_printFailRecorded hp),
    State.template_congr (changes_printFailRecorded s .templates (by simp))]

theorem State.printFault_voided : ((s.printFault c counted).template p.template).voided =
    (s.template p.template).voided + if p.serial.isSome then 1 else 0 := by
  rw [State.printFault_template c counted hp, apply_ite Template.voided]
  split
  · rfl
  · simp

end

/-! ### A request that fails -/

/-- What O54 says of a request that fails with `f` in PRINTING. -/
def PrintSpoiledBy (f : PrinterFailure) (s t : State) : Prop :=
  t.printer.state = .discharge ∧ t.printer.phase = .ejecting ∧ t.printer.snapshot = none ∧
    t.printer.lastFault = some f ∧ t.printer.faultRun = min 2 (s.printer.faultRun + 1) ∧
    t.printer.token = s.printer.token ∧
    t.printer.outstanding = some { req := .trayOut, number := s.printer.nextNumber } ∧
    (∀ k, s.printer.token = some k → s.live k = true → (t.record k.num).print = .fail ∧
      (t.record k.num).cause = ((s.record k.num).cause <|> some .printFault)) ∧
    (∀ p, s.printer.snapshot = some p → (t.artwork p.art).inUse = false ∧
      (t.template p.template).voided = (s.template p.template).voided + (if p.serial.isSome then 1 else 0)) ∧
    RaisedOnly .printer 0 (some (.printer .discharge (.failure f))) s t

/-- What O54 says of a request that fails with `f` in another state but FAULTED. -/
def PrinterStoppedBy (f : PrinterFailure) (s t : State) : Prop :=
  t.printer.state = .faulted ∧ t.printer.phase = .noPhase ∧ t.printer.lastFault = some f ∧
    t.printer.token = s.printer.token ∧ t.printer.outstanding = none ∧
    RaisedOnly .printer 0 (some (.printer .faulted (.failure f))) s t

section
variable {s : State} {f : PrinterFailure}

theorem State.printerFailed_of_printing (h : s.printer.state = .printing) :
    s.printerFailed f = s.printFault (.failure f) true := by
  simp only [State.printerFailed, h]

theorem State.printerFailed_of_other (hp : s.printer.state ≠ .printing) (hf : s.printer.state ≠ .faulted) :
    s.printerFailed f = s.printerFaulted (.failure f) := by
  unfold State.printerFailed
  split
  next h => exact absurd h hp
  next h => exact absurd h hf
  next => rfl

theorem printSpoiledBy_arbiter {t : State} (h : PrintSpoiledBy f s t) : PrintSpoiledBy f s t.arbiter := by
  obtain ⟨hstate, hphase, hsnapshot, hlast, hrun, htoken, hout, hrecord, hserial, hraised⟩ := h
  unfold PrintSpoiledBy
  rw [Untouched.arbiter_printer]
  refine ⟨hstate, hphase, hsnapshot, hlast, hrun, htoken, hout, fun k hk hl => ?_, fun p hp => ?_, raisedOnly_arbiter hraised⟩
  · obtain ⟨u, hu⟩ := t.arbiter_record k.num
    rw [hu]
    exact hrecord k hk hl
  · rw [Untouched.arbiter_artwork, Untouched.arbiter_template]
    exact hserial p hp

variable {req : PrinterRequest} {e : PrintEnding} (hf : e.failure req.kind = some f)
include hf

theorem State.ended_lastFault : (s.modPrinter (·.ended req e)).printer.lastFault = some f := by
  rw [State.modPrinter_printer, Printer.ended, hf]
  rfl

theorem printSpoiledBy_printFault (hc : s.printer.checkPhase = .idle) :
    PrintSpoiledBy f s ((s.modPrinter (·.ended req e)).printFault (.failure f) true) := by
  unfold PrintSpoiledBy
  rw [State.printFault_printer (s := s.modPrinter (·.ended req e)) _ _ rfl hc]
  refine ⟨rfl, rfl, rfl, State.ended_lastFault hf, rfl, rfl, rfl, fun k hk hl => ?_, fun p hp => ⟨?_, ?_⟩, ?_⟩
  · rw [State.printFault_record (s := s.modPrinter (·.ended req e)) _ _ hk hl]
    exact ⟨rfl, rfl⟩
  · rw [State.printFault_artwork (s := s.modPrinter (·.ended req e)) _ _ hp]
  · exact State.printFault_voided (s := s.modPrinter (·.ended req e)) _ _ hp
  · exact .of_start (t := s.modPrinter _) rfl (raisedOnly_printFault _ _ _)

theorem printerStoppedBy_printerFaulted :
    PrinterStoppedBy f s ((s.modPrinter (·.ended req e)).printerFaulted (.failure f)).arbiter := by
  unfold PrinterStoppedBy
  rw [Untouched.arbiter_printer, State.printerFaulted_printer]
  exact ⟨rfl, rfl, State.ended_lastFault hf, rfl, rfl,
    raisedOnly_arbiter (.of_start (t := s.modPrinter _) rfl (raisedOnly_printerFaulted _ _))⟩

/-- A request that fails, by the printer's state (R175, R176). -/
theorem printFailure_acts {n : Byte} (h : s.printerAwaits req n) (hacts : ∀ t : State, t.printActs req e = t.printerFailed f) :
    let t := ((s.modPrinter (·.ended req e)).printActs req e).arbiter
    (s.printer.state = .printing → PrintSpoiledBy f s t) ∧
      (s.printer.state ≠ .printing → s.printer.state ≠ .faulted → PrinterStoppedBy f s t) := by
  obtain ⟨-, -, hc⟩ := h
  intro t
  refine ⟨fun hprinting => ?_, fun hp hfaulted => ?_⟩
  · have ht : t = ((s.modPrinter (·.ended req e)).printFault (.failure f) true).arbiter := by
      rw [← State.printerFailed_of_printing (s := s.modPrinter (·.ended req e)) hprinting, ← hacts]
    rw [ht]
    exact printSpoiledBy_arbiter (printSpoiledBy_printFault hf hc)
  · have ht : t = ((s.modPrinter (·.ended req e)).printerFaulted (.failure f)).arbiter := by
      rw [← State.printerFailed_of_other (s := s.modPrinter (·.ended req e)) hp hfaulted, ← hacts]
    rw [ht]
    exact printerStoppedBy_printerFaulted hf

end

/-- Settles O54: each request's FAULT and the timeout are endings with a failure. -/
theorem printFaults : Obligations.PrintFaults := by
  unfold Obligations.PrintFaults
  intro n req s h x prints stops acts
  have hfault : ∀ c : PrinterFaultCause, ∃ t, exec (req.replyRow n (.fault c)) s = .next t ∧ acts (.fault req.kind c) t :=
    fun c => ⟨_, exec_printReplyRow_of_awaits h (.fault c), printFailure_acts (e := .fault c) rfl h fun _ => rfl⟩
  refine ⟨⟨_, exec_printerRequestTimeout_of_awaits h, printFailure_acts rfl h fun _ => rfl⟩, fun c => ?_⟩
  have hc := hfault c
  refine ⟨fun hr => ?_, fun hr => ?_, fun q hr => ?_, fun b d hr => ?_, fun hr => ?_⟩
  all_goals
    subst hr
    exact hc

end Sys2Proof.Machine
end

section
/-! The print cycle (R172 to R174): the printer's tray as the queue changes, and each DONE of the cycle: O53. -/

namespace Sys2Proof.Machine

/-! ### The tray follows the queue (R172) -/

/-- The printer when a request has been asked for (R168). -/
def Printer.asked (x : Printer) (q : PrinterRequest) : Printer :=
  if x.outstanding = none ∧ x.checkPhase = .idle then x.sent q else { x with waiting := some q }

/-- The printer when the queue has changed, `bound` telling whether an entry is bound for PR (R172). -/
def Printer.trayed (x : Printer) (bound : Bool) : Printer :=
  if x.state = .idle ∧ x.phase = .noPhase ∧ bound = true then Printer.asked { x with phase := .opening } .trayOut
  else if x.state = .opened ∧ ¬ bound = true then Printer.asked { x with state := .idle, phase := .closing } .trayIn
  else x

theorem State.askPrinter_printer_eq (s : State) (q : PrinterRequest) : (s.askPrinter q).printer = s.printer.asked q := by
  unfold State.askPrinter Printer.asked
  by_cases h : s.printer.outstanding = none ∧ s.printer.checkPhase = .idle
  · rw [if_pos h, if_pos (by simp [h.1, h.2])]
    rfl
  · rw [if_neg h, if_neg (by simpa using h)]
    rfl

theorem State.printerTray_printer (s : State) :
    s.printerTray.printer = s.printer.trayed (s.queue.any (·.boundForPR)) := by
  unfold State.printerTray Printer.trayed
  split
  · rw [State.askPrinter_printer_eq]
    rfl
  · split
    · rw [State.askPrinter_printer_eq]
      rfl
    · rfl

section
variable {x : Printer} {bound : Bool}

theorem Printer.asked_of_free (q : PrinterRequest) (ho : x.outstanding = none) (hc : x.checkPhase = .idle) :
    x.asked q = x.sent q := if_pos ⟨ho, hc⟩

theorem Printer.trayed_opens (hs : x.state = .idle) (hp : x.phase = .noPhase) (hb : bound = true) :
    x.trayed bound = Printer.asked { x with phase := .opening } .trayOut := if_pos ⟨hs, hp, hb⟩

theorem Printer.trayed_closes (hs : x.state = .opened) (hb : ¬ bound = true) :
    x.trayed bound = Printer.asked { x with state := .idle, phase := .closing } .trayIn := by
  rw [Printer.trayed, if_neg (fun h => hb h.2.2), if_pos ⟨hs, hb⟩]

theorem Printer.trayed_of_still (hi : ¬ (x.state = .idle ∧ x.phase = .noPhase ∧ bound = true))
    (ho : x.state = .opened → bound = true) : x.trayed bound = x := by
  rw [Printer.trayed, if_neg hi, if_neg fun h => h.2 (ho h.1)]

end

theorem State.enqueue_printer (s : State) (e : Entry) :
    (s.enqueue e).printer = s.printer.trayed ((s.queue ++ [e]).any (·.boundForPR)) :=
  State.printerTray_printer _

theorem State.retire_printer_eq (s : State) (e : Entry) :
    (s.retire e).printer = s.printer.trayed ((s.queue.erase e).any (·.boundForPR)) := by
  have hprinter : ((s.setQueue (s.queue.erase e)).returnSetAside e.setAside).printer = s.printer :=
    changes_returnSetAside (s.setQueue (s.queue.erase e)) _ .printer (by simp)
  have hqueue : ((s.setQueue (s.queue.erase e)).returnSetAside e.setAside).queue = s.queue.erase e :=
    changes_returnSetAside (s.setQueue (s.queue.erase e)) _ .queue (by simp)
  unfold State.retire
  dsimp only
  split
  · rw [State.printerTray_printer, State.modTransport_printer, State.modTransport_queue, hprinter, hqueue]
  · rw [State.printerTray_printer, hprinter, hqueue]

theorem any_boundForPR_iff (q : List Entry) :
    q.any (·.boundForPR) = true ↔ ∃ f ∈ q, f.dest = .station stationPR := by
  simp [Entry.boundForPR]

theorem any_boundForPR_append_one (q : List Entry) (e : Entry) :
    (q ++ [e]).any (·.boundForPR) = true ↔ (∃ f ∈ q, f.dest = .station stationPR) ∨ e.dest = .station stationPR := by
  simp [Entry.boundForPR]

/-! ### A DONE (R170 to R174) -/

/-- The printer's request has ended with DONE, before the DONE acts. -/
def State.printDone (s : State) (req : PrinterRequest) (present : Bool) : State := s.modPrinter (·.ended req (.done present))

theorem State.printDone_printer (s : State) (req : PrinterRequest) (present : Bool) :
    (s.printDone req present).printer = { s.printer with outstanding := none } := rfl

theorem changes_printDone (s : State) (req : PrinterRequest) (present : Bool) :
    Changes [.printer] s (s.printDone req present) := changes_modPrinter s _

section
variable {s : State} {req : PrinterRequest} {n : Byte} (h : s.printerAwaits req n) (present : Bool)
include h

theorem exec_printReplyRow_done : exec (req.replyRow n (.done present)) s =
    .next ((s.printDone req present).printerDone present).arbiter :=
  exec_printReplyRow_of_awaits h (.done present)

theorem State.printDone_checkPhase : (s.printDone req present).printer.checkPhase = .idle := h.2.2

end

section
variable {s : State} (hc : s.printer.checkPhase = .idle) (present : Bool)
include hc

theorem State.printerDone_opening (hs : s.printer.state = .idle) (hp : s.printer.phase = .opening) :
    s.printerDone present = (s.modPrinter (fun p => { p with state := .opened, phase := .noPhase })).printerTray := by
  simp [State.printerDone, hc, hs, hp]

theorem State.printerDone_closing (hs : s.printer.state = .idle) (hp : s.printer.phase = .closing) :
    s.printerDone present =
      ((s.modPrinter (fun p => { p with phase := .noPhase })).resetEnded .idle).printerTray := by
  simp [State.printerDone, hc, hs, hp]

theorem State.printerDone_ejecting (hs : s.printer.state = .discharge) (hp : s.printer.phase = .ejecting) :
    s.printerDone present = s.waitPick := by
  simp [State.printerDone, hc, hs, hp]

theorem State.printerDone_trayIn (hs : s.printer.state = .printing) (hp : s.printer.phase = .trayIn) :
    s.printerDone present = s.startPrint := by
  simp [State.printerDone, hc, hs, hp]

theorem State.printerDone_start (hs : s.printer.state = .printing) (hp : s.printer.phase = .start) :
    s.printerDone present = s.startDone := by
  simp [State.printerDone, hc, hs, hp]

theorem State.printerDone_band (hs : s.printer.state = .printing) (hp : s.printer.phase = .band) :
    s.printerDone present = s.bandDone := by
  simp [State.printerDone, hc, hs, hp]

theorem State.printerDone_finish (hs : s.printer.state = .printing) (hp : s.printer.phase = .finish) :
    s.printerDone present = s.printPassed := by
  simp [State.printerDone, hc, hs, hp]

end

theorem changes_then_arbiter {ps : List Part} {s t : State} (h : Changes ps s t) (hr : .records ∈ ps) (hq : .queue ∈ ps)
    (ht : .transport ∈ ps) : Changes ps s t.arbiter :=
  h.trans ((changes_arbiter t).mono (by simp [hr, hq, ht]))

/-! ### The tray's own requests (R172, R174) -/

section
variable (s : State) (st : PrinterState)

theorem State.resetEnded_events : if s.printer.resetRunning = true then
    RaisedOnly .printer 0 (some (.printer st .reset)) s (s.resetEnded st) else (s.resetEnded st).events = s.events := by
  unfold State.resetEnded
  split
  · exact raisedOnly_raise_of_events rfl _ _ _
  · rfl

theorem State.atWaitPick_orphan {s : State} {k : Token} (hk : s.printer.token = some k) (hl : s.live k = true) :
    s.atWaitPick.orphanAtPR = decide ((s.record k.num).origin = .orphan) := by
  have hlive : s.atWaitPick.live k = true := hl
  simp only [State.orphanAtPR, show s.atWaitPick.printer.token = some k from hk, Option.bind_some, State.liveRecord, hlive,
    if_true]
  rfl

/-- The entry that a printer in WAIT-PICK enqueues: an orphan is purged, another disc cleared by its verdict (R174). -/
theorem State.pickEntry_cases {s : State} {k : Token} (hk : s.printer.token = some k) (hl : s.live k = true) :
    let f := s.atWaitPick.pickEntry
    if (s.record k.num).origin = .orphan then f.kind = .purge ∧ f.source = .station stationPR ∧
        f.dest = .station stationBX ∧ f.token = some k
      else f.kind = .clear ∧ f.source = .station stationPR ∧ f.dest = .byVerdict ∧ f.token = some k := by
  simp only [State.pickEntry, State.atWaitPick_orphan hk hl, decide_eq_true_eq]
  split
  · exact ⟨rfl, rfl, rfl, hk⟩
  · exact ⟨rfl, rfl, rfl, hk⟩

end

/-! ### The print (R173, R174) -/

theorem bandsOf_eq (length : Nat) : bandsOf length = (length + 65535) / 65536 := rfl

theorem bandData_eq (bytes : List Byte) (b k : Nat) :
    bandData bytes b k = (bytes.drop (65536 * (b - 1 - k))).take 65536 := rfl

section
variable {s : State} (ho : s.printer.outstanding = none) (hc : s.printer.checkPhase = .idle)
include ho hc

theorem State.askPrinter_printer_of_free (q : PrinterRequest) : (s.askPrinter q).printer = s.printer.sent q := by
  rw [State.askPrinter_printer_eq, Printer.asked_of_free q ho hc]

theorem State.sendBand_printer (p : Snapshot) : (s.sendBand p).printer = s.printer.sent
    (.band (s.printer.bandsLeft - 1) (((s.artwork p.art).bytes.drop
      (65536 * ((p.length + 65535) / 65536 - 1 - (s.printer.bandsLeft - 1)))).take 65536)) := by
  rw [State.sendBand, State.askPrinter_printer_of_free ho hc, bandData_eq, bandsOf_eq]

theorem State.startDone_printer {p : Snapshot} (hp : s.printer.snapshot = some p) : s.startDone.printer =
    Printer.sent { s.printer with phase := .band } (.band (s.printer.bandsLeft - 1) (((s.artwork p.art).bytes.drop
      (65536 * ((p.length + 65535) / 65536 - 1 - (s.printer.bandsLeft - 1)))).take 65536)) := by
  have hdone : s.startDone = (s.modPrinter (fun x => { x with phase := .band })).sendBand p := by
    simp only [State.startDone, hp]
  rw [hdone, State.sendBand_printer (by exact ho) (by exact hc) p]
  rfl

theorem State.bandDone_printer {p : Snapshot} (hp : s.printer.snapshot = some p) : s.bandDone.printer =
    if s.printer.bandsLeft ≤ 1 then Printer.sent { s.printer with bandsLeft := 0, phase := .finish } .finish
    else Printer.sent { s.printer with bandsLeft := s.printer.bandsLeft - 1 } (.band (s.printer.bandsLeft - 2)
      (((s.artwork p.art).bytes.drop (65536 * ((p.length + 65535) / 65536 - 1 - (s.printer.bandsLeft - 2)))).take
        65536)) := by
  have hdone : s.bandDone =
      if s.printer.bandsLeft - 1 = 0 then ((s.modPrinter (fun x => { x with bandsLeft := x.bandsLeft - 1 })).modPrinter
        (fun x => { x with phase := .finish })).askPrinter .finish
      else (s.modPrinter (fun x => { x with bandsLeft := x.bandsLeft - 1 })).sendBand p := by
    simp only [State.bandDone, hp]
    rfl
  rw [hdone]
  by_cases h : s.printer.bandsLeft ≤ 1
  · have hlast : s.printer.bandsLeft - 1 = 0 := by omega
    rw [if_pos hlast, if_pos h, State.askPrinter_printer_of_free (by exact ho) (by exact hc), ← hlast]
    rfl
  · rw [if_neg (by omega), if_neg h, State.sendBand_printer (by exact ho) (by exact hc) p]
    rfl

end

/-! #### The start (R173) -/

theorem State.templateOf_of_live {s : State} {k : Token} {o : OrderNo} {l : TmplNo} (hl : s.live k = true)
    (ho : (s.record k.num).order = some o) (ht : (s.order o).template = some l) : s.templateOf (some k) = some l := by
  simp [State.templateOf, State.orderOf, State.liveRecord, hl, ho, ht]

/-- A snapshot with the serial that its template hands out, when it hands one out. -/
def Snapshot.issued (p : Snapshot) (n : Nat) : Snapshot := { p with serial := if p.serialEnabled = true then some n else none }

/-- A template that has handed out a serial. -/
def Template.serialIssued (m : Template) : Template :=
  { m with nextSerial := if m.nextSerial = 999999 then 0 else m.nextSerial + 1, issued := m.issued + 1 }

section
variable {s : State} {p : Snapshot} {k : Token}

theorem State.issueSerial_of_disabled (h : ¬ p.serialEnabled = true) : s.issueSerial p = s := if_neg h

theorem State.issueSerial_of_enabled (h : p.serialEnabled = true) (hk : s.printer.token = some k)
    (hl : s.live k = true) : s.issueSerial p =
      ((s.modTemplate p.template (fun l => { l with
        nextSerial := if (s.template p.template).nextSerial = 999999 then 0 else (s.template p.template).nextSerial + 1
        issued := l.issued + 1 })).modRecord k.num (fun r => { r with serial := some (s.template p.template).nextSerial })
      ).modPrinter (fun x => { x with snapshot := some (p.issued (s.template p.template).nextSerial) }) := by
  rw [State.issueSerial, if_pos h, hk]
  dsimp only
  rw [State.writeRecord_of_live (by exact hl)]
  simp only [Snapshot.issued, h, if_true]
  rfl

theorem State.issueSerial_printer (hk : s.printer.token = some k) (hl : s.live k = true) (hn : p.serial = none)
    (hp : s.printer.snapshot = some p) : (s.issueSerial p).printer =
      { s.printer with snapshot := some (p.issued (s.template p.template).nextSerial) } := by
  by_cases h : p.serialEnabled = true
  · rw [State.issueSerial_of_enabled h hk hl]
    rfl
  · have hsame : p.issued (s.template p.template).nextSerial = p := by
      rw [Snapshot.issued, if_neg h, ← hn]
    rw [State.issueSerial_of_disabled h, hsame, ← hp]

theorem State.issueSerial_template (hk : s.printer.token = some k) (hl : s.live k = true) :
    (s.issueSerial p).template p.template = (if p.serialEnabled = true then (s.template p.template).serialIssued
      else s.template p.template) ∧
    (∀ b, b ≠ p.template → (s.issueSerial p).template b = s.template b) ∧
    ((s.issueSerial p).record k.num).serial = (if p.serialEnabled = true then some (s.template p.template).nextSerial
      else (s.record k.num).serial) := by
  split
  next h =>
    rw [State.issueSerial_of_enabled h hk hl]
    refine ⟨?_, fun b hb => ?_, ?_⟩
    · rw [State.template_modPrinter', State.template_modRecord', State.template_modTemplate_self]
      rfl
    · rw [State.template_modPrinter', State.template_modRecord', State.template_modTemplate_of_ne _ _ _ _ hb.symm]
    · rw [State.record_modPrinter', State.record_modRecord_self]
  next h =>
    rw [State.issueSerial_of_disabled h]
    exact ⟨rfl, fun _ _ => rfl, rfl⟩

end

/-- The printer and the artwork slot as a print begins, before its serial is issued (R173). -/
def State.printBegun (s : State) (p : Snapshot) : State :=
  (s.modPrinter (fun x => { x with snapshot := some p, bandsLeft := bandsOf p.length, phase := .start })).modArtwork p.art
    (fun a => { a with inUse := true })

section
variable {s : State} {l : TmplNo} (ht : s.templateOf s.printer.token = some l)
include ht

theorem State.startPrint_of_ready (hr : (s.artwork (s.template l).art).state = .ready) :
    s.startPrint = ((s.printBegun (s.snapshotOf l)).issueSerial (s.snapshotOf l)).sendStart := by
  simp only [State.startPrint, ht]
  exact if_pos hr

theorem State.startPrint_of_not_ready (hr : (s.artwork (s.template l).art).state ≠ .ready) : s.startPrint =
    (s.modPrinter (fun x => { x with snapshot := some (s.snapshotOf l) })).printFault .artworkNotReady false := by
  simp only [State.startPrint, ht]
  exact if_neg hr

end

theorem changes_printStarted (s : State) (p : Snapshot) :
    Changes [.printer, .artworks, .templates, .records] s ((s.printBegun p).issueSerial p).sendStart :=
  (((changes_modPrinter s _).mono (by simp)).trans ((changes_modArtwork _ _ _).mono (by simp))).trans
    (((changes_issueSerial _ _).mono (by simp)).trans ((changes_sendStart _).mono (by simp)))

/-! #### The end (R174) -/

/-- The record at the printer has print result PASS. -/
def State.printPassRecorded (s : State) : State := s.writeRecord? s.printer.token (fun r => { r with print := .pass })

theorem changes_printPassRecorded (s : State) : Changes [.records] s s.printPassRecorded := changes_writeRecordO _ _ _

theorem State.printPassed_eq (s : State) : s.printPassed =
    ((s.printPassRecorded.snapshotEnded (·.countPrinted)).modPrinter (fun p => { p with faultRun := 0 })).printerEject := rfl

theorem changes_printPassed_of_ended (s : State) :
    Changes [.printer] (s.printPassRecorded.snapshotEnded (·.countPrinted)) s.printPassed :=
  (changes_modPrinter _ _).trans (changes_printerEject _)

section
variable {s : State}

theorem State.printPassed_printer (ho : s.printer.outstanding = none) (hc : s.printer.checkPhase = .idle) :
    s.printPassed.printer = Printer.sent { s.printer with
      state := .discharge, phase := .ejecting, snapshot := none, faultRun := 0 } .trayOut := by
  have hended : (s.printPassRecorded.snapshotEnded (·.countPrinted)).printer = { s.printer with snapshot := none } := by
    rw [State.snapshotEnded_printer, changes_printPassRecorded s .printer (by simp)]
  rw [State.printPassed_eq, State.printerEject_printer (by rw [State.modPrinter_printer, hended]; exact ho)
    (by rw [State.modPrinter_printer, hended]; exact hc), State.modPrinter_printer, hended]

theorem State.printPassed_record {k : Token} (hk : s.printer.token = some k) (hl : s.live k = true) :
    s.printPassed.record k.num = { s.record k.num with print := .pass } := by
  rw [State.record_congr (changes_printPassed_of_ended s .records (by simp)),
    State.record_congr (changes_snapshotEnded _ _ .records (by simp)), State.printPassRecorded, hk,
    State.writeRecord_of_live hl, State.record_modRecord_self]

theorem State.printPassed_snapshot {p : Snapshot} (hp : s.printer.snapshot = some p) :
    (s.printPassed.artwork p.art).inUse = false ∧ s.printPassed.template p.template =
      if p.serial.isSome then (s.template p.template).countPrinted else s.template p.template := by
  have hsame : s.printPassRecorded.printer.snapshot = some p := by
    rw [changes_printPassRecorded s .printer (by simp), hp]
  rw [State.artwork_congr (changes_printPassed_of_ended s .artworks (by simp)),
    State.template_congr (changes_printPassed_of_ended s .templates (by simp)), State.snapshotEnded_artwork hsame,
    State.snapshotEnded_template hsame, State.template_congr (changes_printPassRecorded s .templates (by simp))]
  exact ⟨rfl, rfl⟩

end

theorem Changes.drop {p : Part} {ps : List Part} {s t : State} (h : Changes (p :: ps) s t) (hp : p.same s t) :
    Changes ps s t := fun q hq => by
  by_cases heq : q = p
  · exact heq ▸ hp
  · exact h q (by simp [heq, hq])

/-- A print that fails before a serial was issued leaves the templates. -/
theorem State.printFault_templates {s : State} (c : PrinterCause) (counted : Bool) {p : Snapshot}
    (hp : s.printer.snapshot = some p) (hn : p.serial = none) : (s.printFault c counted).templates = s.templates := by
  rw [changes_printFault_of_spoiled s c counted .templates (by simp),
    changes_faultCounted s counted .templates (by simp),
    State.snapshotEnded_of_some (State.snapshot_printFailRecorded hp), hn]
  exact changes_printFailRecorded s .templates (by simp)

/-! ### What each DONE leaves (R172 to R174) -/

section
variable {s : State} (ho : s.printer.outstanding = none) (hc : s.printer.checkPhase = .idle)

/-- The tray is open (R172): it stays open for an entry bound for PR, and closes when none is left. -/
theorem State.opened_printerTray (hbound : Prop) (hb : s.queue.any (·.boundForPR) = true ↔ hbound) :
    let u := (s.modPrinter (fun p => { p with state := .opened, phase := .noPhase })).printerTray
    (hbound → u.printer = { s.printer with state := .opened, phase := .noPhase }) ∧
      (¬ hbound → s.printer.outstanding = none → s.printer.checkPhase = .idle →
        u.printer = Printer.sent { s.printer with state := .idle, phase := .closing } .trayIn) := by
  intro u
  have hprinter : u.printer = Printer.trayed { s.printer with state := .opened, phase := .noPhase }
      (s.queue.any (·.boundForPR)) := State.printerTray_printer _
  rw [hprinter]
  refine ⟨fun h => Printer.trayed_of_still (fun hn => by simp at hn) fun _ => hb.mpr h, fun h ho hc => ?_⟩
  rw [Printer.trayed_closes rfl (mt hb.mp h)]
  exact Printer.asked_of_free _ ho hc

/-- The tray is in (R172), and opens again for an entry bound for PR. -/
theorem State.drawn_printerTray (hs : s.printer.state = .idle) (hbound : Prop)
    (hb : s.queue.any (·.boundForPR) = true ↔ hbound) :
    let u := ((s.modPrinter (fun p => { p with phase := .noPhase })).resetEnded .idle).printerTray
    (hbound → s.printer.outstanding = none → s.printer.checkPhase = .idle →
        u.printer = Printer.sent { s.printer with phase := .opening, resetRunning := false } .trayOut) ∧
      (¬ hbound → u.printer = { s.printer with phase := .noPhase, resetRunning := false }) ∧
      (if s.printer.resetRunning = true then RaisedOnly .printer 0 (some (.printer .idle .reset)) s u
        else u.events = s.events) ∧ Changes [.printer, .events, .outbound] s u := by
  intro u
  obtain ⟨m, hm⟩ : ∃ m, m = s.modPrinter (fun p => { p with phase := .noPhase }) := ⟨_, rfl⟩
  have hu : u = (m.resetEnded .idle).printerTray := by rw [hm]
  have hprinter : u.printer = Printer.trayed { s.printer with phase := .noPhase, resetRunning := false }
      (s.queue.any (·.boundForPR)) := by
    rw [hu, State.printerTray_printer, State.resetEnded_printer, changes_resetEnded _ _ .queue (by simp), hm]
    rfl
  have hevents : u.events = (m.resetEnded .idle).events := by rw [hu, changes_printerTray _ .events (by simp)]
  rw [hprinter]
  refine ⟨fun h ho hc => ?_, fun h => Printer.trayed_of_still (fun hn => h (hb.mp hn.2.2)) fun hn => ?_, ?_, ?_⟩
  · rw [Printer.trayed_opens (by exact hs) (by exact rfl) (hb.mpr h)]
    exact Printer.asked_of_free _ ho hc
  · exact absurd (hs.symm.trans hn) (by simp)
  · have hreset := m.resetEnded_events .idle
    rw [hm] at hreset hevents
    split
    next h =>
      rw [if_pos (by exact h)] at hreset
      exact .of_start (t := s.modPrinter _) rfl (raisedOnly_of_events hevents hreset)
    next h =>
      rw [if_neg (by exact h)] at hreset
      exact hevents.trans hreset
  · rw [hu, hm]
    exact ((changes_modPrinter s _).mono (by simp)).trans
      (((changes_resetEnded _ _).mono (by simp)).trans ((changes_printerTray _).mono (by simp)))

/-- The disc is out (R174): an entry takes it away, and a reset has ended. -/
theorem State.out_waitPick {k : Token} (hk : s.printer.token = some k) (hl : s.live k = true)
    (hs : s.printer.state = .discharge) :
    s.waitPick.printer = { s.printer with phase := .waitPick, resetRunning := false } ∧
      (if (s.record k.num).origin = .orphan then ∃ f : Entry, s.waitPick.queue = s.queue ++ [f] ∧ f.kind = .purge ∧
          f.source = .station stationPR ∧ f.dest = .station stationBX ∧ f.token = some k
        else ∃ f : Entry, s.waitPick.queue = s.queue ++ [f] ∧ f.kind = .clear ∧ f.source = .station stationPR ∧
          f.dest = .byVerdict ∧ f.token = some k) ∧
      (if s.printer.resetRunning = true then RaisedOnly .printer 0 (some (.printer .discharge .reset)) s s.waitPick
        else s.waitPick.events = s.events) := by
  have hentry := State.pickEntry_cases hk hl
  obtain ⟨t, ht⟩ : ∃ t, t = s.atWaitPick.setQueue (s.queue ++ [s.atWaitPick.pickEntry]) := ⟨_, rfl⟩
  have hwait : s.waitPick = t.resetEnded .discharge := by rw [ht, State.waitPick_eq]
  have hrunning : t.printer.resetRunning = s.printer.resetRunning := by rw [ht]; rfl
  have hevents : t.events = s.events := by rw [ht]; rfl
  have hreset := t.resetEnded_events .discharge
  rw [← hwait, hrunning, hevents] at hreset
  refine ⟨?_, ?_, ?_⟩
  · rw [State.waitPick_printer, ← hs]
  · split
    next h =>
      rw [if_pos h] at hentry
      exact ⟨_, s.waitPick_queue, hentry⟩
    next h =>
      rw [if_neg h] at hentry
      exact ⟨_, s.waitPick_queue, hentry⟩
  · split
    next h =>
      rw [if_pos h] at hreset
      exact .of_start hevents hreset
    next h =>
      rw [if_neg h] at hreset
      exact hreset

section
variable {k : Token} {o : OrderNo} {l : TmplNo} (hk : s.printer.token = some k) (hl : s.live k = true)
  (hr : (s.record k.num).order = some o) (ht : (s.order o).template = some l)
include ho hc hk hl hr ht

/-- A print whose artwork slot is not READY fails at once (R173). -/
theorem State.startPrint_spoiled (ha : (s.artwork (s.template l).art).state ≠ .ready) :
    s.startPrint.printer = Printer.sent { s.printer with state := .discharge, phase := .ejecting, snapshot := none } .trayOut ∧
      s.startPrint.record k.num = (s.record k.num).printFailed ∧
      (s.startPrint.artwork (s.template l).art).inUse = false ∧
      RaisedOnly .printer 0 (some (.printer .discharge .artworkNotReady)) s s.startPrint ∧
      Changes [.printer, .artworks, .records, .events, .outbound] s s.startPrint := by
  have htemplate : s.templateOf s.printer.token = some l := by rw [hk]; exact State.templateOf_of_live hl hr ht
  obtain ⟨m, hm⟩ : ∃ m, m = s.modPrinter (fun x => { x with snapshot := some (s.snapshotOf l) }) := ⟨_, rfl⟩
  have hsnapshot : m.printer.snapshot = some (s.snapshotOf l) := by rw [hm]; rfl
  rw [State.startPrint_of_not_ready htemplate ha, ← hm]
  have hchanges : Changes [.templates, .printer, .artworks, .records, .events, .outbound] s
      (m.printFault .artworkNotReady false) := by
    rw [hm]
    exact ((changes_modPrinter s _).mono (by simp)).trans ((changes_printFault _ _ _).mono (by simp))
  have htemplates : (m.printFault .artworkNotReady false).templates = s.templates := by
    rw [State.printFault_templates _ _ hsnapshot rfl, hm]
    rfl
  refine ⟨?_, ?_, ?_, ?_, hchanges.drop htemplates⟩
  · rw [State.printFault_printer _ _ (by rw [hm]; exact ho) (by rw [hm]; exact hc), hm]
    rfl
  · rw [State.printFault_record _ _ (by rw [hm]; exact hk) (by rw [hm]; exact hl), hm]
    rfl
  · exact congrArg Artwork.inUse (State.printFault_artwork _ _ hsnapshot)
  · exact .of_start (t := m) (by rw [hm]; rfl) (raisedOnly_printFault m _ _)

/-- A print with its artwork READY starts with a snapshot and, where its template says so, a serial (R173). -/
theorem State.startPrint_started (ha : (s.artwork (s.template l).art).state = .ready) :
    let m := s.template l
    let a := s.artwork m.art
    let snap := (s.snapshotOf l).issued m.nextSerial
    s.startPrint.printer = Printer.sent { s.printer with
      snapshot := some snap, bandsLeft := (a.length + 65535) / 65536, phase := .start } (.start snap.label) ∧
    s.startPrint.artwork m.art = { a with inUse := true } ∧
    (∀ b, b ≠ m.art → s.startPrint.artwork b = s.artwork b) ∧
    s.startPrint.template l = (if m.serialEnabled = true then m.serialIssued else m) ∧
    (∀ b, b ≠ l → s.startPrint.template b = s.template b) ∧
    (s.startPrint.record k.num).serial = (if m.serialEnabled = true then some m.nextSerial
      else (s.record k.num).serial) ∧
    Changes [.printer, .artworks, .templates, .records] s s.startPrint := by
  intro m a snap
  have htemplate : s.templateOf s.printer.token = some l := by rw [hk]; exact State.templateOf_of_live hl hr ht
  obtain ⟨p, hp⟩ : ∃ p, p = s.snapshotOf l := ⟨_, rfl⟩
  have hbegun : (s.printBegun p).printer.token = some k := hk
  have hlive : (s.printBegun p).live k = true := hl
  have hserial : p.serial = none := by rw [hp]; rfl
  have hprinter := State.issueSerial_printer hbegun hlive hserial rfl
  obtain ⟨hself, hother, hrecord⟩ := State.issueSerial_template (p := p) hbegun hlive
  have hart : ∀ b, (((s.printBegun p).issueSerial p).sendStart).artwork b = (s.printBegun p).artwork b := fun b => by
    rw [State.artwork_congr (changes_sendStart _ .artworks (by simp)),
      State.artwork_congr (changes_issueSerial _ _ .artworks (by simp))]
  have htmpl : ∀ b, (((s.printBegun p).issueSerial p).sendStart).template b = ((s.printBegun p).issueSerial p).template b :=
    fun b => State.template_congr (changes_sendStart _ .templates (by simp)) b
  rw [State.startPrint_of_ready htemplate ha, ← hp]
  refine ⟨?_, ?_, fun b hb => ?_, ?_, fun b hb => ?_, ?_, changes_printStarted s p⟩
  · rw [State.sendStart, State.askPrinter_printer_of_free (by rw [hprinter]; exact ho) (by rw [hprinter]; exact hc),
      hprinter, hp]
    rfl
  · rw [hart, hp]
    exact State.artwork_modArtwork_self _ _ _
  · rw [hart, hp]
    exact State.artwork_modArtwork_of_ne _ _ _ _ hb.symm
  · rw [htmpl]
    rw [hp] at hself ⊢
    exact hself
  · rw [htmpl]
    rw [hp] at hother ⊢
    exact hother b hb
  · rw [State.record_congr (changes_sendStart _ .records (by simp))]
    rw [hp] at hrecord ⊢
    exact hrecord

end

end

/-! ### The statement -/

/-- A printer with a request sent, or waiting when the link is taken (R168), as O53 writes them. -/
theorem Printer.asked_eq (x z : Printer) (q : PrinterRequest) (ho : z.outstanding = x.outstanding)
    (hc : z.checkPhase = x.checkPhase) (hn : z.nextNumber = x.nextNumber) : z.asked q =
      if x.outstanding = none ∧ x.checkPhase = .idle then { z with
        outstanding := some { req := q, number := x.nextNumber }, nextNumber := x.nextNumber + 1 }
      else { z with waiting := some q } := by
  rw [Printer.asked, Printer.sent, ho, hc, hn]

/-- Settles O53: the tray as the queue grows and shrinks, and the DONE of each request of the cycle. -/
theorem printCycle : Obligations.PrintCycle := by
  unfold Obligations.PrintCycle
  intro n s x y bound sent asked
  have hfree : ∀ {req : PrinterRequest} {p : Bool}, (s.printDone req p).printer.outstanding = none := rfl
  refine ⟨fun e => ?enqueue, fun e => ?retire, fun p h hs hp hb => ?closes, fun p k o l h hs hp hk hl ho ht hr => ?spoiled,
    fun p h hs hp hb => ?opens, fun p k h hs hp hk hl => ?ejected, fun p h hs hp => ?drawn,
    fun p k o l h hs hp hk hl ho ht hr => ?started, fun p q h hs hp snap hsnap => ?band,
    fun p b bytes h hs hp snap hsnap => ?next, fun p k snap h hs hp hk hl hsnap => ?passed⟩
  case enqueue =>
    intro t
    have hprinter : t.printer = x.trayed ((s.queue ++ [e]).any (·.boundForPR)) := s.enqueue_printer e
    have hbound := any_boundForPR_append_one s.queue e
    refine ⟨s.enqueue_queue e, changes_enqueue s e, fun hs hp he => ?_, fun hother hopen => ?_⟩
    · rw [hprinter, Printer.trayed_opens hs hp (hbound.mpr (.inr he))]
      exact Printer.asked_eq x _ _ rfl rfl rfl
    · rw [hprinter, Printer.trayed_of_still (fun ⟨hs, hp, _⟩ => hother.elim (fun h => h hs) (fun h => h hp))
        (fun ho => hbound.mpr (hopen ho))]
  case retire =>
    intro t
    have hprinter : t.printer = x.trayed ((s.queue.erase e).any (·.boundForPR)) := s.retire_printer_eq e
    have hbound := any_boundForPR_iff (s.queue.erase e)
    refine ⟨s.retire_queue e, (changes_retire s e).mono (by simp), fun hs hnone => ?_, fun hs hsome => ?_⟩
    · rw [hprinter, Printer.trayed_closes hs (mt hbound.mp fun ⟨f, hf, hd⟩ => hnone f hf hd)]
      exact Printer.asked_eq x _ _ rfl rfl rfl
    · rw [hprinter, Printer.trayed_of_still (fun h => by simp [hs] at h) fun _ => hbound.mpr hsome]
  case closes =>
    obtain ⟨-, hclosed⟩ := State.opened_printerTray (s := s.printDone .trayOut p) bound (any_boundForPR_iff s.queue)
    refine ⟨_, exec_printReplyRow_done h p, ?_⟩
    rw [State.printerDone_opening (by exact h.2.2) p (by exact hs) (by exact hp)]
    exact ⟨(Untouched.arbiter_printer _).trans (hclosed hb hfree h.2.2), changes_then_arbiter
      ((((changes_printDone s _ p).trans (changes_modPrinter _ _)).trans (changes_printerTray _)).mono (by simp))
      (by simp) (by simp) (by simp)⟩
  case opens =>
    obtain ⟨hopened, -⟩ := State.opened_printerTray (s := s.printDone .trayOut p) bound (any_boundForPR_iff s.queue)
    refine ⟨_, exec_printReplyRow_done h p, ?_⟩
    rw [State.printerDone_opening (by exact h.2.2) p (by exact hs) (by exact hp)]
    exact ⟨(Untouched.arbiter_printer _).trans (hopened hb), changes_then_arbiter
      ((((changes_printDone s _ p).trans (changes_modPrinter _ _)).trans (changes_printerTray _)).mono (by simp))
      (by simp) (by simp) (by simp)⟩
  case ejected =>
    obtain ⟨hprinter, hqueue, hevents⟩ := State.out_waitPick (s := s.printDone .trayOut p) hk hl hs
    refine ⟨_, (s.printDone .trayOut p).waitPick, exec_printReplyRow_done h p, ?_, hprinter, hqueue, hevents,
      ((changes_printDone s _ p).mono (by simp)).trans ((changes_waitPick _).mono (by simp))⟩
    rw [State.printerDone_ejecting (by exact h.2.2) p (by exact hs) (by exact hp)]
  case drawn =>
    obtain ⟨hopens, hstays, hevents, hchanges⟩ :=
      State.drawn_printerTray (s := s.printDone .trayIn p) hs bound (any_boundForPR_iff s.queue)
    refine ⟨_, exec_printReplyRow_done h p, ?_⟩
    rw [State.printerDone_closing (by exact h.2.2) p (by exact hs) (by exact hp), Untouched.arbiter_printer, Untouched.arbiter_events]
    refine ⟨fun hb => hopens hb hfree h.2.2, hstays, ?_, changes_then_arbiter
      (((changes_printDone s _ p).mono (by simp)).trans (hchanges.mono (by simp))) (by simp) (by simp) (by simp)⟩
    split
    next hr =>
      rw [if_pos (by exact hr)] at hevents
      exact raisedOnly_arbiter (.of_start (t := s.printDone .trayIn p) rfl hevents)
    next hr =>
      rw [if_neg (by exact hr)] at hevents
      exact hevents
  case spoiled =>
    obtain ⟨hprinter, hrecord, hart, hraised, hchanges⟩ :=
      State.startPrint_spoiled (s := s.printDone .trayIn p) hfree h.2.2 hk hl ho ht hr
    refine ⟨_, exec_printReplyRow_done h p, ?_⟩
    rw [State.printerDone_trayIn (by exact h.2.2) p (by exact hs) (by exact hp), Untouched.arbiter_printer, Untouched.arbiter_artwork]
    obtain ⟨u, hu⟩ := (s.printDone .trayIn p).startPrint.arbiter_record k.num
    rw [hu, hrecord]
    exact ⟨hprinter, rfl, rfl, rfl, hart, raisedOnly_arbiter (.of_start (t := s.printDone .trayIn p) rfl hraised),
      changes_then_arbiter (((changes_printDone s _ p).mono (by simp)).trans (hchanges.mono (by simp)))
        (by simp) (by simp) (by simp)⟩
  case started =>
    intro m a serial snap
    obtain ⟨hprinter, hart, harts, htemplate, htemplates, hserial, hchanges⟩ :=
      State.startPrint_started (s := s.printDone .trayIn p) hfree h.2.2 hk hl ho ht hr
    have hissued : (if m.serialEnabled = true then serial else (s.record k.num).serial) =
        if m.serialEnabled = true then some m.nextSerial else (s.record k.num).serial := by
      simp only [serial]
      split <;> rfl
    refine ⟨_, exec_printReplyRow_done h p, ?_⟩
    rw [State.printerDone_trayIn (by exact h.2.2) p (by exact hs) (by exact hp), Untouched.arbiter_printer,
      Untouched.arbiter_artwork, Untouched.arbiter_template, hissued]
    obtain ⟨u, hu⟩ := (s.printDone .trayIn p).startPrint.arbiter_record k.num
    rw [hu]
    refine ⟨hprinter, hart, fun b hb => ?_, htemplate, fun b hb => ?_, hserial, changes_then_arbiter
      (((changes_printDone s _ p).mono (by simp)).trans (hchanges.mono (by simp))) (by simp) (by simp) (by simp)⟩
    · rw [Untouched.arbiter_artwork]
      exact harts b hb
    · rw [Untouched.arbiter_template]
      exact htemplates b hb
  case band =>
    refine ⟨_, exec_printReplyRow_done h p, ?_⟩
    rw [State.printerDone_start (by exact h.2.2) p (by exact hs) (by exact hp), Untouched.arbiter_printer]
    exact ⟨State.startDone_printer (s := s.printDone _ p) hfree h.2.2 hsnap, changes_then_arbiter
      (((changes_printDone s _ p).trans (changes_startDone _)).mono (by simp)) (by simp) (by simp) (by simp)⟩
  case next =>
    refine ⟨_, exec_printReplyRow_done h p, ?_⟩
    rw [State.printerDone_band (by exact h.2.2) p (by exact hs) (by exact hp), Untouched.arbiter_printer]
    exact ⟨changes_then_arbiter (((changes_printDone s _ p).trans (changes_bandDone _)).mono (by simp)) (by simp) (by simp)
      (by simp), State.bandDone_printer (s := s.printDone _ p) hfree h.2.2 hsnap⟩
  case passed =>
    have hrecord := State.printPassed_record (s := s.printDone .finish p) hk hl
    obtain ⟨hart, htemplate⟩ := State.printPassed_snapshot (s := s.printDone .finish p) hsnap
    refine ⟨_, exec_printReplyRow_done h p, ?_⟩
    rw [State.printerDone_finish (by exact h.2.2) p (by exact hs) (by exact hp), Untouched.arbiter_printer, Untouched.arbiter_artwork,
      Untouched.arbiter_template]
    obtain ⟨u, hu⟩ := (s.printDone .finish p).printPassed.arbiter_record k.num
    rw [hu, hrecord]
    exact ⟨rfl, State.printPassed_printer (s := s.printDone _ p) hfree h.2.2, htemplate, hart, changes_then_arbiter
      (((changes_printDone s _ p).mono (by simp)).trans ((changes_printPassed _).mono (by simp)))
        (by simp) (by simp) (by simp)⟩

end Sys2Proof.Machine
end

section
/-! Replies to the requests of loading and unloading (R58 to R62): the trays (O39), SPEED (O40) and the SENSE of
MEDIA-SENSE (O41). -/

namespace Sys2Proof.Machine

/-! ### A reply that acts (R46, R48) -/

/-- The request of drive `d` has ended on its port, before the requester acts. -/
def State.endedPort (s : State) (d : Drive) (req : DriveRequest) (e : Ending) : State := s.modDrive d (·.ended req e)

section
variable (s : State) (d : Drive) (req : DriveRequest) (e : Ending)

theorem changes_endedPort : Changes [.drives] s (s.endedPort d req e) := changes_modDrive s d _

theorem State.endedPort_drive : (s.endedPort d req e).drive d = (s.drive d).ended req e := State.drive_modDrive_self _ _ _

theorem State.endedPort_drive_of_ne {x : Drive} (h : x ≠ d) : (s.endedPort d req e).drive x = s.drive x :=
  State.drive_modDrive_of_ne _ _ _ _ h.symm

theorem DriveSlot.ended_done (x : DriveSlot) (p : Bool) (cls : Nat) :
    x.ended req (.done p cls) = { x with outstanding := none, timeoutCount := 0 } := rfl

theorem State.endedPort_trayRecordOf : (s.endedPort d req e).trayRecordOf d = s.trayRecordOf d := by
  rw [State.trayRecordOf, State.endedPort_drive, State.trayRecordOf]
  rfl

end

section
variable {s : State} {d : Drive} {req : DriveRequest} {n : Byte} {e : Ending} (h : s.awaits d req n)
  (good : e.faults req ((s.drive d).ended req e) = false) (plain : ¬ (req = .sense ∧ (s.drive d).checkPhase = .sensing))

include h good plain in
theorem State.requestEnded_of_awaits (other : req.isApplySpeed = false) :
    s.requestEnded d req e = (s.endedPort d req e).requesterActs d req e := by
  obtain ⟨-, hwaiting⟩ := h
  have hport : (s.modDrive d (·.ended req e)).drive d = (s.drive d).ended req e := s.drive_modDrive_self d _
  have hphase : ((s.drive d).ended req e).checkPhase = (s.drive d).checkPhase := rfl
  have hnone : ((s.drive d).ended req e).waiting.isSome = false := by simp [DriveSlot.ended, hwaiting]
  simp only [State.requestEnded, hport, good, other, hphase, if_neg plain, hnone, Bool.false_eq_true, if_false]
  rfl

include h good plain in
/-- A reply with nothing waiting: the requester acts on it. -/
theorem exec_replyRow_acts (other : req.isApplySpeed = false) {r : DriveReply} (he : req.ending r = e) :
    exec (req.replyRow d n r) s = .next ((s.endedPort d req e).requesterActs d req e).arbiter := by
  rw [exec_replyRow_of_outstanding h.1, he, State.requestEnded_of_awaits h good plain other]

include h good in
/-- A reply to a SPEED of an Apply Now ends the apply (R75). -/
theorem exec_replyRow_apply (apply : req.isApplySpeed = true) {r : DriveReply} (he : req.ending r = e) :
    exec (req.replyRow d n r) s = .next ((s.endedPort d req e).endApply d e.applyStatus).loadDecision.arbiter := by
  have hport : (s.modDrive d (·.ended req e)).drive d = (s.drive d).ended req e := s.drive_modDrive_self d _
  rw [exec_replyRow_of_outstanding h.1, he]
  simp only [State.requestEnded, hport, good, apply, Bool.false_eq_true, if_false, if_true]
  rfl

end

theorem exec_replyRow_faulted {s : State} {d : Drive} {req : DriveRequest} {n : Byte} (h : s.awaits d req n) {c : FaultCause}
    (hc : c = .tray ∨ req = .trayOpen ∨ req = .trayClose ∨ (req = .sense ∧ (s.drive d).checkPhase = .sensing ∧ c ≠ .noDisc)) :
    ∃ t, exec (req.replyRow d n (.fault c)) s = .next t ∧ FaultedWith d (.fault req.kind c) s t :=
  ⟨_, exec_replyRow_of_outstanding h.1 _, faultedWith_requestEnded ((Ending.faults_fault req _ c).mpr hc) rfl⟩

/-! ### Ways out of loading (R58, R60) -/

theorem State.startUnloading_unloading (s : State) (d : Drive) (kind : EntryKind) (dest : Dest) :
    ((s.startUnloading d kind dest).drive d).unloadingWith kind := by
  have hside := s.startUnloading_discSide d kind dest
  simp only [DriveSlot.discSide, Prod.mk.injEq] at hside
  obtain ⟨hstate, hphase, hentry, -⟩ := hside
  exact ⟨hstate, hphase, hentry⟩

theorem State.giveCause_record (s : State) (k : Token) (c : FailCause) (hl : s.live k = true) :
    (s.giveCause (some k) c).record k.num = (s.record k.num).addCause c := by
  rw [State.giveCause_of_live hl, State.endCaused, State.record_modRecord_self]
  rfl

/-- A blank spoiled in loading (R58). -/
theorem loadingFailed_failLoading (s : State) (d : Drive) (req : DriveRequest) (e : Ending) (c : FailCause) :
    LoadingFailed d c s ((s.endedPort d req e).failLoading d c).arbiter := by
  unfold LoadingFailed
  rw [Untouched.arbiter_drive]
  refine ⟨State.startUnloading_unloading _ _ _ _, fun k hk hl => ?_⟩
  have htray : ((s.endedPort d req e).drive d).trayRecord = some k := by rw [State.endedPort_drive]; exact hk
  obtain ⟨u, hu⟩ := ((s.endedPort d req e).failLoading d c).arbiter_record k.num
  rw [hu, State.failLoading, Untouched.startUnloading_record, htray, State.giveCause_record _ _ _ (by exact hl)]
  rfl

theorem State.failLoading_drive_of_ne (s : State) {d x : Drive} (c : FailCause) (h : x ≠ d) :
    (s.failLoading d c).drive x = s.drive x := by
  rw [State.failLoading, State.startUnloading_drive_of_ne _ _ _ h,
    State.drive_congr (changes_giveCause _ _ _ .drives (by simp))]

/-! ### The trays (R56, R58, R59, R61, R62) -/

theorem State.goEmpty_of_autoFeed_clear {s : State} (d : Drive) (h : s.transport.autoFeed = false) :
    s.goEmpty d = (s.modDrive d (fun x => { x with state := .empty, phase := .noPhase })).raiseDrive d := by
  rw [State.goEmpty, State.loadDecision_of_autoFeed_clear (by rw [State.raiseDrive, Untouched.raise_transport]; exact h)]

/-- A drive in EMPTY without auto-feed: it stays there, and DRIVE-STATE is raised (R59, R62). -/
theorem emptied_goEmpty {s : State} {d : Drive} (h : s.transport.autoFeed = false) :
    (s.goEmpty d).drive d = { s.drive d with state := .empty, phase := .noPhase } ∧
      (∀ x, x ≠ d → (s.goEmpty d).drive x = s.drive x) ∧
      (s.goEmpty d).event .driveState = (s.event .driveState).raised .driveState (bitMask d.val) none := by
  rw [State.goEmpty_of_autoFeed_clear d h, State.raiseDrive]
  refine ⟨?_, fun x hx => ?_, State.raise_event _ _ _ _⟩
  · rw [Untouched.raise_drive, State.drive_modDrive_self]
  · rw [Untouched.raise_drive, State.drive_modDrive_of_ne _ _ _ _ hx.symm]

section
variable {s : State} {d : Drive}

theorem State.speedSet_of_undefined (h : s.code (s.drive d).rung = 0) : s.speedSet d = s.withdraw d := if_pos h

/-- The SPEED of the current rung goes out on a free port (R58, R69). -/
theorem State.speedSet_drive (h : s.code (s.drive d).rung ≠ 0) (ho : (s.drive d).outstanding = none)
    (hc : (s.drive d).checkPhase = .idle) : (s.speedSet d).drive d = { s.drive d with
      phase := .speedSet, nextNumber := (s.drive d).nextNumber + 1,
      outstanding := some { req := .speed (s.code (s.drive d).rung) (s.drive d).rung .loading,
                            number := (s.drive d).nextNumber } } := by
  have hslot : (s.modDrive d (fun x => { x with phase := .speedSet })).drive d = { s.drive d with phase := .speedSet } :=
    State.drive_modDrive_self _ _ _
  have hfree : ((s.modDrive d (fun x => { x with phase := .speedSet })).drive d).portFree = true := by
    rw [hslot]
    simp [DriveSlot.portFree, ho, hc]
  rw [State.speedSet, if_neg h, State.askDrive_drive_of_free _ _ _ hfree, hslot]
  rfl

theorem State.speedSet_drive_of_ne {x : Drive} (h : x ≠ d) : (s.speedSet d).drive x = s.drive x := by
  unfold State.speedSet
  dsimp only
  split
  · exact State.withdraw_drive_of_ne s h
  · rw [State.askDrive_drive_of_ne _ _ h, State.drive_modDrive_of_ne _ _ _ _ h.symm]

theorem State.trayRecordOf_of_live {k : Token} (hk : (s.drive d).trayRecord = some k) (hl : s.live k = true) :
    s.trayRecordOf d = some (s.record k.num) := by
  simp [State.trayRecordOf, hk, State.liveRecord, hl]

/-- A blank from a spindle that is withdrawn (R60). -/
theorem State.withdraw_unloading {k : Token} {i : Fin 4} (hk : (s.drive d).trayRecord = some k) (hl : s.live k = true)
    (hi : (s.record k.num).origin = .spindle i) : ((s.withdraw d).drive d).unloadingWith .return :=
  (State.returning_withdraw (State.trayRecordOf_of_live hk hl) hi).1

end

/-- Settles O39: the DONE of each tray request by the drive's state and phase, and their faults. -/
theorem trayRepliesEffect : Obligations.TrayRepliesEffect := by
  unfold Obligations.TrayRepliesEffect
  intro d n s x y
  refine ⟨fun p cls h hp hs => ?opened, fun p cls k h hs hp hc hk => ?closed, fun p cls h hp hside hs hfeed => ?emptied,
    fun c => ⟨fun h => ?_, fun h => ?_⟩⟩
  case opened =>
    refine ⟨_, exec_replyRow_acts (e := .done p cls.val) h rfl (by simp) rfl rfl, ?_⟩
    have hslot := s.endedPort_drive d .trayOpen (.done p cls.val)
    have hstate : ((s.endedPort d .trayOpen (.done p cls.val)).drive d).state = x.state := by rw [hslot]; rfl
    have hphase : ((s.endedPort d .trayOpen (.done p cls.val)).drive d).phase = .trayOpening := by rw [hslot]; exact hp
    have hacts : (s.endedPort d .trayOpen (.done p cls.val)).requesterActs d .trayOpen (.done p cls.val) =
        (s.endedPort d .trayOpen (.done p cls.val)).modDrive d (fun z => { z with
          phase := if x.state = .loading then .waitDisc else .waitPick }) := by
      simp only [State.requesterActs, State.trayOpenEnded, hstate, hphase]
      rcases hs with hs | hs <;> rw [hs] <;> rfl
    rw [hacts, Untouched.arbiter_drive, State.drive_modDrive_self, hslot]
    refine ⟨rfl, fun e he => ?_, (((changes_endedPort s d _ _).trans (changes_modDrive _ _ _)).mono (by simp)).trans
      ((changes_arbiter _).mono (by simp))⟩
    rw [Untouched.arbiter_drive, State.drive_modDrive_of_ne _ _ _ _ he.symm, State.endedPort_drive_of_ne _ _ _ _ he]
  case closed =>
    refine ⟨_, exec_replyRow_acts (e := .done p cls.val) h rfl (by simp) rfl rfl, ?_⟩
    obtain ⟨u, hu⟩ : ∃ u, u = s.endedPort d .trayClose (.done p cls.val) := ⟨_, rfl⟩
    have hslot : u.drive d = y := by rw [hu, State.endedPort_drive]; rfl
    have hacts : u.requesterActs d .trayClose (.done p cls.val) = u.speedSet d := by
      simp only [State.requesterActs, State.trayCloseEnded, hslot, y, hs, hp, hk, Option.isSome_some, if_true]
    have hcode : u.code x.rung = s.code x.rung := by rw [hu]; rfl
    rw [← hu, hacts, Untouched.arbiter_drive]
    refine ⟨fun hdef => ?_, fun hundef i hl hi => ?_, fun e he => ?_⟩
    · rw [State.speedSet_drive (by rw [hslot]; exact hcode ▸ hdef) (by rw [hslot]) (by rw [hslot]; exact hc), hslot]
      simp only [y, hcode]
    · rw [State.speedSet_of_undefined (by rw [hslot]; exact hcode ▸ hundef)]
      obtain ⟨v, hv⟩ := (u.withdraw d).arbiter_record k.num
      rw [hv, Untouched.withdraw_record]
      refine ⟨State.withdraw_unloading (k := k) (i := i) (by rw [hslot]; exact hk) ?_ ?_, ?_⟩
      · rw [hu]; exact hl
      · rw [hu]; exact hi
      · rw [hu]; rfl
    · rw [Untouched.arbiter_drive, State.speedSet_drive_of_ne he, hu, State.endedPort_drive_of_ne _ _ _ _ he]
  case emptied =>
    refine ⟨_, exec_replyRow_acts (e := .done p cls.val) h rfl (by simp) rfl rfl, ?_⟩
    obtain ⟨u, hu⟩ : ∃ u, u = s.endedPort d .trayClose (.done p cls.val) := ⟨_, rfl⟩
    have hslot : u.drive d = y := by rw [hu, State.endedPort_drive]; rfl
    have hacts : u.requesterActs d .trayClose (.done p cls.val) = u.goEmpty d := by
      simp only [State.requesterActs, State.trayCloseEnded, hslot, y, hp]
      rcases hs with hs | hs
      · have hnone : x.trayRecord = none := hside.resolve_left (by simp [hs])
        simp only [hs, hnone, Option.isSome_none, Bool.false_eq_true, if_false]
      · simp only [hs]
    obtain ⟨hself, hothers, hraised⟩ := emptied_goEmpty (s := u) (d := d) (by rw [hu]; exact hfeed)
    rw [← hu, hacts, Untouched.arbiter_drive, Untouched.arbiter_event, hself, hslot, hraised]
    refine ⟨rfl, fun e he => ?_, by rw [hu]; rfl⟩
    rw [Untouched.arbiter_drive, hothers e he, hu, State.endedPort_drive_of_ne _ _ _ _ he]
  · exact exec_replyRow_faulted h (.inr (.inl rfl))
  · exact exec_replyRow_faulted h (.inr (.inr (.inl rfl)))

/-! ### SPEED (R58, R75) -/

theorem Ending.faults_fault_of_other {req : DriveRequest} {x : DriveSlot} {c : FaultCause} (hc : c ≠ .tray)
    (ho : req ≠ .trayOpen) (hl : req ≠ .trayClose) (hs : req = .sense → x.checkPhase ≠ .sensing) :
    (Ending.fault c).faults req (x.ended req (.fault c)) = false := by
  rw [Bool.eq_false_iff, ne_eq, Ending.faults_fault]
  rintro (h | h | h | ⟨h, hp, -⟩)
  · exact hc h
  · exact ho h
  · exact hl h
  · exact hs h hp

section
variable {s : State} {d : Drive} {g : Rung}

theorem State.speedEnded_done (hs : (s.drive d).state = .loading) (hp : (s.drive d).phase = .speedSet) (p : Bool) (cls : Nat) :
    s.speedEnded d g (.done p cls) = ((s.writeRecord? (s.drive d).trayRecord (fun r => { r with rung := some g })).modDrive d
      (fun x => { x with phase := .mediaSense })).askDrive d .sense := by
  simp only [State.speedEnded, hs, hp]

theorem State.speedEnded_fault (hs : (s.drive d).state = .loading) (hp : (s.drive d).phase = .speedSet) (c : FaultCause) :
    s.speedEnded d g (.fault c) = s.failLoading d .mediaMismatch := by
  simp only [State.speedEnded, hs, hp]

/-- The rung used is in the record, and SENSE goes out on the free port (R58). -/
theorem speedDone_effect (ho : (s.drive d).outstanding = none) (hc : (s.drive d).checkPhase = .idle) :
    let u := ((s.writeRecord? (s.drive d).trayRecord (fun r => { r with rung := some g })).modDrive d
      (fun x => { x with phase := .mediaSense })).askDrive d .sense
    u.drive d = { s.drive d with phase := .mediaSense, nextNumber := (s.drive d).nextNumber + 1,
                                 outstanding := some { req := .sense, number := (s.drive d).nextNumber } } ∧
      (∀ k, (s.drive d).trayRecord = some k → s.live k = true → (u.record k.num).rung = some g) ∧
      (∀ x, x ≠ d → u.drive x = s.drive x) ∧ Changes [.drives, .records, .events, .outbound] s u := by
  intro u
  obtain ⟨m, hm⟩ : ∃ m, m = s.writeRecord? (s.drive d).trayRecord (fun r => { r with rung := some g }) := ⟨_, rfl⟩
  have hkept : Changes [.records] s m := by rw [hm]; exact changes_writeRecordO _ _ _
  have hu : u = (m.modDrive d (fun x => { x with phase := .mediaSense })).askDrive d .sense := by rw [hm]
  have hslot : (m.modDrive d (fun x => { x with phase := .mediaSense })).drive d =
      { s.drive d with phase := .mediaSense } := by
    rw [State.drive_modDrive_self, State.drive_congr (hkept .drives (by simp))]
  refine ⟨?_, fun k hk hl => ?_, fun x hx => ?_, ?_⟩
  · have hfree : ((m.modDrive d (fun x => { x with phase := .mediaSense })).drive d).portFree = true := by
      rw [hslot]
      simp [DriveSlot.portFree, ho, hc]
    rw [hu, State.askDrive_drive_of_free _ _ _ hfree, hslot]
    rfl
  · rw [hu, State.record_congr ((changes_askDrive _ _ _) .records (by simp)), State.record_modDrive', hm, hk,
      State.writeRecord_of_live hl, State.record_modRecord_self]
  · rw [hu, State.askDrive_drive_of_ne _ _ hx, State.drive_modDrive_of_ne _ _ _ _ hx.symm,
      State.drive_congr (hkept .drives (by simp))]
  · rw [hu]
    exact (hkept.mono (by simp)).trans (((changes_modDrive _ _ _).mono (by simp)).trans
      ((changes_askDrive _ _ _).mono (by simp)))

/-- An Apply Now has ended while auto-feed is clear (R75, R82). -/
theorem applyEnded_effect (req : DriveRequest) (e : Ending) (st : ApplyStatus) (hfeed : s.transport.autoFeed = false) :
    let u := ((s.endedPort d req e).endApply d st).loadDecision.arbiter
    u.drive d = { (s.drive d).ended req e with applyStatus := st } ∧ RaisedOnly .applyDone (bitMask d.val) none s u ∧
      ∀ x, x ≠ d → u.drive x = s.drive x := by
  intro u
  have hu : u = ((s.endedPort d req e).endApply d st).arbiter := by
    have hclear : ((s.endedPort d req e).endApply d st).transport.autoFeed = false := by
      rw [changes_endApply _ _ _ .transport (by simp)]
      exact hfeed
    exact congrArg State.arbiter (State.loadDecision_of_autoFeed_clear hclear)
  rw [hu]
  refine ⟨?_, ?_, fun x hx => ?_⟩
  · rw [Untouched.arbiter_drive, State.endApply_drive_self, State.endedPort_drive]
  · exact raisedOnly_arbiter (raisedOnly_raise_of_events (u := (s.endedPort d req e).modDrive d _) rfl _ _ _)
  · rw [Untouched.arbiter_drive, State.endApply_drive_of_ne _ _ hx, State.endedPort_drive_of_ne _ _ _ _ hx]

/-- A SPEED of an Apply Now that takes its drive to FAULTED has failed (R64, R75). -/
theorem applyStatus_requestEnded_of_faults {req : DriveRequest} {e : Ending}
    (h : e.faults req ((s.drive d).ended req e) = true) {f : DriveFailure} (hf : e.failure req.kind = some f)
    (ha : req.isApplySpeed = true) : ((s.requestEnded d req e).arbiter.drive d).applyStatus = .speedFailed := by
  obtain ⟨hstate, -⟩ := faultedWith_endedFaulted (s := s) (d := d) hf
  have hslot : ((s.endedFaulted d req e).endApply d .speedFailed).drive d =
      { (s.endedFaulted d req e).drive d with applyStatus := .speedFailed } := State.endApply_drive_self _ _ _
  rw [Untouched.arbiter_drive, State.requestEnded_of_faults h, if_pos ha, State.loadDecision_drive_of_not_empty, hslot]
  rw [hslot]
  exact fun hempty => by simp [hstate] at hempty

end

/-- Settles O40: the SPEED of loading, the SPEED of an Apply Now, and cause TRAY. -/
theorem speedReplyEffect : Obligations.SpeedReplyEffect := by
  unfold Obligations.SpeedReplyEffect
  intro d n code g s x y
  refine ⟨fun h hs hp hc => ⟨fun p cls => ?done, fun c htray => ?spoiled⟩,
    fun h hs hfeed => ⟨fun p cls => ?applied, fun c htray => ?refused⟩, fun who h => ?tray⟩
  case done =>
    refine ⟨_, exec_replyRow_acts (e := .done p cls.val) h rfl (by simp) rfl rfl, ?_⟩
    obtain ⟨u, hu⟩ : ∃ u, u = s.endedPort d (.speed code g .loading) (.done p cls.val) := ⟨_, rfl⟩
    have hslot : u.drive d = y := by rw [hu, State.endedPort_drive]; rfl
    have hacts := State.speedEnded_done (g := g) (by rw [hslot]; exact hs : (u.drive d).state = .loading)
      (by rw [hslot]; exact hp) p cls.val
    have hout : (u.drive d).outstanding = none := by rw [hslot]
    have hidle : (u.drive d).checkPhase = .idle := by rw [hslot]; exact hc
    have hnumber : (u.drive d).nextNumber = x.nextNumber := by rw [hslot]
    obtain ⟨hself, hrecord, hothers, hchanges⟩ := speedDone_effect (g := g) hout hidle
    rw [← hacts] at hself hrecord hothers hchanges
    rw [← hu, State.requesterActs, Untouched.arbiter_drive, hself, hnumber, hslot]
    refine ⟨rfl, fun k hk hl => ?_, fun e he => ?_, ?_⟩
    · obtain ⟨v, hv⟩ := (u.speedEnded d g (.done p cls.val)).arbiter_record k.num
      rw [hv]
      exact hrecord k (by rw [hslot]; exact hk) (by rw [hu]; exact hl)
    · rw [Untouched.arbiter_drive, hothers e he, hu, State.endedPort_drive_of_ne _ _ _ _ he]
    · have hport : Changes [.drives] s u := by rw [hu]; exact changes_endedPort _ _ _ _
      exact changes_then_arbiter ((hport.mono (by simp)).trans (hchanges.mono (by simp))) (by simp) (by simp) (by simp)
  case spoiled =>
    refine ⟨_, exec_replyRow_acts (e := .fault c) h (Ending.faults_fault_of_other htray (by simp) (by simp) (by simp))
      (by simp) rfl rfl, ?_⟩
    have hslot := s.endedPort_drive d (.speed code g .loading) (.fault c)
    rw [State.requesterActs, State.speedEnded_fault (by rw [hslot]; exact hs) (by rw [hslot]; exact hp)]
    exact loadingFailed_failLoading _ _ _ _ _
  case applied =>
    exact ⟨_, exec_replyRow_apply (e := .done p cls.val) h rfl rfl rfl, applyEnded_effect _ _ _ hfeed⟩
  case refused =>
    exact ⟨_, exec_replyRow_apply (e := .fault c) h
      (Ending.faults_fault_of_other htray (by simp) (by simp) (by simp)) rfl rfl, applyEnded_effect _ _ _ hfeed⟩
  case tray =>
    have hfaults := (Ending.faults_fault (.speed code g who) x .tray).mpr (.inl rfl)
    refine ⟨_, exec_replyRow_of_outstanding h.1 (.fault .tray), faultedWith_requestEnded hfaults rfl, fun hwho => ?_⟩
    subst hwho
    exact applyStatus_requestEnded_of_faults (f := .fault .speed .tray) hfaults rfl rfl

/-! ### READY and the join gate (R27, R60) -/

theorem mem_insertAttachment {a b : Attachment} {l : List Attachment} : b ∈ insertAttachment a l ↔ b = a ∨ b ∈ l := by
  induction l with
  | nil => simp [insertAttachment]
  | cons c rest ih =>
    rw [insertAttachment]
    split
    · rw [List.mem_cons]
    · rw [List.mem_cons, ih, List.mem_cons, or_left_comm]

section
variable (s : State) (w : WaveNo) (d : Drive)

theorem State.writeSend_drive_of_ne {x : Drive} (h : x ≠ d) : (s.writeSend w d).drive x = s.drive x := by
  unfold State.writeSend State.sendDrive
  split
  · split
    · exact State.drive_modDrive_of_ne _ _ _ _ h.symm
    · rfl
  · rfl

theorem State.writeSend_discSide (x : Drive) : ((s.writeSend w d).drive x).discSide = (s.drive x).discSide := by
  by_cases h : x = d
  · subst h
    unfold State.writeSend State.sendDrive
    split
    · split
      · dsimp only
        rw [State.drive_modDrive_self]
        rfl
      · rfl
    · rfl
  · rw [s.writeSend_drive_of_ne w d h]

/-- A WRITE that goes out leaves the drive and the cursor of every attachment (R86). -/
theorem State.exists_attachment_writeSend {a : Attachment} (ha : a ∈ (s.wave w).attachments) :
    ∃ b ∈ ((s.writeSend w d).wave w).attachments, b.drive = a.drive ∧ b.cursor = a.cursor := by
  unfold State.writeSend State.sendDrive
  split
  · split
    · rw [State.wave_modDrive', State.wave_modWave_self]
      refine ⟨_, List.mem_map_of_mem ha, ?_⟩
      split
      · exact ⟨rfl, rfl⟩
      · exact ⟨rfl, rfl⟩
    · exact ⟨a, ha, rfl, rfl⟩
  · exact ⟨a, ha, rfl, rfl⟩

/-- Drive `d` has joined the wave, before its first WRITE (R27). -/
def State.joinedWave (s : State) (w : WaveNo) (d : Drive) : State :=
  (((s.modWave w (fun x => { x with
      attachments := insertAttachment { drive := d, cursor := 0, inFlight := none } x.attachments })).modDrive d
    (fun x => { x with state := .burning, phase := .noPhase })).raiseDrive d)

theorem State.attach_eq : s.attach w d = (s.joinedWave w d).writeSend w d := rfl

theorem State.joinedWave_wave : (s.joinedWave w d).wave w = { s.wave w with
    attachments := insertAttachment { drive := d, cursor := 0, inFlight := none } (s.wave w).attachments } := by
  rw [State.joinedWave, State.raiseDrive, Untouched.raise_wave, State.wave_modDrive', State.wave_modWave_self]

theorem State.joinedWave_drive : (s.joinedWave w d).drive d = { s.drive d with state := .burning, phase := .noPhase } := by
  rw [State.joinedWave, State.raiseDrive, Untouched.raise_drive, State.drive_modDrive_self]
  rfl

theorem State.attach_drive_of_ne {x : Drive} (h : x ≠ d) : (s.attach w d).drive x = s.drive x := by
  rw [State.attach_eq, State.writeSend_drive_of_ne _ _ _ h, State.joinedWave, State.raiseDrive, Untouched.raise_drive,
    State.drive_modDrive_of_ne _ _ _ _ h.symm]
  rfl

theorem State.attach_drive_state : ((s.attach w d).drive d).state = .burning := by
  have hside := (s.joinedWave w d).writeSend_discSide w d d
  rw [State.joinedWave_drive] at hside
  exact congrArg Prod.fst hside

theorem State.exists_attachment_attach :
    ∃ a ∈ ((s.attach w d).wave w).attachments, a.drive = d ∧ a.cursor = 0 := by
  have hmem : { drive := d, cursor := 0, inFlight := none } ∈ ((s.joinedWave w d).wave w).attachments := by
    rw [State.joinedWave_wave]
    exact mem_insertAttachment.mpr (.inl rfl)
  exact (s.joinedWave w d).exists_attachment_writeSend w d hmem

end

theorem EventRecord.raised_pending (r : EventRecord) (c : EventClass) (m : Word16) (v : Option EventValue) :
    (r.raised c m v).pending = true := by
  simp only [EventRecord.raised, EventRecord.merge]
  split
  · assumption
  · rfl

theorem State.raise_pending (s : State) (c : EventClass) (m : Word16) (v : Option EventValue) :
    ((s.raise c m v).event c).pending = true := by
  rw [State.raise_event, EventRecord.raised_pending]

theorem State.startUnloading_pending (s : State) (d : Drive) (kind : EntryKind) (dest : Dest) :
    ((s.startUnloading d kind dest).event .driveState).pending = true := by
  rw [State.startUnloading, State.askDrive_event_of_ne _ _ _ (by decide), State.raiseDrive, State.raise_pending]

theorem State.withdraw_pending (s : State) (d : Drive) : ((s.withdraw d).event .driveState).pending = true := by
  obtain ⟨kind, dest, hw⟩ := s.withdraw_eq_startUnloading d
  rw [hw, State.startUnloading_pending]

theorem State.attach_pending (s : State) (w : WaveNo) (d : Drive) : ((s.attach w d).event .driveState).pending = true := by
  rw [State.attach_eq, State.event_congr (changes_writeSend _ _ _ .events (by simp)), State.joinedWave, State.raiseDrive,
    State.raise_pending]

/-- The lowest-numbered wave in OPEN on a slot (R27). -/
theorem State.openWave_eq_some {s : State} {i : SlotNo} {w : WaveNo} (hw : (s.wave w).state = .opened ∧ (s.wave w).slot = some i)
    (hlow : ∀ v, v < w → ¬ ((s.wave v).state = .opened ∧ (s.wave v).slot = some i)) : s.openWave i = some w := by
  have hlist : allWaves = List.finRange 4 := by decide
  rw [State.openWave, hlist, ← Fin.find?_eq_find?_finRange, Fin.find?_eq_some_iff]
  refine ⟨by simp [hw.1, hw.2], fun v hv => ?_⟩
  simpa using hlow v hv

theorem State.openWave_eq_none {s : State} {i : SlotNo}
    (h : ∀ w, ¬ ((s.wave w).state = .opened ∧ (s.wave w).slot = some i)) : s.openWave i = none := by
  rw [State.openWave, List.find?_eq_none]
  intro w _
  simpa using h w

/-- Drive `d` is in READY, before it withdraws or joins a wave (R60). -/
def State.readied (s : State) (d : Drive) : State :=
  (s.modDrive d (fun x => { x with state := .ready, phase := .noPhase })).raiseDrive d

section
variable {s : State} {d : Drive} {k : Token} {o : OrderNo}

theorem State.readied_drive (s : State) (d : Drive) : (s.readied d).drive d = { s.drive d with state := .ready, phase := .noPhase } := by
  rw [State.readied, State.raiseDrive, Untouched.raise_drive, State.drive_modDrive_self]

theorem State.readied_drive_of_ne {x : Drive} (h : x ≠ d) : (s.readied d).drive x = s.drive x := by
  rw [State.readied, State.raiseDrive, Untouched.raise_drive, State.drive_modDrive_of_ne _ _ _ _ h.symm]

theorem changes_readied (s : State) (d : Drive) : Changes [.drives, .events, .outbound] s (s.readied d) :=
  ((changes_modDrive s d _).mono (by simp)).trans ((changes_raiseDrive _ _).mono (by simp))

variable (hk : (s.drive d).trayRecord = some k) (hl : s.live k = true) (ho : (s.record k.num).order = some o)
include hk hl ho

theorem State.orderOf_readied : (s.readied d).orderOf ((s.readied d).drive d).trayRecord = some o := by
  have hlive : (s.readied d).live k = true := by
    simpa [State.live, State.record_congr (changes_readied s d .records (by simp))] using hl
  rw [State.readied_drive]
  simp [hk, State.orderOf, State.liveRecord, hlive, State.record_congr (changes_readied s d .records (by simp)), ho]

theorem State.enterReady_of_held (hs : (s.order o).state = .held) : s.enterReady d = (s.readied d).withdraw d := by
  have hheld : (s.readied d).orderHeld d = true := by
    rw [State.orderHeld, State.orderOf_readied hk hl ho]
    simpa [State.order_congr (changes_readied s d .orders (by simp))] using hs
  exact if_pos hheld

/-- A drive of an order that is not HELD looks for a wave in OPEN on the order's slot (R27). -/
theorem State.enterReady_of_not_held (hs : (s.order o).state ≠ .held) : s.enterReady d = (s.readied d).joinGate d ∧
    ((s.readied d).waitsFor d).bind (s.readied d).openWave = s.openWave (s.order o).slot := by
  have hheld : ¬ (s.readied d).orderHeld d = true := by
    rw [State.orderHeld, State.orderOf_readied hk hl ho]
    simpa [State.order_congr (changes_readied s d .orders (by simp))] using hs
  refine ⟨if_neg hheld, ?_⟩
  rw [State.waitsFor, State.orderOf_readied hk hl ho, Option.map_some, Option.bind_some,
    State.order_congr (changes_readied s d .orders (by simp))]
  simp only [State.openWave, State.wave_congr (changes_readied s d .waves (by simp))]

theorem State.enterReady_of_wave {w : WaveNo} (hs : (s.order o).state ≠ .held)
    (hw : s.openWave (s.order o).slot = some w) : s.enterReady d = (s.readied d).attach w d := by
  obtain ⟨hready, hwave⟩ := State.enterReady_of_not_held hk hl ho hs
  simp only [hready, State.joinGate, hwave, hw]

theorem State.enterReady_of_no_wave (hs : (s.order o).state ≠ .held) (hw : s.openWave (s.order o).slot = none) :
    s.enterReady d = s.readied d := by
  obtain ⟨hready, hwave⟩ := State.enterReady_of_not_held hk hl ho hs
  simp only [hready, State.joinGate, hwave, hw]

/-- What entering READY leaves, whichever way the drive goes on (R60). -/
theorem enterReady_effect : (∀ x, x ≠ d → (s.enterReady d).drive x = s.drive x) ∧
    ((s.enterReady d).event .driveState).pending = true := by
  by_cases hs : (s.order o).state = .held
  · rw [State.enterReady_of_held hk hl ho hs]
    exact ⟨fun x hx => by rw [State.withdraw_drive_of_ne _ hx, State.readied_drive_of_ne hx], State.withdraw_pending _ _⟩
  · cases hw : s.openWave (s.order o).slot with
    | some w =>
      rw [State.enterReady_of_wave hk hl ho hs hw]
      exact ⟨fun x hx => by rw [State.attach_drive_of_ne _ _ _ hx, State.readied_drive_of_ne hx], State.attach_pending _ _ _⟩
    | none =>
      rw [State.enterReady_of_no_wave hk hl ho hs hw]
      exact ⟨fun x hx => State.readied_drive_of_ne hx, State.raise_pending _ _ _ _⟩

end

section
variable {s : State} {d : Drive} (hs : (s.drive d).state = .loading) (hp : (s.drive d).phase = .mediaSense)
include hs hp

theorem State.senseEnded_accepted {cls : Nat} (hne : cls ≠ 0) (hc : s.trayClass d = some cls) :
    s.senseEnded d (.done true cls) = s.enterReady d := by
  simp [State.senseEnded, hs, hp, hne, hc]

theorem State.senseEnded_mismatch {present : Bool} {cls : Nat}
    (h : ¬ (present = true ∧ cls ≠ 0 ∧ s.trayClass d = some cls)) :
    s.senseEnded d (.done present cls) = s.failLoading d .mediaMismatch := by
  simp only [State.senseEnded, hs, hp]
  exact if_neg h

theorem State.senseEnded_fault (c : FaultCause) : s.senseEnded d (.fault c) = s.failLoading d .mediaMismatch := by
  simp only [State.senseEnded, hs, hp]

end

/-- Settles O41: the SENSE that accepts the disc, and every other answer. -/
theorem mediaSenseEffect : Obligations.MediaSenseEffect := by
  unfold Obligations.MediaSenseEffect
  intro d n k s h hs hp hc hk hl x r y
  have plain : ¬ ((DriveRequest.sense) = .sense ∧ (s.drive d).checkPhase = .sensing) := by simp [hc]
  have hclass : ∀ e, (s.endedPort d .sense e).trayClass d = some r.mediaClass := fun e => by
    rw [State.trayClass, State.endedPort_trayRecordOf, State.trayRecordOf_of_live hk hl]
    rfl
  have hstate : ∀ e, ((s.endedPort d .sense e).drive d).state = .loading := fun e => by rw [State.endedPort_drive]; exact hs
  have hphase : ∀ e, ((s.endedPort d .sense e).drive d).phase = .mediaSense := fun e => by
    rw [State.endedPort_drive]; exact hp
  refine ⟨fun cls hne hcls o ho => ?accepted, fun present cls hbad => ?mismatch, fun c htray => ?fault⟩
  case accepted =>
    refine ⟨_, exec_replyRow_acts (e := .done true cls.val) h rfl plain rfl rfl, ?_⟩
    obtain ⟨u, hu⟩ : ∃ u, u = s.endedPort d .sense (.done true cls.val) := ⟨_, rfl⟩
    have hslot : u.drive d = y := by rw [hu, State.endedPort_drive]; rfl
    have hport : Changes [.drives] s u := by rw [hu]; exact changes_endedPort _ _ _ _
    have htray : (u.drive d).trayRecord = some k := by rw [hslot]; exact hk
    have hlive : u.live k = true := by rw [hu]; exact hl
    have horder : (u.record k.num).order = some o := by rw [hu]; exact ho
    have hacts : u.requesterActs d .sense (.done true cls.val) = u.enterReady d := by
      rw [hu]
      exact State.senseEnded_accepted (hstate _) (hphase _) hne (by rw [hclass, hcls])
    have hsame : u.order o = s.order o := State.order_congr (hport .orders (by simp)) o
    have hopen : u.openWave (s.order o).slot = s.openWave (s.order o).slot := by
      simp only [State.openWave, State.wave_congr (hport .waves (by simp))]
    obtain ⟨hothers, hpending⟩ := enterReady_effect htray hlive horder
    rw [← hu, hacts, Untouched.arbiter_drive, Untouched.arbiter_event, Untouched.arbiter_waves]
    refine ⟨fun hheld i hi => ?_, fun hheld => ⟨fun w ⟨hw, hslotted, hlow⟩ => ?_, fun hnone => ?_⟩, fun e he => ?_, fun i => ?_, hpending⟩
    · rw [State.enterReady_of_held htray hlive horder (by rw [hsame]; exact hheld)]
      have hkept := changes_readied u d
      refine State.withdraw_unloading (k := k) (i := i) ?_ ?_ ?_
      · rw [State.readied_drive]; exact htray
      · simpa [State.live, State.record_congr (hkept .records (by simp))] using hlive
      · rw [State.record_congr (hkept .records (by simp)), hu]; exact hi
    · rw [Untouched.arbiter_wave, State.enterReady_of_wave htray hlive horder (by rw [hsame]; exact hheld)
        (by rw [hsame, hopen]; exact State.openWave_eq_some ⟨hw, hslotted⟩ hlow)]
      exact ⟨State.attach_drive_state _ _ _, State.exists_attachment_attach _ _ _⟩
    · rw [State.enterReady_of_no_wave htray hlive horder (by rw [hsame]; exact hheld)
        (by rw [hsame, hopen]; exact State.openWave_eq_none hnone), State.readied_drive, hslot]
      exact ⟨rfl, (changes_readied u d .waves (by simp)).trans (hport .waves (by simp))⟩
    · rw [Untouched.arbiter_drive, hothers e he, hu, State.endedPort_drive_of_ne _ _ _ _ he]
    · obtain ⟨v, hv⟩ := (u.enterReady d).arbiter_record i
      rw [hv, State.record_congr (changes_enterReady _ _ .records (by simp)),
        State.record_congr (hport .records (by simp))]
  case mismatch =>
    refine ⟨_, exec_replyRow_acts (e := .done present cls.val) h rfl plain rfl rfl, ?_⟩
    rw [State.requesterActs, State.senseEnded_mismatch (hstate _) (hphase _)]
    · exact loadingFailed_failLoading _ _ _ _ _
    · rw [hclass]
      rintro ⟨hpresent, hne, hcls⟩
      rcases hbad with hbad | hbad | hbad
      · simp [hbad] at hpresent
      · exact hne hbad
      · exact hbad (Option.some.inj hcls)
  case fault =>
    refine ⟨_, exec_replyRow_acts (e := .fault c) h
      (Ending.faults_fault_of_other htray (by simp) (by simp) (fun _ => by rw [hc]; decide)) plain rfl rfl, ?_⟩
    rw [State.requesterActs, State.senseEnded_fault (hstate _) (hphase _)]
    exact loadingFailed_failLoading _ _ _ _ _

end Sys2Proof.Machine
end

section
/-! Wave Open (R20, R21, R27): its checks, and the drives that join at once (O13). -/

namespace Sys2Proof.Machine

/-! ### The checks (R20) -/

/-- The five checks of Wave Open as the statement orders them. -/
theorem State.waveOpenCheck_eq (s : State) (a : WaveOpenArgs) : s.waveOpenCheck a =
    if (s.wave a.wave).state ≠ .idle then some .state
    else if a.capacity < 64 ∨ 65536 < a.capacity ∨ 60 < a.limit then some .range
    else if (s.image a.slot).state = .undefined then some .state
    else if (s.image a.slot).state = .filling then some .busy
    else if 65536 < a.capacity + s.otherCapacity a.wave then some .noSpace
    else none := by
  have hmin : Config.minCapacity = 64 := rfl
  have hpool : Config.poolSlots = 65536 := rfl
  rw [State.waveOpenCheck, hmin, hpool]
  split
  · rfl
  · split
    · rfl
    next hrange =>
      have hspace : 65536 - s.otherCapacity a.wave < a.capacity ↔ 65536 < a.capacity + s.otherCapacity a.wave := by omega
      rw [if_congr hspace rfl rfl]

theorem exec_waveOpen_of_handlesAsNew {f : CmdFrame} {a : WaveOpenArgs} {s : State} (hp : parseWaveOpen f.body = some a)
    (hn : s.handlesAsNew f.tag f.resend) : exec (.waveOpen f) s = .next (State.waveOpen (cmdReply f 3) a s) :=
  congrArg Host.Outcome.next (State.answer_of_handlesAsNew (rt := cmdReply f 3) _ hp hn)

theorem State.waveOpen_of_refused {s : State} {a : WaveOpenArgs} {st : Status} (rt : ReplyTo)
    (h : s.waveOpenCheck a = some st) : State.waveOpen rt a s = s.replyPlain rt st := by
  simp only [State.waveOpen, h]

theorem State.waveOpen_of_taken {s : State} {a : WaveOpenArgs} (rt : ReplyTo) (h : s.waveOpenCheck a = none) :
    State.waveOpen rt a s = State.openTaken rt a s := by
  simp only [State.waveOpen, h]

/-! ### A drive joins a wave that holds nothing yet (R27) -/

theorem find?_insertAttachment_of_ne {a : Attachment} {d : Drive} (h : a.drive ≠ d) (l : List Attachment) :
    (insertAttachment a l).find? (fun b => decide (b.drive = d)) = l.find? (fun b => decide (b.drive = d)) := by
  induction l with
  | nil => simp [insertAttachment, h]
  | cons c rest ih =>
    rw [insertAttachment]
    split
    · rw [List.find?_cons_of_neg (by simpa using h)]
    · rw [List.find?_cons, List.find?_cons, ih]

theorem find?_insertAttachment_self {a : Attachment} {l : List Attachment} (h : ∀ b ∈ l, b.drive ≠ a.drive) :
    (insertAttachment a l).find? (fun b => decide (b.drive = a.drive)) = some a := by
  induction l with
  | nil => simp [insertAttachment]
  | cons c rest ih =>
    rw [insertAttachment]
    split
    · rw [List.find?_cons_of_pos (by simp)]
    · rw [List.find?_cons_of_neg (by simpa using h c List.mem_cons_self),
        ih fun b hb => h b (List.mem_cons_of_mem _ hb)]

theorem Wave.attachment_eq_none_iff (x : Wave) (d : Drive) :
    x.attachment d = none ↔ ∀ a ∈ x.attachments, a.drive ≠ d := by
  simp [Wave.attachment]

/-- What a drive attached at cursor 0 has in the wave. -/
def Attachment.atStart (d : Drive) : Attachment := { drive := d, cursor := 0, inFlight := none }

section
variable {s : State} {w : WaveNo} {d : Drive}

/-- With nothing held no WRITE goes out at once (R85). -/
theorem State.attach_of_head_zero (h : (s.wave w).head = 0) : s.attach w d = s.joinedWave w d := by
  have hhead : ((s.joinedWave w d).wave w).head = 0 := by rw [State.joinedWave_wave]; exact h
  rw [State.attach_eq, State.writeSend]
  split
  · rw [if_neg]
    rw [hhead]
    omega
  · rfl

theorem State.joinedWave_attachment_self (h : (s.wave w).attachment d = none) :
    ((s.joinedWave w d).wave w).attachment d = some (.atStart d) := by
  rw [State.joinedWave_wave]
  exact find?_insertAttachment_self (a := .atStart d) ((Wave.attachment_eq_none_iff _ _).mp h)

theorem State.joinedWave_attachment_of_ne {x : Drive} (h : x ≠ d) :
    ((s.joinedWave w d).wave w).attachment x = (s.wave w).attachment x := by
  rw [State.joinedWave_wave]
  exact find?_insertAttachment_of_ne (Ne.symm h) _

theorem State.joinedWave_wave_of_ne {v : WaveNo} (h : v ≠ w) : (s.joinedWave w d).wave v = s.wave v := by
  rw [State.joinedWave, State.raiseDrive, Untouched.raise_wave, State.wave_modDrive', State.wave_modWave_of_ne _ _ _ _ h.symm]

theorem State.joinedWave_event_of_ne {c : EventClass} (h : c ≠ .driveState) : (s.joinedWave w d).event c = s.event c := by
  rw [State.joinedWave, State.raiseDrive, State.raise_event_of_ne _ _ _ h]
  rfl

theorem State.joinedWave_drive_of_ne {x : Drive} (h : x ≠ d) : (s.joinedWave w d).drive x = s.drive x := by
  rw [State.joinedWave, State.raiseDrive, Untouched.raise_drive, State.drive_modDrive_of_ne _ _ _ _ h.symm]
  rfl

end

/-- The drives `ds` have joined wave `w` of state `s`, which holds nothing yet (R27). -/
def DrivesJoined (w : WaveNo) (ds : List Drive) (s t : State) : Prop :=
  (∃ as, t.wave w = { s.wave w with attachments := as }) ∧
    (∀ d, (t.wave w).attachment d = if d ∈ ds then some (.atStart d) else (s.wave w).attachment d) ∧
    (∀ d, if d ∈ ds then (t.drive d).state = .burning else t.drive d = s.drive d) ∧
    (∀ v, v ≠ w → t.wave v = s.wave v) ∧ (∀ c, c ≠ .driveState → t.event c = s.event c) ∧
    Changes [.waves, .drives, .outbound, .events] s t

theorem drivesJoined_foldl {w : WaveNo} {ds : List Drive} (hnodup : ds.Nodup) :
    ∀ {s : State}, (s.wave w).head = 0 → (∀ d ∈ ds, (s.wave w).attachment d = none) →
      DrivesJoined w ds s (ds.foldl (fun t d => t.attach w d) s) := by
  induction ds with
  | nil => exact fun _ _ => ⟨⟨_, rfl⟩, fun d => by simp, fun d => by simp, fun _ _ => rfl, fun _ _ => rfl, .refl _⟩
  | cons x ds ih =>
    intro s hhead hfresh
    obtain ⟨hnot, hrest⟩ := List.nodup_cons.mp hnodup
    have hne : ∀ d ∈ ds, d ≠ x := fun d hd hdx => hnot (hdx ▸ hd)
    have hwave := s.joinedWave_wave w x
    obtain ⟨⟨as, has⟩, hattached, hdrives, hothers, hevents, hchanges⟩ := ih hrest (s := s.joinedWave w x)
      (by rw [hwave]; exact hhead)
      (fun d hd => by rw [State.joinedWave_attachment_of_ne (hne d hd)]; exact hfresh d (List.mem_cons_of_mem _ hd))
    rw [List.foldl_cons, State.attach_of_head_zero hhead]
    refine ⟨⟨as, by rw [has, hwave]⟩, fun d => ?_, fun d => ?_, fun v hv => ?_, fun c hc => ?_, ?_⟩
    · rw [hattached]
      by_cases hd : d = x
      · subst hd
        rw [if_neg hnot, if_pos List.mem_cons_self, State.joinedWave_attachment_self (hfresh d List.mem_cons_self)]
      · rw [State.joinedWave_attachment_of_ne hd]
        simp only [List.mem_cons, hd, false_or]
    · have hd' := hdrives d
      by_cases hd : d = x
      · subst hd
        rw [if_neg hnot, State.joinedWave_drive] at hd'
        rw [if_pos List.mem_cons_self, hd']
      · rw [State.joinedWave_drive_of_ne hd] at hd'
        simpa only [List.mem_cons, hd, false_or] using hd'
    · rw [hothers v hv, State.joinedWave_wave_of_ne hv]
    · rw [hevents c hc, State.joinedWave_event_of_ne hc]
    · rw [← State.attach_of_head_zero hhead]
      rw [← State.attach_of_head_zero hhead] at hchanges
      exact (changes_attach s w x).trans hchanges

/-! ### A taken Wave Open (R21) -/

/-- What IS does to the slot and the accumulator (R4, R6). -/
theorem openAtImage_effect (s : State) (w : WaveNo) (i : SlotNo) :
    let fills := decide ((s.image i).state = .defined)
    let t := s.openAtImage w i
    t.image i = (if fills then { s.image i with state := .filling, fillingWave := some w, digests := [],
                                                waveCount := (s.image i).waveCount + 1 }
      else { s.image i with waveCount := (s.image i).waveCount + 1 }) ∧
    t.acc w = .start (if fills then .fill else .check) i ∧ (∀ v, v ≠ w → t.acc v = s.acc v) ∧
    (∀ j, j ≠ i → t.image j = s.image j) ∧ (∀ c, c ≠ .imageState → t.event c = s.event c) ∧
    t.outbound = s.outbound ++ (if fills then s.placedBy .imageState else []) := by
  intro fills t
  by_cases h : (s.image i).state = .defined
  · have ht : t = ((s.modImage i (fun x => { x with
        state := .filling, fillingWave := some w, digests := [], waveCount := x.waveCount + 1 })).modAcc w
          (fun _ => .start .fill i)).raiseImage i .filling .opened := if_pos h
    simp only [fills, h, decide_true, if_true]
    rw [ht, State.raiseImage]
    refine ⟨?_, ?_, fun v hv => ?_, fun j hj => ?_, fun c hc => ?_, ?_⟩
    · rw [Untouched.raise_image, State.image_modAcc', State.image_modImage_self]
    · rw [Untouched.raise_acc, State.acc_modAcc_self]
    · rw [Untouched.raise_acc, State.acc_modAcc_of_ne _ _ _ _ hv.symm, State.acc_modImage']
    · rw [Untouched.raise_image, State.image_modAcc', State.image_modImage_of_ne _ _ _ _ hj.symm]
    · rw [State.raise_event_of_ne _ _ _ hc]
      rfl
    · rw [State.raise_outbound]
      rfl
  · have ht : t = (s.modImage i (fun x => { x with waveCount := x.waveCount + 1 })).modAcc w (fun _ => .start .check i) :=
      if_neg h
    simp only [fills, h, decide_false, Bool.false_eq_true, if_false]
    rw [ht, List.append_nil]
    refine ⟨?_, ?_, fun v hv => ?_, fun j hj => ?_, fun c hc => rfl, rfl⟩
    · rw [State.image_modAcc', State.image_modImage_self]
    · rw [State.acc_modAcc_self]
    · rw [State.acc_modAcc_of_ne _ _ _ _ hv.symm, State.acc_modImage']
    · rw [State.image_modAcc', State.image_modImage_of_ne _ _ _ _ hj.symm]

theorem State.waitingDrives_congr {s t : State} (hd : t.drives = s.drives) (hr : t.records = s.records)
    (ho : t.orders = s.orders) (i : SlotNo) : t.waitingDrives i = s.waitingDrives i := by
  have hlive : t.liveRecord = s.liveRecord := by
    funext k
    rw [State.liveRecord, State.live, State.record_congr hr]
    rfl
  simp only [State.waitingDrives, State.waitsFor, State.orderOf, hlive, State.drive_congr hd, State.order_congr ho]
  rfl

theorem State.nodup_waitingDrives (s : State) (i : SlotNo) : (s.waitingDrives i).Nodup :=
  List.Nodup.filter _ (by decide)

theorem changes_emit (s : State) (f : OutFrame) : Changes [.outbound] s (s.emit f) := fun p hp => by
  cases p with
  | outbound => simp at hp
  | _ => rfl

/-- A taken Wave Open before WAVE-STATE: the wave, the slot, the REPLY and the first credit. -/
def State.openReplied (s : State) (rt : ReplyTo) (a : WaveOpenArgs) : State :=
  let check := decide ((s.image a.slot).state ≠ .defined)
  (((s.modWave a.wave (fun _ => .openedWith a check)).openAtImage a.wave a.slot).replyPlain rt .ok).emit
    (.credit a.wave 0 0)

/-- A taken Wave Open before the drives join. -/
def State.waveOpened (s : State) (rt : ReplyTo) (a : WaveOpenArgs) : State :=
  (s.openReplied rt a).raiseWave a.wave .opened .command

theorem changes_openReplied (s : State) (rt : ReplyTo) (a : WaveOpenArgs) :
    Changes [.images, .accs, .waves, .feed, .outbound, .events] s (s.openReplied rt a) :=
  (((changes_modWave s _ _).mono (by simp)).trans ((changes_openAtImage _ _ _).mono (by simp))).trans
    (((changes_replyPlain _ rt .ok).mono (by simp)).trans ((changes_emit _ _).mono (by simp)))

theorem State.openTaken_eq (s : State) (rt : ReplyTo) (a : WaveOpenArgs) : State.openTaken rt a s =
    (s.waitingDrives a.slot).foldl (fun t d => t.attach a.wave d) (s.waveOpened rt a) := by
  have hkept := changes_openReplied s rt a
  rw [← State.waitingDrives_congr (t := s.openReplied rt a) (hkept .drives (by simp)) (hkept .records (by simp))
    (hkept .orders (by simp))]
  rfl

/-- The wave, the slot and the frames of a taken Wave Open, before the drives join (R21). -/
theorem waveOpened_effect (s : State) (rt : ReplyTo) (a : WaveOpenArgs) :
    let fills := decide ((s.image a.slot).state = .defined)
    let u := s.waveOpened rt a
    u.wave a.wave = .openedWith a (!fills) ∧
    u.image a.slot = (if fills then { s.image a.slot with state := .filling, fillingWave := some a.wave, digests := [],
                                                          waveCount := (s.image a.slot).waveCount + 1 }
      else { s.image a.slot with waveCount := (s.image a.slot).waveCount + 1 }) ∧
    u.acc a.wave = .start (if fills then .fill else .check) a.slot ∧
    (∀ v, v ≠ a.wave → u.wave v = s.wave v ∧ u.acc v = s.acc v) ∧ (∀ j, j ≠ a.slot → u.image j = s.image j) ∧
    u.event .waveState = (s.event .waveState).waveRaised a.wave .opened .command ∧ Replied rt.tag .ok s u ∧
    (∃ later, u.outbound = s.outbound ++ ((if fills then s.placedBy .imageState else []) ++
      [rt.frame .ok, .credit a.wave 0 0]) ++ later) ∧
    Changes [.images, .accs, .waves, .feed, .outbound, .events] s u := by
  intro fills u
  obtain ⟨m, hm⟩ : ∃ m, m = s.modWave a.wave (fun _ => .openedWith a (decide ((s.image a.slot).state ≠ .defined))) := ⟨_, rfl⟩
  obtain ⟨n, hn⟩ : ∃ n, n = m.openAtImage a.wave a.slot := ⟨_, rfl⟩
  have hu : u = ((n.replyPlain rt .ok).emit (.credit a.wave 0 0)).raiseWave a.wave .opened .command := by
    rw [hn, hm]
    rfl
  have hwaves : Changes [.waves] s m := by rw [hm]; exact changes_modWave s _ _
  have hself : m.wave a.wave = .openedWith a (!fills) := by
    rw [hm, State.wave_modWave_self]
    simp only [fills, decide_not, ne_eq]
  have himages : ∀ j, m.image j = s.image j := State.image_congr (hwaves .images (by simp))
  obtain ⟨himage, hacc, haccs, hslots, hevents, hout⟩ := openAtImage_effect m a.wave a.slot
  rw [← hn, himages] at himage hacc
  rw [← hn] at haccs hslots hevents hout
  have hplaced : m.placedBy .imageState = s.placedBy .imageState := by
    simp only [State.placedBy, State.event_congr (hwaves .events (by simp))]
  rw [himages, hplaced, hwaves .outbound (by simp)] at hout
  have hkept : Changes [.images, .accs, .outbound, .events] m n := by rw [hn]; exact changes_openAtImage _ _ _
  have hchanges : Changes [.images, .accs, .waves, .feed, .outbound, .events] s u := by
    rw [hu]
    exact ((hwaves.mono (by simp)).trans (hkept.mono (by simp))).trans
      (((changes_replyPlain n rt .ok).mono (by simp)).trans
        (((changes_emit _ _).mono (by simp)).trans ((changes_raiseWave _ _ _ _).mono (by simp))))
  have hafter : Changes [.feed, .outbound, .events] n u := by
    rw [hu]
    exact ((changes_replyPlain n rt .ok).mono (by simp)).trans
        (((changes_emit _ _).mono (by simp)).trans ((changes_raiseWave _ _ _ _).mono (by simp)))
  refine ⟨?_, ?_, ?_, fun v hv => ⟨?_, ?_⟩, fun j hj => ?_, ?_, ?_, ⟨((n.replyPlain rt .ok).emit (.credit a.wave 0 0)).placedBy .waveState, ?_⟩,
    hchanges⟩
  · rw [State.wave_congr (hafter .waves (by simp)), State.wave_congr (hkept .waves (by simp)), hself]
  · rw [State.image_congr (hafter .images (by simp)), himage]
  · rw [State.acc_congr (hafter .accs (by simp)), hacc]
  · rw [State.wave_congr (hafter .waves (by simp)), State.wave_congr (hkept .waves (by simp)), hm,
      State.wave_modWave_of_ne _ _ _ _ hv.symm]
  · rw [State.acc_congr (hafter .accs (by simp)), haccs v hv, State.acc_congr (hwaves .accs (by simp))]
  · rw [State.image_congr (hafter .images (by simp)), hslots j hj, himages]
  · have hstate : ((n.replyPlain rt .ok).emit (.credit a.wave 0 0)).event .waveState = s.event .waveState := by
      rw [State.event_congr (changes_emit _ _ .events (by simp)), State.event_congr (changes_replyPlain n rt .ok .events (by simp)),
        hevents .waveState (by decide), State.event_congr (hwaves .events (by simp))]
    rw [hu, State.raiseWave, State.raise_event, hstate]
    rfl
  · have hfeed : n.feed = s.feed := (hkept .feed (by simp)).trans (hwaves .feed (by simp))
    have hreply : Replied rt.tag .ok s (n.replyPlain rt .ok) := replied_replyPlain_of_feed hfeed
    have hsame : u.feed = (n.replyPlain rt .ok).feed := by
      rw [hu, changes_raiseWave _ _ _ _ .feed (by simp)]
      rfl
    unfold Replied
    rw [hsame]
    exact hreply
  · have hemit : ((n.replyPlain rt .ok).emit (.credit a.wave 0 0)).outbound =
        (n.replyPlain rt .ok).outbound ++ [.credit a.wave 0 0] := rfl
    rw [hu, State.raiseWave, State.raise_outbound, hemit, State.replyPlain_outbound, hout]
    simp only [fills, List.append_assoc, List.cons_append, List.nil_append]

/-- What the statement says of a taken Wave Open. -/
theorem waveOpen_taken {s : State} {f : CmdFrame} {a : WaveOpenArgs} (hcheck : s.waveOpenCheck a = none) :
    let r := cmdReply f 3
    let fills := decide ((s.image a.slot).state = .defined)
    let t := State.waveOpen r a s
    (let y := t.wave a.wave
     y.state = .opened ∧ y.slot = some a.slot ∧ y.checkFlag = !fills ∧ y.capacity = a.capacity ∧ y.held = [] ∧
       y.head = 0 ∧ y.releasedTotal = 0 ∧ y.lastCredited = 0 ∧ y.timerRunning = false ∧ y.endCause = .none ∧
       y.starvationLimit = (if a.limit = 0 then 10 else a.limit) ∧
       ∀ d, y.attachment d =
         if d ∈ s.waitingDrives a.slot then some { drive := d, cursor := 0, inFlight := none } else none) ∧
    (∀ d, if d ∈ s.waitingDrives a.slot then (t.drive d).state = .burning else t.drive d = s.drive d) ∧
    t.image a.slot =
      (if fills then { s.image a.slot with state := .filling, fillingWave := some a.wave, digests := [],
                                           waveCount := (s.image a.slot).waveCount + 1 }
       else { s.image a.slot with waveCount := (s.image a.slot).waveCount + 1 }) ∧
    t.acc a.wave = { mode := if fills then .fill else .check, slot := some a.slot, block := 0, taken := 0,
                     crc := 0xFFFFFFFF#32 } ∧
    (∀ v, v ≠ a.wave → t.wave v = s.wave v ∧ t.acc v = s.acc v) ∧ (∀ j, j ≠ a.slot → t.image j = s.image j) ∧
    t.event .waveState = (s.event .waveState).waveRaised a.wave .opened .command ∧
    Replied f.tag .ok s t ∧
    Joined ((if fills then s.placedBy .imageState else []) ++ [r.frame .ok, .credit a.wave 0 0]) s t ∧
    Changes [.images, .accs, .waves, .drives, .feed, .events, .outbound] s t := by
  intro r fills t
  have ht : t = (s.waitingDrives a.slot).foldl (fun t d => t.attach a.wave d) (s.waveOpened r a) := by
    rw [← State.openTaken_eq]
    exact State.waveOpen_of_taken r hcheck
  obtain ⟨hwave, himage, hacc, hothers, hslots, hraised, hreplied, ⟨later, hout⟩, hchanges⟩ := waveOpened_effect s r a
  obtain ⟨⟨as, has⟩, hattached, hburning, hwaves, hevents, hjoined⟩ := drivesJoined_foldl (w := a.wave)
    (s.nodup_waitingDrives a.slot) (s := s.waveOpened r a) (by rw [hwave]; rfl) (fun d _ => by rw [hwave]; rfl)
  have hgrown : (s.waveOpened r a).outbound <+: t.outbound := by
    rw [ht]
    exact closed_foldl (P := fun u => (s.waveOpened r a).outbound <+: u.outbound)
      (fun u d h => closed_attach (closed_grows _) (List.Subset.refl _) (.inl trivial) h) (List.prefix_refl _)
  rw [← ht] at has hattached hburning hwaves hevents hjoined
  have hattachment : ∀ d, (t.wave a.wave).attachment d =
      if d ∈ s.waitingDrives a.slot then some { drive := d, cursor := 0, inFlight := none } else none := fun d => by
    rw [hattached, hwave]
    rfl
  rw [hwave] at has
  refine ⟨?_, fun d => ?_, ?_, ?_, fun v hv => ⟨?_, ?_⟩, fun j hj => ?_, ?_, ?_, ?_, ?_⟩
  · refine ⟨?_, ?_, ?_, ?_, ?_, ?_, ?_, ?_, ?_, ?_, ?_, hattachment⟩
    all_goals
      rw [has]
      rfl
  · have hd := hburning d
    rwa [State.drive_congr (hchanges .drives (by simp))] at hd
  · rw [State.image_congr (hjoined .images (by simp)), himage]
  · rw [State.acc_congr (hjoined .accs (by simp)), hacc]
    rfl
  · rw [hwaves v hv, (hothers v hv).1]
  · rw [State.acc_congr (hjoined .accs (by simp)), (hothers v hv).2]
  · rw [State.image_congr (hjoined .images (by simp)), hslots j hj]
  · rw [hevents _ (by decide), hraised]
  · exact (hjoined .feed (by simp)).trans hreplied
  · obtain ⟨more, hmore⟩ := hgrown
    exact ⟨later ++ more, by rw [← hmore, hout, List.append_assoc]⟩
  · exact (hchanges.mono (by simp)).trans (hjoined.mono (by simp))

/-- Settles O13: the checks in their order, and the wave with the drives that join it. -/
theorem waveOpenEffect : Obligations.WaveOpenEffect := by
  unfold Obligations.WaveOpenEffect
  intro f a s hp hn r fills
  refine ⟨_, exec_waveOpen_of_handlesAsNew hp hn, ?_⟩
  have hcheck := s.waveOpenCheck_eq a
  have refused : ∀ {st}, s.waveOpenCheck a = some st → RepliedOnly r st s (State.waveOpen r a s) := fun h => by
    rw [State.waveOpen_of_refused _ h]
    exact repliedOnly_replyPlain s _ _
  by_cases hidle : (s.wave a.wave).state ≠ .idle
  · rw [if_pos hidle] at hcheck ⊢
    exact refused hcheck
  by_cases hrange : a.capacity < 64 ∨ 65536 < a.capacity ∨ 60 < a.limit
  · rw [if_neg hidle, if_pos hrange] at hcheck ⊢
    exact refused hcheck
  by_cases hundefined : (s.image a.slot).state = .undefined
  · rw [if_neg hidle, if_neg hrange, if_pos hundefined] at hcheck ⊢
    exact refused hcheck
  by_cases hfilling : (s.image a.slot).state = .filling
  · rw [if_neg hidle, if_neg hrange, if_neg hundefined, if_pos hfilling] at hcheck ⊢
    exact refused hcheck
  by_cases hspace : 65536 < a.capacity + s.otherCapacity a.wave
  · rw [if_neg hidle, if_neg hrange, if_neg hundefined, if_neg hfilling, if_pos hspace] at hcheck ⊢
    exact refused hcheck
  rw [if_neg hidle, if_neg hrange, if_neg hundefined, if_neg hfilling, if_neg hspace] at hcheck ⊢
  exact waveOpen_taken hcheck

end Sys2Proof.Machine
end

section
/-! The SENSE after a port check (R51): what it settles, and what becomes of a SPEED that waits through the check
(R46, R75): O37. -/

namespace Sys2Proof.Machine

/-! ### Drives through the end of a record and a load decision -/

/-- The notice of a record's end changes the rung and the fail count of a drive at most (R79, R80). -/
theorem State.noticeEnd_drive (s : State) (e : Option Drive) (v : Verdict) (c : Option FailCause) (d : Drive) :
    ∃ g n, (s.noticeEnd e v c).drive d = { s.drive d with rung := g, failCount := n } := by
  cases e with
  | none => exact ⟨_, _, rfl⟩
  | some e =>
    by_cases h : d = e
    · subst h
      unfold State.noticeEnd State.countFailure State.downshift
      cases v with
      | pass => exact ⟨_, _, State.drive_modDrive_self _ _ _⟩
      | returned => exact ⟨_, _, rfl⟩
      | fail =>
        dsimp only
        split_ifs
        · split
          · split_ifs
            · exact ⟨_, _, by rw [Untouched.raise_drive, State.drive_modDrive_self]⟩
            · exact ⟨_, _, by rw [Untouched.raise_drive, State.drive_modDrive_self]⟩
            · exact ⟨_, _, State.drive_modDrive_self _ _ _⟩
          · exact ⟨_, _, State.drive_modDrive_self _ _ _⟩
        · exact ⟨_, _, rfl⟩
    · exact ⟨_, _, State.noticeEnd_drive_of_ne v c h⟩

/-- What a load decision keeps of a drive: its record, its check, and EMPTY unless auto-feed starts a load (R55, R56). -/
def DriveSlot.decided (x y : DriveSlot) (feed : Bool) : Prop :=
  y.trayRecord = x.trayRecord ∧ y.checkPhase = x.checkPhase ∧
    (x.state = .empty → y.state = .empty ∨ y.state = .loading ∧ feed = true)

theorem DriveSlot.decided_pendingTaken (x : DriveSlot) (feed : Bool) : x.decided x.pendingTaken feed := by
  unfold DriveSlot.pendingTaken
  split
  · exact ⟨rfl, rfl, .inl⟩
  · exact ⟨rfl, rfl, .inl⟩

theorem State.decideDrive_decided (s : State) (d : Drive) :
    (s.drive d).decided ((s.decideDrive d).drive d) s.transport.autoFeed := by
  by_cases hasked : s.loadAsked d = true
  · obtain ⟨-, -, hfeed, -⟩ := (s.loadAsked_iff d).mp hasked
    obtain ⟨htray, hcheck, hempty⟩ := (s.drive d).decided_pendingTaken s.transport.autoFeed
    rw [State.decideDrive_of_asked hasked, State.loadIfAllowed]
    split
    · split
      · obtain ⟨q, n, w, st, hslot⟩ := (s.takePending d).loadingAsked_drive_self d
        rw [s.takePending_drive_self d] at hslot
        rw [State.startLoading_drive, hslot]
        exact ⟨htray, hcheck, fun _ => .inr ⟨rfl, hfeed⟩⟩
      · rw [State.takePending_drive_self]
        exact ⟨htray, hcheck, hempty⟩
    · rw [State.takePending_drive_self]
      exact ⟨htray, hcheck, hempty⟩
  · rw [State.decideDrive_of_not_asked hasked]
    exact ⟨rfl, rfl, .inl⟩

theorem State.loadDecision_decided (s : State) (d : Drive) :
    (s.drive d).decided (s.loadDecision.drive d) s.transport.autoFeed := by
  obtain ⟨t, _, -, hturn, hslot, hkept⟩ :=
    oneDriveAtATime_decideDrive.foldl_turn s (List.nodup_finRange 16) (List.mem_finRange d)
  have h := t.decideDrive_decided d
  rw [hslot, hkept .transport (by simp)] at h
  rw [show s.loadDecision.drive d = (t.decideDrive d).drive d from hturn]
  exact h

/-- The state of a record's end just before its order's load decision (R134). -/
theorem State.endRecord_before (s : State) (k : Token) (cause : Option FailCause) (final : Place) :
    ∃ (u : State) (o : Option OrderNo), s.endRecord k cause final = u.reloadFor o ∧ u.transport = s.transport ∧
      ∀ d, ∃ g n, u.drive d = { s.drive d with rung := g, failCount := n } := by
  obtain ⟨a, ha, hkept⟩ : ∃ a : State, a = (match cause with | some c => s.giveCause (some k) c | none => s) ∧
      Changes [.records] s a := by
    cases cause with
    | none => exact ⟨s, rfl, .refl s⟩
    | some c => exact ⟨_, rfl, changes_giveCause s _ _⟩
  obtain ⟨b, hb⟩ : ∃ b : State, b = (a.emit (.discDone k.num (a.record k.num) final ((a.record k.num).verdictAtEnd final))
      ).chargeOrder (a.record k.num).order ((a.record k.num).verdictAtEnd final) := ⟨_, rfl⟩
  have hall : Changes [.records, .orders, .outbound, .events] s b := by
    rw [hb]
    exact (hkept.mono (by simp)).trans (((changes_emit _ _).mono (by simp)).trans ((changes_chargeOrder _ _ _).mono (by simp)))
  refine ⟨(b.noticeEnd (a.record k.num).drive ((a.record k.num).verdictAtEnd final) (a.record k.num).cause).modRecord k.num
    (fun x => { x with use := .free }), (a.record k.num).order, ?_, ?_, fun d => ?_⟩
  · rw [hb, ha]
    cases cause with
    | none => rfl
    | some c => rfl
  · rw [State.modRecord_transport, changes_noticeEnd _ _ _ _ .transport (by simp), hall .transport (by simp)]
  · obtain ⟨g, n, h⟩ := b.noticeEnd_drive (a.record k.num).drive ((a.record k.num).verdictAtEnd final) (a.record k.num).cause d
    exact ⟨g, n, by rw [State.drive_modRecord', h, State.drive_congr (hall .drives (by simp))]⟩

theorem State.reloadFor_checkPhase (s : State) (o : Option OrderNo) (d : Drive) :
    ((s.reloadFor o).drive d).checkPhase = (s.drive d).checkPhase := by
  unfold State.reloadFor
  split
  · exact (s.loadDecision_decided d).2.1
  · rfl

theorem State.reloadFor_drive_of_not_asked {s : State} {d : Drive} (o : Option OrderNo) (h : ¬ s.loadAsked d = true) :
    (s.reloadFor o).drive d = s.drive d := by
  unfold State.reloadFor
  split
  · exact State.loadDecision_drive_of_not_asked h
  · rfl

theorem State.endRecord_checkPhase (s : State) (k : Token) (cause : Option FailCause) (final : Place) (d : Drive) :
    ((s.endRecord k cause final).drive d).checkPhase = (s.drive d).checkPhase := by
  obtain ⟨u, o, hend, -, hslot⟩ := s.endRecord_before k cause final
  obtain ⟨g, n, h⟩ := hslot d
  rw [hend, State.reloadFor_checkPhase, h]

/-- A drive with a SPEED of an Apply Now in progress passes through a record's end but for its rung and fail count. -/
theorem State.endRecord_drive_of_in_progress {s : State} {d : Drive} (h : (s.drive d).applyStatus = .inProgress) (k : Token)
    (cause : Option FailCause) (final : Place) :
    ∃ g n, (s.endRecord k cause final).drive d = { s.drive d with rung := g, failCount := n } := by
  obtain ⟨u, o, hend, -, hslot⟩ := s.endRecord_before k cause final
  obtain ⟨g, n, hd⟩ := hslot d
  refine ⟨g, n, ?_⟩
  rw [hend, State.reloadFor_drive_of_not_asked o, hd]
  rw [State.loadAsked_iff, hd]
  exact fun ⟨_, _, _, hn⟩ => hn h

/-! ### Events that stay pending -/

/-- Only a frame sent, or power-on, makes a class record not pending (R196, R197). -/
theorem closed_pending (k : EventClass) {ps : List Part} : Closed anyUpdate ps (fun t => (t.event k).pending = true) := by
  constructor
  case raise =>
    intro _ _ t c m v h
    by_cases hk : k = c
    · subst hk
      exact t.raise_pending k m v
    · rw [State.raise_event_of_ne _ _ _ hk]
      exact h
  all_goals
    intros
    assumption

/-! ### The SENSE of a check (R51) -/

/-- The check of drive `d` is over, before its outcome acts. -/
def State.sensed (s : State) (d : Drive) (e : Ending) : State :=
  (s.endedPort d .sense e).modDrive d (fun x => { x with checkPhase := .idle })

section
variable (s : State) (d : Drive) (e : Ending)

theorem State.sensed_drive : (s.sensed d e).drive d = { (s.drive d).ended .sense e with checkPhase := .idle } := by
  rw [State.sensed, State.drive_modDrive_self, State.endedPort_drive]

theorem changes_sensed : Changes [.drives] s (s.sensed d e) :=
  (changes_endedPort s d _ _).trans (changes_modDrive _ _ _)

end

section
variable {s : State} {d : Drive} {n : Byte} (ho : (s.drive d).outstanding = some { req := .sense, number := n })
  (hc : (s.drive d).checkPhase = .sensing)
include ho hc

theorem exec_senseReply_of_sensing {r : DriveReply} {e : Ending} (he : DriveRequest.sense.ending r = e)
    (good : e.faults .sense ((s.drive d).ended .sense e) = false) :
    exec (.senseReply d n r) s = .next ((s.endedPort d .sense e).checkSenseEnded d e).arbiter := by
  have hport : (s.modDrive d (·.ended .sense e)).drive d = (s.drive d).ended .sense e := s.drive_modDrive_self d _
  have hphase : ((s.drive d).ended .sense e).checkPhase = .sensing := hc
  have happly : DriveRequest.sense.isApplySpeed = false := rfl
  refine (exec_replyRow_of_outstanding ho r).trans ?_
  rw [he]
  simp only [State.requestEnded, hport, good, hphase, happly, Bool.false_eq_true, if_false, true_and, if_true]
  rfl

end

/-! #### No disc -/

/-- The record that a drive found without a disc had has ended LOST (R51). -/
def State.trayFreed (s : State) (d : Drive) : State :=
  match (s.drive d).trayRecord with
  | some k => (s.endRecord k (some .lost) (.station (trayOf d))).modDrive d (fun x => { x with trayRecord := none })
  | none => s

theorem State.settle_absent (s : State) (d : Drive) (cls : Nat) :
    s.settle d false cls = ((s.modDrive d (fun x => { x with checkPhase := .idle })).trayFreed d).settleEmpty d := by
  have hslot : (s.modDrive d (fun x => { x with checkPhase := .idle })).drive d = { s.drive d with checkPhase := .idle } :=
    State.drive_modDrive_self _ _ _
  unfold State.settle State.trayFreed
  rw [hslot]
  cases (s.drive d).trayRecord with
  | some k => rfl
  | none => rfl

/-- The SENSE found no disc, by DONE or by a fault NO-DISC. -/
theorem State.checkSenseEnded_absent (s : State) (d : Drive) {e : Ending} (h : e = .fault .noDisc ∨ ∃ cls, e = .done false cls) :
    (s.endedPort d .sense e).checkSenseEnded d e = ((s.sensed d e).trayFreed d).settleEmpty d := by
  obtain rfl | ⟨cls, rfl⟩ := h
  · exact State.settle_absent _ _ _
  · exact State.settle_absent _ _ _

section
variable {s : State} {d : Drive}

theorem State.trayFreed_drive_trayRecord : ((s.trayFreed d).drive d).trayRecord = none := by
  unfold State.trayFreed
  split
  · rw [State.drive_modDrive_self]
  · assumption

theorem State.trayFreed_checkPhase : ((s.trayFreed d).drive d).checkPhase = (s.drive d).checkPhase := by
  unfold State.trayFreed
  split
  · rw [State.drive_modDrive_self]
    exact State.endRecord_checkPhase _ _ _ _ _
  · rfl

theorem State.trayFreed_transport : (s.trayFreed d).transport = s.transport := by
  unfold State.trayFreed
  split
  · rw [State.modDrive_transport, changes_endRecord _ _ _ _ .transport (by simp)]
  · rfl

theorem State.trayFreed_drive_of_in_progress (h : (s.drive d).applyStatus = .inProgress) :
    ∃ g n, (s.trayFreed d).drive d = { s.drive d with trayRecord := none, rung := g, failCount := n } := by
  unfold State.trayFreed
  split
  next k hk =>
    obtain ⟨g, n, hd⟩ := State.endRecord_drive_of_in_progress h k (some .lost) (.station (trayOf d))
    exact ⟨g, n, by rw [State.drive_modDrive_self, hd]⟩
  next hk =>
    exact ⟨(s.drive d).rung, (s.drive d).failCount, by rw [← hk]⟩

theorem joined_trayFreed {k : Token} (hk : (s.drive d).trayRecord = some k) (hl : s.live k = true) :
    Joined [.discDone k.num { s.record k.num with cause := (s.record k.num).cause <|> some .lost } (.station (trayOf d))
      .fail] s (s.trayFreed d) := by
  have hverdict : (s.lastRecord k (some .lost)).verdictAtEnd (.station (trayOf d)) = .fail := by
    rw [DiscRecord.verdictAtEnd_eq, if_pos]
    simp [State.lastRecord, DiscRecord.withEnd]
  have hjoined := joined_endRecord hl (some .lost) (.station (trayOf d))
  rw [hverdict] at hjoined
  have hfreed : (s.trayFreed d).outbound = (s.endRecord k (some .lost) (.station (trayOf d))).outbound := by
    simp only [State.trayFreed, hk, State.modDrive_outbound]
  exact Joined.of_outbound hjoined hfreed

/-- The drive stands in EMPTY, DRIVE-STATE told where that is new (R51, R66). -/
def State.emptied (s : State) (d : Drive) : State :=
  if (s.drive d).state = .empty then s.modDrive d (fun x => { x with state := .empty, phase := .noPhase })
  else (s.modDrive d (fun x => { x with state := .empty, phase := .noPhase })).raiseDrive d

theorem State.settleEmpty_eq (s : State) (d : Drive) : s.settleEmpty d = ((s.emptied d).sendWaiting d).loadDecision := rfl

theorem State.emptied_drive : (s.emptied d).drive d = { s.drive d with state := .empty, phase := .noPhase } := by
  unfold State.emptied
  split
  · exact State.drive_modDrive_self _ _ _
  · rw [State.raiseDrive, Untouched.raise_drive, State.drive_modDrive_self]

theorem changes_emptied (s : State) (d : Drive) : Changes [.drives, .events, .outbound] s (s.emptied d) := by
  unfold State.emptied
  split
  · exact (changes_modDrive _ _ _).mono (by simp)
  · exact ((changes_modDrive _ _ _).mono (by simp)).trans ((changes_raiseDrive _ _).mono (by simp))

theorem State.sendWaiting_of_none (h : (s.drive d).waiting = none) : s.sendWaiting d = s := by
  simp only [State.sendWaiting, h]

theorem State.sendWaiting_drive {q : DriveRequest} (h : (s.drive d).waiting = some q) : (s.sendWaiting d).drive d =
    { s.drive d with waiting := none, outstanding := some { req := q, number := (s.drive d).nextNumber },
                     nextNumber := (s.drive d).nextNumber + 1 } := by
  simp only [State.sendWaiting, h, State.sendDrive, State.drive_modDrive_self]
  rfl

theorem State.sendWaiting_kept : ((s.sendWaiting d).drive d).trayRecord = (s.drive d).trayRecord ∧
    ((s.sendWaiting d).drive d).checkPhase = (s.drive d).checkPhase ∧
    ((s.sendWaiting d).drive d).state = (s.drive d).state := by
  cases h : (s.drive d).waiting with
  | none => rw [State.sendWaiting_of_none h]; exact ⟨rfl, rfl, rfl⟩
  | some q => rw [State.sendWaiting_drive h]; exact ⟨rfl, rfl, rfl⟩

/-- A drive found empty stays EMPTY, or loads when auto-feed is on (R51, R55). -/
theorem State.settleEmpty_slot (htray : (s.drive d).trayRecord = none) (hc : (s.drive d).checkPhase = .idle) :
    ((s.settleEmpty d).drive d).trayRecord = none ∧ ((s.settleEmpty d).drive d).checkPhase = .idle ∧
      (((s.settleEmpty d).drive d).state = .empty ∨
        ((s.settleEmpty d).drive d).state = .loading ∧ s.transport.autoFeed = true) := by
  obtain ⟨hrecord, hcheck, hstate⟩ := State.sendWaiting_kept (s := s.emptied d) (d := d)
  obtain ⟨hrecord', hcheck', hstate'⟩ := ((s.emptied d).sendWaiting d).loadDecision_decided d
  rw [State.emptied_drive] at hrecord hcheck hstate
  rw [← State.settleEmpty_eq, changes_sendWaiting _ _ .transport (by simp), changes_emptied s d .transport (by simp)] at hstate'
  rw [← State.settleEmpty_eq] at hrecord' hcheck'
  exact ⟨hrecord'.trans (hrecord.trans htray), hcheck'.trans (hcheck.trans hc), hstate' hstate⟩

/-- A SPEED in progress that has waited through the check goes out once the drive is EMPTY (R46, R51). -/
theorem State.settleEmpty_drive_of_in_progress {q : DriveRequest} (h : (s.drive d).applyStatus = .inProgress)
    (hw : (s.drive d).waiting = some q) : (s.settleEmpty d).drive d =
      { s.drive d with state := .empty, phase := .noPhase, waiting := none,
                       outstanding := some { req := q, number := (s.drive d).nextNumber },
                       nextNumber := (s.drive d).nextNumber + 1 } := by
  have hwaits : ((s.emptied d).drive d).waiting = some q := by rw [State.emptied_drive]; exact hw
  have hsent := State.sendWaiting_drive hwaits
  rw [State.emptied_drive] at hsent
  rw [State.settleEmpty_eq, State.loadDecision_drive_of_not_asked, hsent]
  rw [State.loadAsked_iff, hsent]
  exact fun ⟨_, _, _, hn⟩ => hn h

end

/-! #### A disc -/

section
variable {s : State} {d : Drive} (kind : EntryKind) (dest : Dest)

/-- A drive found with a disc: it unloads, and a request that waited is dropped (R46, R51). -/
def State.settledFull (s : State) (d : Drive) (kind : EntryKind) (dest : Dest) : State :=
  ((s.startUnloading d kind dest).dropWaiting d).loadDecision

theorem State.startUnloading_drive_of_free (ho : (s.drive d).outstanding = none) (hc : (s.drive d).checkPhase = .idle) :
    (s.startUnloading d kind dest).drive d = { s.drive d with
      state := .unloading, phase := .trayOpening, entry := some kind,
      outstanding := some { req := .trayOpen, number := (s.drive d).nextNumber },
      nextNumber := (s.drive d).nextNumber + 1 } := by
  obtain ⟨u, hu⟩ : ∃ u, u = ((s.modDrive d (fun x => { x with state := .unloading, phase := .trayOpening, entry := some kind
    })).enqueue (Entry.fresh kind (.station (trayOf d)) dest (s.drive d).trayRecord (some d) none)).raiseDrive d := ⟨_, rfl⟩
  have hslot : u.drive d = { s.drive d with state := .unloading, phase := .trayOpening, entry := some kind } := by
    rw [hu, State.drive_congr (changes_raiseDrive _ _ .drives (by simp)),
      State.drive_congr (changes_enqueue _ _ .drives (by simp)), State.drive_modDrive_self]
  have hstart : s.startUnloading d kind dest = u.askDrive d .trayOpen := by rw [hu]; rfl
  have hfree : (u.drive d).portFree = true := by
    rw [hslot]
    simp [DriveSlot.portFree, ho, hc]
  rw [hstart, State.askDrive_drive_of_free _ _ _ hfree, hslot]
  rfl

theorem State.settledFull_drive (ho : (s.drive d).outstanding = none) (hc : (s.drive d).checkPhase = .idle) :
    (s.settledFull d kind dest).drive d = { s.drive d with
      state := .unloading, phase := .trayOpening, entry := some kind, waiting := none,
      outstanding := some { req := .trayOpen, number := (s.drive d).nextNumber },
      nextNumber := (s.drive d).nextNumber + 1,
      applyStatus := if (s.drive d).speedWaits then .speedFailed else (s.drive d).applyStatus } := by
  have hdropped : ((s.startUnloading d kind dest).dropWaiting d).drive d = { s.drive d with
      state := .unloading, phase := .trayOpening, entry := some kind, waiting := none,
      outstanding := some { req := .trayOpen, number := (s.drive d).nextNumber },
      nextNumber := (s.drive d).nextNumber + 1,
      applyStatus := if (s.drive d).speedWaits then .speedFailed else (s.drive d).applyStatus } := by
    rw [State.dropWaiting_drive, State.startUnloading_drive_of_free kind dest ho hc]
    rfl
  rw [State.settledFull, State.loadDecision_drive_of_not_empty, hdropped]
  rw [hdropped]
  exact fun h => by simp at h

theorem changes_settledFull : Changes [.drives, .orders, .queue, .printer, .events, .outbound] s (s.settledFull d kind dest) :=
  (((changes_startUnloading s d kind dest).mono (by simp)).trans ((changes_dropWaiting _ _).mono (by simp))).trans
    ((changes_loadDecision _).mono (by simp))

theorem State.mem_settledFull_queue : Entry.fresh kind (.station (trayOf d)) dest (s.drive d).trayRecord (some d) none ∈
    (s.settledFull d kind dest).queue := by
  obtain ⟨⟨added, hadded, -⟩, -⟩ := loadsJoined_loadDecision ((s.startUnloading d kind dest).dropWaiting d)
  rw [State.settledFull, hadded, changes_dropWaiting _ _ .queue (by simp), State.startUnloading_queue]
  exact List.mem_append_left _ (List.mem_append_right _ (List.mem_singleton_self _))

/-- The SPEED of an Apply Now that waited has failed (R75). -/
theorem State.settledFull_applyDone (h : (s.drive d).speedWaits = true) (ho : (s.drive d).outstanding = none)
    (hc : (s.drive d).checkPhase = .idle) : ((s.settledFull d kind dest).event .applyDone).pending = true := by
  have hspeed : ((s.startUnloading d kind dest).drive d).speedWaits = true := by
    rw [State.startUnloading_drive_of_free kind dest ho hc]
    exact h
  have hdropped : (((s.startUnloading d kind dest).dropWaiting d).event .applyDone).pending = true := by
    rw [(raisedOnly_dropWaiting _ d hspeed).1, EventRecord.raised_pending]
  exact closed_loadDecision (closed_pending .applyDone) (List.Subset.refl _) hdropped

end

theorem State.settle_present (s : State) (d : Drive) (cls : Nat) {k : Token} (hk : (s.drive d).trayRecord = some k) :
    s.settle d true cls = (s.modDrive d (fun x => { x with checkPhase := .idle })).settledFull d .unload .byVerdict := by
  unfold State.settle
  rw [hk]
  rfl

/-- The orphan of a drive found with a disc that has no record (R51, R130). -/
def State.orphanFound (s : State) (d : Drive) (cls : Nat) (m : RecNo) : State :=
  (s.takeRecord m (DiscRecord.orphanAt cls (some d) (.station (trayOf d)))).modDrive d
    (fun x => { x with trayRecord := some (s.nextToken m) })

section
variable {s : State} {d : Drive} {cls : Nat}

theorem State.settle_unrecorded (hk : (s.drive d).trayRecord = none) : s.settle d true cls =
    (s.modDrive d (fun x => { x with checkPhase := .idle })).settleOrphan d cls := by
  unfold State.settle
  rw [hk]

theorem State.settleOrphan_of_free {m : RecNo} (hm : s.freeRecord = some m) :
    s.settleOrphan d cls = (s.orphanFound d cls m).settledFull d .purge (.station stationBX) := by
  unfold State.settleOrphan
  rw [hm]
  rfl

theorem State.settleOrphan_of_full (hm : s.freeRecord = none) :
    s.settleOrphan d cls = (s.modDrive d (fun x => { x with lastFault := some .noRecord })).driveFaulted d := by
  unfold State.settleOrphan
  rw [hm]

theorem State.orphanFound_drive {m : RecNo} : (s.orphanFound d cls m).drive d =
    { s.drive d with trayRecord := some (s.nextToken m) } := by
  rw [State.orphanFound, State.drive_modDrive_self]
  rfl

theorem State.orphanFound_record {m : RecNo} : (s.orphanFound d cls m).record m =
    { DiscRecord.orphanAt cls (some d) (.station (trayOf d)) with use := .inUse, gen := (s.record m).gen + 1 } := by
  rw [State.orphanFound, State.record_modDrive', State.takeRecord, State.record_modRecord_self]

end

section
variable {s : State} {d : Drive} {cls : Nat}

/-- The SENSE found a disc that has a record. -/
theorem State.checkSenseEnded_present {p : Bool} {k : Token} (hp : p = true) (hk : (s.drive d).trayRecord = some k) :
    (s.endedPort d .sense (.done p cls)).checkSenseEnded d (.done p cls) =
      (s.sensed d (.done p cls)).settledFull d .unload .byVerdict := by
  subst hp
  exact State.settle_present _ _ _ (k := k) (by rw [State.endedPort_drive]; exact hk)

/-- The SENSE found a disc that has none. -/
theorem State.checkSenseEnded_unrecorded {p : Bool} (hp : p = true) (hk : (s.drive d).trayRecord = none) :
    (s.endedPort d .sense (.done p cls)).checkSenseEnded d (.done p cls) =
      (s.sensed d (.done p cls)).settleOrphan d cls := by
  subst hp
  exact State.settle_unrecorded (by rw [State.endedPort_drive]; exact hk)

end

/-! ### What each answer leaves -/

section
variable {s : State} {d : Drive} {e : Ending}

/-- The port of the drive when its check is over. -/
theorem State.sensed_port : ((s.sensed d e).drive d).outstanding = none ∧
    ((s.sensed d e).drive d).checkPhase = .idle ∧ ((s.sensed d e).drive d).waiting = (s.drive d).waiting ∧
    ((s.sensed d e).drive d).nextNumber = (s.drive d).nextNumber ∧
    ((s.sensed d e).drive d).applyStatus = (s.drive d).applyStatus ∧
    ((s.sensed d e).drive d).trayRecord = (s.drive d).trayRecord := by
  rw [State.sensed_drive]
  exact ⟨rfl, rfl, rfl, rfl, rfl, rfl⟩

/-- An entry of the queue has its errand in the queue after the arbiter (R146). -/
theorem State.exists_errand_arbiter {s : State} {f : Entry} (hf : f ∈ s.queue) :
    ∃ g ∈ s.arbiter.queue, g.errand = f.errand := by
  rw [← List.mem_map, s.arbiter_errands]
  exact List.mem_map_of_mem hf

/-- A free record that an orphan has taken stays its record through the arbiter (R130). -/
theorem orphan_settledFull {m : RecNo} {cls : Nat} (ho : (s.drive d).outstanding = none) (hc : (s.drive d).checkPhase = .idle) :
    let u := (s.orphanFound d cls m).settledFull d .purge (.station stationBX)
    (u.arbiter.drive d).unloadingWith .purge ∧ (u.arbiter.drive d).trayRecord = some (s.nextToken m) ∧
      u.arbiter.record m = { DiscRecord.orphanAt cls (some d) (.station (trayOf d)) with
        use := .inUse, gen := (s.record m).gen + 1 } ∧
      ∃ e ∈ u.arbiter.queue, e.kind = .purge ∧ e.source = .station (trayOf d) ∧ e.dest = .station stationBX ∧
        e.token = some (s.nextToken m) ∧ e.drive = some d := by
  intro u
  have hslot : (s.orphanFound d cls m).drive d = { s.drive d with trayRecord := some (s.nextToken m) } :=
    State.orphanFound_drive
  have hfull := State.settledFull_drive (s := s.orphanFound d cls m) (d := d) .purge (.station stationBX)
    (by rw [hslot]; exact ho) (by rw [hslot]; exact hc)
  have hrecord : u.record m = { DiscRecord.orphanAt cls (some d) (.station (trayOf d)) with
      use := .inUse, gen := (s.record m).gen + 1 } := by
    rw [State.record_congr (changes_settledFull .purge (.station stationBX) .records (by simp)), State.orphanFound_record]
  have hentry := State.mem_settledFull_queue (s := s.orphanFound d cls m) (d := d) .purge (.station stationBX)
  rw [hslot] at hfull hentry
  rw [Untouched.arbiter_drive]
  refine ⟨?_, ?_, ?_, ?_⟩
  · rw [hfull]
    exact ⟨rfl, rfl, rfl⟩
  · rw [hfull]
  · rw [State.arbiter_record_of_kept (by rw [hrecord]; simp), hrecord]
  · obtain ⟨f, hf, herrand⟩ := State.exists_errand_arbiter hentry
    simp only [Entry.errand, Prod.mk.injEq] at herrand
    obtain ⟨hkind, hsource, hdest, htoken, hdrive⟩ := herrand
    exact ⟨f, hf, hkind, hsource, hdest, htoken, hdrive⟩

end

section
variable {s : State} {d : Drive}

/-- A drive that goes to FAULTED drops the SPEED of an Apply Now that waits (R64, R75). -/
theorem State.driveFaulted_applyDone (h : (s.drive d).speedWaits = true) :
    ((s.driveFaulted d).event .applyDone).pending = true := by
  obtain ⟨u, hu⟩ : ∃ u, u = s.modDrive d (fun x => { x with state := .faulted, phase := .noPhase, checkPhase := .idle }) :=
    ⟨_, rfl⟩
  have hspeed : (u.drive d).speedWaits = true := by
    rw [hu, State.drive_modDrive_self]
    exact h
  have hdropped : ((u.dropWaiting d).event .applyDone).pending = true := by
    rw [(raisedOnly_dropWaiting u d hspeed).1, EventRecord.raised_pending]
  have hstarted : ((s.faultStarted d).event .applyDone).pending = true := by
    rw [State.faultStarted, Untouched.giveCause_event, ← hu]
    exact hdropped
  have hworked := closed_faultWork (d := d) (before := (s.drive d).state) (closed_pending .applyDone) (List.Subset.refl _)
    hstarted
  rw [State.driveFaulted_eq, State.faultSettled]
  refine closed_loadDecision (closed_pending .applyDone) (List.Subset.refl _) ?_
  refine closed_raiseDrive (closed_pending .applyDone) (List.Subset.refl _) ?_
  rw [State.event_modDrive']
  exact closed_dropEntry (closed_pending .applyDone) (List.Subset.refl _) hworked

/-- What goes with a SENSE of a check that takes the drive to FAULTED while a SPEED in progress waits. -/
theorem dropped_requestEnded_sense {e : Ending} (h : e.faults .sense ((s.drive d).ended .sense e) = true)
    (hw : (s.drive d).speedWaits = true) :
    let t := (s.requestEnded d .sense e).arbiter
    (t.drive d).waiting = none ∧ (t.drive d).applyStatus = .speedFailed ∧ (t.event .applyDone).pending = true := by
  intro t
  have hended : s.requestEnded d .sense e = (s.endedPort d .sense e).driveFaulted d := State.requestEnded_of_faults h
  have hslot := s.endedPort_drive d .sense e
  have hspeed : ((s.endedPort d .sense e).drive d).speedWaits = true := by rw [hslot]; exact hw
  have ht : t = ((s.endedPort d .sense e).driveFaulted d).arbiter := congrArg State.arbiter hended
  rw [ht, Untouched.arbiter_drive, Untouched.arbiter_event, State.driveFaulted_drive]
  refine ⟨rfl, ?_, State.driveFaulted_applyDone hspeed⟩
  exact if_pos hspeed

theorem FaultedWith.arbiter {d : Drive} {f : DriveFailure} {s t : State} (h : FaultedWith d f s t) :
    FaultedWith d f s t.arbiter :=
  h.then ⟨(t.drive d).applyStatus, Untouched.arbiter_drive _ _⟩ (useOnly_arbiter _)

/-- No record is free for a disc that has none: the drive goes to FAULTED with NO-RECORD (R51). -/
theorem faultedWith_settleOrphan {e : Ending} {cls : Nat} (hm : s.freeRecord = none) :
    FaultedWith d .noRecord s ((s.sensed d e).settleOrphan d cls).arbiter := by
  obtain ⟨u, hu⟩ : ∃ u, u = (s.sensed d e).modDrive d (fun x => { x with lastFault := some .noRecord }) := ⟨_, rfl⟩
  have hslot : u.drive d = { (s.drive d).ended .sense e with checkPhase := .idle, lastFault := some .noRecord } := by
    rw [hu, State.drive_modDrive_self, State.sensed_drive]
  have hrecords : u.records = s.records := by
    rw [hu, State.modDrive_records, changes_sensed s d e .records (by simp)]
  rw [State.settleOrphan_of_full (by exact hm), ← hu]
  have hfaulted : FaultedWith d .noRecord u (u.driveFaulted d) :=
    faultedWith_driveFaulted (by rw [hslot]; rfl) (by rw [hslot])
  refine hfaulted.arbiter.of_start (by simp [hslot, DriveSlot.ended])
    (fun k => ?_) (fun n => ?_)
  · simp only [State.live, State.record_congr hrecords]
  · rw [State.record_congr hrecords]

end

/-- A drive found with a disc while a SPEED of an Apply Now waits: it unloads, and the SPEED has failed (R46, R51, R75). -/
theorem dropped_settledFull {s : State} {d : Drive} (kind : EntryKind) (dest : Dest) (ho : (s.drive d).outstanding = none)
    (hc : (s.drive d).checkPhase = .idle) (hw : (s.drive d).speedWaits = true) :
    let t := (s.settledFull d kind dest).arbiter
    (t.drive d).unloadingWith kind ∧ (t.drive d).waiting = none ∧ (t.drive d).applyStatus = .speedFailed ∧
      (t.event .applyDone).pending = true := by
  intro t
  have hslot := State.settledFull_drive kind dest ho hc
  rw [if_pos hw] at hslot
  rw [show t.drive d = (s.settledFull d kind dest).drive d from Untouched.arbiter_drive _ _, hslot,
    show t.event .applyDone = (s.settledFull d kind dest).event .applyDone from Untouched.arbiter_event _ _]
  exact ⟨⟨rfl, rfl, rfl⟩, rfl, rfl, State.settledFull_applyDone kind dest hw ho hc⟩

theorem Ending.faults_sense_noDisc (x : DriveSlot) :
    (Ending.fault .noDisc).faults .sense (x.ended .sense (.fault .noDisc)) = false := by
  simp [Ending.faults]

/-- The ending of an answer that finds no disc. -/
theorem exists_ending_absent {s : State} {d : Drive} {r : DriveReply} (h : r = .fault .noDisc ∨ ∃ cls, r = .done false cls) :
    ∃ e, DriveRequest.sense.ending r = e ∧ e.faults .sense ((s.drive d).ended .sense e) = false ∧
      (e = .fault .noDisc ∨ ∃ cls, e = .done false cls) := by
  obtain rfl | ⟨cls, rfl⟩ := h
  · exact ⟨.fault .noDisc, rfl, Ending.faults_sense_noDisc _, .inl rfl⟩
  · exact ⟨.done false cls.val, rfl, rfl, .inr ⟨cls.val, rfl⟩⟩

/-- Settles O37: what the SENSE of a check finds, and the SPEED that has waited through it. -/
theorem checkSenseSettles : Obligations.CheckSenseSettles := by
  refine ⟨?settles, ?speed⟩
  case settles =>
    intro d n s ⟨ho, hw⟩ hc x
    refine ⟨fun r hr => ?_, fun cls k hk => ?_, fun cls m hk hm => ?_, fun cls hk hm => ?_, fun c hne => ?_⟩
    · obtain ⟨e, he, good, habsent⟩ := exists_ending_absent (s := s) (d := d) hr
      refine ⟨_, exec_senseReply_of_sensing ho hc he good, ?_⟩
      obtain ⟨-, hcheck, -, -, -, htray⟩ := State.sensed_port (s := s) (d := d) (e := e)
      rw [State.checkSenseEnded_absent s d habsent, Untouched.arbiter_drive]
      obtain ⟨hnone, hidle, hstate⟩ := State.settleEmpty_slot (s := (s.sensed d e).trayFreed d) (d := d)
        State.trayFreed_drive_trayRecord (State.trayFreed_checkPhase.trans hcheck)
      rw [State.trayFreed_transport, changes_sensed s d e .transport (by simp)] at hstate
      refine ⟨hnone, hidle, hstate, fun k hk hl => ?_⟩
      have hjoined := joined_trayFreed (s := s.sensed d e) (htray.trans hk) hl
      refine Joined.of_closed (s := s) (ps := commandParts .powerOn) (t := (s.sensed d e).trayFreed d) hjoined fun _ hcl h => ?_
      exact closed_arbiter hcl (by decide) (closed_settleEmpty hcl (by decide) h)
    · refine ⟨_, exec_senseReply_of_sensing (e := .done true cls.val) ho hc rfl rfl, ?_⟩
      obtain ⟨hout, hidle, -, hnumber, -, htray⟩ := State.sensed_port (s := s) (d := d) (e := .done true cls.val)
      rw [State.checkSenseEnded_present rfl hk, Untouched.arbiter_drive, State.settledFull_drive _ _ hout hidle, hnumber, htray]
      exact ⟨⟨rfl, rfl, rfl⟩, hk, hidle, rfl⟩
    · refine ⟨_, exec_senseReply_of_sensing (e := .done true cls.val) ho hc rfl rfl, ?_⟩
      obtain ⟨hout, hidle, -⟩ := State.sensed_port (s := s) (d := d) (e := .done true cls.val)
      rw [State.checkSenseEnded_unrecorded rfl hk, State.settleOrphan_of_free (by exact hm)]
      exact orphan_settledFull hout hidle
    · refine ⟨_, exec_senseReply_of_sensing (e := .done true cls.val) ho hc rfl rfl, ?_⟩
      rw [State.checkSenseEnded_unrecorded rfl hk]
      exact faultedWith_settleOrphan hm
    · refine ⟨_, exec_replyRow_of_outstanding ho (.fault c), ?_⟩
      exact faultedWith_requestEnded ((Ending.faults_fault .sense x c).mpr (.inr (.inr (.inr ⟨rfl, hc, hne⟩)))) rfl
  case speed =>
    intro d n code g s x speed dropped ho hw hc happly
    have hspeed : (s.drive d).speedWaits = true := (DriveSlot.speedWaits_iff _).mpr ⟨code, g, hw⟩
    refine ⟨fun r hr => ?_, fun cls hroom => ?_, fun c hne => ?_⟩
    · obtain ⟨e, he, good, habsent⟩ := exists_ending_absent (s := s) (d := d) hr
      refine ⟨_, exec_senseReply_of_sensing ho hc he good, ?_⟩
      obtain ⟨-, -, hwaits, hnumber, hstatus, -⟩ := State.sensed_port (s := s) (d := d) (e := e)
      obtain ⟨q, m, hslot⟩ := State.trayFreed_drive_of_in_progress (hstatus.trans happly)
      have hsent := State.settleEmpty_drive_of_in_progress (s := (s.sensed d e).trayFreed d) (q := speed)
        (by rw [hslot]; exact hstatus.trans happly) (by rw [hslot]; exact hwaits.trans hw)
      rw [hslot] at hsent
      rw [State.checkSenseEnded_absent s d habsent, Untouched.arbiter_drive, hsent, hnumber]
      exact ⟨rfl, rfl, rfl, rfl, hstatus.trans happly⟩
    · refine ⟨_, exec_senseReply_of_sensing (e := .done true cls.val) ho hc rfl rfl, ?_⟩
      obtain ⟨hout, hidle, hwaits, -, -, -⟩ := State.sensed_port (s := s) (d := d) (e := .done true cls.val)
      by_cases hk : x.trayRecord = none
      · obtain ⟨m, hm⟩ := Option.ne_none_iff_exists'.mp (hroom.resolve_left (not_not.mpr hk))
        have hslot := State.orphanFound_drive (s := s.sensed d (.done true cls.val)) (d := d) (cls := cls.val) (m := m)
        rw [State.checkSenseEnded_unrecorded rfl hk, State.settleOrphan_of_free (by exact hm), if_pos hk]
        exact dropped_settledFull _ _ (by rw [hslot]; exact hout) (by rw [hslot]; exact hidle)
          (by rw [hslot]; simpa [DriveSlot.speedWaits, hwaits] using hspeed)
      · obtain ⟨k, hk'⟩ := Option.ne_none_iff_exists'.mp hk
        rw [State.checkSenseEnded_present rfl hk', if_neg hk]
        exact dropped_settledFull _ _ hout hidle (by simpa [DriveSlot.speedWaits, hwaits] using hspeed)
    · have hfaults := (Ending.faults_fault .sense x c).mpr (.inr (.inr (.inr ⟨rfl, hc, hne⟩)))
      exact ⟨_, exec_replyRow_of_outstanding ho (.fault c), faultedWith_requestEnded hfaults rfl,
        dropped_requestEnded_sense hfaults hspeed⟩

end Sys2Proof.Machine
end

section
/-! The starvation timer (R34, R35; O19), and what a detach leaves of the disc and of the wave. -/

namespace Sys2Proof.Machine

/-! ### The end of a drained wave (R39) -/

section
variable (s : State) (w : WaveNo)

theorem State.drainedCheck_of_not (h : ¬ ((s.wave w).state = .draining ∧ (s.wave w).held = [])) :
    s.drainedCheck w = s := if_neg h

theorem State.drainedCheck_wave_self : (s.drainedCheck w).wave w =
    if (s.wave w).state = .draining ∧ (s.wave w).held = [] then (s.wave w).ended .drained else s.wave w := by
  unfold State.drainedCheck
  split
  · simp
  · rfl

theorem State.drainedCheck_wave_of_ne {v : WaveNo} (h : v ≠ w) : (s.drainedCheck w).wave v = s.wave v := by
  unfold State.drainedCheck
  split
  · simp [State.wave_modWave_of_ne _ _ _ _ h.symm]
  · rfl

/-- The end of a drained wave leaves its held list, which is empty, and its releases. -/
theorem State.drainedCheck_held : ((s.drainedCheck w).wave w).held = (s.wave w).held := by
  rw [State.drainedCheck_wave_self]
  split
  next h => exact h.2.symm
  next => rfl

theorem State.drainedCheck_releasedTotal : ((s.drainedCheck w).wave w).releasedTotal = (s.wave w).releasedTotal := by
  rw [State.drainedCheck_wave_self]
  split <;> rfl

theorem State.mem_drainedCheck_attachments {a : Attachment} (h : a ∈ ((s.drainedCheck w).wave w).attachments) :
    a ∈ (s.wave w).attachments := by
  rw [State.drainedCheck_wave_self] at h
  split at h
  · exact absurd h List.not_mem_nil
  · exact h

/-- The end of a drained wave is no abort: IS is told of no cause, and only WAVE-STATE is raised. -/
theorem State.drainedCheck_event_of_ne {k : EventClass} (h : k ≠ .waveState) : (s.drainedCheck w).event k = s.event k := by
  unfold State.drainedCheck State.raiseWave State.waveEndAtImage
  split
  · rw [State.raise_event_of_ne _ _ _ h]
    dsimp only
    split <;> rfl
  · rfl

end

/-! ### The disc of a detached drive (R90, R132) -/

/-- The discs a drive holds have failed, whatever becomes of their use. -/
theorem BurnFailed.of_record {s t : State} {d : Drive} {c : FailCause}
    (h : ∀ n, s.holds d n = true → ∃ u, t.record n = { (s.record n).burnFailed c with use := u }) :
    BurnFailed d c s t := by
  intro k hk hl
  obtain ⟨u, hu⟩ := h k.num (State.holds_of_trayRecord hk hl)
  rw [hu]
  exact ⟨rfl, rfl⟩

/-- A later step that leaves the records but their use. -/
theorem BurnFailed.then {s t u : State} {d : Drive} {c : FailCause} (h : BurnFailed d c s t) (hr : UseOnly t u) :
    BurnFailed d c s u := by
  intro k hk hl
  obtain ⟨x, hx⟩ := hr k.num
  rw [hx]
  exact h k hk hl

/-! ### A group of drives detached from a wave -/

/-- A wave without the attachments of the drives `ds`. -/
def Wave.without (x : Wave) (ds : List Drive) : Wave :=
  { x with attachments := x.attachments.filter (fun a => decide (a.drive ∉ ds)) }

theorem State.detachAll_wave_self (s : State) (w : WaveNo) (ds : List Drive) (c : FailCause) :
    (s.detachAll w ds c).wave w = (s.wave w).without ds := by
  induction ds generalizing s with
  | nil => simp [State.detachAll, Wave.without]
  | cons d ds ih =>
    rw [State.detachAll_cons, ih, State.detachStep_wave, State.unattach, State.wave_modWave_self]
    simp [Wave.without, Wave.unattach, List.filter_filter, Bool.and_comm]

/-- The laggards are detached and told of by DETACH (R35). -/
def State.starved (s : State) (w : WaveNo) : State :=
  ((s.modWave w (fun x => { x with timerRunning := false })).detachAll w (s.wave w).starving .detached).tellDetach w
    (s.wave w).starving

theorem State.starve_eq (s : State) (w : WaveNo) : s.starve w =
    if ((s.starved w).wave w).attachments = [] then (s.starved w).abortWave w .noDrives
    else ((s.starved w).releaseRule w).drainedCheck w := rfl

section
variable (s : State) (w : WaveNo)

theorem changes_starved :
    Changes [.waves, .drives, .records, .queue, .printer, .outbound, .events] s (s.starved w) :=
  ((changes_modWave s w _).mono (by simp)).trans
    ((changes_detachAll _ w _ _).trans ((changes_tellDetach _ w _).mono (by simp)))

theorem State.starved_wave_self : (s.starved w).wave w =
    { (s.wave w).without (s.wave w).starving with timerRunning := false } := by
  rw [State.starved, State.wave_congr ((changes_tellDetach _ _ _) .waves (by simp)), State.detachAll_wave_self,
    State.wave_modWave_self]
  rfl

theorem State.starved_wave_of_ne {v : WaveNo} (h : v ≠ w) : (s.starved w).wave v = s.wave v := by
  rw [State.starved, State.wave_congr ((changes_tellDetach _ _ _) .waves (by simp)), State.detachAll_wave_of_ne _ _ _ _ h,
    State.wave_modWave_of_ne _ _ _ _ h.symm]

theorem State.starved_unloading {d : Drive} (h : d ∈ (s.wave w).starving) :
    ((s.starved w).drive d).unloadingWith .unload := by
  rw [State.starved, State.drive_congr ((changes_tellDetach _ _ _) .drives (by simp))]
  exact State.detachAll_unloading _ w _ _ (.inl h)

theorem State.starved_record {d : Drive} (h : d ∈ (s.wave w).starving) {n : RecNo} (hn : s.holds d n = true) :
    (s.starved w).record n = (s.record n).burnFailed .detached := by
  have hany : (s.wave w).starving.any (s.holds · n) = true := List.any_eq_true.mpr ⟨d, h, hn⟩
  rw [State.starved, State.record_congr ((changes_tellDetach _ _ _) .records (by simp)), State.detachAll_record]
  exact if_pos hany

theorem State.starved_event_of_ne {k : EventClass} (ha : k ≠ .applyDone) (hs : k ≠ .driveState) (hd : k ≠ .detach) :
    (s.starved w).event k = s.event k := by
  rw [State.starved, State.tellDetach_event_of_ne _ _ _ hd, State.detachAll_event_of_ne _ _ _ _ ha hs,
    State.event_modWave']

theorem detachRaised_starved : DetachRaised w (s.wave w).starving s (s.starved w) := by
  have h := detachRaised_tellDetach ((s.modWave w (fun x => { x with timerRunning := false })).detachAll w
    (s.wave w).starving .detached) w (s.wave w).starving
  unfold DetachRaised at h ⊢
  rwa [State.detachAll_event_of_ne _ _ _ _ (by decide) (by decide), State.event_modWave'] at h

theorem starved_attachments_eq_nil_iff : ((s.starved w).wave w).attachments = [] ↔
    ∀ a ∈ (s.wave w).attachments, a.drive ∈ (s.wave w).starving := by
  rw [State.starved_wave_self]
  simp [Wave.without]

/-- A drive within the oldest held entry starves. -/
theorem Wave.mem_starving {x : Wave} {e : HeldEntry} {rest : List HeldEntry} (h : x.held = e :: rest) {a : Attachment}
    (ha : a ∈ x.attachments) (hlow : e.first ≤ a.cursor) (hhigh : a.cursor ≤ e.last) : a.drive ∈ x.starving := by
  simp only [Wave.starving, h, List.mem_map, List.mem_filter]
  exact ⟨a, ⟨ha, by simp [hlow, hhigh]⟩, rfl⟩

end

/-! ### DETACH in later steps -/

theorem DetachRaised.of_event {s t u : State} {w : WaveNo} {ds : List Drive} (h : DetachRaised w ds s t)
    (he : u.event .detach = t.event .detach) : DetachRaised w ds s u := by
  unfold DetachRaised at h ⊢
  rwa [he]

/-- The abort of a wave without drives raises no DETACH. -/
theorem State.abortWave_detach_of_empty {s : State} {w : WaveNo} (h : (s.wave w).attachments = []) (c : AbortCause) :
    (s.abortWave w c).event .detach = s.event .detach := by
  have hd := detachRaised_abortWave s w c
  have hnone : (s.wave w).drives = [] := by rw [Wave.drives, h]; rfl
  rw [hnone] at hd
  exact hd

theorem Wave.atIdle_ended (x : Wave) (c : EndCause) : (x.ended c).atIdle c := ⟨rfl, rfl, rfl, rfl, rfl, rfl, rfl, rfl⟩

/-! ### The expiry -/

section
variable {s : State} {w : WaveNo}

theorem exec_starvationExpiry_of_stopped (h : (s.wave w).timerRunning = false) :
    exec (.starvationExpiry w) s = .next s := by
  show execStarvationExpiry w s = _
  simp [execStarvationExpiry, h]

theorem exec_starvationExpiry_of_running (h : (s.wave w).timerRunning = true) :
    exec (.starvationExpiry w) s = .next (s.starve w).arbiter := by
  show execStarvationExpiry w s = _
  simp [execStarvationExpiry, h]

/-- Whether the wave ends or goes on, the end of an expiry touches neither drives nor discs. -/
theorem changes_starve_after : Changes [.images, .accs, .waves, .outbound, .events] (s.starved w) (s.starve w) := by
  rw [State.starve_eq]
  split
  next h => exact changes_abortWave_of_empty h _
  next => exact ((changes_releaseRule _ w).mono (by simp)).trans (changes_drainedCheck _ w)

theorem State.starve_wave_of_ne {v : WaveNo} (h : v ≠ w) : (s.starve w).wave v = s.wave v := by
  rw [State.starve_eq]
  split
  · rw [State.abortWave_wave_of_ne _ _ _ h, State.starved_wave_of_ne _ _ h]
  · rw [State.drainedCheck_wave_of_ne _ _ h, State.releaseRule_wave_of_ne _ _ h, State.starved_wave_of_ne _ _ h]

theorem State.starve_detach : (s.starve w).event .detach = (s.starved w).event .detach := by
  rw [State.starve_eq]
  split
  next h => exact State.abortWave_detach_of_empty h _
  next => rw [State.drainedCheck_event_of_ne _ _ (by decide), State.releaseRule_event_of_ne _ _ (by decide)]

/-- A released or ended wave has no timer running. -/
theorem State.starve_timerRunning : ((s.starve w).wave w).timerRunning = false := by
  have htimer : ((s.starved w).wave w).timerRunning = false := by rw [State.starved_wave_self]
  rw [State.starve_eq]
  split
  · rw [State.abortWave_wave_self]; rfl
  · rw [State.drainedCheck_wave_self]
    split
    · rfl
    · by_cases hn : ((s.starved w).wave w).releasable = 0
      · rw [State.releaseRule_of_none _ _ hn, htimer]
      · rw [State.releaseRule_wave_self _ _ hn]; rfl

/-- With every cursor at or above the oldest entry, the drives that stay have passed it. -/
theorem last_lt_cursor_of_starved {e : HeldEntry} {rest : List HeldEntry} (hheld : (s.wave w).held = e :: rest)
    (hlow : ∀ a ∈ (s.wave w).attachments, e.first ≤ a.cursor) {a : Attachment}
    (ha : a ∈ ((s.starved w).wave w).attachments) : e.last < a.cursor := by
  rw [State.starved_wave_self, Wave.without, List.mem_filter, decide_eq_true_iff] at ha
  obtain ⟨hmem, hkept⟩ := ha
  by_contra hnot
  exact hkept (Wave.mem_starving hheld hmem (hlow a hmem) (by omega))

end

/-- A wave in OPEN or STREAMING is not ended by its releases (R31, R32, R39). -/
theorem State.drainedCheck_releaseRule {s : State} {w : WaveNo}
    (h : (s.wave w).state = .opened ∨ (s.wave w).state = .streaming) :
    (s.releaseRule w).drainedCheck w = s.releaseRule w ∧
      (((s.releaseRule w).wave w).state = .opened ∨ ((s.releaseRule w).wave w).state = .streaming) := by
  have hstate : ((s.releaseRule w).wave w).state = .opened ∨ ((s.releaseRule w).wave w).state = .streaming := by
    by_cases hn : (s.wave w).releasable = 0
    · rw [State.releaseRule_of_none _ _ hn]; exact h
    · rw [State.releaseRule_wave_self _ _ hn]
      rcases h with h | h <;> simp [Wave.afterRelease, Wave.creditSent, Wave.gateClosed, Wave.released, h]
  refine ⟨State.drainedCheck_of_not _ _ fun hd => ?_, hstate⟩
  rw [hd.1] at hstate
  simp at hstate

/-- Settles O19: the laggards go, and what is left of the wave is aborted or released from. -/
theorem starvationDetachesLaggards : Obligations.StarvationDetachesLaggards := by
  intro w s
  refine ⟨exec_starvationExpiry_of_stopped, fun hrun => ?_⟩
  intro x
  obtain ⟨u, hu⟩ : ∃ u, u = s.starved w := ⟨_, rfl⟩
  have huw : u.wave w = { x.without x.starving with timerRunning := false } := by rw [hu, State.starved_wave_self]
  have hwave : ∀ v, ((s.starve w).arbiter).wave v = (s.starve w).wave v := Untouched.arbiter_wave _
  have hevent : ∀ k, ((s.starve w).arbiter).event k = (s.starve w).event k := Untouched.arbiter_event _
  have huevent : u.event .waveState = s.event .waveState := by
    rw [hu]; exact State.starved_event_of_ne s w (by decide) (by decide) (by decide)
  have hafter := changes_starve_after (s := s) (w := w)
  refine ⟨_, exec_starvationExpiry_of_running hrun, ?_, fun v hv => ?_, fun d hd => ⟨?_, ?_⟩, ?_, ?_, ?_⟩
  · rw [hwave]; exact State.starve_timerRunning
  · rw [hwave]; exact State.starve_wave_of_ne hv
  · rw [Untouched.arbiter_drive, State.drive_congr (hafter .drives (by simp))]
    exact State.starved_unloading s w hd
  · refine BurnFailed.then (.of_record fun n hn => ⟨(s.record n).use, ?_⟩) (useOnly_arbiter _)
    rw [State.record_congr (hafter .records (by simp)), State.starved_record s w hd hn]
    rfl
  · exact (detachRaised_starved s w).of_event ((hevent _).trans State.starve_detach)
  · rw [hwave, hevent, State.starve_eq, ← hu]
    have hnil := starved_attachments_eq_nil_iff s w
    rw [← hu] at hnil
    by_cases hempty : ∀ a ∈ x.attachments, a.drive ∈ x.starving
    · rw [if_pos hempty, if_pos (hnil.mpr hempty), State.abortWave_wave_self, State.abortWave_waveState, huevent]
      exact ⟨Wave.atIdle_ended _ _, rfl⟩
    rw [if_neg hempty, if_neg (mt hnil.mp hempty)]
    have hgoes (h : x.state = .opened ∨ x.state = .streaming) :
        (u.releaseRule w).drainedCheck w = u.releaseRule w ∧
          (((u.releaseRule w).wave w).state = .opened ∨ ((u.releaseRule w).wave w).state = .streaming) :=
      State.drainedCheck_releaseRule (by rw [huw]; exact h)
    obtain ⟨n, hle, hheld, hatt, -, hpassed, hstay, htotal, -, hpos, -, -⟩ := releaseRule u w
    rw [huw] at hle hheld hatt hpassed hstay htotal hpos
    refine ⟨fun hlawful => ?_, fun e rest hx hlow => ?_⟩
    · obtain ⟨-, -, htimer⟩ := hlawful
      obtain ⟨hsame, hstate⟩ := hgoes (htimer hrun).1
      rw [hsame]
      exact ⟨hatt, hstate⟩
    have hlast : ∀ a ∈ (x.without x.starving).attachments, e.last < a.cursor := fun a ha =>
      last_lt_cursor_of_starved hx hlow (by rw [← hu, huw]; exact ha)
    have hsome : (x.without x.starving).attachments ≠ [] := fun hnone => hempty (hnil.mp (by rw [huw]; exact hnone))
    have hn : 0 < n := by
      refine Nat.pos_of_ne_zero fun hzero => ?_
      rw [hzero] at hheld
      rcases hstay e (by rw [hheld]; exact congrArg List.head? hx) with hnone | ⟨a, ha, hcursor⟩
      · exact hsome hnone
      · have := hlast a ha
        omega
    obtain ⟨-, hstate, hcredit⟩ := hpos hn
    refine ⟨n, hn, hle, (State.drainedCheck_held _ w).trans hheld, (State.drainedCheck_releasedTotal _ w).trans htotal,
      fun f hf a ha => (hpassed f hf).2 a (hatt ▸ State.mem_drainedCheck_attachments _ w ha), fun f hf => ?_,
      fun ho => ?_, fun hs => ?_, fun hos => ?_⟩
    · rw [State.drainedCheck_held] at hf
      have hheldSome : ((u.releaseRule w).wave w).held ≠ [] := fun hnone => by simp [hnone] at hf
      rw [State.drainedCheck_of_not _ _ (fun h => hheldSome h.2), hatt]
      exact (hstay f hf).resolve_left hsome
    · have hrel : (u.wave w).releasable ≠ 0 := fun hzero => by
        have hlen := congrArg List.length hheld
        rw [State.releaseRule_of_none _ _ hzero, huw, List.length_drop] at hlen
        have : (x.without x.starving).held.length = (e :: rest).length := congrArg List.length hx
        simp only [Wave.without, List.length_cons] at hlen this hle
        omega
      have hopened : (u.wave w).state = .opened := by rw [huw]; exact ho
      rw [(hgoes (.inl ho)).1, State.releaseRule_waveState, if_pos ⟨hrel, hopened⟩, huevent, hstate]
      exact ⟨if_pos ho, rfl⟩
    · have hother : (u.wave w).state ≠ .opened := by rw [huw]; simp [Wave.without, hs]
      rw [(hgoes (.inr hs)).1, State.releaseRule_waveState, if_neg (fun h => hother h.2), huevent, hstate]
      simp [Wave.without, hs]
    · rw [(hgoes hos).1, Untouched.arbiter_outbound]
      split at hcredit
      next hdue =>
        exact Eq.mpr (if_pos hdue) ⟨hcredit.1, hcredit.2 ▸ List.mem_append_right _ (List.mem_singleton_self _)⟩
      next hdue =>
        exact Eq.mpr (if_neg hdue) hcredit.1
  · exact (changes_starved s w).mono (by simp) |>.trans (hafter.mono (by simp)) |>.trans ((changes_arbiter _).mono (by simp))

end Sys2Proof.Machine
end

section
/-! A WRITE that goes out (R85) and how a WRITE ends (R87 to R89; O42). -/

namespace Sys2Proof.Machine

/-! ### Attachments -/

theorem Wave.attachment_modAttachment (x : Wave) (d : Drive) {f : Attachment → Attachment}
    (hf : ∀ a, (f a).drive = a.drive) (e : Drive) :
    (x.modAttachment d f).attachment e = if e = d then (x.attachment d).map f else x.attachment e := by
  have hkeeps : (fun a : Attachment => decide (a.drive = e)) ∘ (fun a => if a.drive = d then f a else a) =
      fun a => decide (a.drive = e) := by
    funext a
    simp only [Function.comp_apply]
    split <;> simp [hf]
  have hfind : (x.modAttachment d f).attachment e = (x.attachment e).map (fun a => if a.drive = d then f a else a) := by
    rw [Wave.attachment, Wave.modAttachment, List.find?_map, hkeeps]
    rfl
  rw [hfind]
  cases ha : x.attachment e with
  | none =>
    split
    next h => rw [← h, ha]; rfl
    next => rfl
  | some a =>
    have hdrive : a.drive = e := by simpa using List.find?_some ha
    split
    next h =>
      subst h
      rw [ha, Option.map_some, Option.map_some, if_pos hdrive]
    next h => rw [Option.map_some, if_neg (fun hd => h (hdrive.symm.trans hd))]

theorem Wave.attachment_unattach_self (x : Wave) (d : Drive) : (x.unattach d).attachment d = none := by
  simp [Wave.attachment_eq_none_iff, Wave.unattach]

theorem State.exists_attachment_of_waveOf {s : State} {d : Drive} {w : WaveNo} (h : s.waveOf d = some w) :
    ∃ a, (s.wave w).attachment d = some a :=
  Option.isSome_iff_exists.mp (by simpa using List.find?_some h)

/-! ### The next WRITE (R85) -/

/-- The sectors of the next WRITE of a drive at a cursor, in a wave whose head lies beyond it. -/
def Wave.nextWrite (x : Wave) (cursor : Nat) : InFlight :=
  { first := cursor, count := min 32 (x.head - cursor) }

/-- The request for it. -/
def Wave.writeRequest (x : Wave) (cursor : Nat) : DriveRequest :=
  .write cursor (min 32 (x.head - cursor)) (gather x.held cursor (min 32 (x.head - cursor)))

section
variable {s : State} {w : WaveNo} {d : Drive} {a : Attachment}

theorem State.writeSend_of_below (ha : (s.wave w).attachment d = some a) (ho : (s.drive d).outstanding = none)
    (hlt : a.cursor < (s.wave w).head) : s.writeSend w d =
      (s.modWave w (fun x => x.modAttachment d (fun b => { b with
        inFlight := some ⟨b.cursor, ((s.wave w).nextWrite a.cursor).count⟩ }))).sendDrive d ((s.wave w).writeRequest a.cursor) := by
  simp only [State.writeSend, ha]
  rw [if_pos ⟨by simp [ho], hlt⟩]
  rfl

theorem State.writeSend_of_attached (ha : (s.wave w).attachment d = some a)
    (h : ¬ ((s.drive d).outstanding = none ∧ a.cursor < (s.wave w).head)) : s.writeSend w d = s := by
  simp only [State.writeSend, ha]
  rw [if_neg (by simpa using h)]

theorem State.writeSend_of_unattached (ha : (s.wave w).attachment d = none) : s.writeSend w d = s := by
  simp only [State.writeSend, ha]

end

section
variable (s : State) (w : WaveNo) (d : Drive)

theorem State.exists_attachments_writeSend : ∃ as, (s.writeSend w d).wave w = { s.wave w with attachments := as } := by
  unfold State.writeSend State.sendDrive
  split
  · split
    · rw [State.wave_modDrive', State.wave_modWave_self]
      exact ⟨_, rfl⟩
    · exact ⟨_, rfl⟩
  · exact ⟨_, rfl⟩

theorem State.writeSend_wave_of_ne {v : WaveNo} (h : v ≠ w) : (s.writeSend w d).wave v = s.wave v := by
  unfold State.writeSend State.sendDrive
  split
  · split
    · rw [State.wave_modDrive', State.wave_modWave_of_ne _ _ _ _ h.symm]
    · rfl
  · rfl

theorem State.writeSend_attachment_of_ne {e : Drive} (h : e ≠ d) :
    ((s.writeSend w d).wave w).attachment e = (s.wave w).attachment e := by
  unfold State.writeSend State.sendDrive
  split
  · split
    · rw [State.wave_modDrive', State.wave_modWave_self, Wave.attachment_modAttachment, if_neg h]
      exact fun _ => rfl
    · rfl
  · rfl

end

/-- The drive that sends, and its attachment, after its next WRITE. -/
theorem writeSend_effect {s : State} {w : WaveNo} {d : Drive} {a : Attachment}
    (ha : (s.wave w).attachment d = some a) (ho : (s.drive d).outstanding = none) (hlt : a.cursor < (s.wave w).head) :
    (s.writeSend w d).drive d = (s.drive d).sent ((s.wave w).writeRequest a.cursor) ∧
      ((s.writeSend w d).wave w).attachment d = some { a with inFlight := some ((s.wave w).nextWrite a.cursor) } := by
  rw [State.writeSend_of_below ha ho hlt, State.sendDrive, State.drive_modDrive_self, State.wave_modDrive',
    State.wave_modWave_self, Wave.attachment_modAttachment, if_pos rfl, ha]
  · exact ⟨rfl, rfl⟩
  · exact fun _ => rfl

/-! ### A WRITE answered DONE (R29, R30, R87, R94) -/

/-- The cursor of drive `d` has moved, and no WRITE of it is in flight. -/
def State.cursorMoved (s : State) (w : WaveNo) (d : Drive) (c : Nat) : State :=
  s.modWave w (fun x => x.modAttachment d (fun b => { b with cursor := c, inFlight := none }))

section
variable {s : State} {w : WaveNo} {d : Drive} {a : Attachment} {f : InFlight}

theorem State.writeEnded_done (hw : s.waveOf d = some w) (ha : (s.wave w).attachment d = some a)
    (hf : a.inFlight = some f) (p : Bool) (cls : Nat) : s.writeEnded d (.done p cls) =
      if a.cursor + f.count = s.waveLength w then (s.cursorMoved w d (a.cursor + f.count)).finish w d
      else ((s.cursorMoved w d (a.cursor + f.count)).releaseRule w).writeSend w d := by
  simp only [State.writeEnded, hw, ha, State.writeDone, hf, State.cursorMoved]

theorem State.writeEnded_timeout (hw : s.waveOf d = some w) (ha : (s.wave w).attachment d = some a) :
    s.writeEnded d .timeout = (s.detachStep w d .timeout).afterDetach w d := by
  simp only [State.writeEnded, hw, ha, State.detachOne_of_attached hw, State.detachStep]

theorem State.writeEnded_fault (hw : s.waveOf d = some w) (ha : (s.wave w).attachment d = some a) (c : FaultCause) :
    s.writeEnded d (.fault c) = (s.detachStep w d .writeFault).afterDetach w d := by
  simp only [State.writeEnded, hw, ha, State.detachOne_of_attached hw, State.detachStep]

theorem State.cursorMoved_attachment (ha : (s.wave w).attachment d = some a) (c : Nat) :
    ((s.cursorMoved w d c).wave w).attachment d = some { a with cursor := c, inFlight := none } := by
  rw [State.cursorMoved, State.wave_modWave_self, Wave.attachment_modAttachment, if_pos rfl, ha]
  · rfl
  · exact fun _ => rfl

theorem State.cursorMoved_wave (c : Nat) :
    ∃ as, (s.cursorMoved w d c).wave w = { s.wave w with attachments := as } := by
  rw [State.cursorMoved, State.wave_modWave_self]
  exact ⟨_, rfl⟩

end

/-- What the release rule leaves of a wave: its attachments and its head (R31). -/
theorem State.releaseRule_kept (s : State) (w : WaveNo) :
    ((s.releaseRule w).wave w).attachments = (s.wave w).attachments ∧ ((s.releaseRule w).wave w).head = (s.wave w).head := by
  by_cases hn : (s.wave w).releasable = 0
  · rw [State.releaseRule_of_none _ _ hn]; exact ⟨rfl, rfl⟩
  · rw [State.releaseRule_wave_self _ _ hn]; exact ⟨rfl, rfl⟩

theorem State.releaseRule_attachment (s : State) (w : WaveNo) (d : Drive) :
    ((s.releaseRule w).wave w).attachment d = (s.wave w).attachment d := by
  rw [Wave.attachment, (s.releaseRule_kept w).1]
  rfl

/-- Only an OPEN wave changes its state at a release (R32). -/
theorem State.releaseRule_state_of_ne {s : State} {w : WaveNo} (h : (s.wave w).state ≠ .opened) :
    ((s.releaseRule w).wave w).state = (s.wave w).state := by
  by_cases hn : (s.wave w).releasable = 0
  · rw [State.releaseRule_of_none _ _ hn]
  · rw [State.releaseRule_wave_self _ _ hn]
    exact if_neg h

section
variable (s : State) (w : WaveNo) (d : Drive)

/-- A drive that has left its wave for CLOSING, before the end of a drained wave (R30, R94). -/
def State.closingAsked (s : State) (w : WaveNo) (d : Drive) : State :=
  (((((s.releaseRule w).unattach w d).modDrive d (fun x => { x with state := .closing, phase := .noPhase })).raiseDrive d).askDrive
    d .close)

theorem State.finish_eq : s.finish w d = (s.closingAsked w d).drainedCheck w := rfl

theorem State.closingAsked_wave : (s.closingAsked w d).wave w = ((s.releaseRule w).wave w).unattach d := by
  rw [State.closingAsked, Untouched.askDrive_wave, State.raiseDrive, Untouched.raise_wave, State.wave_modDrive',
    State.unattach, State.wave_modWave_self]

theorem State.finish_attachment : ((s.finish w d).wave w).attachment d = none := by
  rw [Wave.attachment_eq_none_iff, State.finish_eq]
  intro a ha
  have hmem := State.mem_drainedCheck_attachments _ w ha
  rw [State.closingAsked_wave] at hmem
  exact (Wave.attachment_eq_none_iff _ _).mp (Wave.attachment_unattach_self _ d) a hmem

theorem State.finish_drive_of_ne {e : Drive} (h : e ≠ d) : (s.finish w d).drive e = s.drive e := by
  rw [State.finish_eq, Untouched.drainedCheck_drive, State.closingAsked, State.askDrive_drive_of_ne _ _ h, State.raiseDrive,
    Untouched.raise_drive, State.drive_modDrive_of_ne _ _ _ _ h.symm, State.unattach, State.drive_modWave',
    Untouched.releaseRule_drive]

/-- CLOSE goes out on the free port. -/
theorem State.finish_drive (h : (s.drive d).portFree = true) :
    (s.finish w d).drive d = ({ s.drive d with state := .closing, phase := .noPhase } : DriveSlot).sent .close := by
  have hslot : ((((s.releaseRule w).unattach w d).modDrive d (fun x => { x with state := .closing, phase := .noPhase
      })).raiseDrive d).drive d = { s.drive d with state := .closing, phase := .noPhase } := by
    rw [State.raiseDrive, Untouched.raise_drive, State.drive_modDrive_self, State.unattach, State.drive_modWave',
      Untouched.releaseRule_drive]
  rw [State.finish_eq, Untouched.drainedCheck_drive, State.closingAsked, State.askDrive_drive_of_free _ _ _ (by rw [hslot]; exact h),
    hslot]

theorem State.finish_driveState :
    (s.finish w d).event .driveState = (s.event .driveState).raised .driveState (bitMask d.val) none := by
  rw [State.finish_eq, State.drainedCheck_event_of_ne _ _ (by decide), State.closingAsked,
    State.askDrive_event_of_ne _ _ _ (by decide), State.raiseDrive, State.raise_event, State.event_modDrive', State.unattach,
    State.event_modWave', State.releaseRule_event_of_ne _ _ (by decide)]

/-- A draining wave ends with its last held entry (R39). -/
theorem State.finish_draining (h : (s.wave w).state = .draining) :
    (((s.finish w d).wave w).state = .idle ∧ ((s.finish w d).wave w).endCause = .drained) ∨
      (((s.finish w d).wave w).state = .draining ∧ ((s.finish w d).wave w).held ≠ []) := by
  have hstate : ((s.closingAsked w d).wave w).state = .draining := by
    rw [State.closingAsked_wave]
    exact (State.releaseRule_state_of_ne (by rw [h]; decide)).trans h
  rw [State.finish_eq, State.drainedCheck_wave_self]
  split
  next => exact .inl ⟨rfl, rfl⟩
  next hnot => exact .inr ⟨hstate, fun hheld => hnot ⟨hstate, hheld⟩⟩

end

/-! ### The wave's side of a detach (R36, R37) -/

section
variable (s : State) (w : WaveNo) (d : Drive)

theorem State.abortIfEmpty_of_not {s : State} {w : WaveNo} (h : ¬ ((s.wave w).attachments = [] ∧
    ((s.wave w).state = .streaming ∨ (s.wave w).state = .draining))) : s.abortIfEmpty w = s := if_neg h

theorem State.mem_afterDetach_attachments {a : Attachment} (h : a ∈ ((s.afterDetach w d).wave w).attachments) :
    a ∈ (s.wave w).attachments := by
  unfold State.afterDetach State.abortIfEmpty at h
  split at h
  · rw [State.abortWave_wave_self] at h
    exact absurd h List.not_mem_nil
  · have hmem := State.mem_drainedCheck_attachments _ w h
    rw [(State.releaseRule_kept _ w).1, Untouched.raiseDetach_wave] at hmem
    exact hmem

/-- Of what follows a detach only DETACH itself is raised for the drive. -/
theorem State.afterDetach_detach : (s.afterDetach w d).event .detach =
    (s.event .detach).raised .detach (bitMask d.val) (some (.detach w)) := by
  have hraised : (((s.raiseDetach w (bitMask d.val)).releaseRule w).drainedCheck w).event .detach =
      (s.event .detach).raised .detach (bitMask d.val) (some (.detach w)) := by
    rw [State.drainedCheck_event_of_ne _ _ (by decide), State.releaseRule_event_of_ne _ _ (by decide), State.raiseDetach,
      State.raise_event]
  unfold State.afterDetach State.abortIfEmpty
  split
  next h => rw [State.abortWave_detach_of_empty h.1, hraised]
  next => exact hraised

variable {s w}

theorem releasable_of_empty {x : Wave} (h : x.attachments = []) : x.releasable = 0 := by
  have hnone : x.passedBy = fun _ => false := by
    funext e
    simp [Wave.passedBy, h]
  rw [Wave.releasable, hnone]
  cases x.held <;> rfl

/-- A wave left without drives releases nothing (R31), and unless it is drained it comes to the check for an empty
attachment set. -/
theorem State.afterDetach_of_empty (h : (s.wave w).attachments = [])
    (hnot : ¬ ((s.wave w).state = .draining ∧ (s.wave w).held = [])) :
    s.afterDetach w d = (s.raiseDetach w (bitMask d.val)).abortIfEmpty w := by
  rw [State.afterDetach, State.releaseRule_of_none _ _ (releasable_of_empty (by rwa [Untouched.raiseDetach_wave])),
    State.drainedCheck_of_not _ _ (by rwa [Untouched.raiseDetach_wave])]

/-- A wave in STREAMING or DRAINING without drives is aborted (R37 step 4). -/
theorem afterDetach_aborts (h : (s.wave w).attachments = [])
    (hstate : (s.wave w).state = .streaming ∨ ((s.wave w).state = .draining ∧ (s.wave w).held ≠ [])) :
    ((s.afterDetach w d).wave w).atIdle .noDrives ∧
      (s.afterDetach w d).event .waveState = (s.event .waveState).waveRaised w .idle .noDrives := by
  have hnot : ¬ ((s.wave w).state = .draining ∧ (s.wave w).held = []) := by
    rintro ⟨hd, hheld⟩
    rcases hstate with hs | ⟨-, hh⟩
    · simp [hs] at hd
    · exact hh hheld
  have habort : ((s.raiseDetach w (bitMask d.val)).wave w).attachments = [] ∧
      (((s.raiseDetach w (bitMask d.val)).wave w).state = .streaming ∨
        ((s.raiseDetach w (bitMask d.val)).wave w).state = .draining) := by
    rw [Untouched.raiseDetach_wave]
    exact ⟨h, hstate.imp_right And.left⟩
  rw [State.afterDetach_of_empty d h hnot, State.abortIfEmpty, if_pos habort, State.abortWave_wave_self,
    State.abortWave_waveState, State.raiseDetach, State.raise_event_of_ne _ _ _ (by decide)]
  exact ⟨Wave.atIdle_ended _ _, rfl⟩

/-- A wave in OPEN goes on without drives (R37). -/
theorem afterDetach_opened (h : (s.wave w).attachments = []) (hstate : (s.wave w).state = .opened) :
    (s.afterDetach w d).wave w = s.wave w := by
  have hnot : ¬ ((s.wave w).state = .draining ∧ (s.wave w).held = []) := by simp [hstate]
  have hkeep : ¬ (((s.raiseDetach w (bitMask d.val)).wave w).attachments = [] ∧
      (((s.raiseDetach w (bitMask d.val)).wave w).state = .streaming ∨
        ((s.raiseDetach w (bitMask d.val)).wave w).state = .draining)) := by
    simp [hstate]
  rw [State.afterDetach_of_empty d h hnot, State.abortIfEmpty_of_not hkeep, Untouched.raiseDetach_wave]

end

theorem Wave.unattach_eq_nil {x : Wave} {d : Drive} (h : ∀ b ∈ x.attachments, b.drive = d) :
    (x.unattach d).attachments = [] := by
  simpa [Wave.unattach] using h

/-- What a detach of drive `d` from wave `w` leaves of the wave, whatever the drive's side does (R36, R37). -/
def WaveLeft (w : WaveNo) (d : Drive) (s t : State) : Prop :=
  (t.wave w).attachment d = none ∧
    t.event .detach = (s.event .detach).raised .detach (bitMask d.val) (some (.detach w)) ∧
    ((∀ b ∈ (s.wave w).attachments, b.drive = d) →
      ((s.wave w).state = .streaming ∨ ((s.wave w).state = .draining ∧ (s.wave w).held ≠ []) →
        (t.wave w).atIdle .noDrives ∧ t.event .waveState = (s.event .waveState).waveRaised w .idle .noDrives) ∧
      ((s.wave w).state = .opened → (t.wave w).state = .opened ∧ (t.wave w).attachments = []))

theorem waveLeft_afterDetach {w : WaveNo} {d : Drive} {s u : State} (hwave : u.wave w = (s.wave w).unattach d)
    (hdetach : u.event .detach = s.event .detach) (hstate : u.event .waveState = s.event .waveState) :
    WaveLeft w d s (u.afterDetach w d) := by
  refine ⟨?_, (u.afterDetach_detach w d).trans (by rw [hdetach]), fun hall => ?_⟩
  · rw [Wave.attachment_eq_none_iff]
    intro a ha
    have hmem := u.mem_afterDetach_attachments w d ha
    rw [hwave] at hmem
    exact (Wave.attachment_eq_none_iff _ _).mp (Wave.attachment_unattach_self _ d) a hmem
  have hempty : (u.wave w).attachments = [] := by rw [hwave]; exact Wave.unattach_eq_nil hall
  refine ⟨fun h => ?_, fun h => ?_⟩
  · rw [← hstate]
    exact afterDetach_aborts d hempty (by rw [hwave]; exact h)
  · rw [afterDetach_opened d hempty (by rw [hwave]; exact h)]
    exact ⟨by rw [hwave]; exact h, hempty⟩

theorem WaveLeft.then {w : WaveNo} {d : Drive} {s t u : State} (h : WaveLeft w d s t) (hw : u.wave w = t.wave w)
    (hd : u.event .detach = t.event .detach) (hs : u.event .waveState = t.event .waveState) : WaveLeft w d s u := by
  unfold WaveLeft
  rw [hw, hd, hs]
  exact h

/-! ### A WRITE that fails (R88 to R90) -/

/-- The drive that has failed its WRITE unloads, its disc has failed, and its wave goes on without it. -/
theorem detachToUnload_effect (s : State) (w : WaveNo) (d : Drive) (c : FailCause) :
    let t := (s.detachStep w d c).afterDetach w d
    (t.drive d).unloadingWith .unload ∧ BurnFailed d c s t ∧ WaveLeft w d s t := by
  intro t
  have hafter := changes_afterDetach (s.detachStep w d c) w d
  refine ⟨?_, .of_record fun n hn => ⟨(s.record n).use, ?_⟩, waveLeft_afterDetach ?_ ?_ ?_⟩
  · rw [State.drive_congr (hafter .drives (by simp))]
    exact s.detachStep_unloading w d c (.inl rfl)
  · rw [State.record_congr (hafter .records (by simp)), State.detachStep_record, if_pos hn]
    rfl
  · rw [State.detachStep_wave, State.unattach, State.wave_modWave_self]
  · exact s.detachStep_event_of_ne w d c (by decide) (by decide)
  · exact s.detachStep_event_of_ne w d c (by decide) (by decide)

/-! ### The way to FAULTED from BURNING (R64 step 3) -/

theorem State.waveOf_congr {s t : State} (h : t.waves = s.waves) (d : Drive) : t.waveOf d = s.waveOf d := by
  simp only [State.waveOf, State.wave_congr h]

theorem State.faultStarted_holds (s : State) (d : Drive) (n : RecNo) : (s.faultStarted d).holds d n = s.holds d n := by
  unfold State.holds
  rw [State.faultStarted_drive]
  refine State.names_congr (fun m => ?_) (fun m => ?_) _ _ <;> rw [State.faultStarted_record] <;> split <;> rfl

theorem DiscRecord.burnFailed_addCause (r : DiscRecord) (c : FailCause) : (r.addCause c).burnFailed c = r.burnFailed c := by
  cases h : r.cause <;> simp [DiscRecord.addCause, DiscRecord.burnFailed, h]

/-- An attached drive in BURNING goes to FAULTED: its disc has failed, and its wave goes on without it. -/
theorem driveFaulted_burning {s : State} {w : WaveNo} {d : Drive} (hs : (s.drive d).state = .burning)
    (hw : s.waveOf d = some w) : BurnFailed d .driveFault s (s.driveFaulted d) ∧ WaveLeft w d s (s.driveFaulted d) := by
  have hstarted := changes_faultStarted s d
  obtain ⟨u, hu⟩ : ∃ u, u = s.faultStarted d := ⟨_, rfl⟩
  rw [← hu] at hstarted
  have hwu : u.waveOf d = some w := (State.waveOf_congr (hstarted .waves (by simp)) d).trans hw
  have hwork : u.faultWork d .burning = ((u.unattach w d).failBurn d .driveFault).afterDetach w d := by
    rw [State.faultWork, if_pos rfl, State.detachOne_of_attached hwu]
  have hevent {k : EventClass} (ha : k ≠ .applyDone) : ((u.unattach w d).failBurn d .driveFault).event k = s.event k := by
    rw [Untouched.failBurn_event, State.unattach, State.event_modWave', hu, State.faultStarted_event_of_ne _ _ ha]
  have hleft : WaveLeft w d s (u.faultWork d .burning) := by
    rw [hwork]
    refine waveLeft_afterDetach ?_ (hevent (by decide)) (hevent (by decide))
    rw [Untouched.failBurn_wave, State.unattach, State.wave_modWave_self, State.wave_congr (hstarted .waves (by simp))]
  rw [State.driveFaulted_eq, hs, ← hu]
  refine ⟨BurnFailed.then (.of_record fun n hn => ⟨(s.record n).use, ?_⟩) (useOnly_faultSettled _ d),
    hleft.then ?_ (State.faultSettled_event_of_ne _ _ (by decide) (by decide))
      (State.faultSettled_event_of_ne _ _ (by decide) (by decide))⟩
  · have hholds : u.holds d n = true := by rw [hu, State.faultStarted_holds]; exact hn
    rw [State.faultWork_burning_record, if_pos hholds, hu, State.faultStarted_record, if_pos hn,
      DiscRecord.burnFailed_addCause]
    rfl
  · exact State.wave_congr ((changes_faultSettled _ d) .waves (by simp)) w

theorem BurnFailed.of_endedPort {s t : State} {d : Drive} {req : DriveRequest} {e : Ending} {c : FailCause}
    (h : BurnFailed d c (s.endedPort d req e) t) : BurnFailed d c s t := by
  unfold BurnFailed at h ⊢
  rw [State.endedPort_drive] at h
  exact h

/-- A request other than CLOSE and the SPEED of an Apply Now that takes its drive to FAULTED. -/
theorem State.requestEnded_driveFaulted {s : State} {d : Drive} {req : DriveRequest} {e : Ending}
    (h : e.faults req ((s.drive d).ended req e) = true) (hc : req ≠ .close) (ha : req.isApplySpeed = false) :
    s.requestEnded d req e = (s.endedPort d req e).driveFaulted d := by
  rw [State.requestEnded_of_faults h, if_neg (by simp [ha]), State.endedFaulted, State.faultedClose,
    if_neg (fun hclose => hc hclose.1), State.endedPort]

theorem WaveLeft.of_arbiter {w : WaveNo} {d : Drive} {s t : State} (h : WaveLeft w d s t) : WaveLeft w d s t.arbiter :=
  h.then (Untouched.arbiter_wave _ _) (Untouched.arbiter_event _ _) (Untouched.arbiter_event _ _)

/-! ### Replies to WRITE -/

theorem State.waveLength_endedPort (s : State) (d : Drive) (req : DriveRequest) (e : Ending) (w : WaveNo) :
    (s.endedPort d req e).waveLength w = s.waveLength w := rfl

/-- A WRITE short of the image length: the cursor has advanced, and the next WRITE has gone out where sectors wait
(R85, R87). -/
theorem writeDone_goesOn {s : State} {w : WaveNo} {d : Drive} {a : Attachment} (c : Nat)
    (ha : (s.wave w).attachment d = some a) (ho : (s.drive d).outstanding = none) :
    let t := ((s.cursorMoved w d c).releaseRule w).writeSend w d
    (∀ e, e ≠ d → t.drive e = s.drive e) ∧ ∃ b, (t.wave w).attachment d = some b ∧ b.cursor = c ∧
      (t.wave w).head = (s.wave w).head ∧
      (c < (s.wave w).head → b.inFlight = some { first := c, count := min 32 ((s.wave w).head - c) } ∧
        t.drive d = (s.drive d).sent (.write c (min 32 ((s.wave w).head - c))
          (gather (t.wave w).held c (min 32 ((s.wave w).head - c))))) ∧
      (¬ c < (s.wave w).head → b.inFlight = none ∧ t.drive d = s.drive d) := by
  intro t
  obtain ⟨u, hu⟩ : ∃ u, u = (s.cursorMoved w d c).releaseRule w := ⟨_, rfl⟩
  have ht : t = u.writeSend w d := by rw [hu]
  have hdrive : ∀ e, u.drive e = s.drive e := fun e => by
    rw [hu, Untouched.releaseRule_drive, State.cursorMoved, State.drive_modWave']
  have hhead : (u.wave w).head = (s.wave w).head := by
    obtain ⟨as, has⟩ := State.cursorMoved_wave (s := s) (w := w) (d := d) c
    rw [hu, (State.releaseRule_kept _ w).2, has]
  have hatt : (u.wave w).attachment d = some { a with cursor := c, inFlight := none } := by
    rw [hu, State.releaseRule_attachment, State.cursorMoved_attachment ha]
  obtain ⟨as, has⟩ := u.exists_attachments_writeSend w d
  have hheadt : (t.wave w).head = (s.wave w).head := by rw [ht, has]; exact hhead
  have hheldt : (t.wave w).held = (u.wave w).held := by rw [ht, has]
  refine ⟨fun e he => ?_, ?_⟩
  · rw [ht, State.writeSend_drive_of_ne _ _ _ he, hdrive]
  by_cases hlt : c < (s.wave w).head
  · obtain ⟨hd, hb⟩ := writeSend_effect hatt (by rw [hdrive]; exact ho) (by rw [hhead]; exact hlt)
    rw [← ht] at hd hb
    refine ⟨_, hb, rfl, hheadt, fun _ => ⟨?_, ?_⟩, fun hnot => absurd hlt hnot⟩
    · rw [Wave.nextWrite, hhead]
    · rw [hd, hdrive, Wave.writeRequest, hhead, hheldt]
  · have hstays : t = u := by rw [ht]; exact State.writeSend_of_attached hatt (by rw [hhead]; exact fun h => hlt h.2)
    refine ⟨_, by rw [hstays]; exact hatt, rfl, hheadt, fun h => absurd h hlt, fun _ => ⟨rfl, ?_⟩⟩
    rw [hstays, hdrive]

/-- Settles O42: the WRITE that goes on, the one that finishes the drive's wave, and the two kinds of fault. -/
theorem writeReplyEffect : Obligations.WriteReplyEffect := by
  intro d n w a first count data s h hw ha hf hcheck hstate x y c
  have plain : ¬ (DriveRequest.write first count data = .sense ∧ (s.drive d).checkPhase = .sensing) := by simp
  have hwe (e : Ending) : (s.endedPort d (.write first count data) e).waveOf d = some w := hw
  have hae (e : Ending) : ((s.endedPort d (.write first count data) e).wave w).attachment d = some a := ha
  refine ⟨fun p cls => ?done, fun r => ?fault⟩
  case done =>
    have hexec := exec_replyRow_acts h (e := .done p cls.val) rfl plain rfl (r := .done p cls) rfl
    obtain ⟨u, hu⟩ : ∃ u, u = s.endedPort d (.write first count data) (.done p cls.val) := ⟨_, rfl⟩
    have hdrive : u.drive d = y := by rw [hu, State.endedPort_drive, DriveSlot.ended_done]
    have hothers : ∀ e, e ≠ d → u.drive e = s.drive e := fun e he => by rw [hu, State.endedPort_drive_of_ne _ _ _ _ he]
    have hwave : u.wave w = s.wave w := by rw [hu]; rfl
    have hacts : u.requesterActs d (.write first count data) (.done p cls.val) =
        if c = s.waveLength w then (u.cursorMoved w d c).finish w d
        else ((u.cursorMoved w d c).releaseRule w).writeSend w d := by
      rw [hu]
      exact State.writeEnded_done (hwe _) (hae _) hf p cls.val
    rw [← hu, hacts] at hexec
    refine ⟨_, hexec, ?_⟩
    rw [← hwave] at ha ⊢
    simp only [Untouched.arbiter_drive, Untouched.arbiter_wave, Untouched.arbiter_event]
    by_cases hc : c = s.waveLength w
    · rw [if_pos hc]
      obtain ⟨v, hv⟩ : ∃ v, v = u.cursorMoved w d c := ⟨_, rfl⟩
      have hvdrive : ∀ e, v.drive e = u.drive e := fun e => by rw [hv, State.cursorMoved, State.drive_modWave']
      have hvstate : (v.wave w).state = (u.wave w).state := by
        obtain ⟨as, has⟩ := State.cursorMoved_wave (s := u) (w := w) (d := d) c
        rw [hv, has]
      have hvevent : v.event .driveState = s.event .driveState := by rw [hv, hu]; rfl
      have hfree : (v.drive d).portFree = true := by
        rw [hvdrive, hdrive, DriveSlot.portFree_iff]
        exact ⟨rfl, hcheck⟩
      rw [← hv]
      refine ⟨fun e he => ?_, fun hne => absurd hc hne, fun _ => ⟨?_, v.finish_attachment w d, ?_, fun hd => ?_⟩⟩
      · rw [State.finish_drive_of_ne _ _ _ he, hvdrive, hothers e he]
      · rw [State.finish_drive _ _ _ hfree, hvdrive, hdrive]
        rfl
      · rw [State.finish_driveState, hvevent]
      · exact v.finish_draining w d (by rw [hvstate]; exact hd)
    · rw [if_neg hc]
      obtain ⟨hkept, b, hb, hcursor, hhead, hgoes, hwaits⟩ :=
        writeDone_goesOn c ha (d := d) (by rw [hdrive])
      refine ⟨fun e he => (hkept e he).trans (hothers e he), fun _ => ⟨b, hb, hcursor, hhead, fun hlt => ?_, fun hlt => ?_⟩,
        fun heq => absurd heq hc⟩
      · rw [hdrive] at hgoes
        exact hgoes hlt
      · rw [hdrive] at hwaits
        exact hwaits hlt
  case fault =>
    by_cases hr : r = .tray
    · subst hr
      have hfaults := (Ending.faults_fault (.write first count data) (s.drive d) .tray).mpr (.inl rfl)
      have hexec := exec_replyRow_of_outstanding h.1 (.fault .tray)
      have hended := State.requestEnded_driveFaulted (s := s) hfaults (by simp) rfl
      have hburning : ((s.endedPort d (.write first count data) (.fault .tray)).drive d).state = .burning := by
        rw [State.endedPort_drive]; exact hstate
      obtain ⟨hburn, hleft⟩ := driveFaulted_burning hburning (hwe _)
      have hfaulted := faultedWith_requestEnded (s := s) hfaults (f := .fault .write .tray) rfl
      have hlefta := hleft.of_arbiter
      have hburna := hburn.of_endedPort.then (useOnly_arbiter _)
      rw [← hended] at hlefta hburna
      exact ⟨_, hexec, hlefta.1, fun hne => absurd rfl hne, fun _ => ⟨hfaulted, hburna⟩, hlefta.2⟩
    · have good := Ending.faults_fault_of_other (req := .write first count data) (x := s.drive d) hr (by simp) (by simp)
        (by simp)
      have hexec := exec_replyRow_acts h (e := .fault r) good plain rfl (r := .fault r) rfl
      obtain ⟨hunload, hburn, hleft⟩ :=
        detachToUnload_effect (s.endedPort d (.write first count data) (.fault r)) w d .writeFault
      rw [DriveRequest.replyRow, State.requesterActs, State.writeEnded_fault (hwe _) (hae _)] at hexec
      refine ⟨_, hexec, hleft.of_arbiter.1, fun _ => ⟨?_, hburn.of_endedPort.then (useOnly_arbiter _)⟩,
        fun heq => absurd heq hr, hleft.of_arbiter.2⟩
      rw [Untouched.arbiter_drive]
      exact hunload

end Sys2Proof.Machine
end

section
/-! A data frame that is accepted (R23 to R25; O16). -/

namespace Sys2Proof.Machine

/-! ### What the sectors of a frame leave (R8 to R11) -/

section
variable {s t : State} (w : WaveNo) (ha : t.accs = s.accs) (hi : t.images = s.images)
include ha hi

/-- What a sector does in the accumulator reads and writes the accumulators and the image slots alone. -/
theorem State.takeSector_congr (p : List Byte) : (t.takeSector w p).2 = (s.takeSector w p).2 ∧
    (t.takeSector w p).1.accs = (s.takeSector w p).1.accs ∧ (t.takeSector w p).1.images = (s.takeSector w p).1.images := by
  have hacc : t.acc w = s.acc w := State.acc_congr ha w
  have himage : ∀ i, t.image i = s.image i := State.image_congr hi
  unfold State.takeSector State.fillDigest State.raiseImage
  simp only [hacc, himage]
  split
  · exact ⟨rfl, ha, hi⟩
  · split
    · split
      · refine ⟨rfl, ?_, ?_⟩ <;> split <;> simp [State.modAcc, State.modImage, State.acc, State.image, ha, hi]
      · split
        · simp [State.modAcc, State.acc, ha, hi]
        · simp [State.modAcc, State.acc, ha, hi]
      · exact ⟨rfl, ha, hi⟩
    · simp [State.modAcc, State.acc, ha, hi]

theorem State.takeSectors_flag_congr (l : List (List Byte)) : (t.takeSectors w l).2 = (s.takeSectors w l).2 := by
  induction l generalizing s t with
  | nil => rfl
  | cons p l ih =>
    obtain ⟨hflag, haccs, himages⟩ := State.takeSector_congr w ha hi p
    rw [State.takeSectors, State.takeSectors]
    rcases hs : s.takeSector w p with ⟨s', b⟩
    rcases ht : t.takeSector w p with ⟨t', c⟩
    rw [hs, ht] at hflag haccs himages
    dsimp only at hflag haccs himages
    subst hflag
    cases c with
    | true => rfl
    | false => exact ih haccs himages

end

theorem State.modImage_length (s : State) (i j : SlotNo) {f : ImageSlot → ImageSlot} (hf : ∀ x, (f x).length = x.length) :
    ((s.modImage i f).image j).length = (s.image j).length := by
  by_cases h : i = j
  · subst h
    rw [State.image_modImage_self, hf]
  · rw [State.image_modImage_of_ne _ _ _ _ h]

theorem State.fillDigest_kept (s : State) (i : SlotNo) (digest : Word32) (last : Bool) :
    (∀ j, ((s.fillDigest i digest last).image j).length = (s.image j).length) ∧
      ∀ k, k ≠ .imageState → (s.fillDigest i digest last).event k = s.event k := by
  unfold State.fillDigest State.raiseImage
  dsimp only
  split
  · refine ⟨fun j => ?_, fun k hk => ?_⟩
    · rw [Untouched.raise_image]
      refine (State.modImage_length _ _ _ ?_).trans (State.modImage_length _ _ _ ?_) <;> exact fun _ => rfl
    · rw [State.raise_event_of_ne _ _ _ hk]
      rfl
  · exact ⟨fun j => State.modImage_length _ _ _ (fun _ => rfl), fun _ _ => rfl⟩

/-- A sector leaves the lengths of the image slots, and raises at most IMAGE-STATE. -/
theorem State.takeSector_kept (s : State) (w : WaveNo) (p : List Byte) :
    (∀ j, ((s.takeSector w p).1.image j).length = (s.image j).length) ∧
      ∀ k, k ≠ .imageState → (s.takeSector w p).1.event k = s.event k := by
  unfold State.takeSector
  dsimp only
  split
  · exact ⟨fun _ => rfl, fun _ _ => rfl⟩
  next i _ =>
    split
    · split
      · exact State.fillDigest_kept (s.modAcc w _) i _ _
      · split
        · exact ⟨fun _ => rfl, fun _ _ => rfl⟩
        · refine ⟨fun j => ?_, fun k hk => ?_⟩
          · rw [Untouched.raiseImage_image]
            rfl
          · rw [State.raiseImage, State.raise_event_of_ne _ _ _ hk]
            rfl
      · exact ⟨fun _ => rfl, fun _ _ => rfl⟩
    · exact ⟨fun _ => rfl, fun _ _ => rfl⟩

theorem State.takeSectors_kept (s : State) (w : WaveNo) (l : List (List Byte)) :
    (∀ j, ((s.takeSectors w l).1.image j).length = (s.image j).length) ∧
      ∀ k, k ≠ .imageState → (s.takeSectors w l).1.event k = s.event k := by
  induction l generalizing s with
  | nil => exact ⟨fun _ => rfl, fun _ _ => rfl⟩
  | cons p l ih =>
    have hp := s.takeSector_kept w p
    rw [State.takeSectors]
    rcases hq : s.takeSector w p with ⟨u, conflict⟩
    rw [hq] at hp
    cases conflict with
    | true => exact hp
    | false =>
      obtain ⟨hlength, hevent⟩ := ih u
      exact ⟨fun j => (hlength j).trans (hp.1 j), fun k hk => (hevent k hk).trans (hp.2 k hk)⟩

/-! ### The WRITEs of a wave (R23 step 6) -/

/-- What a WRITE reads and changes of a drive: its port and its attachment. -/
def State.burner (s : State) (w : WaveNo) (d : Drive) : DriveSlot × Option Attachment :=
  (s.drive d, (s.wave w).attachment d)

/-- A drive and its attachment after it was told that the head has advanced (R85). -/
def Wave.told (x : Wave) (p : DriveSlot × Option Attachment) : DriveSlot × Option Attachment :=
  match p.2 with
  | some a =>
    if p.1.outstanding = none ∧ a.cursor < x.head then
      (p.1.sent (x.writeRequest a.cursor), some { a with inFlight := some (x.nextWrite a.cursor) })
    else p
  | none => p

theorem Wave.told_told (x : Wave) (p : DriveSlot × Option Attachment) : x.told (x.told p) = x.told p := by
  obtain ⟨y, a⟩ := p
  cases a with
  | none => rfl
  | some a =>
    by_cases h : y.outstanding = none ∧ a.cursor < x.head
    · simp [Wave.told, h, DriveSlot.sent]
    · simp [Wave.told, h]

section
variable {s : State} {w : WaveNo} {d : Drive}

theorem State.burner_writeSend_self : (s.writeSend w d).burner w d = (s.wave w).told (s.burner w d) := by
  unfold State.burner Wave.told
  cases ha : (s.wave w).attachment d with
  | none =>
    rw [State.writeSend_of_unattached ha, ha]
  | some a =>
    dsimp only
    split
    next h =>
      obtain ⟨hd, hb⟩ := writeSend_effect ha h.1 h.2
      rw [hd, hb]
    next h => rw [State.writeSend_of_attached ha h, ha]

theorem State.burner_writeSend_of_ne {e : Drive} (h : e ≠ d) : (s.writeSend w d).burner w e = s.burner w e := by
  rw [State.burner, State.writeSend_drive_of_ne _ _ _ h, State.writeSend_attachment_of_ne _ _ _ h]
  rfl

theorem State.told_writeSend : ((s.writeSend w d).wave w).told = (s.wave w).told := by
  obtain ⟨as, has⟩ := s.exists_attachments_writeSend w d
  rw [has]
  rfl

/-- Drives told in turn, in whatever order and however often, have each been told once. -/
theorem burner_foldl_writeSend (ds : List Drive) :
    (∃ as, ((ds.foldl (fun t d => t.writeSend w d) s).wave w) = { s.wave w with attachments := as }) ∧
    (∀ v, v ≠ w → (ds.foldl (fun t d => t.writeSend w d) s).wave v = s.wave v) ∧
    ∀ d, (ds.foldl (fun t d => t.writeSend w d) s).burner w d =
      if d ∈ ds then (s.wave w).told (s.burner w d) else s.burner w d := by
  induction ds generalizing s with
  | nil => exact ⟨⟨_, rfl⟩, fun _ _ => rfl, fun d => by simp⟩
  | cons e ds ih =>
    obtain ⟨⟨as, has⟩, hothers, hburner⟩ := ih (s := s.writeSend w e)
    obtain ⟨bs, hbs⟩ := s.exists_attachments_writeSend w e
    rw [List.foldl_cons]
    refine ⟨⟨as, by rw [has, hbs]⟩, fun v hv => by rw [hothers v hv, State.writeSend_wave_of_ne _ _ _ hv], fun d => ?_⟩
    rw [hburner, State.told_writeSend]
    by_cases hd : d = e
    · subst hd
      rw [State.burner_writeSend_self, Wave.told_told, ite_self, if_pos List.mem_cons_self]
    · rw [State.burner_writeSend_of_ne hd]
      simp only [List.mem_cons, hd, false_or]

theorem State.writeAll_burner (d : Drive) : (s.writeAll w).burner w d = (s.wave w).told (s.burner w d) := by
  rw [State.writeAll, (burner_foldl_writeSend _).2.2]
  by_cases h : (s.wave w).attachment d = none
  · have hstays : (s.wave w).told (s.burner w d) = s.burner w d := by simp [Wave.told, State.burner, h]
    rw [hstays, ite_self]
  · exact if_pos (((s.wave w).mem_drives d).mpr h)

theorem State.writeAll_wave : ∃ as, (s.writeAll w).wave w = { s.wave w with attachments := as } :=
  (burner_foldl_writeSend _).1

theorem State.writeAll_wave_of_ne {v : WaveNo} (h : v ≠ w) : (s.writeAll w).wave v = s.wave v :=
  (burner_foldl_writeSend _).2.1 v h

end

/-- The drives of a wave have been told in a state that differs from `s` in neither drives nor attachments. -/
theorem writesSent_writeAll {s u : State} {w : WaveNo} (hd : ∀ d, u.drive d = s.drive d)
    (ha : (u.wave w).attachments = (s.wave w).attachments) : WritesSent w s (u.writeAll w) := by
  intro d
  have hatt : (u.wave w).attachment d = (s.wave w).attachment d := by rw [Wave.attachment, ha]; rfl
  have hburner := State.writeAll_burner (s := u) (w := w) d
  obtain ⟨as, has⟩ := State.writeAll_wave (s := u) (w := w)
  obtain ⟨t, ht⟩ : ∃ t, t = u.writeAll w := ⟨_, rfl⟩
  rw [← ht] at hburner has ⊢
  have hhead : (t.wave w).head = (u.wave w).head := by rw [has]
  have hheld : (t.wave w).held = (u.wave w).held := by rw [has]
  rw [State.burner, State.burner, hd, hatt] at hburner
  cases hsome : (s.wave w).attachment d with
  | none =>
    rw [hsome] at hburner
    exact Prod.mk.inj hburner
  | some a =>
    rw [hsome] at hburner
    dsimp only
    rw [hhead, hheld]
    unfold Wave.told at hburner
    dsimp only at hburner
    split
    next h =>
      rw [if_pos h] at hburner
      exact Prod.mk.inj hburner
    next h =>
      rw [if_neg h] at hburner
      exact Prod.mk.inj hburner

/-! ### The head at the image length, and the starvation timer (R23 step 5, R25) -/

section
variable {s : State} {w : WaveNo}

/-- The wave has gone to DRAINING, before the check for drives. -/
def State.draining (s : State) (w : WaveNo) : State :=
  (s.modWave w (fun x => { x with state := .draining })).raiseWave w .draining .headAtLength

theorem State.draining_wave : (s.draining w).wave w = { s.wave w with state := .draining } := by
  rw [State.draining, State.raiseWave, Untouched.raise_wave, State.wave_modWave_self]

theorem State.draining_wave_of_ne {v : WaveNo} (h : v ≠ w) : (s.draining w).wave v = s.wave v := by
  rw [State.draining, State.raiseWave, Untouched.raise_wave, State.wave_modWave_of_ne _ _ _ _ h.symm]

theorem State.draining_waveState :
    (s.draining w).event .waveState = (s.event .waveState).waveRaised w .draining .headAtLength := by
  rw [State.draining, State.raiseWave, State.raise_event]
  rfl

theorem State.draining_drive (d : Drive) : (s.draining w).drive d = s.drive d := by
  rw [State.draining, State.raiseWave, Untouched.raise_drive]
  rfl

theorem State.startTimer_of_not (h : ¬ (((s.wave w).state = .opened ∨ (s.wave w).state = .streaming) ∧
    (s.wave w).occupied = (s.wave w).capacity)) : s.startTimer w = s := if_neg h

theorem State.startTimer_wave_of_ne {v : WaveNo} (h : v ≠ w) : (s.startTimer w).wave v = s.wave v := by
  unfold State.startTimer
  split
  · rw [State.wave_modWave_of_ne _ _ _ _ h.symm]
  · rfl

theorem State.startTimer_wave (h : (s.wave w).state = .opened ∨ (s.wave w).state = .streaming) :
    (s.startTimer w).wave w = { s.wave w with
      timerRunning := if (s.wave w).occupied = (s.wave w).capacity then true else (s.wave w).timerRunning } := by
  unfold State.startTimer
  by_cases hfull : (s.wave w).occupied = (s.wave w).capacity
  · rw [if_pos ⟨h, hfull⟩, State.wave_modWave_self, if_pos hfull]
  · rw [if_neg (fun hc => hfull hc.2), if_neg hfull]

theorem State.writeAll_of_empty (h : (s.wave w).attachments = []) : s.writeAll w = s := by
  rw [State.writeAll, h]
  rfl

/-- At the image length a wave without drives is aborted (R25). -/
theorem State.afterTake_aborted (hend : (s.wave w).head = s.waveLength w) (h : (s.wave w).attachments = []) :
    s.afterTake w = (s.draining w).abortWave w .noDrives := by
  have hempty : ((s.draining w).wave w).attachments = [] := by rw [State.draining_wave]; exact h
  have hdrain : s.drain w = (s.draining w).abortWave w .noDrives := if_pos hempty
  have hended := State.abortWave_wave_self (s.draining w) w .noDrives
  rw [State.afterTake, if_pos hend, hdrain, State.startTimer_of_not, State.writeAll_of_empty]
  · rw [hended]; rfl
  · rw [hended]
    rintro ⟨hstate | hstate, -⟩ <;> simp [Wave.ended] at hstate

/-- At the image length a wave with drives drains (R25). -/
theorem State.afterTake_draining (hend : (s.wave w).head = s.waveLength w) (h : (s.wave w).attachments ≠ []) :
    s.afterTake w = (s.draining w).writeAll w := by
  have hsome : ¬ ((s.draining w).wave w).attachments = [] := by rw [State.draining_wave]; exact h
  have hdrain : s.drain w = s.draining w := if_neg hsome
  rw [State.afterTake, if_pos hend, hdrain, State.startTimer_of_not]
  rw [State.draining_wave]
  rintro ⟨hstate | hstate, -⟩ <;> simp at hstate

theorem State.afterTake_goesOn (hend : (s.wave w).head ≠ s.waveLength w) :
    s.afterTake w = (s.startTimer w).writeAll w := by
  rw [State.afterTake, if_neg hend]

end

/-! ### An accepted frame -/

/-- The frame's slots are held and the head has advanced, before IS takes the sectors (R23 steps 1 to 3). -/
def State.frameHeld (s : State) (w : WaveNo) (entries : List HeldEntry) (count : Nat) : State :=
  (s.countAccepted).modWave w (fun x => { x with held := x.held ++ entries, head := x.head + count })

/-- A wave that holds a frame's slots. -/
def Wave.withFrame (x : Wave) (entries : List HeldEntry) (count : Nat) : Wave :=
  { x with held := x.held ++ entries, head := x.head + count }

section
variable (s : State) (w : WaveNo) (entries : List HeldEntry) (count : Nat) (sectors : List (List Byte))

/-- IS has taken the sectors of the frame, up to a conflict. -/
def State.frameTaken (s : State) (w : WaveNo) (entries : List HeldEntry) (count : Nat) (sectors : List (List Byte)) : State :=
  ((s.frameHeld w entries count).takeSectors w sectors).1

theorem State.acceptFrame_eq : s.acceptFrame w entries count sectors =
    if (s.takeSectors w sectors).2 = true then (s.frameTaken w entries count sectors).abortWave w .conflict
    else (s.frameTaken w entries count sectors).afterTake w := by
  have hflag : ((s.frameHeld w entries count).takeSectors w sectors).2 = (s.takeSectors w sectors).2 :=
    State.takeSectors_flag_congr (s := s) (t := s.frameHeld w entries count) w rfl rfl sectors
  rw [← hflag, State.frameTaken, State.acceptFrame]
  change (match (s.frameHeld w entries count).takeSectors w sectors with
    | (u, true) => u.abortWave w .conflict
    | (u, false) => u.afterTake w) = _
  rcases (s.frameHeld w entries count).takeSectors w sectors with ⟨u, conflict⟩
  cases conflict <;> rfl

theorem State.frameTaken_wave : (s.frameTaken w entries count sectors).wave w = (s.wave w).withFrame entries count := by
  rw [State.frameTaken, State.wave_congr ((changes_takeSectors _ w sectors) .waves (by simp)), State.frameHeld,
    State.wave_modWave_self]
  rfl

theorem State.frameTaken_wave_of_ne {v : WaveNo} (h : v ≠ w) :
    (s.frameTaken w entries count sectors).wave v = s.wave v := by
  rw [State.frameTaken, State.wave_congr ((changes_takeSectors _ w sectors) .waves (by simp)), State.frameHeld,
    State.wave_modWave_of_ne _ _ _ _ h.symm]
  rfl

theorem State.frameTaken_drive (d : Drive) : (s.frameTaken w entries count sectors).drive d = s.drive d := by
  rw [State.frameTaken, State.drive_congr ((changes_takeSectors _ w sectors) .drives (by simp))]
  rfl

theorem State.frameTaken_event {k : EventClass} (h : k ≠ .imageState) :
    (s.frameTaken w entries count sectors).event k = s.event k :=
  ((s.frameHeld w entries count).takeSectors_kept w sectors).2 k h

theorem State.frameTaken_waveLength : (s.frameTaken w entries count sectors).waveLength w = s.waveLength w := by
  have hlength := ((s.frameHeld w entries count).takeSectors_kept w sectors).1
  have hslot : ((s.wave w).withFrame entries count).slot = (s.wave w).slot := rfl
  rw [State.waveLength, State.frameTaken_wave, hslot, State.waveLength]
  cases (s.wave w).slot with
  | none => rfl
  | some i => exact hlength i

end

theorem FrameAccepted.of_arbiter {w : WaveNo} {entries : List HeldEntry} {count : Nat} {sectors : List (List Byte)}
    {s t : State} (h : FrameAccepted w entries count sectors s t) : FrameAccepted w entries count sectors s t.arbiter := by
  unfold FrameAccepted WritesSent DetachRaised at h ⊢
  simpa only [Untouched.arbiter_wave, Untouched.arbiter_drive, Untouched.arbiter_event, Untouched.arbiter_feed] using h

theorem frameAccepted_acceptFrame {s : State} {w : WaveNo}
    (hstate : (s.wave w).state = .opened ∨ (s.wave w).state = .streaming) (entries : List HeldEntry) (count : Nat)
    (sectors : List (List Byte)) : FrameAccepted w entries count sectors s (s.acceptFrame w entries count sectors) := by
  unfold FrameAccepted
  intro x y
  obtain ⟨u, hu⟩ : ∃ u, u = s.frameTaken w entries count sectors := ⟨_, rfl⟩
  have hfeed := s.acceptFrame_feed w entries count sectors
  have heq := s.acceptFrame_eq w entries count sectors
  obtain ⟨t, ht⟩ : ∃ t, t = s.acceptFrame w entries count sectors := ⟨_, rfl⟩
  have hy : y = t.wave w := by rw [ht]
  have hwave : u.wave w = x.withFrame entries count := by rw [hu, State.frameTaken_wave]
  have hothers {v : WaveNo} (hv : v ≠ w) : u.wave v = s.wave v := by rw [hu, State.frameTaken_wave_of_ne _ _ _ _ _ hv]
  have hdrive : ∀ d, u.drive d = s.drive d := fun d => by rw [hu, State.frameTaken_drive]
  have hevent {k : EventClass} (hk : k ≠ .imageState) : u.event k = s.event k := by rw [hu, State.frameTaken_event _ _ _ _ _ hk]
  have hend : (u.wave w).head = u.waveLength w ↔ x.head + count = s.waveLength w := by
    rw [hwave, hu, State.frameTaken_waveLength]
    rfl
  rw [← ht] at hfeed heq ⊢
  rw [← hu] at heq
  rw [hy]
  clear hy
  suffices h : (t.wave w).head = x.head + count ∧ (∀ v, v ≠ w → t.wave v = s.wave v) ∧ _ from ⟨hfeed, h⟩
  by_cases hconflict : (s.takeSectors w sectors).2 = true
  · rw [if_pos hconflict] at heq
    rw [if_pos hconflict, heq, State.abortWave_wave_self, State.abortWave_waveState, hevent (by decide), hwave]
    have hraised := detachRaised_abortWave u w .conflict
    unfold DetachRaised at hraised
    rw [hwave, hevent (by decide)] at hraised
    exact ⟨rfl, fun v hv => by rw [State.abortWave_wave_of_ne _ _ _ hv, hothers hv], Wave.atIdle_ended _ _, rfl, hraised⟩
  rw [if_neg hconflict] at heq
  rw [if_neg hconflict]
  by_cases hlen : x.head + count = s.waveLength w
  · rw [if_pos hlen]
    have hdrain : (u.draining w).event .waveState = (s.event .waveState).waveRaised w .draining .headAtLength := by
      rw [State.draining_waveState, hevent (by decide)]
    by_cases hempty : x.attachments = []
    · have habort := State.afterTake_aborted (hend.mpr hlen) (by rw [hwave]; exact hempty)
      rw [if_pos hempty, heq, habort, State.abortWave_wave_self, State.abortWave_waveState, hdrain, State.draining_wave, hwave]
      exact ⟨rfl, fun v hv => by rw [State.abortWave_wave_of_ne _ _ _ hv, State.draining_wave_of_ne hv, hothers hv],
        Wave.atIdle_ended _ _, rfl⟩
    · have hgoes := State.afterTake_draining (hend.mpr hlen) (by rw [hwave]; exact hempty)
      obtain ⟨as, has⟩ := State.writeAll_wave (s := u.draining w) (w := w)
      rw [State.draining_wave, hwave] at has
      have hwrites := writesSent_writeAll (s := s) (u := u.draining w) (w := w)
        (fun d => by rw [State.draining_drive, hdrive]) (by rw [State.draining_wave, hwave]; rfl)
      have hraised : ((u.draining w).writeAll w).event .waveState = (u.draining w).event .waveState :=
        State.event_congr ((changes_writeAll _ w) .events (by simp)) _
      rw [if_neg hempty, heq, hgoes, has, hraised, hdrain]
      exact ⟨rfl, fun v hv => by rw [State.writeAll_wave_of_ne hv, State.draining_wave_of_ne hv, hothers hv],
        rfl, rfl, rfl, rfl, hwrites⟩
  · rw [if_neg hlen]
    have hgoes := State.afterTake_goesOn (mt hend.mp hlen)
    have htimer := State.startTimer_wave (s := u) (w := w) (by rw [hwave]; exact hstate)
    rw [hwave] at htimer
    obtain ⟨as, has⟩ := State.writeAll_wave (s := u.startTimer w) (w := w)
    rw [htimer] at has
    have hkept := changes_startTimer u w
    have hwrites := writesSent_writeAll (s := s) (u := u.startTimer w) (w := w)
      (fun d => by rw [State.drive_congr (hkept .drives (by simp)), hdrive]) (by rw [htimer]; rfl)
    have hraised : ((u.startTimer w).writeAll w).event .waveState = s.event .waveState := by
      rw [State.event_congr ((changes_writeAll _ w) .events (by simp)), State.event_congr (hkept .events (by simp)),
        hevent (by decide)]
    rw [heq, hgoes, has, hraised]
    refine ⟨rfl, fun v hv => by rw [State.writeAll_wave_of_ne hv, State.startTimer_wave_of_ne hv, hothers hv],
      rfl, rfl, rfl, ?_, rfl, hwrites⟩
    have hoccupied : (x.withFrame entries count).occupied = x.held.length + entries.length := List.length_append
    have hcapacity : (x.withFrame entries count).capacity = x.capacity := rfl
    have hrunning : (x.withFrame entries count).timerRunning = x.timerRunning := rfl
    dsimp only
    rw [hoccupied, hcapacity, hrunning]
    split
    next h => simp [h]
    next h => simp [h]

/-- A frame in order, within the image and with room in the window, meets no check of R22. -/
theorem State.frameCause_eq_none {s : State} {w : WaveNo} {first count slots : Nat}
    (hstate : (s.wave w).state = .opened ∨ (s.wave w).state = .streaming) (hfirst : first = (s.wave w).head)
    (hlen : first + count ≤ s.waveLength w) (hroom : (s.wave w).held.length + slots ≤ (s.wave w).capacity) :
    s.frameCause w first count slots = none := by
  unfold State.frameCause Wave.occupied
  rw [if_neg (fun h => hstate.elim h.1 h.2), if_neg (fun h => h hfirst), if_neg (by omega), if_neg (by omega)]

/-- Settles O16: both data frames pass the checks and are accepted. -/
theorem dataFrameAccepted : Obligations.DataFrameAccepted := by
  intro w first s hstate hfirst
  refine ⟨fun l hok hlen hroom => ?sector, fun k p hok hlen hroom => ?run⟩
  case sector =>
    have hexec : exec (.sector w first l) s =
        .next (s.acceptFrame w (sectorEntries first.toNat l) l.length l).arbiter := by
      show execSector w first l s = _
      rw [execSector, if_pos hok, State.sectorFrame, State.frameCause_eq_none hstate hfirst hlen hroom]
    exact ⟨_, hexec, (frameAccepted_acceptFrame hstate _ _ _).of_arbiter⟩
  case run =>
    have hexec : exec (.run w first k p) s =
        .next (s.acceptFrame w [{ first := first.toNat, last := first.toNat + k.toNat, isRun := true, payload := p }]
          (k.toNat + 1) (List.replicate (k.toNat + 1) p)).arbiter := by
      show execRun w first k p s = _
      rw [execRun, if_pos hok, State.runFrame, State.frameCause_eq_none hstate hfirst hlen hroom]
    exact ⟨_, hexec, (frameAccepted_acceptFrame hstate _ _ _).of_arbiter⟩

end Sys2Proof.Machine
end

section
/-! How a CLOSE ends (R95 to R97), and the entry to a verify (R101 to R103; O43). -/

namespace Sys2Proof.Machine

/-! ### What the context rule leaves (R103) -/

section
variable (s : State)

theorem State.takeContext_save (e : Drive) : ∃ st, s.takeContext.save e = { s.save e with sub := st } := by
  cases hc : s.freeContext with
  | none => rw [State.takeContext_of_busy hc]; exact ⟨_, rfl⟩
  | some c =>
    cases hq : s.verifyQueue with
    | nil => rw [State.takeContext_of_nil hq]; exact ⟨_, rfl⟩
    | cons q rest =>
      have hsave := State.headReads_save (s := s) (c := c) (q := q) (rest := rest) e
      rw [State.takeContext_of_free hc hq]
      rw [State.headReads] at hsave
      rw [hsave]
      split
      next h => rw [h]; exact ⟨_, rfl⟩
      next => exact ⟨_, rfl⟩

/-- A context taken changes of a save only its substate. -/
theorem State.contextRule_save (e : Drive) : ∃ st, s.contextRule.save e = { s.save e with sub := st } :=
  List.foldlRecOn (motive := fun t : State => ∃ st, t.save e = { s.save e with sub := st }) s.verifyQueue
    (fun t _ => t.takeContext) ⟨_, rfl⟩ (fun t ⟨st, hst⟩ _ _ => by
      obtain ⟨st', hst'⟩ := t.takeContext_save e
      exact ⟨st', hst'.trans (by rw [hst])⟩)

theorem State.takeContext_discSide (e : Drive) : (s.takeContext.drive e).discSide = (s.drive e).discSide := by
  cases hc : s.freeContext with
  | none => rw [State.takeContext_of_busy hc]
  | some c =>
    cases hq : s.verifyQueue with
    | nil => rw [State.takeContext_of_nil hq]
    | cons q rest =>
      have hread := State.headReads_eq (s := s) (c := c) (q := q) (rest := rest)
      rw [State.takeContext_of_free hc hq]
      rw [State.headReads] at hread
      rw [hread]
      by_cases h : e = q
      · subst h
        exact State.askDrive_discSide _ e _
      · rw [State.askDrive_drive_of_ne _ _ h]
        rfl

/-- The READ of a new context leaves the disc side of its drive. -/
theorem State.contextRule_discSide (e : Drive) : (s.contextRule.drive e).discSide = (s.drive e).discSide :=
  List.foldlRecOn (motive := fun t : State => (t.drive e).discSide = (s.drive e).discSide) s.verifyQueue
    (fun t _ => t.takeContext) rfl (fun t ht _ _ => (t.takeContext_discSide e).trans ht)

end

/-- The READ of a new context goes out on its drive's free port (R103, R105). -/
theorem State.headReads_drive {s : State} {c : Fin 4} {q : Drive} {rest : List Drive} (h : (s.drive q).portFree = true) :
    (s.headReads c q rest).drive q = (s.drive q).sent (.read (16 * (s.save q).progress.next)
      ((s.save q).readCount (s.save q).progress.next)) := by
  have hslot (f : Context → Context) : ((s.headTaken c q rest).modContext c f).drive q = s.drive q := by
    rw [State.modContext, State.drive_setContext', State.headTaken, State.drive_setContext', State.drive_modSave',
      State.drive_setVerifyQueue']
  rw [State.headReads_eq, State.askDrive_drive_of_free _ _ _ (by rw [hslot]; exact h), hslot]

/-! ### The entry to a verify (R98, R101) -/

section
variable (s : State) (d : Drive) (i : SlotNo) (a : Assignment)

/-- Drive `d` has joined the tail of the queue, before the context rule. -/
def State.verifyEntered (s : State) (d : Drive) (i : SlotNo) (a : Assignment) : State :=
  let t := (s.modDrive d (fun x => { x with state := .verifying, phase := .noPhase })).modImage i
    (fun x => { x with verifyCount := x.verifyCount + 1 })
  let u := (t.modSave d (fun _ => VerifySave.start i (s.image i).length a)).raiseDrive d
  u.setVerifyQueue (u.verifyQueue ++ [d])

theorem State.enterVerify_eq : s.enterVerify d i a = (s.verifyEntered d i a).contextRule := rfl

theorem State.verifyEntered_drive :
    (s.verifyEntered d i a).drive d = { s.drive d with state := .verifying, phase := .noPhase } := by
  rw [State.verifyEntered, State.drive_setVerifyQueue', State.raiseDrive, Untouched.raise_drive, State.drive_modSave',
    State.drive_modImage', State.drive_modDrive_self]

theorem State.verifyEntered_image : (s.verifyEntered d i a).image i =
    { s.image i with verifyCount := (s.image i).verifyCount + 1 } := by
  rw [State.verifyEntered, State.image_setVerifyQueue', State.raiseDrive, Untouched.raise_image, State.image_modSave',
    State.image_modImage_self]
  rfl

theorem State.verifyEntered_save : (s.verifyEntered d i a).save d = VerifySave.start i (s.image i).length a := by
  rw [State.verifyEntered, State.save_setVerifyQueue', State.raiseDrive, Untouched.raise_save, State.save_modSave_self]

theorem State.verifyEntered_queue : (s.verifyEntered d i a).verifyQueue = s.verifyQueue ++ [d] := by
  rw [State.verifyEntered, State.raiseDrive, State.setVerifyQueue_verifyQueue, Untouched.raise_verifyQueue]
  rfl

theorem State.verifyEntered_context (c : Fin 4) : (s.verifyEntered d i a).context c = s.context c := by
  rw [State.verifyEntered, State.context_setVerifyQueue', State.raiseDrive, Untouched.raise_context]
  rfl

theorem State.verifyEntered_contexts : (s.verifyEntered d i a).contexts = s.contexts := by
  rw [State.verifyEntered, State.raiseDrive, State.setVerifyQueue_contexts, Untouched.raise_contexts]
  rfl

theorem State.verifyEntered_record (n : RecNo) : (s.verifyEntered d i a).record n = s.record n := by
  rw [State.verifyEntered, State.record_setVerifyQueue', State.raiseDrive, Untouched.raise_record]
  rfl

theorem State.verifyEntered_pending : ((s.verifyEntered d i a).event .driveState).pending = true := by
  rw [State.verifyEntered, State.event_setVerifyQueue', State.raiseDrive, State.raise_pending]

end

/-! ### CLOSE answered DONE (R95) -/

/-- The burn of the disc that a token names has passed. -/
def State.burnPassed (s : State) (k : Token) : State := s.modRecord k.num (fun r => { r with burn := .pass })

/-- Verify was skipped for the disc that a token names. -/
def State.verifySkipped (s : State) (k : Token) : State := s.modRecord k.num (fun r => { r with verify := .skipped })

section
variable {s : State} {d : Drive} {k : Token} {a : Assignment} (hk : (s.drive d).trayRecord = some k)
  (hl : s.live k = true) (ha : (s.drive d).active = some a)

theorem State.live_modRecord (hl : s.live k = true) {f : DiscRecord → DiscRecord} (hu : ∀ r, (f r).use = r.use)
    (hg : ∀ r, (f r).gen = r.gen) : (s.modRecord k.num f).live k = true := by
  simpa [State.live, hu, hg] using hl

include hk hl in
theorem State.trayRecordOf_burnPassed :
    (s.burnPassed k).trayRecordOf d = some { s.record k.num with burn := .pass } := by
  have hlive := State.live_modRecord (f := fun r => { r with burn := .pass }) hl (fun _ => rfl) (fun _ => rfl)
  rw [State.trayRecordOf_of_live (s := s.burnPassed k) hk hlive, State.burnPassed, State.record_modRecord_self]

include hk hl ha

theorem State.closeDone_of_cause (hc : (s.record k.num).cause ≠ none) :
    s.closeDone d = (s.burnPassed k).startUnloading d .unload .byVerdict := by
  have hrecord := State.trayRecordOf_burnPassed hk hl
  have hsome : (s.record k.num).cause.isSome = true := Option.isSome_iff_ne_none.mpr hc
  unfold State.burnPassed at hrecord ⊢
  simp only [State.closeDone, hk, State.writeRecord_of_live hl, ha, hrecord, hsome, if_true]

theorem State.closeDone_of_skipped (hc : (s.record k.num).cause = none) (hm : a.mode = .none) :
    s.closeDone d = ((s.burnPassed k).verifySkipped k).unload d := by
  have hrecord := State.trayRecordOf_burnPassed hk hl
  have hlive := State.live_modRecord (f := fun r => { r with burn := .pass }) hl (fun _ => rfl) (fun _ => rfl)
  unfold State.burnPassed at hrecord ⊢
  simp only [State.closeDone, hk, State.writeRecord_of_live hl, State.writeRecord_of_live hlive, ha, hrecord, hc, hm,
    Option.isSome_none, Bool.false_eq_true, if_false, State.verifySkipped]

theorem State.closeDone_of_unslotted (hc : (s.record k.num).cause = none) (hm : a.mode ≠ .none)
    (hi : (s.record k.num).slot = none) : s.closeDone d = (s.burnPassed k).startUnloading d .unload .byVerdict := by
  have hrecord := State.trayRecordOf_burnPassed hk hl
  unfold State.burnPassed at hrecord ⊢
  simp only [State.closeDone, hk, State.writeRecord_of_live hl, ha, hrecord, hc, hi, Option.isSome_none,
    Bool.false_eq_true, if_false]

theorem State.closeDone_of_verified (hc : (s.record k.num).cause = none) (hm : a.mode ≠ .none) {i : SlotNo}
    (hi : (s.record k.num).slot = some i) : s.closeDone d = (s.burnPassed k).enterVerify d i a := by
  have hrecord := State.trayRecordOf_burnPassed hk hl
  unfold State.burnPassed at hrecord ⊢
  simp only [State.closeDone, hk, State.writeRecord_of_live hl, ha, hrecord, hc, hi, Option.isSome_none,
    Bool.false_eq_true, if_false]

end

/-- The entry of a drive that has begun to unload waits in the queue, and the arbiter keeps its errand (R61, R146). -/
theorem State.exists_entry_startUnloading (s : State) (d : Drive) (kind : EntryKind) (dest : Dest) :
    ∃ e ∈ (s.startUnloading d kind dest).arbiter.queue, e.kind = kind ∧ e.token = (s.drive d).trayRecord ∧ e.dest = dest := by
  have hmem : Entry.fresh kind (.station (trayOf d)) dest (s.drive d).trayRecord (some d) none ∈
      (s.startUnloading d kind dest).queue := by
    rw [State.startUnloading_queue]
    exact List.mem_append_right _ (List.mem_singleton_self _)
  obtain ⟨f, hf, herrand⟩ := State.exists_errand_arbiter hmem
  simp only [Entry.errand, Prod.mk.injEq] at herrand
  obtain ⟨hkind, -, hdest, htoken, -⟩ := herrand
  exact ⟨f, hf, hkind, htoken, hdest⟩

/-- A record in use that a step leaves is left by the arbiter too (R130, R147). -/
theorem State.record_arbiter_of_live {s t : State} {k : Token} (hl : s.live k = true) {f : DiscRecord → DiscRecord}
    (hu : ∀ r, (f r).use = r.use) (h : t.record k.num = f (s.record k.num)) : t.arbiter.record k.num = f (s.record k.num) := by
  have huse : (s.record k.num).use = .inUse := by
    simp only [State.live, Bool.and_eq_true, decide_eq_true_eq] at hl
    exact hl.1
  rw [State.arbiter_record_of_kept (by rw [h, hu, huse]; simp), h]

/-- Where the UNLOAD of a disc without a fail cause goes: to the printer when its order names a template (R61). -/
theorem State.unloadDest_of_good {s : State} {k : Token} (hl : s.live k = true) (hc : (s.record k.num).cause = none) :
    s.unloadDest (some k) = if ((s.record k.num).order.bind (fun o => (s.order o).template)).isSome then
      .station stationPR else .byVerdict := by
  simp only [State.unloadDest, Option.bind_some, State.liveRecord, hl, if_true, hc, Option.isNone_none, true_and,
    State.templateOf, State.orderOf]

/-! ### A verify that has begun -/

/-- The first READ of a verify: one block when SAMPLED and up to four when FULL (R105). -/
def Assignment.firstRead (a : Assignment) (length : Nat) : OutstandingRead :=
  { first := 0, blocks := if a.mode = .sampled then 1 else min 4 ((length + 15) / 16 - 1 + 1) }

/-- The request for it. -/
def Assignment.firstReadRequest (a : Assignment) (length : Nat) : DriveRequest :=
  .read 0 (if a.mode = .sampled then min 16 length else min 64 length)

section
variable {s : State} {d : Drive} {i : SlotNo} {a : Assignment}

theorem VerifySave.start_sampled (h : a.mode = .sampled) (length : Nat) :
    (VerifySave.start i length a).mode = some .sampled := by
  rw [VerifySave.start, h]
  rfl

theorem VerifySave.start_full (h : a.mode ≠ .sampled) (length : Nat) : (VerifySave.start i length a).mode = some .full := by
  rw [VerifySave.start]
  cases hm : a.mode with
  | sampled => exact absurd hm h
  | none => rfl
  | full => rfl

theorem VerifySave.readBlocks_start (length : Nat) :
    (VerifySave.start i length a).readBlocks 0 = (a.firstRead length).blocks := by
  rw [Assignment.firstRead, VerifySave.readBlocks]
  by_cases h : a.mode = .sampled
  · rw [VerifySave.start_sampled h, if_pos h]
  · rw [VerifySave.start_full h, if_neg h]
    rfl

theorem VerifySave.readRequest_start (length : Nat) :
    DriveRequest.read (16 * 0) ((VerifySave.start i length a).readCount 0) = a.firstReadRequest length := by
  rw [Assignment.firstReadRequest, VerifySave.readCount]
  by_cases h : a.mode = .sampled
  · rw [VerifySave.start_sampled h, if_pos h]
    rfl
  · rw [VerifySave.start_full h, if_neg h]
    rfl

/-- Whatever the contexts do, the entered drive is in VERIFYING with the starting values of its save (R101). -/
theorem enterVerify_effect (s : State) (d : Drive) (i : SlotNo) (a : Assignment) :
    ((s.enterVerify d i a).drive d).state = .verifying ∧
      ((s.enterVerify d i a).image i).verifyCount = (s.image i).verifyCount + 1 ∧
      (∃ st, (s.enterVerify d i a).save d = { VerifySave.start i (s.image i).length a with sub := st }) ∧
      ∀ n, (s.enterVerify d i a).record n = s.record n := by
  rw [State.enterVerify_eq]
  refine ⟨?_, ?_, ?_, fun n => ?_⟩
  · have hside := (s.verifyEntered d i a).contextRule_discSide d
    rw [State.verifyEntered_drive] at hside
    exact congrArg Prod.fst hside
  · rw [Untouched.contextRule_image, State.verifyEntered_image]
  · obtain ⟨st, hst⟩ := (s.verifyEntered d i a).contextRule_save d
    rw [State.verifyEntered_save] at hst
    exact ⟨st, hst⟩
  · rw [Untouched.contextRule_record, State.verifyEntered_record]

/-- Every context is BUSY: the drive waits at the tail of the queue (R101). -/
theorem enterVerify_queued (h : ∀ c, s.context c ≠ none) :
    s.enterVerify d i a = s.verifyEntered d i a := by
  rw [State.enterVerify_eq]
  refine State.contextRule_of_busy ((State.freeContext_eq_none_iff _).mpr fun c => ?_)
  rw [State.verifyEntered_context]
  exact h c

/-- The lowest FREE context, with nothing waiting: the drive has it at once (R103). -/
theorem enterVerify_active {c : Fin 4} (hq : s.verifyQueue = []) (hc : s.context c = none)
    (hlow : ∀ b, b < c → s.context b ≠ none) : s.enterVerify d i a = (s.verifyEntered d i a).headReads c d [] := by
  have hfree : (s.verifyEntered d i a).freeContext = some c :=
    State.freeContext_of_lowest (by rw [State.verifyEntered_context]; exact hc)
      (fun b hb => by rw [State.verifyEntered_context]; exact hlow b hb)
  have hqueue : (s.verifyEntered d i a).verifyQueue = [d] := by rw [State.verifyEntered_queue, hq]; rfl
  rw [State.enterVerify_eq, State.contextRule, hqueue]
  exact State.takeContext_of_free hfree hqueue

theorem headReads_entered (ho : (s.drive d).outstanding = none) (hi : (s.drive d).checkPhase = .idle) (c : Fin 4) :
    (((s.verifyEntered d i a).headReads c d []).save d).sub = .active ∧
      ((s.verifyEntered d i a).headReads c d []).verifyQueue = [] ∧
      ((s.verifyEntered d i a).headReads c d []).context c =
        some { drive := d, work := .reset, slice := 0, reading := some (a.firstRead (s.image i).length) } ∧
      (∀ b, b ≠ c → ((s.verifyEntered d i a).headReads c d []).context b = s.context b) ∧
      (((s.verifyEntered d i a).headReads c d []).drive d).outstanding = some { req := a.firstReadRequest (s.image i).length, number := (s.drive d).nextNumber } := by
  have hsave := s.verifyEntered_save d i a
  have hprogress : ((s.verifyEntered d i a).save d).progress = .reset := by rw [hsave]; rfl
  have hslot := s.verifyEntered_drive d i a
  have hnext : Progress.reset.next = 0 := rfl
  refine ⟨?_, State.headReads_verifyQueue, ?_, fun b hb => ?_, ?_⟩
  · rw [State.headReads_save, if_pos rfl]
  · rw [State.headReads_context_self, hprogress, hsave, hnext, VerifySave.readBlocks_start]
    rfl
  · rw [State.headReads_context_of_ne hb, State.verifyEntered_context]
  · rw [State.headReads_drive (by rw [hslot, DriveSlot.portFree_iff]; exact ⟨ho, hi⟩), hslot, hprogress, hsave, hnext,
      VerifySave.readRequest_start]
    rfl

end

/-- A drive with `y` on its port has entered its verify of slot `i` (R101): its save is fresh, and it waits at the tail
of the queue or has the lowest FREE context and has sent its first READ (R103). -/
def VerifyBegun (d : Drive) (i : SlotNo) (a : Assignment) (s t : State) : Prop :=
  let v := t.save d
  (t.drive d).state = .verifying ∧ (t.image i).verifyCount = (s.image i).verifyCount + 1 ∧
    v.slot = some i ∧ v.length = (s.image i).length ∧ v.lastBlock = ((s.image i).length + 15) / 16 - 1 ∧
    v.mode = some (if a.mode = .sampled then .sampled else .full) ∧
    v.stride = (if a.mode = .sampled then some a.stride else none) ∧ v.tolerance = a.tolerance ∧
    v.progress = .reset ∧ v.lastEnding = .notYet ∧
    ((∀ c, s.context c ≠ none) →
      v.sub = .queued ∧ t.verifyQueue = s.verifyQueue ++ [d] ∧ t.contexts = s.contexts ∧
        (t.drive d).outstanding = none) ∧
    ∀ c, s.verifyQueue = [] → s.context c = none → (∀ b, b < c → s.context b ≠ none) →
      v.sub = .active ∧ t.verifyQueue = [] ∧
      t.context c = some { drive := d, work := .reset, slice := 0, reading := some (a.firstRead (s.image i).length) } ∧
      (∀ b, b ≠ c → t.context b = s.context b) ∧
      (t.drive d).outstanding =
        some { req := a.firstReadRequest (s.image i).length, number := (s.drive d).nextNumber }

theorem verifyBegun_enterVerify {s : State} {d : Drive} (i : SlotNo) (a : Assignment) (ho : (s.drive d).outstanding = none)
    (hidle : (s.drive d).checkPhase = .idle) : VerifyBegun d i a s (s.enterVerify d i a) := by
  obtain ⟨hstate, hcount, ⟨st, hsave⟩, -⟩ := enterVerify_effect s d i a
  unfold VerifyBegun
  refine ⟨hstate, hcount, by rw [hsave]; rfl, by rw [hsave]; rfl, by rw [hsave]; rfl, ?_, by rw [hsave]; rfl,
    by rw [hsave]; rfl, by rw [hsave]; rfl, by rw [hsave]; rfl, fun hbusy => ?_, fun c hq hfree hlow => ?_⟩
  · rw [hsave]
    by_cases hsampled : a.mode = .sampled
    · rw [if_pos hsampled]; exact VerifySave.start_sampled (i := i) hsampled (s.image i).length
    · rw [if_neg hsampled]; exact VerifySave.start_full (i := i) hsampled (s.image i).length
  · rw [enterVerify_queued hbusy, s.verifyEntered_save, s.verifyEntered_queue, s.verifyEntered_contexts,
      s.verifyEntered_drive]
    exact ⟨rfl, rfl, rfl, ho⟩
  · rw [enterVerify_active hq hfree hlow]
    exact headReads_entered ho hidle c

/-! ### A CLOSE that fails (R96, R97) -/

/-- The drive unloads, and its disc has failed with the cause. -/
theorem failBurn_unloading (s : State) (d : Drive) (c : FailCause) :
    (((s.failBurn d c).startUnloading d .unload .byVerdict).drive d).unloadingWith .unload ∧
      BurnFailed d c s ((s.failBurn d c).startUnloading d .unload .byVerdict) := by
  refine ⟨State.startUnloading_unloading _ d _ _, .of_record fun n hn => ⟨(s.record n).use, ?_⟩⟩
  rw [Untouched.startUnloading_record, State.failBurn_record, if_pos hn]
  rfl

section
variable {s : State} {d : Drive} (hs : (s.drive d).state = .closing)
include hs

theorem State.closeEnded_done (p : Bool) (cls : Nat) : s.closeEnded d (.done p cls) = s.closeDone d := if_pos hs

theorem State.closeEnded_timeout :
    s.closeEnded d .timeout = (s.failBurn d .timeout).startUnloading d .unload .byVerdict := if_pos hs

theorem State.closeEnded_fault (c : FaultCause) :
    s.closeEnded d (.fault c) = (s.failBurn d .closeFault).startUnloading d .unload .byVerdict := if_pos hs

/-- A CLOSE that takes its drive to FAULTED leaves its disc failed (R64, R96). -/
theorem burnFailed_closeFaulted (e : Ending) : BurnFailed d .driveFault s (s.endedFaulted d .close e) := by
  obtain ⟨u, hu⟩ : ∃ u, u = (s.endedPort d .close e).faultedClose d .close := ⟨_, rfl⟩
  have hended : s.endedFaulted d .close e = u.driveFaulted d := by rw [hu]; rfl
  have hport : ((s.endedPort d .close e).drive d).state = .closing := by rw [State.endedPort_drive]; exact hs
  have hholdsPort (n : RecNo) : (s.endedPort d .close e).holds d n = s.holds d n := by
    unfold State.holds
    rw [State.endedPort_drive]
    rfl
  have hdrive : u.drive d = (s.drive d).ended .close e := by rw [hu, State.faultedClose_drive, State.endedPort_drive]
  have hrecord (n : RecNo) : u.record n = if s.holds d n then { s.record n with burn := .fail } else s.record n := by
    rw [hu, State.faultedClose, if_pos ⟨rfl, hport⟩, State.writeRecordO_record]
    have := hholdsPort n
    unfold State.holds at this
    rw [this]
    rfl
  have hholds (n : RecNo) : u.holds d n = s.holds d n := by
    unfold State.holds
    rw [hdrive]
    refine State.names_congr (fun m => ?_) (fun m => ?_) _ _ <;> rw [hrecord] <;> split <;> rfl
  have hstate : (u.drive d).state = .closing := by rw [hdrive]; exact hs
  rw [hended, State.driveFaulted_eq, hstate, State.faultWork_of_other (by decide) (by decide)]
  refine BurnFailed.then (.of_record fun n hn => ⟨(s.record n).use, ?_⟩) (useOnly_faultSettled _ d)
  rw [State.faultStarted_record, hholds, if_pos hn, hrecord, if_pos hn]
  rfl

end

/-! ### Replies to CLOSE -/

/-- Settles O43: the DONE by the disc's cause and the verify mode, and the two kinds of fault. -/
theorem closeReplyEffect : Obligations.CloseReplyEffect := by
  intro d n k a s h hs hidle hk hl ha x r
  have plain : ¬ (DriveRequest.close = .sense ∧ (s.drive d).checkPhase = .sensing) := by simp
  refine ⟨fun p cls => ?done, fun c => ?fault⟩
  case done =>
    have hexec := exec_replyRow_acts h (e := .done p cls.val) rfl plain rfl (r := .done p cls) rfl
    obtain ⟨u, hu⟩ : ∃ u, u = s.endedPort d .close (.done p cls.val) := ⟨_, rfl⟩
    have hdrive : u.drive d = { x with outstanding := none, timeoutCount := 0 } := by
      rw [hu, State.endedPort_drive, DriveSlot.ended_done]
    have hacts : u.requesterActs d .close (.done p cls.val) = u.closeDone d :=
      State.closeEnded_done (by rw [hdrive]; exact hs) p cls.val
    rw [← hu, hacts] at hexec
    have hku : (u.drive d).trayRecord = some k := by rw [hdrive]; exact hk
    have hau : (u.drive d).active = some a := by rw [hdrive]; exact ha
    have hru : u.record k.num = r := by rw [hu]; rfl
    have hlu : u.live k = true := by rw [hu]; exact hl
    refine ⟨_, hexec, ?_⟩
    obtain ⟨v, hv⟩ : ∃ v, v = u.burnPassed k := ⟨_, rfl⟩
    have hrv : v.record k.num = { r with burn := .pass } := by
      rw [hv, State.burnPassed, State.record_modRecord_self, hru]
    have hkept {t : State} {f : DiscRecord → DiscRecord} (hf : ∀ r, (f r).use = r.use) (ht : t.record k.num = f r) :
        t.arbiter.record k.num = f r := State.record_arbiter_of_live hl hf ht
    by_cases hc : r.cause = none
    · by_cases hm : a.mode = .none
      · have hdone := State.closeDone_of_skipped hku hlu hau (by rw [hru]; exact hc) hm
        rw [← hv] at hdone
        obtain ⟨w, hw⟩ : ∃ w, w = v.verifySkipped k := ⟨_, rfl⟩
        have hrw : w.record k.num = { r with burn := .pass, verify := .skipped } := by
          rw [hw, State.verifySkipped, State.record_modRecord_self, hrv]
        have hkw : (w.drive d).trayRecord = some k := by rw [hw, hv]; exact hku
        have hlw : w.live k = true := by
          unfold State.live at hl ⊢
          rw [hrw]
          exact hl
        have hdest := State.unloadDest_of_good hlw (by rw [hrw]; exact hc)
        rw [hrw] at hdest
        rw [← hw, State.unload, hkw, hdest] at hdone
        have hrecord := hkept (t := u.closeDone d) (f := fun r => { r with burn := .pass, verify := .skipped })
          (fun _ => rfl) (by rw [hdone, Untouched.startUnloading_record, hrw])
        rw [hrecord, hdone]
        refine ⟨rfl, rfl, ?_, fun h => absurd hc h, fun _ _ => ⟨?_, rfl, ?_⟩, fun _ h => absurd hm h⟩
        · rw [Untouched.arbiter_event, State.startUnloading_pending]
        · rw [Untouched.arbiter_drive]
          exact State.startUnloading_unloading _ d _ _
        · obtain ⟨e, he, hkind, htoken, hdest⟩ := w.exists_entry_startUnloading d .unload
            (if (r.order.bind (fun o => (w.order o).template)).isSome then .station stationPR else .byVerdict)
          have horder : ∀ o, w.order o = s.order o := fun o => by rw [hw, hv, hu]; rfl
          simp only [horder] at he hdest
          exact ⟨e, by simpa only [horder] using he, hkind, htoken.trans hkw, hdest⟩
      · cases hi : r.slot with
        | none =>
          have hdone := State.closeDone_of_unslotted hku hlu hau (by rw [hru]; exact hc) hm (by rw [hru]; exact hi)
          rw [← hv] at hdone
          have hrecord := hkept (t := u.closeDone d) (f := fun r => { r with burn := .pass }) (fun _ => rfl)
            (by rw [hdone, Untouched.startUnloading_record, hrv])
          rw [hrecord, hdone]
          refine ⟨rfl, rfl, ?_, fun h => absurd hc h, fun _ h => absurd h hm, fun _ _ j hj => by simp at hj⟩
          rw [Untouched.arbiter_event, State.startUnloading_pending]
        | some i =>
          have hdone := State.closeDone_of_verified hku hlu hau (by rw [hru]; exact hc) hm (by rw [hru]; exact hi)
          rw [← hv] at hdone
          obtain ⟨-, -, -, hrecords⟩ := enterVerify_effect v d i a
          have hrecord := hkept (t := u.closeDone d) (f := fun r => { r with burn := .pass }) (fun _ => rfl)
            (by rw [hdone, hrecords, hrv])
          have hdv : v.drive d = { x with outstanding := none, timeoutCount := 0 } := by rw [hv]; exact hdrive
          have himage : v.image i = s.image i := by rw [hv, hu]; rfl
          have hqueue : v.verifyQueue = s.verifyQueue := by rw [hv, hu]; rfl
          have hcontext : ∀ c, v.context c = s.context c := fun c => by rw [hv, hu]; rfl
          have hcontexts : v.contexts = s.contexts := by rw [hv, hu]; rfl
          have hbegun := verifyBegun_enterVerify (s := v) (d := d) i a (by rw [hdv]) (by rw [hdv]; exact hidle)
          have hlast : ((v.enterVerify d i a).save d).lastBlock = ((s.image i).length + 15) / 16 - 1 := by
            obtain ⟨-, -, -, -, hlast, -⟩ := hbegun
            rw [hlast, himage]
          unfold VerifyBegun at hbegun
          rw [himage, hqueue, hcontexts, hdv] at hbegun
          simp only [hcontext] at hbegun
          rw [hrecord, hdone]
          simp only [Untouched.arbiter_drive, Untouched.arbiter_image, Untouched.arbiter_save, Untouched.arbiter_event,
            Untouched.arbiter_verifyQueue, Untouched.arbiter_contexts, Untouched.arbiter_context]
          refine ⟨trivial, trivial, ?_, fun h => absurd hc h, fun _ h => absurd h hm, fun _ _ j hj => ?_⟩
          · exact closed_contextRule (closed_pending .driveState) (List.Subset.refl _) (v.verifyEntered_pending d i a)
          obtain rfl : i = j := Option.some.inj hj
          rw [hlast] at hbegun ⊢
          exact hbegun
    · have hdone := State.closeDone_of_cause hku hlu hau (by rw [hru]; exact hc)
      rw [← hv] at hdone
      have hrecord := hkept (t := u.closeDone d) (f := fun r => { r with burn := .pass }) (fun _ => rfl)
        (by rw [hdone, Untouched.startUnloading_record, hrv])
      rw [hrecord, hdone]
      refine ⟨rfl, rfl, ?_, fun _ => ⟨?_, rfl, ?_⟩, fun h => absurd h hc, fun h => absurd h hc⟩
      · rw [Untouched.arbiter_event, State.startUnloading_pending]
      · rw [Untouched.arbiter_drive]
        exact State.startUnloading_unloading _ d _ _
      · obtain ⟨e, he, hkind, htoken, hdest⟩ := v.exists_entry_startUnloading d .unload .byVerdict
        have hvk : (v.drive d).trayRecord = some k := by rw [hv]; exact hku
        exact ⟨e, he, hkind, htoken.trans hvk, hdest⟩
  case fault =>
    by_cases hc : c = .tray
    · subst hc
      have hfaults := (Ending.faults_fault .close (s.drive d) .tray).mpr (.inl rfl)
      have hended := State.requestEnded_of_faults (s := s) hfaults
      have hburn := (burnFailed_closeFaulted hs (.fault .tray)).then (useOnly_arbiter _)
      rw [if_neg (by simp [DriveRequest.isApplySpeed])] at hended
      rw [← hended] at hburn
      exact ⟨_, exec_replyRow_of_outstanding h.1 (.fault .tray), fun hne => absurd rfl hne,
        fun _ => ⟨faultedWith_requestEnded hfaults rfl, hburn⟩⟩
    · have good := Ending.faults_fault_of_other (req := .close) (x := s.drive d) hc (by simp) (by simp) (by simp)
      have hexec := exec_replyRow_acts h (e := .fault c) good plain rfl (r := .fault c) rfl
      obtain ⟨hunload, hburn⟩ := failBurn_unloading (s.endedPort d .close (.fault c)) d .closeFault
      rw [DriveRequest.replyRow, State.requesterActs, State.closeEnded_fault (by rw [State.endedPort_drive]; exact hs)] at hexec
      refine ⟨_, hexec, fun _ => ⟨?_, hburn.of_endedPort.then (useOnly_arbiter _)⟩, fun heq => absurd heq hc⟩
      rw [Untouched.arbiter_drive]
      exact hunload

end Sys2Proof.Machine
end

section
/-! How a READ of a verify ends (R106 to R110, R113; O44). -/

namespace Sys2Proof.Machine

/-! ### Contexts and the queue -/

theorem State.modContext_context (s : State) (c b : Fin 4) (f : Context → Context) :
    (s.modContext c f).context b = if c = b then (s.context b).map f else s.context b := by
  rw [State.modContext, State.context_setContext]
  split
  next h => rw [h]
  next => rfl

/-- A context changed in its work keeps its holder. -/
theorem State.contextOf_modContext (s : State) (c : Fin 4) {f : Context → Context} (hf : ∀ x, (f x).drive = x.drive)
    (d : Drive) : (s.modContext c f).contextOf d = s.contextOf d := by
  unfold State.contextOf
  congr 1
  funext b
  rw [State.modContext_context]
  split
  · cases s.context b with
    | none => rfl
    | some x => simp [hf]
  · rfl

/-- A drive that does not wait in the queue keeps its save through the context rule. -/
theorem State.takeContext_save_of_notMem {s : State} {d : Drive} (h : d ∉ s.verifyQueue) :
    s.takeContext.save d = s.save d ∧ d ∉ s.takeContext.verifyQueue := by
  refine ⟨?_, (State.takeContext_drive h).2⟩
  cases hc : s.freeContext with
  | none => rw [State.takeContext_of_busy hc]
  | some c =>
    cases hq : s.verifyQueue with
    | nil => rw [State.takeContext_of_nil hq]
    | cons q rest =>
      have hne : d ≠ q := fun hd => h (by rw [hq, hd]; exact List.mem_cons_self)
      have hsave := State.headReads_save (s := s) (c := c) (q := q) (rest := rest) d
      rw [if_neg hne, State.headReads] at hsave
      rw [State.takeContext_of_free hc hq, hsave]

theorem State.contextRule_save_of_notMem {s : State} {d : Drive} (h : d ∉ s.verifyQueue) :
    s.contextRule.save d = s.save d :=
  (List.foldlRecOn (motive := fun t : State => t.save d = s.save d ∧ d ∉ t.verifyQueue) s.verifyQueue
    (fun t _ => t.takeContext) ⟨rfl, h⟩
    (fun _ ⟨hsave, hqueue⟩ _ _ =>
      ⟨(State.takeContext_save_of_notMem hqueue).1.trans hsave, (State.takeContext_save_of_notMem hqueue).2⟩)).1

/-! ### The end of a verify (R109) -/

/-- What is told of an ended verify reads of the state before it the save's slot, the image slots and the disc. -/
theorem VerifyEnded.of_start {d : Drive} {e : LastEnding} {o : VerifyOutcome} {c : Option FailCause} {s u t : State}
    (h : VerifyEnded d e o c u t) (hs : (u.save d).slot = (s.save d).slot) (hi : ∀ i, u.image i = s.image i)
    (hk : (u.drive d).trayRecord = (s.drive d).trayRecord) (hr : ∀ n, u.record n = s.record n) :
    VerifyEnded d e o c s t := by
  have hl : ∀ k, u.live k = s.live k := fun k => by simp only [State.live, hr]
  unfold VerifyEnded at h ⊢
  simpa only [hs, hi, hk, hr, hl] using h

theorem VerifyEnded.of_arbiter {d : Drive} {e : LastEnding} {o : VerifyOutcome} {c : Option FailCause} {s t : State}
    (h : VerifyEnded d e o c s t) : VerifyEnded d e o c s t.arbiter := by
  obtain ⟨hunload, hsub, hlast, himage, hrecord⟩ := h
  unfold VerifyEnded
  simp only [Untouched.arbiter_drive, Untouched.arbiter_save, Untouched.arbiter_image]
  refine ⟨hunload, hsub, hlast, himage, fun k hk hl => ?_⟩
  obtain ⟨u, hu⟩ := useOnly_arbiter t k.num
  rw [hu]
  exact hrecord k hk hl

theorem State.verifyDown_image {s : State} {d : Drive} {i : SlotNo} (h : (s.save d).slot = some i) :
    ((s.verifyDown d).image i).verifyCount = (s.image i).verifyCount - 1 := by
  simp only [State.verifyDown, h, State.image_modImage_self]

/-- A disc keeps the first fail cause it has (R109, R132). -/
theorem State.giveEnding_record (s : State) (d : Drive) (e : LastEnding) (n : RecNo) :
    (s.giveEnding d e).record n = if s.holds d n then
      { s.record n with cause := (s.record n).cause <|> e.failCause } else s.record n := by
  unfold State.giveEnding
  split
  next c hc =>
    rw [State.giveCause, State.writeRecordO_record, hc]
    rfl
  next hc =>
    have hnone : ((s.record n).cause <|> none) = (s.record n).cause := by cases (s.record n).cause <;> rfl
    rw [hc, hnone]
    exact (ite_self _).symm

theorem State.writeVerify_record (s : State) (d : Drive) (o : VerifyOutcome) (n : RecNo) :
    (s.writeVerify d o).record n = if s.holds d n then
      { s.record n with verify := o, errorBlocks := (s.save d).progress.errors } else s.record n :=
  State.writeRecordO_record s _ _ n

theorem State.writeVerify_holds (s : State) (d e : Drive) (o : VerifyOutcome) (n : RecNo) :
    (s.writeVerify d o).holds e n = s.holds e n := by
  unfold State.holds
  rw [Untouched.writeVerify_drive]
  refine State.names_congr (fun m => ?_) (fun m => ?_) _ _ <;> rw [State.writeVerify_record] <;> split <;> rfl

theorem State.leaveVerify_record (s : State) (d : Drive) (e : LastEnding) (n : RecNo) :
    (s.leaveVerify d e).record n = s.record n :=
  State.record_congr ((changes_leaveVerify s d e) .records (by simp)) n

theorem State.leaveVerify_holds (s : State) (d x : Drive) (e : LastEnding) (n : RecNo) :
    (s.leaveVerify d e).holds x n = s.holds x n := by
  unfold State.holds
  rw [Untouched.leaveVerify_drive]
  exact State.names_congr (fun m => by rw [State.leaveVerify_record]) (fun m => by rw [State.leaveVerify_record]) _ _

section
variable {s : State} {d : Drive} {c : Fin 4} {y : Context} (hc : s.contextOf d = some c) (hy : s.context c = some y)
include hc hy

/-- A disc record after its verify has ended (R109). -/
theorem State.endVerify_record (e : LastEnding) {n : RecNo} (hn : s.holds d n = true) :
    (s.endVerify d e).record n = { s.record n with
      verify := if e = .pass then .pass else .fail, errorBlocks := y.work.errors,
      cause := (s.record n).cause <|> e.failCause } := by
  have hleft : (s.leaveVerify d e).holds d n = true := by rw [State.leaveVerify_holds]; exact hn
  rw [State.endVerify, Untouched.contextRule_record, State.unload, Untouched.startUnloading_record,
    Untouched.verifyDown_record, State.giveEnding_record, State.writeVerify_holds, if_pos hleft, State.writeVerify_record,
    if_pos hleft, State.leaveVerify_record, State.leaveVerify_save e hc hy]

theorem verifyEnded_endVerify (e : LastEnding) :
    VerifyEnded d e (if e = .pass then .pass else .fail) e.failCause s (s.endVerify d e) ∧
      ((s.endVerify d e).save d).progress = y.work := by
  obtain ⟨u, hu⟩ : ∃ u, u = ((((s.leaveVerify d e).writeVerify d (if e = .pass then .pass else .fail)).giveEnding d
    e).verifyDown d).unload d := ⟨_, rfl⟩
  have heq : s.endVerify d e = u.contextRule := by rw [hu]; rfl
  have hqueue : d ∉ u.verifyQueue := by
    rw [hu, Untouched.unload_verifyQueue, Untouched.verifyDown_verifyQueue, Untouched.giveEnding_verifyQueue,
      Untouched.writeVerify_verifyQueue]
    exact s.notMem_leaveVerify d e
  have hsave : u.save d = { s.save d with progress := y.work, sub := .outside, lastEnding := e } := by
    rw [hu, Untouched.unload_save, Untouched.verifyDown_save, Untouched.giveEnding_save, Untouched.writeVerify_save,
      State.leaveVerify_save e hc hy]
  have hkept : (s.endVerify d e).save d = u.save d := by rw [heq, State.contextRule_save_of_notMem hqueue]
  refine ⟨⟨?_, ?_, ?_, fun i hi => ?_, fun k hk hl => ?_⟩, ?_⟩
  · rw [heq, State.contextRule_drive hqueue, hu]
    exact State.startUnloading_unloading _ d _ _
  · rw [hkept, hsave]
  · rw [hkept, hsave]
  · have hslot : (((((s.leaveVerify d e).writeVerify d (if e = .pass then .pass else .fail)).giveEnding d e)).save d).slot =
        some i := by
      rw [Untouched.giveEnding_save, Untouched.writeVerify_save, State.leaveVerify_save e hc hy]
      exact hi
    rw [heq, Untouched.contextRule_image, hu, State.unload, Untouched.startUnloading_image, State.verifyDown_image hslot,
      Untouched.giveEnding_image, Untouched.writeVerify_image, Untouched.leaveVerify_image]
  · rw [State.endVerify_record hc hy e (State.holds_of_trayRecord hk hl), hkept, hsave]
    exact ⟨rfl, rfl, rfl⟩
  · rw [hkept, hsave]

end

/-! ### The comparison of a READ's blocks (R106) -/

/-- The blocks of a READ, from its `j`-th on, whose CRC-32 is not the stored digest. -/
def mismatches (digests : List Word32) (data : List Byte) (first j n : Nat) : Nat :=
  ((List.range' j n).filter (fun i => decide (digests[first + i]? ≠
    some (crc32 ((data.drop (32768 * i)).take 32768))))).length

theorem mismatches_succ (digests : List Word32) (data : List Byte) (first j n : Nat) :
    mismatches digests data first j (n + 1) =
      (if digests[first + j]? = some (crc32 (blockBytes data j)) then 0 else 1) + mismatches digests data first (j + 1) n := by
  have hbytes : (data.drop (32768 * j)).take 32768 = blockBytes data j := by
    rw [blockBytes, Nat.mul_comm]
    rfl
  rw [mismatches, mismatches, List.range'_succ, List.filter_cons, hbytes]
  by_cases h : digests[first + j]? = some (crc32 (blockBytes data j))
  · simp [h]
  · simp [h, Nat.add_comm]

/-- Errors within the tolerance: every block is compared. -/
theorem compareBlocks_within (digests : List Word32) (tolerance : Nat) (data : List Byte) (first : Nat) :
    ∀ (n j : Nat) (p : Progress), p.errors + mismatches digests data first j n ≤ tolerance →
      ∃ q, compareBlocks digests tolerance data first n j p = (q, false) ∧
        q.errors = p.errors + mismatches digests data first j n ∧ q.compared = p.compared + n ∧
        q.readFaults = p.readFaults ∧ q.consecutive = p.consecutive
  | 0, j, p, _ => ⟨p, rfl, rfl, rfl, rfl, rfl⟩
  | n + 1, j, p, h => by
    rw [mismatches_succ] at h ⊢
    rw [compareBlocks]
    by_cases hd : digests[first + j]? = some (crc32 (blockBytes data j))
    · rw [if_pos hd] at h ⊢
      rw [if_pos hd]
      obtain ⟨q, hq, herrors, hcompared, hfaults, hconsecutive⟩ :=
        compareBlocks_within digests tolerance data first n (j + 1) { p with compared := p.compared + 1 }
          (by dsimp only; omega)
      dsimp only at herrors hcompared hfaults hconsecutive
      exact ⟨q, hq, by omega, by omega, hfaults, hconsecutive⟩
    · rw [if_neg hd] at h ⊢
      dsimp only
      rw [if_neg hd, if_neg (by dsimp only [Progress.addErrors]; omega)]
      obtain ⟨q, hq, herrors, hcompared, hfaults, hconsecutive⟩ :=
        compareBlocks_within digests tolerance data first n (j + 1)
          (({ p with compared := p.compared + 1 } : Progress).addErrors (first + j) 1)
          (by dsimp only [Progress.addErrors]; omega)
      dsimp only [Progress.addErrors] at herrors hcompared hfaults hconsecutive
      exact ⟨q, hq, by omega, by omega, hfaults, hconsecutive⟩

/-- A mismatch above the tolerance ends the comparison at the first one. -/
theorem compareBlocks_above (digests : List Word32) (tolerance : Nat) (data : List Byte) (first : Nat) :
    ∀ (n j : Nat) (p : Progress), tolerance < p.errors + mismatches digests data first j n →
      0 < mismatches digests data first j n →
      ∃ q, compareBlocks digests tolerance data first n j p = (q, true) ∧ q.errors = max tolerance p.errors + 1
  | 0, j, p, _, hpos => absurd hpos (Nat.lt_irrefl 0)
  | n + 1, j, p, h, hpos => by
    rw [mismatches_succ] at h hpos
    rw [compareBlocks]
    by_cases hd : digests[first + j]? = some (crc32 (blockBytes data j))
    · rw [if_pos hd] at h hpos
      dsimp only
      rw [if_pos hd]
      exact compareBlocks_above digests tolerance data first n (j + 1) { p with compared := p.compared + 1 }
        (by dsimp only; omega) (by omega)
    · rw [if_neg hd] at h hpos
      dsimp only
      rw [if_neg hd]
      by_cases hover : tolerance < p.errors + 1
      · rw [if_pos (by exact hover)]
        exact ⟨_, rfl, by dsimp only [Progress.addErrors]; omega⟩
      · rw [if_neg (by exact hover)]
        obtain ⟨q, hq, herrors⟩ := compareBlocks_above digests tolerance data first n (j + 1)
          (({ p with compared := p.compared + 1 } : Progress).addErrors (first + j) 1)
          (by dsimp only [Progress.addErrors]; omega) (by omega)
        dsimp only [Progress.addErrors] at herrors
        exact ⟨q, hq, by omega⟩

/-! ### A READ that does not end its verify (R110) -/

/-- The new working copy is in the context, and no READ runs. -/
def State.readCounted (s : State) (c : Fin 4) (p : Progress) : State :=
  s.modContext c (fun x => { x with work := p, reading := none })

/-- What is told of a verify that goes on reads of the state before it the save, the queue, the contexts' being BUSY
and the drive's next number. -/
theorem VerifyGoesOn.of_start {d : Drive} {c : Fin 4} {y : Context} {b : Nat} {P : Progress → Prop} {s u t : State}
    (h : VerifyGoesOn d c y b P u t) (hs : u.save d = s.save d) (hq : u.verifyQueue = s.verifyQueue)
    (hc : ∀ j, u.context j = none ↔ s.context j = none) (hn : (u.drive d).nextNumber = (s.drive d).nextNumber) :
    VerifyGoesOn d c y b P s t := by
  unfold VerifyGoesOn at h ⊢
  simpa only [hs, hq, hc, hn, ne_eq] using h

theorem VerifyGoesOn.of_arbiter {d : Drive} {c : Fin 4} {y : Context} {b : Nat} {P : Progress → Prop} {s t : State}
    (h : VerifyGoesOn d c y b P s t) : VerifyGoesOn d c y b P s t.arbiter := by
  unfold VerifyGoesOn at h ⊢
  simpa only [Untouched.arbiter_context, Untouched.arbiter_drive, Untouched.arbiter_save, Untouched.arbiter_verifyQueue] using h

section
variable {s : State} {d : Drive} {c : Fin 4} {z : Context} (hz : s.context c = some z) (hd : z.drive = d)
include hz hd

/-- A context that sends its drive's next READ on a free port (R105). -/
theorem readSend_effect (slice : Nat) (hfree : (s.drive d).portFree = true) :
    ((s.modContext c (fun x => { x with slice := slice })).readSend c).context c = some { z with
        slice := slice, reading := some { first := z.work.next, blocks := (s.save d).readBlocks z.work.next } } ∧
      (((s.modContext c (fun x => { x with slice := slice })).readSend c).drive d).outstanding = some {
        req := .read (16 * z.work.next) ((s.save d).readCount z.work.next), number := (s.drive d).nextNumber } := by
  obtain ⟨u, hu⟩ : ∃ u, u = s.modContext c (fun x => { x with slice := slice }) := ⟨_, rfl⟩
  have hcontext : u.context c = some { z with slice := slice } := by
    rw [hu, State.modContext_context, if_pos rfl, hz]
    rfl
  have hsave : u.save d = s.save d := by rw [hu, Untouched.modContext_save]
  have hdrive : u.drive d = s.drive d := by rw [hu, Untouched.modContext_drive]
  have hread := State.readSend_of_some hcontext
  simp only [hd, hsave] at hread
  rw [← hu, hread]
  refine ⟨?_, ?_⟩
  · rw [Untouched.askDrive_context, State.modContext_context, if_pos rfl, hcontext]
    rfl
  · have hslot (f : Context → Context) : (u.modContext c f).drive d = s.drive d := by
      rw [Untouched.modContext_drive, hdrive]
    rw [State.askDrive_drive_of_free _ _ _ (by rw [hslot]; exact hfree), hslot]
    rfl

omit hz hd in
/-- Drive `d` has given its context back and waits at the tail of the queue (R110). -/
def State.suspended (s : State) (d : Drive) : State :=
  ((s.giveBack d).modSave d (fun v => { v with sub := .queued })).setVerifyQueue (s.verifyQueue ++ [d])

omit hz hd in
theorem State.completeRead_of_waiting (hq : s.verifyQueue ≠ []) {slice : Nat} (hslice : 8 ≤ slice + 1) :
    s.completeRead d c slice = (s.suspended d).contextRule := by
  have hlimit : Config.sliceReads ≤ slice + 1 := hslice
  have hsome : ¬ s.verifyQueue.isEmpty = true := by simpa using hq
  have hqueue : ((s.giveBack d).modSave d (fun v => { v with sub := .queued })).verifyQueue = s.verifyQueue :=
    (changes_giveBack s d) .verifyQueue (by simp)
  rw [State.completeRead, if_pos hlimit, if_neg hsome, State.suspended]
  dsimp only
  rw [hqueue]

omit hd in
theorem State.giveBack_of_context (hc : s.contextOf d = some c) :
    s.giveBack d = (s.modSave d (fun v => { v with progress := z.work })).setContext c none := by
  simp only [State.giveBack, hc, hz]

omit hd in
theorem State.suspended_save (hc : s.contextOf d = some c) :
    (s.suspended d).save d = { s.save d with progress := z.work, sub := .queued } := by
  rw [State.suspended, State.giveBack_of_context hz hc, State.save_setVerifyQueue', State.save_modSave_self,
    State.save_setContext', State.save_modSave_self]

omit hd in
theorem State.suspended_context (hc : s.contextOf d = some c) (b : Fin 4) :
    (s.suspended d).context b = if c = b then none else s.context b := by
  rw [State.suspended, State.giveBack_of_context hz hc, State.context_setVerifyQueue', State.context_modSave',
    State.context_setContext, State.context_modSave']

omit hz hd in
theorem State.suspended_drive (e : Drive) : (s.suspended d).drive e = s.drive e := by
  rw [State.suspended, State.drive_setVerifyQueue', State.drive_modSave', Untouched.giveBack_drive]

omit hd in
/-- A suspended drive waits at the tail, and the queue's head has the context (R103, R110). -/
theorem suspend_effect (hc : s.contextOf d = some c) {q : Drive} {rest : List Drive} (hq : s.verifyQueue = q :: rest)
    (hnot : d ∉ s.verifyQueue) (hbusy : ∀ j, s.context j ≠ none) {slice : Nat} (hslice : 8 ≤ slice + 1) :
    ((s.completeRead d c slice).save d).sub = .queued ∧ ((s.completeRead d c slice).save d).progress = z.work ∧
      (s.completeRead d c slice).verifyQueue = rest ++ [d] ∧
      ((s.completeRead d c slice).context c).map (·.drive) = some q ∧ (s.completeRead d c slice).drive d = s.drive d := by
  have hne : d ≠ q := fun h => hnot (by rw [hq, h]; exact List.mem_cons_self)
  have hqueue : (s.suspended d).verifyQueue = q :: (rest ++ [d]) := by rw [State.suspended, hq]; rfl
  have hcontext := State.suspended_context hz hc
  have hsave := State.suspended_save hz hc
  have hrule := State.contextRule_of_one_free hqueue (by rw [hcontext, if_pos rfl])
    (fun b hb => by rw [hcontext, if_neg (Ne.symm hb)]; exact hbusy b)
  rw [State.completeRead_of_waiting (by rw [hq]; simp) hslice, hrule]
  refine ⟨?_, ?_, State.headReads_verifyQueue, ?_, ?_⟩
  · rw [State.headReads_save, if_neg hne, hsave]
  · rw [State.headReads_save, if_neg hne, hsave]
  · rw [State.headReads_context_self]
    rfl
  · rw [State.headReads_eq, State.askDrive_drive_of_ne _ _ hne, Untouched.modContext_drive, State.headTaken,
      State.drive_setContext', State.drive_modSave', State.drive_setVerifyQueue', State.suspended_drive]

/-- A completed READ: the next one goes out, or the drive makes way (R110). -/
theorem verifyGoesOn_completeRead (hc : s.contextOf d = some c) (y : Context) {P : Progress → Prop} (hP : P z.work)
    (ho : (s.drive d).outstanding = none) (hi : (s.drive d).checkPhase = .idle) :
    VerifyGoesOn d c y z.work.next P s (s.completeRead d c y.slice) := by
  have hfree : (s.drive d).portFree = true := (DriveSlot.portFree_iff _).mpr ⟨ho, hi⟩
  refine ⟨fun h => ?_, fun hslice q rest hq hnot hbusy => ?_⟩
  · obtain ⟨hcontext, hread⟩ := readSend_effect hz hd (if y.slice + 1 < 8 then y.slice + 1 else 0) hfree
    have hgoes : s.completeRead d c y.slice =
        (s.modContext c (fun x => { x with slice := if y.slice + 1 < 8 then y.slice + 1 else 0 })).readSend c := by
      have hlimit : Config.sliceReads = 8 := rfl
      rw [State.completeRead, hlimit]
      by_cases hslice : y.slice + 1 < 8
      · rw [if_neg (by omega)]
        simp only [if_pos hslice]
      · have hempty := h.resolve_left hslice
        rw [if_pos (by omega), hempty, List.isEmpty_nil, if_pos rfl]
        simp only [if_neg hslice]
    rw [hgoes]
    exact ⟨⟨_, hcontext, hd, rfl, hP, rfl, rfl⟩, hread⟩
  · obtain ⟨hsub, hprogress, hqueue, hholder, hdrive⟩ := suspend_effect hz hc hq hnot hbusy hslice
    exact ⟨hsub, by rw [hprogress], by rw [hprogress]; exact hP, hqueue, hholder, by rw [hdrive]; exact ho⟩

end

/-! ### The end of a READ's handling (R106 to R109) -/

section
variable {s : State} {d : Drive} {c : Fin 4} {y : Context} (hc : s.contextOf d = some c) (hy : s.context c = some y)
  {p : Progress} {above : Bool}
include hc hy

omit hc in
theorem State.readCounted_context : (s.readCounted c p).context c = some { y with work := p, reading := none } := by
  rw [State.readCounted, State.modContext_context, if_pos rfl, hy]
  rfl

omit hy in
theorem State.readCounted_contextOf : (s.readCounted c p).contextOf d = some c := by
  rw [State.readCounted, State.contextOf_modContext, hc]
  exact fun _ => rfl

/-- The comparison or the ending checks have ended the verify. -/
theorem afterRead_ended {e : LastEnding}
    (he : (if above then some LastEnding.verifyErrors else (s.save d).ending p) = some e) :
    VerifyEnded d e (if e = .pass then .pass else .fail) e.failCause s (s.afterRead d c p above) ∧
      ((s.afterRead d c p above).save d).progress = p := by
  have hends : s.afterRead d c p above = (s.readCounted c p).endVerify d e := by
    simp only [State.afterRead, he, State.readCounted]
  obtain ⟨hended, hprogress⟩ := verifyEnded_endVerify (State.readCounted_contextOf hc (p := p))
    (State.readCounted_context hy (p := p)) e
  rw [hends]
  refine ⟨hended.of_start ?_ (fun i => ?_) ?_ (fun n => ?_), hprogress⟩
  · rw [State.readCounted, Untouched.modContext_save]
  · rw [State.readCounted, Untouched.modContext_image]
  · rw [State.readCounted, Untouched.modContext_drive]
  · rw [State.readCounted, Untouched.modContext_record]

/-- Neither has: the verify goes on. -/
theorem afterRead_goesOn (hd : y.drive = d) (ho : (s.drive d).outstanding = none) (hi : (s.drive d).checkPhase = .idle)
    (he : (if above then some LastEnding.verifyErrors else (s.save d).ending p) = none) {P : Progress → Prop} (hP : P p) :
    VerifyGoesOn d c y p.next P s (s.afterRead d c p above) := by
  have hgoes : s.afterRead d c p above = (s.readCounted c p).completeRead d c y.slice := by
    simp only [State.afterRead, he, hy, State.readCounted]
  have hdrive : (s.readCounted c p).drive d = s.drive d := by rw [State.readCounted, Untouched.modContext_drive]
  have hon := verifyGoesOn_completeRead (State.readCounted_context hy (p := p)) hd
    (State.readCounted_contextOf hc (p := p)) y hP (by rw [hdrive]; exact ho) (by rw [hdrive]; exact hi)
  rw [hgoes]
  refine hon.of_start ?_ ?_ (fun j => ?_) (by rw [hdrive])
  · rw [State.readCounted, Untouched.modContext_save]
  · rw [State.readCounted, Untouched.modContext_verifyQueue]
  · rw [State.readCounted, State.modContext_context]
    split
    · exact Option.map_eq_none_iff
    · rfl

end

section
variable {s : State} {d : Drive} {c : Fin 4} {y : Context} {rd : OutstandingRead} (hc : s.contextOf d = some c)
  (hy : s.context c = some y) (hd : y.drive = d) (hrd : y.reading = some rd) (ho : (s.drive d).outstanding = none)
  (hi : (s.drive d).checkPhase = .idle)
include hc hy hd hrd ho hi

/-- The working copy of a failed READ is what R107 makes of it, and the ending checks decide in their order (R108). -/
theorem readFailed_effect : ReadFailed d c y rd s (s.readFailed d) := by
  have hfailed : s.readFailed d = s.afterRead d c ((s.save d).afterFault rd y.work) false := by
    simp only [State.readFailed, hc, hy, hrd]
  have hends {e : LastEnding} (he : (s.save d).ending ((s.save d).afterFault rd y.work) = some e) :=
    afterRead_ended hc hy (above := false) he
  unfold ReadFailed
  dsimp only
  rw [hfailed]
  split
  next h1 => exact hends (if_pos h1)
  next h1 =>
    split
    next h2 => exact hends ((if_neg h1).trans (if_pos h2))
    next h2 =>
      split
      next h3 => exact hends ((if_neg h1).trans ((if_neg h2).trans (if_pos h3)))
      next h3 =>
        exact afterRead_goesOn hc hy hd ho hi (p := (s.save d).afterFault rd y.work) (above := false)
          (P := fun z => z = (s.save d).afterFault rd y.work) ((if_neg h1).trans ((if_neg h2).trans (if_neg h3))) rfl

omit hd ho hi in
/-- DATA with more mismatches than the tolerance allows (R106 step 2). -/
theorem readData_above {data : List Byte}
    (h : (s.save d).tolerance < y.work.errors + mismatches (s.digestsFor d) data rd.first 0 rd.blocks)
    (hpos : 0 < mismatches (s.digestsFor d) data rd.first 0 rd.blocks) :
    VerifyEnded d .verifyErrors .fail (some .verifyErrors) s (s.readData d data) ∧
      ((s.readData d data).save d).progress.errors = max (s.save d).tolerance y.work.errors + 1 := by
  obtain ⟨q, hq, herrors⟩ := compareBlocks_above (s.digestsFor d) (s.save d).tolerance data rd.first rd.blocks 0
    { y.work with consecutive := 0 } h hpos
  have hdata : s.readData d data = s.afterRead d c q true := by
    simp only [State.readData, hc, hy, hrd, VerifySave.afterData, hq]
  obtain ⟨hended, hprogress⟩ := afterRead_ended hc hy (p := q) (above := true) (e := .verifyErrors) rfl
  rw [hdata, hprogress]
  exact ⟨hended, herrors⟩

/-- DATA with its mismatches within the tolerance (R106 step 3, R108). -/
theorem readData_within {data : List Byte}
    (h : y.work.errors + mismatches (s.digestsFor d) data rd.first 0 rd.blocks ≤ (s.save d).tolerance) :
    let next := (s.save d).blockAfter (rd.first + rd.blocks - 1)
    let errors := y.work.errors + mismatches (s.digestsFor d) data rd.first 0 rd.blocks
    (next = (s.save d).lastBlock + 1 → VerifyEnded d .pass .pass none s (s.readData d data) ∧
      ((s.readData d data).save d).progress.errors = errors ∧
      ((s.readData d data).save d).progress.compared = y.work.compared + rd.blocks) ∧
    (next ≠ (s.save d).lastBlock + 1 → VerifyGoesOn d c y next (fun q => q.errors = errors ∧
      q.compared = y.work.compared + rd.blocks ∧ q.readFaults = y.work.readFaults ∧ q.consecutive = 0) s
        (s.readData d data)) := by
  intro next errors
  obtain ⟨q, hq, herrors, hcompared, hfaults, hconsecutive⟩ := compareBlocks_within (s.digestsFor d) (s.save d).tolerance
    data rd.first rd.blocks 0 { y.work with consecutive := 0 } h
  obtain ⟨z, hz⟩ : ∃ z : Progress, z = { q with next := next } := ⟨_, rfl⟩
  have hdata : s.readData d data = s.afterRead d c z false := by
    simp only [State.readData, hc, hy, hrd, VerifySave.afterData, hq, hz, next]
  have hze : z.errors = errors := by rw [hz]; exact herrors
  have hzc : z.compared = y.work.compared + rd.blocks := by rw [hz]; exact hcompared
  have hnone : z.consecutive = 0 := by rw [hz]; exact hconsecutive
  have hends : (s.save d).ending z = if next = (s.save d).lastBlock + 1 then some .pass else none := by
    rw [VerifySave.ending, hze, hnone, if_neg (Nat.not_lt.mpr h), if_neg (by decide), hz]
  rw [hdata]
  refine ⟨fun hlast => ?_, fun hmore => ?_⟩
  · obtain ⟨hended, hprogress⟩ := afterRead_ended hc hy (p := z) (above := false) (hends.trans (if_pos hlast))
    rw [hprogress]
    exact ⟨hended, hze, hzc⟩
  · have hnext : z.next = next := by rw [hz]
    rw [← hnext]
    exact afterRead_goesOn hc hy hd ho hi (p := z) (above := false) (hends.trans (if_neg hmore)) ⟨hze, hzc, by rw [hz]; exact hfaults, hnone⟩

end

theorem badBlocks_eq_mismatches (digests : List Word32) (data : List Byte) (first n : Nat) :
    ((List.range n).filter (fun j => decide (digests[first + j]? ≠
      some (crc32 ((data.drop (32768 * j)).take 32768))))).length = mismatches digests data first 0 n := by
  rw [List.range_eq_range', mismatches]

/-! ### The way to FAULTED from VERIFYING (R112, R113) -/

/-- The verify of drive `d` has let it go, before the context rule (R113). -/
def State.verifyLeft (s : State) (d : Drive) : State :=
  ((s.leaveVerify d .driveFault).writeVerify d .fail).verifyDown d

section
variable {s : State} {d : Drive} {c : Fin 4} {y : Context} (hc : s.contextOf d = some c) (hy : s.context c = some y)
include hc hy

theorem State.verifyLeft_save : (s.verifyLeft d).save d =
    { s.save d with progress := y.work, sub := .outside, lastEnding := .driveFault } := by
  rw [State.verifyLeft, Untouched.verifyDown_save, Untouched.writeVerify_save, State.leaveVerify_save _ hc hy]

theorem State.verifyLeft_context (b : Fin 4) : (s.verifyLeft d).context b = if b = c then none else s.context b := by
  rw [State.verifyLeft, Untouched.verifyDown_context, Untouched.writeVerify_context, State.leaveVerify_context _ hc hy]

omit hc hy in
theorem State.verifyLeft_queue : (s.verifyLeft d).verifyQueue = s.verifyQueue.filter (fun x => decide (x ≠ d)) := by
  rw [State.verifyLeft, Untouched.verifyDown_verifyQueue, Untouched.writeVerify_verifyQueue, State.leaveVerify_verifyQueue]

theorem State.verifyLeft_image {i : SlotNo} (hi : (s.save d).slot = some i) :
    ((s.verifyLeft d).image i).verifyCount = (s.image i).verifyCount - 1 := by
  have hslot : (((s.leaveVerify d .driveFault).writeVerify d .fail).save d).slot = some i := by
    rw [Untouched.writeVerify_save, State.leaveVerify_save _ hc hy]
    exact hi
  rw [State.verifyLeft, State.verifyDown_image hslot, Untouched.writeVerify_image, Untouched.leaveVerify_image]

/-- What an ended verify leaves of the save, the slot and the contexts when its drive goes to FAULTED. -/
theorem verifyFaulted_effect :
    ((s.verifyFaulted d).save d).sub = .outside ∧ ((s.verifyFaulted d).save d).lastEnding = .driveFault ∧
      ((s.verifyFaulted d).save d).progress = y.work ∧
      (∀ i, (s.save d).slot = some i → ((s.verifyFaulted d).image i).verifyCount = (s.image i).verifyCount - 1) ∧
      (s.verifyQueue = [] → (s.verifyFaulted d).context c = none) ∧
      ∀ q rest, s.verifyQueue = q :: rest → d ∉ s.verifyQueue → (∀ j, s.context j ≠ none) →
        ((s.verifyFaulted d).context c).map (·.drive) = some q ∧ (s.verifyFaulted d).verifyQueue = rest := by
  have heq : s.verifyFaulted d = (s.verifyLeft d).contextRule := rfl
  have hnot : d ∉ (s.verifyLeft d).verifyQueue := by simp [State.verifyLeft_queue]
  have hsave : (s.verifyFaulted d).save d = { s.save d with progress := y.work, sub := .outside, lastEnding := .driveFault } := by
    rw [heq, State.contextRule_save_of_notMem hnot, State.verifyLeft_save hc hy]
  have hcontext := State.verifyLeft_context hc hy
  refine ⟨by rw [hsave], by rw [hsave], by rw [hsave], fun i hi => ?_, fun hq => ?_, fun q rest hq hd hbusy => ?_⟩
  · rw [heq, Untouched.contextRule_image, State.verifyLeft_image hc hy hi]
  · have hnil : (s.verifyLeft d).verifyQueue = [] := by rw [State.verifyLeft_queue, hq]; rfl
    rw [heq, State.contextRule_of_nil hnil, hcontext, if_pos rfl]
  · have hqueue : (s.verifyLeft d).verifyQueue = q :: rest := by
      rw [State.verifyLeft_queue, ← hq, List.filter_eq_self]
      exact fun x hx => decide_eq_true (fun h => hd (h ▸ hx))
    have hrule := State.contextRule_of_one_free hqueue (by rw [hcontext, if_pos rfl])
      (fun b hb => by rw [hcontext, if_neg hb]; exact hbusy b)
    rw [heq, hrule, State.headReads_context_self]
    exact ⟨rfl, State.headReads_verifyQueue⟩

/-- A drive in VERIFYING goes to FAULTED (R64, R113). -/
theorem verifyFaulted_driveFaulted (hs : (s.drive d).state = .verifying) {f : DriveFailure}
    (hf : FaultedWith d f s (s.driveFaulted d)) : VerifyFaulted d c y f s (s.driveFaulted d) := by
  have hstarted := changes_faultStarted s d
  obtain ⟨u, hu⟩ : ∃ u, u = s.faultStarted d := ⟨_, rfl⟩
  rw [← hu] at hstarted
  have hcontexts : ∀ b, u.context b = s.context b := State.context_congr (hstarted .contexts (by simp))
  have hsaves : ∀ e, u.save e = s.save e := State.save_congr (hstarted .saves (by simp))
  have himages : ∀ i, u.image i = s.image i := State.image_congr (hstarted .images (by simp))
  have hqueues : u.verifyQueue = s.verifyQueue := hstarted .verifyQueue (by simp)
  have hcu : u.contextOf d = some c := by
    rw [← hc]
    simp only [State.contextOf, hcontexts]
  have hyu : u.context c = some y := (hcontexts c).trans hy
  have hdone : s.driveFaulted d = (u.verifyFaulted d).faultSettled d := by
    rw [State.driveFaulted_eq, hs, ← hu]
    rfl
  obtain ⟨hsub, hlast, hprogress, hcount, hnil, hhead⟩ := verifyFaulted_effect hcu hyu
  have hsettled := changes_faultSettled (u.verifyFaulted d) d
  have hrecord {n : RecNo} (hn : s.holds d n = true) : ((s.driveFaulted d).record n).verify = .fail ∧
      ((s.driveFaulted d).record n).errorBlocks = y.work.errors := by
    obtain ⟨x, hx⟩ := useOnly_faultSettled (u.verifyFaulted d) d n
    have hholds : u.holds d n = true := by rw [hu, State.faultStarted_holds]; exact hn
    have hwork := u.faultWork_verifying_record d n
    rw [if_pos hholds, State.leaveVerify_save _ hcu hyu] at hwork
    have hverify : (u.verifyFaulted d).record n = (u.faultWork d .verifying).record n := rfl
    rw [hdone, hx, hverify, hwork]
    exact ⟨rfl, rfl⟩
  unfold VerifyFaulted
  refine ⟨hf, ?_⟩
  rw [hdone] at hrecord ⊢
  rw [State.save_congr (hsettled .saves (by simp)), State.context_congr (hsettled .contexts (by simp)),
    hsettled .verifyQueue (by simp)]
  simp only [State.image_congr (hsettled .images (by simp))]
  simp only [hqueues, hcontexts, hsaves, himages] at hcount hnil hhead
  exact ⟨hsub, hlast, hprogress, hcount, fun k hk hl => hrecord (State.holds_of_trayRecord hk hl), hnil, hhead⟩

end

theorem VerifyFaulted.of_arbiter {d : Drive} {c : Fin 4} {y : Context} {f : DriveFailure} {s t : State}
    (h : VerifyFaulted d c y f s t) : VerifyFaulted d c y f s t.arbiter := by
  obtain ⟨hf, hsub, hlast, hprogress, hcount, hrecord, hnil, hhead⟩ := h
  unfold VerifyFaulted
  refine ⟨hf.then ⟨_, Untouched.arbiter_drive _ _⟩ (useOnly_arbiter t), ?_⟩
  simp only [Untouched.arbiter_save, Untouched.arbiter_image, Untouched.arbiter_context, Untouched.arbiter_verifyQueue]
  refine ⟨hsub, hlast, hprogress, hcount, fun k hk hl => ?_, hnil, hhead⟩
  obtain ⟨u, hu⟩ := useOnly_arbiter t k.num
  rw [hu]
  exact hrecord k hk hl

/-- A READ that takes its drive to FAULTED ends its verify (R112, R113). -/
theorem verifyFaulted_requestEnded {s : State} {d : Drive} {c : Fin 4} {y : Context} {first count : Nat} {e : Ending}
    {f : DriveFailure} (hfaults : e.faults (.read first count) ((s.drive d).ended (.read first count) e) = true)
    (hf : e.failure .read = some f) (hs : (s.drive d).state = .verifying) (hc : s.contextOf d = some c)
    (hy : s.context c = some y) : VerifyFaulted d c y f s (s.requestEnded d (.read first count) e).arbiter := by
  have hended := State.requestEnded_driveFaulted (s := s) hfaults (by simp) rfl
  have hport : (s.endedPort d (.read first count) e).drive d = (s.drive d).ended (.read first count) e := State.endedPort_drive ..
  have hlast : ((s.drive d).ended (.read first count) e).lastFault = some f := by
    have hkind : DriveRequest.kind (.read first count) = .read := rfl
    rw [DriveSlot.ended, hkind, hf]
    rfl
  have hcp : (s.endedPort d (.read first count) e).contextOf d = some c := hc
  have hyp : (s.endedPort d (.read first count) e).context c = some y := hy
  have hfaulted : FaultedWith d f (s.endedPort d (.read first count) e)
      ((s.endedPort d (.read first count) e).driveFaulted d) :=
    faultedWith_driveFaulted (by rw [hport]; rfl) (by rw [hport]; exact hlast)
  have hverify := (verifyFaulted_driveFaulted hcp hyp (by rw [hport]; exact hs) hfaulted).of_arbiter
  have htold := faultedWith_requestEnded (s := s) hfaults hf
  rw [← hended] at hverify
  obtain ⟨-, hrest⟩ := hverify
  rw [hport] at hrest
  exact ⟨htold, hrest⟩

theorem VerifyEnded.of_endedPort {d : Drive} {o : VerifyOutcome} {cause : Option FailCause} {l : LastEnding} {s t : State}
    {req : DriveRequest} {e : Ending} (h : VerifyEnded d l o cause (s.endedPort d req e) t) : VerifyEnded d l o cause s t :=
  h.of_start rfl (fun _ => rfl) (by rw [State.endedPort_drive]; rfl) (fun _ => rfl)

theorem VerifyGoesOn.of_endedPort {d : Drive} {c : Fin 4} {y : Context} {b : Nat} {P : Progress → Prop} {s t : State}
    {req : DriveRequest} {e : Ending} (h : VerifyGoesOn d c y b P (s.endedPort d req e) t) : VerifyGoesOn d c y b P s t :=
  h.of_start rfl rfl (fun _ => Iff.rfl) (by rw [State.endedPort_drive]; rfl)

theorem VerifyEnded.of_port {d : Drive} {o : VerifyOutcome} {cause : Option FailCause} {l : LastEnding} {s t u : State}
    {req : DriveRequest} {e : Ending} (h : VerifyEnded d l o cause u t) (hu : u = s.endedPort d req e) :
    VerifyEnded d l o cause s t := by
  subst hu
  exact h.of_endedPort

theorem VerifyGoesOn.of_port {d : Drive} {c : Fin 4} {y : Context} {b : Nat} {P : Progress → Prop} {s t u : State}
    {req : DriveRequest} {e : Ending} (h : VerifyGoesOn d c y b P u t) (hu : u = s.endedPort d req e) :
    VerifyGoesOn d c y b P s t := by
  subst hu
  exact h.of_endedPort

theorem ReadFailed.of_endedPort {d : Drive} {c : Fin 4} {y : Context} {rd : OutstandingRead} {s t : State}
    {req : DriveRequest} {e : Ending} (h : ReadFailed d c y rd (s.endedPort d req e) t) : ReadFailed d c y rd s t.arbiter := by
  have hsave : t.arbiter.save d = t.save d := Untouched.arbiter_save t d
  unfold ReadFailed at h ⊢
  rw [hsave]
  have hends {l : LastEnding} {o : VerifyOutcome} {cause : Option FailCause} {q : Progress}
      (h : VerifyEnded d l o cause (s.endedPort d req e) t ∧ (t.save d).progress = q) :
      VerifyEnded d l o cause s t.arbiter ∧ (t.save d).progress = q := ⟨h.1.of_endedPort.of_arbiter, h.2⟩
  have hport : (s.endedPort d req e).save d = s.save d := rfl
  rw [hport] at h
  dsimp only at h ⊢
  split at h
  next h1 => rw [if_pos h1]; exact hends h
  next h1 =>
    rw [if_neg h1]
    split at h
    next h2 => rw [if_pos h2]; exact hends h
    next h2 =>
      rw [if_neg h2]
      split at h
      next h3 => rw [if_pos h3]; exact hends h
      next h3 => rw [if_neg h3]; exact h.of_endedPort.of_arbiter

/-! ### The count and the last fault of a port (R47, R48) -/

/-- What only the end of a request changes of a port: its timeouts in a row and its last fault. -/
def DriveSlot.faultSide (x : DriveSlot) : Nat × Option DriveFailure := (x.timeoutCount, x.lastFault)

section
variable (s : State) (d : Drive)

theorem State.askDrive_faultSide (q : DriveRequest) (e : Drive) :
    ((s.askDrive d q).drive e).faultSide = (s.drive e).faultSide := by
  by_cases h : e = d
  · subst h
    unfold State.askDrive State.sendDrive
    split
    · rw [State.drive_modDrive_self]
      rfl
    · rw [State.drive_modDrive_self, State.dropWaiting_drive]
      rfl
  · rw [State.askDrive_drive_of_ne _ _ h]

theorem State.startUnloading_faultSide (kind : EntryKind) (dest : Dest) :
    ((s.startUnloading d kind dest).drive d).faultSide = (s.drive d).faultSide := by
  rw [State.startUnloading, State.askDrive_faultSide, State.raiseDrive, Untouched.raise_drive, Untouched.enqueue_drive,
    State.drive_modDrive_self]
  rfl

theorem State.readSend_faultSide (c : Fin 4) (e : Drive) :
    ((s.readSend c).drive e).faultSide = (s.drive e).faultSide := by
  cases hx : s.context c with
  | none => simp only [State.readSend, hx]
  | some x =>
    rw [State.readSend_of_some hx, State.askDrive_faultSide, Untouched.modContext_drive]

theorem State.contextRule_faultSide (e : Drive) : (s.contextRule.drive e).faultSide = (s.drive e).faultSide :=
  List.foldlRecOn (motive := fun t : State => (t.drive e).faultSide = (s.drive e).faultSide) s.verifyQueue
    (fun t _ => t.takeContext) rfl (fun t ht _ _ => by
      refine Eq.trans ?_ ht
      cases hc : t.freeContext with
      | none => rw [State.takeContext_of_busy hc]
      | some c =>
        cases hq : t.verifyQueue with
        | nil => rw [State.takeContext_of_nil hq]
        | cons q rest =>
          rw [State.takeContext_of_free hc hq, State.readSend_faultSide, State.headTaken, State.drive_setContext',
            State.drive_modSave', State.drive_setVerifyQueue'])

theorem State.endVerify_faultSide (e : LastEnding) : ((s.endVerify d e).drive d).faultSide = (s.drive d).faultSide := by
  rw [State.endVerify, State.contextRule_faultSide, State.unload, State.startUnloading_faultSide,
    Untouched.verifyDown_drive, Untouched.giveEnding_drive, Untouched.writeVerify_drive, Untouched.leaveVerify_drive]

theorem State.completeRead_faultSide (c : Fin 4) (slice : Nat) :
    ((s.completeRead d c slice).drive d).faultSide = (s.drive d).faultSide := by
  by_cases hslice : 8 ≤ slice + 1
  · by_cases hq : s.verifyQueue = []
    · have hlimit : Config.sliceReads ≤ slice + 1 := hslice
      rw [State.completeRead, if_pos hlimit, hq, List.isEmpty_nil, if_pos rfl, State.readSend_faultSide,
        Untouched.modContext_drive]
    · rw [State.completeRead_of_waiting hq hslice, State.contextRule_faultSide, State.suspended_drive]
  · have hlimit : ¬ Config.sliceReads ≤ slice + 1 := hslice
    rw [State.completeRead, if_neg hlimit, State.readSend_faultSide, Untouched.modContext_drive]

theorem State.afterRead_faultSide (c : Fin 4) (p : Progress) (above : Bool) :
    ((s.afterRead d c p above).drive d).faultSide = (s.drive d).faultSide := by
  unfold State.afterRead
  dsimp only
  split
  · rw [State.endVerify_faultSide, Untouched.modContext_drive]
  · rw [State.completeRead_faultSide, Untouched.modContext_drive]
  · rw [Untouched.modContext_drive]

theorem State.readData_faultSide (data : List Byte) : ((s.readData d data).drive d).faultSide = (s.drive d).faultSide := by
  unfold State.readData
  split
  · split
    · split
      · exact s.afterRead_faultSide d _ _ _
      · rfl
    · rfl
  · rfl

theorem State.readFailed_faultSide : ((s.readFailed d).drive d).faultSide = (s.drive d).faultSide := by
  unfold State.readFailed
  split
  · split
    · split
      · exact s.afterRead_faultSide d _ _ _
      · rfl
    · rfl
  · rfl

end

/-! ### Replies to READ -/

/-- Settles O44: the DATA by its mismatches, and the two kinds of fault. -/
theorem readReplyEffect : Obligations.ReadReplyEffect := by
  intro d n c y rd first count s h hc hy hd hrd hi hs v p next bad
  have plain : ¬ (DriveRequest.read first count = .sense ∧ (s.drive d).checkPhase = .sensing) := by simp
  refine ⟨fun data hlen => ?data, fun r hr => ?fault, ?tray⟩
  case data =>
    have hexec := exec_replyRow_acts h (e := .data data) rfl plain rfl (r := .data data) (DriveRequest.ending_data hlen)
    obtain ⟨u, hu⟩ : ∃ u, u = s.endedPort d (.read first count) (.data data) := ⟨_, rfl⟩
    have hdrive : u.drive d = (s.drive d).ended (.read first count) (.data data) := by rw [hu, State.endedPort_drive]
    have hcu : u.contextOf d = some c := by rw [hu]; exact hc
    have hyu : u.context c = some y := by rw [hu]; exact hy
    have hbad : bad data = mismatches (u.digestsFor d) data rd.first 0 rd.blocks := by
      rw [hu]
      exact badBlocks_eq_mismatches _ _ _ _
    have hsave : (u.readData d data).arbiter.save d = (u.readData d data).save d := Untouched.arbiter_save _ _
    have hv : v = u.save d := by rw [hu]; rfl
    have hcount := u.readData_faultSide d data
    have hacts : u.requesterActs d (.read first count) (.data data) = u.readData d data := rfl
    rw [← hu, hacts] at hexec
    refine ⟨_, hexec, ?_, fun habove hpos => ?_, fun hwithin hlast => ?_, fun hwithin hmore => ?_⟩
    · rw [hdrive] at hcount
      rw [Untouched.arbiter_drive]
      exact congrArg Prod.fst hcount
    · rw [hbad, hv] at habove
      rw [hbad] at hpos
      obtain ⟨hended, herrors⟩ := readData_above hcu hyu hrd habove hpos
      rw [hsave, hv]
      exact ⟨hended.of_arbiter.of_port hu, herrors⟩
    · rw [hbad, hv] at hwithin
      obtain ⟨hends, -⟩ := readData_within hcu hyu hd hrd (by rw [hdrive]; rfl) (by rw [hdrive]; exact hi) hwithin
      obtain ⟨hended, herrors, hcompared⟩ := hends (by rw [← hv]; exact hlast)
      rw [hsave, hbad]
      exact ⟨hended.of_arbiter.of_port hu, herrors, hcompared⟩
    · rw [hbad, hv] at hwithin
      obtain ⟨-, hgoes⟩ := readData_within hcu hyu hd hrd (by rw [hdrive]; rfl) (by rw [hdrive]; exact hi) hwithin
      have hon := hgoes (by rw [← hv]; exact hmore)
      rw [hbad]
      rw [← hv] at hon
      exact hon.of_arbiter.of_port hu
  case fault =>
    have good := Ending.faults_fault_of_other (req := .read first count) (x := s.drive d) hr (by simp) (by simp) (by simp)
    have hexec := exec_replyRow_acts h (e := .fault r) good plain rfl (r := .fault r) rfl
    have hcount := (s.endedPort d (.read first count) (.fault r)).readFailed_faultSide d
    rw [State.endedPort_drive] at hcount
    have hport : (s.endedPort d (.read first count) (.fault r)).drive d = (s.drive d).ended (.read first count) (.fault r) :=
      State.endedPort_drive ..
    have hfailed : ReadFailed d c y rd (s.endedPort d (.read first count) (.fault r)) _ :=
      readFailed_effect hc hy hd hrd (by rw [hport]; rfl) (by rw [hport]; exact hi)
    refine ⟨_, hexec, ?_, hfailed.of_endedPort⟩
    rw [Untouched.arbiter_drive]
    exact congrArg Prod.fst hcount
  case tray =>
    have hfaults := (Ending.faults_fault (.read first count) (s.drive d) .tray).mpr (.inl rfl)
    exact ⟨_, exec_replyRow_of_outstanding h.1 (.fault .tray), verifyFaulted_requestEnded hfaults rfl hs hc hy⟩

end Sys2Proof.Machine
end

section
/-! A drive request times out (R47, R48; O45). -/

namespace Sys2Proof.Machine

/-! ### The count and the last fault through the requesters' rules -/

section
variable (s : State) (d : Drive)

theorem State.decideDrive_faultSide : ((s.decideDrive d).drive d).faultSide = (s.drive d).faultSide := by
  by_cases hasked : s.loadAsked d = true
  · have htaken : ((s.takePending d).drive d).faultSide = (s.drive d).faultSide := by
      rw [s.takePending_drive_self d, DriveSlot.pendingTaken]
      split <;> rfl
    rw [State.decideDrive_of_asked hasked, State.loadIfAllowed]
    split
    · split
      · obtain ⟨q, n, w, st, hslot⟩ := (s.takePending d).loadingAsked_drive_self d
        rw [State.startLoading_drive, hslot]
        exact htaken
      · exact htaken
    · exact htaken
  · rw [State.decideDrive_of_not_asked hasked]

/-- A load decision leaves the count and the last fault of every port (R55). -/
theorem State.loadDecision_faultSide : (s.loadDecision.drive d).faultSide = (s.drive d).faultSide := by
  obtain ⟨t, _, -, hturn, hslot, -⟩ :=
    oneDriveAtATime_decideDrive.foldl_turn s (List.nodup_finRange 16) (List.mem_finRange d)
  have h := t.decideDrive_faultSide d
  rw [hslot] at h
  rw [show s.loadDecision.drive d = (t.decideDrive d).drive d from hturn]
  exact h

theorem State.endApply_faultSide (st : ApplyStatus) : ((s.endApply d st).drive d).faultSide = (s.drive d).faultSide := by
  rw [State.endApply_drive_self]
  rfl

theorem State.failLoading_faultSide (c : FailCause) : ((s.failLoading d c).drive d).faultSide = (s.drive d).faultSide := by
  rw [State.failLoading, State.startUnloading_faultSide, Untouched.giveCause_drive]

theorem State.failBurnUnload_faultSide (c : FailCause) :
    (((s.failBurn d c).startUnloading d .unload .byVerdict).drive d).faultSide = (s.drive d).faultSide := by
  rw [State.startUnloading_faultSide, State.failBurn_drive]

theorem State.speedEnded_timeout_faultSide (g : Rung) :
    ((s.speedEnded d g .timeout).drive d).faultSide = (s.drive d).faultSide := by
  unfold State.speedEnded
  split
  · exact s.failLoading_faultSide d .timeout
  · rfl

theorem State.writeEnded_timeout_faultSide :
    ((s.writeEnded d .timeout).drive d).faultSide = (s.drive d).faultSide := by
  cases hw : s.waveOf d with
  | none => simp only [State.writeEnded, hw]
  | some w =>
    obtain ⟨a, ha⟩ := State.exists_attachment_of_waveOf hw
    rw [State.writeEnded_timeout hw ha, State.drive_congr ((changes_afterDetach _ w d) .drives (by simp)), State.detachStep,
      State.detachToUnload, State.failBurnUnload_faultSide, State.unattach, State.drive_modWave']

theorem State.closeEnded_timeout_faultSide :
    ((s.closeEnded d .timeout).drive d).faultSide = (s.drive d).faultSide := by
  unfold State.closeEnded
  split
  · exact s.failBurnUnload_faultSide d .timeout
  · rfl

/-- Whatever the request, its own rule leaves the count and the last fault that the timeout has set. -/
theorem State.requesterActs_timeout_faultSide (req : DriveRequest) :
    ((s.requesterActs d req .timeout).drive d).faultSide = (s.drive d).faultSide := by
  cases req with
  | trayOpen => exact s.askDrive_faultSide d _ d
  | trayClose => exact s.askDrive_faultSide d _ d
  | speed c g who => exact s.speedEnded_timeout_faultSide d g
  | write first count data => exact s.writeEnded_timeout_faultSide d
  | close => exact s.closeEnded_timeout_faultSide d
  | read first count => exact s.readFailed_faultSide d
  | sense => exact s.askDrive_faultSide d _ d

end

/-! ### The end of a request by timeout -/

section
variable {s : State} {d : Drive} {req : DriveRequest} {n : Byte}

/-- What a timeout leaves on the port, before the requester acts. -/
theorem DriveSlot.ended_timeout (x : DriveSlot) (req : DriveRequest) :
    x.ended req .timeout = { x with outstanding := none, timeoutCount := x.timeoutCount + 1,
                                    lastFault := some (.timeout req.kind) } := rfl

theorem State.requestEnded_apply (good : Ending.timeout.faults req ((s.drive d).ended req .timeout) = false)
    (apply : req.isApplySpeed = true) :
    s.requestEnded d req .timeout = ((s.endedPort d req .timeout).endApply d .speedFailed).loadDecision := by
  have hport : (s.modDrive d (·.ended req .timeout)).drive d = (s.drive d).ended req .timeout := s.drive_modDrive_self d _
  simp only [State.requestEnded, hport, good, apply, Bool.false_eq_true, if_false, if_true]
  rfl

theorem State.requestEnded_checkSense (hi : (s.drive d).checkPhase = .sensing)
    (good : Ending.timeout.faults .sense ((s.drive d).ended .sense .timeout) = false) :
    s.requestEnded d .sense .timeout = (s.endedPort d .sense .timeout).sendDrive d .sense := by
  have hport : (s.modDrive d (·.ended .sense .timeout)).drive d = (s.drive d).ended .sense .timeout := s.drive_modDrive_self d _
  have hphase : ((s.drive d).ended .sense .timeout).checkPhase = .sensing := hi
  simp only [State.requestEnded, hport, good, hphase, Bool.false_eq_true, if_false, DriveRequest.isApplySpeed]
  rfl

theorem requestEnded_timeout_faultSide (h : s.awaits d req n) :
    ((s.requestEnded d req .timeout).drive d).faultSide = ((s.drive d).timeoutCount + 1, some (.timeout req.kind)) := by
  have hport : ((s.endedPort d req .timeout).drive d).faultSide = ((s.drive d).timeoutCount + 1, some (.timeout req.kind)) := by
    rw [State.endedPort_drive, DriveSlot.ended_timeout]
    rfl
  by_cases hfaults : Ending.timeout.faults req ((s.drive d).ended req .timeout) = true
  · have hfaulted : ((s.endedFaulted d req .timeout).drive d).faultSide =
        ((s.drive d).timeoutCount + 1, some (.timeout req.kind)) := by
      rw [State.endedFaulted, State.driveFaulted_drive, State.faultedClose_drive, State.drive_modDrive_self,
        DriveSlot.ended_timeout]
      rfl
    rw [State.requestEnded_of_faults hfaults]
    split
    · rw [State.loadDecision_faultSide, State.endApply_faultSide]
      exact hfaulted
    · exact hfaulted
  have good := Bool.eq_false_iff.mpr hfaults
  by_cases apply : req.isApplySpeed = true
  · rw [State.requestEnded_apply good apply, State.loadDecision_faultSide, State.endApply_faultSide]
    exact hport
  by_cases hsense : req = .sense ∧ (s.drive d).checkPhase = .sensing
  · obtain ⟨rfl, hi⟩ := hsense
    rw [State.requestEnded_checkSense hi good, State.sendDrive, State.drive_modDrive_self]
    exact hport
  · rw [State.requestEnded_of_awaits h good hsense (Bool.eq_false_iff.mpr apply), State.requesterActs_timeout_faultSide]
    exact hport

end

/-! ### A first timeout -/

section
variable {s : State} {d : Drive} {req : DriveRequest} {n : Byte}

/-- A first timeout faults nothing (R47). -/
theorem Ending.good_of_first (h : (s.drive d).timeoutCount = 0) (req : DriveRequest) :
    Ending.timeout.faults req ((s.drive d).ended req .timeout) = false := by
  simp [Ending.faults_timeout, h]

/-- A TRAY-OPEN, TRAY-CLOSE or SENSE goes out again (R48, R51). -/
theorem timeout_sendsAgain (h : s.awaits d req n) (hfirst : (s.drive d).timeoutCount = 0)
    (hreq : (req = .trayOpen ∨ req = .trayClose) ∧ (s.drive d).checkPhase = .idle ∨
      req = .sense ∧ (s.drive d).checkPhase ≠ .checking) :
    (s.requestEnded d req .timeout).drive d = { s.drive d with
      outstanding := some { req := req, number := (s.drive d).nextNumber }, nextNumber := (s.drive d).nextNumber + 1,
      timeoutCount := 1, lastFault := some (.timeout req.kind) } := by
  have good := Ending.good_of_first hfirst req
  have hport := s.endedPort_drive d req .timeout
  have hsent : ((s.drive d).ended req .timeout).sent req = { s.drive d with
      outstanding := some { req := req, number := (s.drive d).nextNumber }, nextNumber := (s.drive d).nextNumber + 1,
      timeoutCount := 1, lastFault := some (.timeout req.kind) } := by
    rw [DriveSlot.ended_timeout, hfirst]
    rfl
  have hasked (hi : (s.drive d).checkPhase = .idle) :
      ((s.endedPort d req .timeout).askDrive d req).drive d = ((s.drive d).ended req .timeout).sent req := by
    rw [State.askDrive_drive_of_free _ _ _ (by rw [hport, DriveSlot.portFree_iff]; exact ⟨rfl, hi⟩), hport]
  rw [← hsent]
  rcases hreq with ⟨rfl | rfl, hi⟩ | ⟨rfl, hc⟩
  · rw [State.requestEnded_of_awaits h good (by simp) rfl]
    exact hasked hi
  · rw [State.requestEnded_of_awaits h good (by simp) rfl]
    exact hasked hi
  · by_cases hsensing : (s.drive d).checkPhase = .sensing
    · rw [State.requestEnded_checkSense hsensing good, State.sendDrive, State.drive_modDrive_self, hport]
    · have hi : (s.drive d).checkPhase = .idle := by
        cases hp : (s.drive d).checkPhase with
        | idle => rfl
        | checking => exact absurd hp hc
        | sensing => exact absurd hp hsensing
      rw [State.requestEnded_of_awaits h good (fun hs => hsensing hs.2) rfl]
      exact hasked hi

end

/-- Settles O45: the second timeout in a row, and the first by what was asked for. -/
theorem driveTimeoutEffect : Obligations.DriveTimeoutEffect := by
  intro d req n s h x
  have hend := State.driveTimeout_of_outstanding h.1
  have hside := requestEnded_timeout_faultSide h
  have hdrive : ((s.requestEnded d req .timeout).arbiter).drive d = (s.requestEnded d req .timeout).drive d :=
    Untouched.arbiter_drive _ _
  obtain ⟨hcount, hlast⟩ := Prod.mk.inj hside
  refine ⟨_, rfl, ?_, ?_, fun hsecond => ⟨faultedWith_driveTimeout h.1 hsecond, fun f k c y hreq hc hy _ hs => ?_⟩,
    fun hfirst => ⟨fun hreq => ?_, fun f k b w hreq hw => ?_, fun hreq hs => ?_, fun c g hreq hs hp => ?_,
      fun f k c y rd hreq hc hy hd hrd hi _ => ?_, fun c g hreq hor => ?_⟩⟩
  · rw [hend, hdrive]; exact hcount
  · rw [hend, hdrive]; exact hlast
  · subst hreq
    rw [hend]
    exact verifyFaulted_requestEnded (by rw [Ending.faults_timeout]; simpa using hsecond) rfl hs hc hy
  · rw [hend, hdrive]
    exact timeout_sendsAgain h hfirst hreq
  · subst hreq
    obtain ⟨a, ha⟩ := State.exists_attachment_of_waveOf hw
    obtain ⟨hunload, hburn, hleft⟩ := detachToUnload_effect (s.endedPort d (.write f k b) .timeout) w d .timeout
    have hacts : s.requestEnded d (.write f k b) .timeout =
        ((s.endedPort d (.write f k b) .timeout).detachStep w d .timeout).afterDetach w d :=
      (State.requestEnded_of_awaits h (Ending.good_of_first hfirst _) (by simp) rfl).trans
        (State.writeEnded_timeout (by exact hw) (by exact ha))
    rw [hend, hacts]
    exact ⟨hleft.of_arbiter.1, by rw [Untouched.arbiter_drive]; exact hunload, hburn.of_endedPort.then (useOnly_arbiter _)⟩
  · subst hreq
    obtain ⟨hunload, hburn⟩ := failBurn_unloading (s.endedPort d .close .timeout) d .timeout
    have hacts : s.requestEnded d .close .timeout =
        ((s.endedPort d .close .timeout).failBurn d .timeout).startUnloading d .unload .byVerdict :=
      (State.requestEnded_of_awaits h (Ending.good_of_first hfirst _) (by simp) rfl).trans
        (State.closeEnded_timeout (by rw [State.endedPort_drive]; exact hs))
    rw [hend, hacts]
    exact ⟨by rw [Untouched.arbiter_drive]; exact hunload, hburn.of_endedPort.then (useOnly_arbiter _)⟩
  · subst hreq
    have hport := s.endedPort_drive d (.speed c g .loading) .timeout
    have hacts : s.requestEnded d (.speed c g .loading) .timeout =
        (s.endedPort d (.speed c g .loading) .timeout).failLoading d .timeout := by
      rw [State.requestEnded_of_awaits h (Ending.good_of_first hfirst _) (by simp) rfl]
      have hstate : ((s.endedPort d (.speed c g .loading) .timeout).drive d).state = .loading := by rw [hport]; exact hs
      have hphase : ((s.endedPort d (.speed c g .loading) .timeout).drive d).phase = .speedSet := by rw [hport]; exact hp
      simp only [State.requesterActs, State.speedEnded, hstate, hphase]
    rw [hend, hacts]
    exact loadingFailed_failLoading s d _ _ _
  · subst hreq
    have hport := s.endedPort_drive d (.read f k) .timeout
    have hfailed : ReadFailed d c y rd (s.endedPort d (.read f k) .timeout) _ :=
      readFailed_effect hc hy hd hrd (by rw [hport]; rfl) (by rw [hport]; exact hi)
    rw [hend, State.requestEnded_of_awaits h (Ending.good_of_first hfirst _) (by simp) rfl]
    exact hfailed.of_endedPort
  · subst hreq
    have hslot : ((s.endedPort d (.speed c g .apply) .timeout).endApply d .speedFailed).drive d =
        { x.ended (.speed c g .apply) .timeout with applyStatus := .speedFailed } := by
      rw [State.endApply_drive_self, State.endedPort_drive]
    have hkept : (((s.endedPort d (.speed c g .apply) .timeout).endApply d .speedFailed).loadDecision).drive d =
        ((s.endedPort d (.speed c g .apply) .timeout).endApply d .speedFailed).drive d := by
      rcases hor with hstate | hfeed
      · refine State.loadDecision_drive_of_not_empty ?_
        rw [hslot]
        exact hstate
      · rw [State.loadDecision_of_autoFeed_clear]
        rw [changes_endApply _ _ _ .transport (by simp)]
        exact hfeed
    rw [hend, hdrive, State.requestEnded_apply (Ending.good_of_first hfirst _) rfl, hkept, hslot]
    exact ⟨rfl, rfl⟩

end Sys2Proof.Machine
end

section
/-! Disc Remove (R160): the end of the record, its entry's retirement, and what the drive or the printer that held the
disc does (O33). -/

namespace Sys2Proof.Machine

/-! ### PRINTER events in a removal -/

/-- The wave's side of a detach does not raise PRINTER. -/
theorem State.afterDetach_printerEvent (s : State) (w : WaveNo) (d : Drive) :
    (s.afterDetach w d).event .printer = s.event .printer := by
  have hempty : ∀ t : State, (t.abortIfEmpty w).event .printer = t.event .printer := fun t => by
    unfold State.abortIfEmpty
    split
    · rw [State.abortWave_eq, State.raiseWave, State.raise_event_of_ne _ _ _ (by decide),
        State.waveEndAtImage_event_of_ne _ _ _ _ (by decide), State.event_modWave',
        State.detachedForAbort_event_of_ne _ _ _ (by decide) (by decide) (by decide)]
    · rfl
  rw [State.afterDetach, hempty, State.drainedCheck_event_of_ne _ _ (by decide),
    State.releaseRule_event_of_ne _ _ (by decide), State.raiseDetach, State.raise_event_of_ne _ _ _ (by decide)]

theorem State.closeTray_event_of_ne (s : State) (d : Drive) {c : EventClass} (ha : c ≠ .applyDone) (hs : c ≠ .driveState) :
    (s.closeTray d).event c = s.event c := by
  rw [State.closeTray_eq, State.askDrive_event_of_ne _ _ _ ha, State.trayClosing]
  split
  · rfl
  · rw [State.raiseDrive, State.raise_event_of_ne _ _ _ hs]
    rfl

theorem State.takeContext_event_of_ne (s : State) {c : EventClass} (h : c ≠ .applyDone) :
    s.takeContext.event c = s.event c := by
  cases hc : s.freeContext with
  | none => rw [State.takeContext_of_busy hc]
  | some b =>
    cases hq : s.verifyQueue with
    | nil => rw [State.takeContext_of_nil hq]
    | cons d rest =>
      rw [State.takeContext_of_free hc hq, ← State.headReads, State.headReads_eq, State.askDrive_event_of_ne _ _ _ h]
      rfl

theorem State.contextRule_event_of_ne (s : State) {c : EventClass} (h : c ≠ .applyDone) :
    s.contextRule.event c = s.event c :=
  List.foldlRecOn (motive := fun t : State => t.event c = s.event c) s.verifyQueue (fun t _ => t.takeContext) rfl
    (fun t ht _ _ => (t.takeContext_event_of_ne h).trans ht)

/-! ### The drive that held the disc (R63, R93, R115) -/

section
variable (s : State) (d : Drive)

/-- The drive has lost the record in its tray. -/
def State.trayLost : State := s.modDrive d (fun x => { x with trayRecord := none })

theorem State.trayLost_drive_self : (s.trayLost d).drive d = { s.drive d with trayRecord := none } :=
  s.drive_modDrive_self d _

/-- What a removal at a drive is, by the drive's state. -/
inductive RemovedAt (t : State) : Prop
  | stays (h : (s.drive d).state = .faulted ∨ (s.drive d).state = .absent ∨ (s.drive d).state = .empty)
      (ht : t = s.trayLost d)
  | detaches (ht : t = (s.trayLost d).detachOne d (fun u => u.closeTray d))
  | verifies (ht : t = (s.trayLost d).verifyRemoved d)
  | closes (ht : t = (s.trayLost d).closeTray d)

theorem State.driveRemoved_cases : RemovedAt s d (s.driveRemoved d) := by
  unfold State.driveRemoved
  dsimp only
  cases h : (s.drive d).state with
  | burning => exact .detaches rfl
  | verifying => exact .verifies rfl
  | faulted => exact .stays (.inl h) rfl
  | absent => exact .stays (.inr (.inl h)) rfl
  | empty => exact .stays (.inr (.inr h)) rfl
  | loading => exact .closes rfl
  | ready => exact .closes rfl
  | closing => exact .closes rfl
  | unloading => exact .closes rfl

/-- The parts that a removal at a drive may change: the discs, the queue, the transport and the printer are not among them. -/
def removalParts : List Part := [.images, .accs, .waves, .drives, .saves, .verifyQueue, .contexts, .outbound, .events]

theorem changes_detachOne_closeTray : Changes removalParts s (s.detachOne d (fun u => u.closeTray d)) := by
  cases hw : s.waveOf d with
  | none =>
    rw [State.detachOne_of_unattached hw]
    exact (changes_closeTray s d).mono (by decide)
  | some w =>
    rw [State.detachOne_of_attached hw]
    exact ((changes_modWave s w _).mono (by decide)).trans (((changes_closeTray _ d).mono (by decide)).trans
      ((changes_afterDetach _ w d).mono (by decide)))

theorem changes_driveRemoved_side : Changes removalParts s (s.driveRemoved d) := by
  have hlost : Changes removalParts s (s.trayLost d) := (changes_modDrive s d _).mono (by decide)
  cases s.driveRemoved_cases d with
  | stays _ ht => rw [ht]; exact hlost
  | detaches ht => rw [ht]; exact hlost.trans (changes_detachOne_closeTray _ d)
  | verifies ht => rw [ht]; exact hlost.trans ((changes_verifyRemoved _ d).mono (by decide))
  | closes ht => rw [ht]; exact hlost.trans ((changes_closeTray _ d).mono (by decide))

theorem State.driveRemoved_printerEvent : (s.driveRemoved d).event .printer = s.event .printer := by
  have hclose : ∀ t : State, (t.closeTray d).event .printer = t.event .printer := fun t =>
    t.closeTray_event_of_ne d (by decide) (by decide)
  cases s.driveRemoved_cases d with
  | stays _ ht => rw [ht]; rfl
  | detaches ht =>
    rw [ht]
    cases hw : (s.trayLost d).waveOf d with
    | none => rw [State.detachOne_of_unattached hw, hclose]; rfl
    | some w => rw [State.detachOne_of_attached hw, State.afterDetach_printerEvent, hclose]; rfl
  | verifies ht =>
    rw [ht, State.verifyRemoved, State.contextRule_event_of_ne _ (by decide), hclose, Untouched.verifyDown_event,
      Untouched.leaveVerify_event]
    rfl
  | closes ht => rw [ht, hclose]; rfl

/-- The drive has let its disc go: it stays as it is in FAULTED and ABSENT, and closes its tray elsewhere. -/
theorem State.driveRemoved_discSide : ((s.driveRemoved d).drive d).trayRecord = none ∧
    ((s.drive d).state = .faulted ∨ (s.drive d).state = .absent → ((s.driveRemoved d).drive d).state = (s.drive d).state) ∧
    ((s.drive d).state ≠ .faulted → (s.drive d).state ≠ .absent → (s.drive d).state ≠ .empty →
      ((s.driveRemoved d).drive d).state = .unloading ∧ ((s.driveRemoved d).drive d).phase = .trayClosing ∧
        ((s.driveRemoved d).drive d).entry = none) := by
  have hclosed : ∀ t u : State, (t.drive d).trayRecord = none → u.drive d = (t.closeTray d).drive d →
      (u.drive d).discSide = (.unloading, .trayClosing, none, none) := fun t u ht hu => by
    rw [hu, State.closeTray_discSide, ht]
  have hstays : (s.drive d).state = .faulted ∨ (s.drive d).state = .absent → (s.driveRemoved d) = s.trayLost d := by
    unfold State.driveRemoved
    rintro (h | h) <;> simp only [h] <;> rfl
  have hlost : ((s.trayLost d).drive d).trayRecord = none := by rw [State.trayLost_drive_self]
  have hsame : ((s.trayLost d).drive d).state = (s.drive d).state := by rw [State.trayLost_drive_self]
  have hgoes : ((s.driveRemoved d).drive d).discSide = (.unloading, .trayClosing, none, none) ∨
      ((s.drive d).state = .faulted ∨ (s.drive d).state = .absent ∨ (s.drive d).state = .empty) ∧
        s.driveRemoved d = s.trayLost d := by
    cases s.driveRemoved_cases d with
    | stays h ht => exact .inr ⟨h, ht⟩
    | detaches ht =>
      cases hw : (s.trayLost d).waveOf d with
      | none => exact .inl (hclosed _ _ hlost (by rw [ht, State.detachOne_of_unattached hw]))
      | some w =>
        refine .inl (hclosed ((s.trayLost d).unattach w d) _ hlost ?_)
        rw [ht, State.detachOne_of_attached hw, State.drive_congr ((changes_afterDetach _ w d) .drives (by simp))]
    | verifies ht =>
      refine .inl (hclosed (((s.trayLost d).leaveVerify d .removed).verifyDown d) _ ?_ ?_)
      · rw [Untouched.verifyDown_drive, Untouched.leaveVerify_drive, hlost]
      · rw [ht, State.verifyRemoved, State.contextRule_drive]
        rw [(changes_closeTray _ d) .verifyQueue (by simp), Untouched.verifyDown_verifyQueue]
        exact State.notMem_leaveVerify _ d _
    | closes ht => exact .inl (hclosed _ _ hlost (by rw [ht]))
  refine ⟨?_, fun h => by rw [hstays h, hsame], fun hf ha he => ?_⟩
  · rcases hgoes with h | ⟨-, h⟩
    · exact congrArg (·.2.2.2) h
    · rw [h, hlost]
  · rcases hgoes with h | ⟨h, -⟩
    · simp only [DriveSlot.discSide, Prod.mk.injEq] at h
      exact ⟨h.1, h.2.1, h.2.2.1⟩
    · tauto

end

/-! ### The record's entry and its LOAD (R59, R144, R160) -/

/-- A drive's tray record is the same, and its state too unless it was EMPTY. -/
def DriveSlot.keepsDisc (x y : DriveSlot) : Prop := y.trayRecord = x.trayRecord ∧ (x.state ≠ .empty → y.state = x.state)

theorem DriveSlot.keepsDisc.trans {x y z : DriveSlot} (hxy : x.keepsDisc y) (hyz : y.keepsDisc z) : x.keepsDisc z := by
  refine ⟨hyz.1.trans hxy.1, fun h => ?_⟩
  have hy := hxy.2 h
  rw [hyz.2 (hy ▸ h), hy]

theorem State.reloadFor_keepsDisc (s : State) (o : Option OrderNo) (d : Drive) :
    (s.drive d).keepsDisc ((s.reloadFor o).drive d) := by
  unfold State.reloadFor
  split
  · exact ⟨(s.loadDecision_decided d).1, fun h => by rw [State.loadDecision_drive_of_not_empty h]⟩
  · exact ⟨rfl, fun _ => rfl⟩

theorem State.endRecord_keepsDisc (s : State) (k : Token) (cause : Option FailCause) (final : Place) (d : Drive) :
    (s.drive d).keepsDisc ((s.endRecord k cause final).drive d) := by
  obtain ⟨u, o, hend, -, hslot⟩ := s.endRecord_before k cause final
  obtain ⟨g, n, h⟩ := hslot d
  have hbefore : (s.drive d).keepsDisc (u.drive d) := by rw [h]; exact ⟨rfl, fun _ => rfl⟩
  rw [hend]
  exact hbefore.trans (u.reloadFor_keepsDisc o d)

theorem State.loadRetired_keepsDisc (s : State) (o : Option Drive) (d : Drive) :
    (s.drive d).keepsDisc ((s.loadRetired o).drive d) := by
  unfold State.loadRetired
  split
  next e =>
    split
    next h =>
      by_cases hd : d = e
      · subst hd
        have hside := State.askDrive_discSide (s.modDrive d (fun x => { x with entry := none, phase := .trayClosing })) d
          .trayClose
        rw [State.drive_modDrive_self] at hside
        simp only [DriveSlot.discSide, Prod.mk.injEq] at hside
        exact ⟨hside.2.2.2, fun _ => hside.1⟩
      · rw [State.askDrive_drive_of_ne _ _ hd, State.drive_modDrive_of_ne _ _ _ _ (Ne.symm hd)]
        exact ⟨rfl, fun _ => rfl⟩
    next => exact ⟨rfl, fun _ => rfl⟩
  next => exact ⟨rfl, fun _ => rfl⟩

section
variable (s : State) (k : Token)

theorem State.retireNaming_of_some {e : Entry} (h : s.queue.find? (fun e => decide (e.token = some k)) = some e) :
    s.retireNaming k = (s.retire e).tellLoad e := by
  simp only [State.retireNaming, h]

theorem State.retireNaming_of_none (h : s.queue.find? (fun e => decide (e.token = some k)) = none) :
    s.retireNaming k = s := by
  simp only [State.retireNaming, h]

theorem State.retireNaming_keepsDisc (d : Drive) : (s.drive d).keepsDisc ((s.retireNaming k).drive d) := by
  cases h : s.queue.find? (fun e => decide (e.token = some k)) with
  | none => rw [s.retireNaming_of_none k h]; exact ⟨rfl, fun _ => rfl⟩
  | some e =>
    have hretired : (s.retire e).drive d = s.drive d := State.drive_congr ((changes_retire s e) .drives (by simp)) d
    rw [s.retireNaming_of_some k h, State.tellLoad, ← hretired]
    split
    · exact State.loadRetired_keepsDisc _ _ d
    · exact ⟨rfl, fun _ => rfl⟩

theorem State.retireNaming_record {n : RecNo} (h : (s.record n).use ≠ .setAside) :
    (s.retireNaming k).record n = s.record n := by
  cases hf : s.queue.find? (fun e => decide (e.token = some k)) with
  | none => rw [s.retireNaming_of_none k hf]
  | some e =>
    rw [s.retireNaming_of_some k hf, State.record_congr ((changes_tellLoad _ e) .records (by simp)),
      State.retire_record_of_kept e h]

theorem State.retireNaming_mode (h : s.transport.mode ≠ .running) :
    (s.retireNaming k).transport.mode = s.transport.mode := by
  have hmode : ∀ e, (s.retire e).transport.mode = s.transport.mode := fun e => by
    have haside : ((s.setQueue (s.queue.erase e)).returnSetAside e.setAside).transport = s.transport :=
      changes_returnSetAside (s.setQueue (s.queue.erase e)) _ .transport (by simp)
    unfold State.retire
    dsimp only
    rw [changes_printerTray _ .transport (by simp)]
    split
    · rw [State.modTransport_transport, haside, Transport.afterRetirement, if_neg fun hp => h hp.2]
      rfl
    · rw [haside]
  cases hf : s.queue.find? (fun e => decide (e.token = some k)) with
  | none => rw [s.retireNaming_of_none k hf]
  | some e => rw [s.retireNaming_of_some k hf, (changes_tellLoad _ e) .transport (by simp), hmode]

theorem State.retireNaming_printer (hidle : s.printer.state ≠ .idle) (hopen : s.printer.state ≠ .opened) :
    (s.retireNaming k).printer = s.printer := by
  cases hf : s.queue.find? (fun e => decide (e.token = some k)) with
  | none => rw [s.retireNaming_of_none k hf]
  | some e =>
    rw [s.retireNaming_of_some k hf, (changes_tellLoad _ e) .printer (by simp), State.retire_printer e hidle hopen]

theorem State.retireNaming_printerEvent : (s.retireNaming k).event .printer = s.event .printer := by
  cases hf : s.queue.find? (fun e => decide (e.token = some k)) with
  | none => rw [s.retireNaming_of_none k hf]
  | some e =>
    rw [s.retireNaming_of_some k hf, State.tellLoad]
    split
    · rw [State.loadRetired_event_of_ne _ _ (by decide), Untouched.retire_event]
    · exact Untouched.retire_event _ _ _

end

/-- An entry taken from a list that names it at most once is named no more. -/
theorem List.not_of_mem_erase_find {q : List Entry} {p : Entry → Bool} {e : Entry} (he : q.find? p = some e)
    (hone : (q.filter p).length ≤ 1) : ∀ f ∈ q.erase e, p f = false := by
  have hmem : e ∈ q.filter p := List.mem_filter.mpr ⟨List.mem_of_find?_eq_some he, List.find?_some he⟩
  have hlength : ((q.erase e).filter p).length = 0 := by
    rw [← List.erase_filter, List.length_erase_of_mem hmem]
    omega
  simpa [List.filter_eq_nil_iff] using List.length_eq_zero_iff.mp hlength

/-- The queue names the record no more when its one entry has been retired (R160). -/
theorem State.retireNaming_queue (s : State) (k : Token)
    (hone : (s.queue.filter (fun e => decide (e.token = some k))).length ≤ 1) :
    ∀ e ∈ (s.retireNaming k).queue, e.token ≠ some k := by
  cases hf : s.queue.find? (fun e => decide (e.token = some k)) with
  | none =>
    rw [s.retireNaming_of_none k hf]
    simpa using hf
  | some e =>
    rw [s.retireNaming_of_some k hf, (changes_tellLoad _ e) .queue (by simp), State.retire_queue]
    simpa using List.not_of_mem_erase_find hf hone

/-! ### The printer's disc (R172, R178) -/

/-- The printer's disc is the same. -/
theorem Printer.trayed_token (x : Printer) (bound : Bool) : (x.trayed bound).token = x.token := by
  have hasked : ∀ (y : Printer) (q : PrinterRequest), (y.asked q).token = y.token := fun y q => by
    unfold Printer.asked
    split <;> rfl
  unfold Printer.trayed
  split
  · exact hasked _ _
  · split
    · exact hasked _ _
    · rfl

theorem State.loadDecision_token (s : State) : s.loadDecision.printer.token = s.printer.token := by
  have hloading : ∀ (t : State) (d : Drive) (o : OrderNo), (t.startLoading d o).printer.token = t.printer.token :=
    fun t d o => by
      have hasked : (t.loadingAsked d).printer = t.printer := by
        rw [State.loadingAsked, changes_askDrive _ _ _ .printer (by simp), State.modDrive_printer]
      rw [State.startLoading_eq, changes_raiseDrive _ _ .printer (by simp), changes_reserve _ _ .printer (by simp),
        State.enqueue_printer, Printer.trayed_token, hasked]
  have hone : ∀ (t : State) (d : Drive), (t.decideDrive d).printer.token = t.printer.token := fun t d => by
    have htaken : (t.takePending d).printer = t.printer := (changes_takePending t d) .printer (by simp)
    unfold State.decideDrive State.loadIfAllowed
    split
    · split
      · split
        · rw [hloading, htaken]
        · rw [htaken]
      · rw [htaken]
    · rfl
  have hbase : s.printer.token = s.printer.token := rfl
  unfold State.loadDecision
  exact List.foldlRecOn (motive := fun t : State => t.printer.token = s.printer.token) _ State.decideDrive hbase
    (fun t ht d _ => (hone t d).trans ht)

theorem State.endRecord_token {s : State} {k : Token} (hl : s.live k = true) (cause : Option FailCause) (final : Place) :
    (s.endRecord k cause final).printer.token = s.printer.token := by
  have hfreed : (s.endFreed k cause final).printer = s.printer := changes_endFreed s k cause final .printer (by simp)
  rw [State.endRecord_eq hl, State.reloadFor]
  split
  · rw [State.loadDecision_token, hfreed]
  · rw [hfreed]

theorem State.retireNaming_token (s : State) (k : Token) : (s.retireNaming k).printer.token = s.printer.token := by
  cases hf : s.queue.find? (fun e => decide (e.token = some k)) with
  | none => rw [s.retireNaming_of_none k hf]
  | some e =>
    rw [s.retireNaming_of_some k hf, (changes_tellLoad _ e) .printer (by simp), State.retire_printer_eq,
      Printer.trayed_token]

/-- The printer that draws its tray in (R177, R178). -/
def Printer.drawnIn (x : Printer) : Printer := Printer.asked { x with state := .idle, phase := .closing } .trayIn

theorem State.printerClose_printer_eq (s : State) : s.printerClose.printer = s.printer.drawnIn :=
  State.askPrinter_printer_eq _ _

section
variable (s : State)

/-- The printer has lost its disc. -/
def State.discLost : State := s.modPrinter (fun p => { p with token := none })

section
variable {s}

theorem State.printerRemoved_of_printing (h : s.printer.state = .printing) :
    s.printerRemoved = (s.discLost.snapshotEnded (·.countVoided)).printerClose := by
  simp only [State.printerRemoved, h]
  rfl

theorem State.printerRemoved_of_discharge (h : s.printer.state = .discharge) : s.printerRemoved =
    if 2 ≤ s.printer.faultRun then s.discLost.printerFaulted .repeatedFaults else s.discLost.printerClose := by
  simp only [State.printerRemoved, h]
  rfl

theorem State.printerRemoved_of_faulted (h : s.printer.state = .faulted) :
    s.printerRemoved = if 2 ≤ s.printer.faultRun then s.discLost else s.discLost.printerClose := by
  simp only [State.printerRemoved, h]
  rfl

theorem State.printerRemoved_of_other (hp : s.printer.state ≠ .printing) (hd : s.printer.state ≠ .discharge)
    (hf : s.printer.state ≠ .faulted) : s.printerRemoved = s.discLost := by
  unfold State.printerRemoved
  cases h : s.printer.state with
  | printing => exact absurd h hp
  | discharge => exact absurd h hd
  | faulted => exact absurd h hf
  | _ => rfl

end

theorem State.printerRemoved_token : s.printerRemoved.printer.token = none := by
  have hdrawn : ∀ x : Printer, x.drawnIn.token = x.token := fun x => by
    unfold Printer.drawnIn Printer.asked
    split <;> rfl
  by_cases hp : s.printer.state = .printing
  · rw [State.printerRemoved_of_printing hp, State.printerClose_printer_eq, hdrawn, State.snapshotEnded_printer]
    rfl
  · by_cases hd : s.printer.state = .discharge
    · rw [State.printerRemoved_of_discharge hd]
      split
      · rw [State.printerFaulted_printer]; rfl
      · rw [State.printerClose_printer_eq, hdrawn]; rfl
    · by_cases hf : s.printer.state = .faulted
      · rw [State.printerRemoved_of_faulted hf]
        split
        · rfl
        · rw [State.printerClose_printer_eq, hdrawn]; rfl
      · rw [State.printerRemoved_of_other hp hd hf]
        rfl

end

/-- A print whose disc has been removed: its serial is voided and its artwork slot is free (R178). -/
theorem State.printerRemoved_snapshot {s : State} {p : Snapshot} (h : s.printer.state = .printing)
    (hp : s.printer.snapshot = some p) : (s.printerRemoved.artwork p.art).inUse = false ∧
      s.printerRemoved.template p.template = { s.template p.template with
        voided := (s.template p.template).voided + (if p.serial.isSome then 1 else 0) } := by
  have hlost : s.discLost.printer.snapshot = some p := hp
  rw [State.printerRemoved_of_printing h, State.artwork_congr ((changes_printerClose _) .artworks (by simp)),
    State.template_congr ((changes_printerClose _) .templates (by simp)), State.snapshotEnded_artwork hlost,
    State.snapshotEnded_template hlost]
  refine ⟨rfl, ?_⟩
  cases p.serial.isSome with
  | true => rfl
  | false => simp [State.discLost]

/-! ### The statement -/

theorem State.live_iff (s : State) (k : Token) :
    s.live k = true ↔ (s.record k.num).use = .inUse ∧ (s.record k.num).gen = k.gen := by
  simp [State.live]

/-- The record has ended and its entry is retired; the drive and the printer have not been told yet (R160). -/
def State.unrecorded (s : State) (k : Token) : State :=
  (s.endRecord k (some .removed) (s.record k.num).location).retireNaming k

/-- The drive has been told. -/
def State.untrayed (s : State) (k : Token) : State := (s.unrecorded k).tellDrive k

/-- The disc has been removed, before the REPLY (R160). -/
def State.removed (s : State) (k : Token) : State := (s.untrayed k).tellPrinter k

section
variable {s : State} {k : Token}

theorem State.tellDrive_cases (s : State) (k : Token) : s.tellDrive k = s ∨ ∃ d, s.tellDrive k = s.driveRemoved d := by
  unfold State.tellDrive
  split
  next d _ => exact .inr ⟨d, rfl⟩
  next => exact .inl rfl

theorem changes_tellDrive_side (s : State) (k : Token) : Changes removalParts s (s.tellDrive k) := by
  rcases s.tellDrive_cases k with h | ⟨d, h⟩
  · rw [h]; exact .refl s
  · rw [h]; exact changes_driveRemoved_side s d

/-- Only the drive with the record in its tray is told. -/
theorem State.tellDrive_of_unique {d : Drive} (hd : (s.drive d).trayRecord = some k)
    (hone : ∀ e, (s.drive e).trayRecord = some k → e = d) : s.tellDrive k = s.driveRemoved d := by
  have hfind : allDrives.find? (fun e => decide ((s.drive e).trayRecord = some k)) = some d := by
    cases hf : allDrives.find? (fun e => decide ((s.drive e).trayRecord = some k)) with
    | none => exact absurd hd (by simpa using List.find?_eq_none.mp hf d (List.mem_finRange d))
    | some e => rw [hone e (by simpa using List.find?_some hf)]
  simp only [State.tellDrive, hfind]

theorem State.untrayed_printer : (s.untrayed k).printer = (s.unrecorded k).printer :=
  changes_tellDrive_side _ k .printer (by decide)

theorem State.untrayed_printerEvent : (s.untrayed k).event .printer = (s.unrecorded k).event .printer := by
  unfold State.untrayed
  rcases (s.unrecorded k).tellDrive_cases k with h | ⟨d, h⟩
  · rw [h]
  · rw [h, State.driveRemoved_printerEvent]

variable (hl : s.live k = true)
include hl

theorem State.unrecorded_record :
    (s.unrecorded k).record k.num = { s.lastRecord k (some .removed) with use := .free } := by
  have hended := State.endRecord_record_self hl (some .removed) (s.record k.num).location
  rw [State.unrecorded, State.retireNaming_record _ _ (by rw [hended]; simp), hended]

theorem State.removed_record : (s.removed k).record k.num = { s.lastRecord k (some .removed) with use := .free } := by
  rw [State.removed, State.record_congr ((changes_tellPrinter _ k) .records (by simp)), State.untrayed,
    State.record_congr ((changes_tellDrive_side _ k) .records (by decide)), State.unrecorded_record hl]

theorem joined_removed : Joined [.discDone k.num { s.record k.num with cause := (s.record k.num).cause <|> some .removed }
    (s.record k.num).location .fail] s (s.removed k) := by
  have hverdict : (s.lastRecord k (some .removed)).verdictAtEnd (s.record k.num).location = .fail := by
    rw [DiscRecord.verdictAtEnd_eq, if_pos]
    show ((s.record k.num).cause <|> some FailCause.removed) ≠ none
    cases (s.record k.num).cause <;> simp
  have hended := joined_endRecord hl (some .removed) (s.record k.num).location
  rw [hverdict] at hended
  exact Joined.of_closed (s := s) (ps := [.images, .accs, .waves, .drives, .saves, .verifyQueue, .contexts, .records, .queue,
    .transport, .artworks, .templates, .printer, .outbound, .events]) hended fun _ hc h =>
      closed_tellPrinter hc (by simp) (closed_tellDrive hc (by simp) (closed_retireNaming hc (by simp) h))

theorem State.removed_queue (hone : (s.queue.filter (fun e => decide (e.token = some k))).length ≤ 1) :
    ∀ e ∈ (s.removed k).queue, e.token ≠ some k := by
  obtain ⟨⟨added, hqueue, hloads⟩, -, -⟩ := loadsJoined_endRecord hl (some .removed) (s.record k.num).location
  rw [State.removed, (changes_tellPrinter _ k) .queue (by simp), State.untrayed,
    (changes_tellDrive_side _ k) .queue (by decide)]
  refine State.retireNaming_queue _ k ?_
  have hnone : added.filter (fun e => decide (e.token = some k)) = [] := by
    rw [List.filter_eq_nil_iff]
    exact fun f hf => by simp [(hloads f hf).2.1]
  rwa [hqueue, List.filter_append, hnone, List.append_nil]

omit hl in
theorem State.unrecorded_keepsDisc (d : Drive) : (s.drive d).keepsDisc ((s.unrecorded k).drive d) :=
  (State.endRecord_keepsDisc s k _ _ d).trans (State.retireNaming_keepsDisc _ k d)

omit hl in
/-- The drive that held the disc has let it go by its state. -/
theorem State.removed_drive {d : Drive} (hd : (s.drive d).trayRecord = some k)
    (hone : ∀ e, (s.drive e).trayRecord = some k → e = d) : ((s.removed k).drive d).trayRecord = none ∧
      ((s.drive d).state = .faulted ∨ (s.drive d).state = .absent → ((s.removed k).drive d).state = (s.drive d).state) ∧
      ((s.drive d).state ≠ .faulted → (s.drive d).state ≠ .absent → (s.drive d).state ≠ .empty →
        ((s.removed k).drive d).state = .unloading ∧ ((s.removed k).drive d).phase = .trayClosing ∧
          ((s.removed k).drive d).entry = none) := by
  have hkept := fun e => s.unrecorded_keepsDisc (k := k) e
  obtain ⟨u, hu⟩ : ∃ u, u = s.unrecorded k := ⟨_, rfl⟩
  rw [← hu] at hkept
  have htold : (s.removed k).drive d = (u.driveRemoved d).drive d := by
    rw [State.removed, State.drive_congr ((changes_tellPrinter _ k) .drives (by simp)), State.untrayed, ← hu,
      State.tellDrive_of_unique ((hkept d).1.trans hd) fun e he => hone e ((hkept e).1.symm.trans he)]
  obtain ⟨htray, hstays, hcloses⟩ := u.driveRemoved_discSide d
  rw [htold]
  refine ⟨htray, fun h => ?_, fun hf ha he => ?_⟩
  · have hsame := (hkept d).2 (by rcases h with h | h <;> simp [h])
    rw [hstays (by rwa [hsame]), hsame]
  · have hsame := (hkept d).2 he
    exact hcloses (by rwa [hsame]) (by rwa [hsame]) (by rwa [hsame])

/-- The printer that held the disc is the one that is told. -/
theorem State.removed_eq (hp : s.printer.token = some k) : s.removed k = (s.untrayed k).printerRemoved := by
  have htoken : (s.untrayed k).printer.token = some k := by
    rw [State.untrayed_printer, State.unrecorded, State.retireNaming_token, State.endRecord_token hl, hp]
  exact if_pos htoken

omit hl in
theorem State.untrayed_printer_of_state (hidle : s.printer.state ≠ .idle) (hopen : s.printer.state ≠ .opened) :
    (s.untrayed k).printer = s.printer := by
  have hended := State.endRecord_printer (s := s) k (some .removed) (s.record k.num).location hidle hopen
  rw [State.untrayed_printer, State.unrecorded, State.retireNaming_printer _ k (by rwa [hended]) (by rwa [hended]), hended]

theorem State.untrayed_event : (s.untrayed k).event .printer = s.event .printer := by
  rw [State.untrayed_printerEvent, State.unrecorded, State.retireNaming_printerEvent,
    State.endRecord_event_of_ne hl _ _ (by decide) (by decide) (by decide) (by decide)]

omit hl in
theorem State.removed_mode (h : s.transport.mode ≠ .running) : (s.removed k).transport.mode = s.transport.mode := by
  have hended : (s.endRecord k (some .removed) (s.record k.num).location).transport = s.transport :=
    changes_endRecord s k _ _ .transport (by simp)
  rw [State.removed, (changes_tellPrinter _ k) .transport (by simp), State.untrayed,
    (changes_tellDrive_side _ k) .transport (by decide), State.unrecorded, State.retireNaming_mode _ _ (by rwa [hended]), hended]

omit hl in
theorem State.removed_feed : (s.removed k).feed = s.feed := by
  rw [State.removed, (changes_tellPrinter _ k) .feed (by simp), State.untrayed,
    (changes_tellDrive_side _ k) .feed (by decide), State.unrecorded, (changes_retireNaming _ k) .feed (by simp),
    (changes_endRecord s k _ _) .feed (by simp)]

end

theorem exec_discRemove_of_handlesAsNew {f : CmdFrame} {k : Token} {s : State} (hp : parseDiscRemove f.body = some k)
    (hn : s.handlesAsNew f.tag f.resend) : exec (.discRemove f) s = .next (State.discRemove (cmdReply f 16) k s) :=
  congrArg Host.Outcome.next (State.answer_of_handlesAsNew (rt := cmdReply f 16) _ hp hn)

/-- Disc Remove taken is the removal and the REPLY: the arbiter does nothing outside RUNNING. -/
theorem State.discRemove_of_taken {s : State} {k : Token} (rt : ReplyTo) (hmode : s.transport.mode ≠ .running)
    (hl : s.live k = true) : State.discRemove rt k s = (s.removed k).replyPlain rt .ok := by
  have hstill : ((s.removed k).replyPlain rt .ok).transport.mode ≠ .running := by
    rw [State.replyPlain, (changes_reply _ _ _ _ _) .transport (by simp), State.removed_mode hmode]
    exact hmode
  rw [State.discRemove, if_neg hmode, if_pos hl]
  exact State.arbiter_of_not_running hstill

/-- The printer's part of a removal (R172, R178). -/
theorem printerLetGo {s : State} {k : Token} (hl : s.live k = true) (hp : s.printer.token = some k) :
    let x := s.printer
    let y := { x with token := none }
    let t := s.removed k
    t.printer.token = none ∧
    (x.state = .printing → t.printer = Printer.drawnIn { y with snapshot := none } ∧ ∀ p, x.snapshot = some p →
      (t.artwork p.art).inUse = false ∧ t.template p.template = { s.template p.template with
        voided := (s.template p.template).voided + (if p.serial.isSome then 1 else 0) }) ∧
    (x.state = .discharge ∨ x.state = .faulted → x.faultRun < 2 → t.printer = Printer.drawnIn y) ∧
    (x.state = .discharge → 2 ≤ x.faultRun →
      t.printer = { y with state := .faulted, phase := .noPhase, waiting := none, checkPhase := .idle,
                           resetRunning := false } ∧
      t.event .printer = (s.event .printer).raised .printer 0 (some (.printer .faulted .repeatedFaults))) ∧
    (x.state = .faulted → 2 ≤ x.faultRun → t.printer = y) ∧ (x.state = .offline → t.printer = y) := by
  intro x y t
  obtain ⟨u, hu⟩ : ∃ u, u = s.untrayed k := ⟨_, rfl⟩
  have ht : t = u.printerRemoved := by rw [hu]; exact State.removed_eq hl hp
  have hsame : x.state ≠ .idle → x.state ≠ .opened → u.printer = x := fun hi ho => by
    rw [hu]; exact State.untrayed_printer_of_state hi ho
  have hlost : ∀ h : u.printer = x, u.discLost.printer = y := fun h => by
    rw [State.discLost, State.modPrinter_printer, h]
  have hclosed : u.printer = x → u.discLost.printerClose.printer = y.drawnIn := fun h => by
    rw [State.printerClose_printer_eq, hlost h]
  rw [ht]
  refine ⟨u.printerRemoved_token, fun hs => ?_, fun hs hrun => ?_, fun hs hrun => ?_, fun hs hrun => ?_, fun hs => ?_⟩
  · have hx := hsame (by simp [hs]) (by simp [hs])
    refine ⟨?_, fun p hsnap => ?_⟩
    · rw [State.printerRemoved_of_printing (by rw [hx, hs]), State.printerClose_printer_eq, State.snapshotEnded_printer,
        hlost hx]
    · have hkept : u.template p.template = s.template p.template := by
        rw [hu, State.untrayed, State.template_congr ((changes_tellDrive_side _ k) .templates (by decide)), State.unrecorded,
          State.template_congr ((changes_retireNaming _ k) .templates (by simp)),
          State.template_congr ((changes_endRecord s k _ _) .templates (by simp))]
      rw [← hkept]
      exact State.printerRemoved_snapshot (by rw [hx, hs]) (by rw [hx, hsnap])
  · have hx := hsame (by rcases hs with h | h <;> simp [h]) (by rcases hs with h | h <;> simp [h])
    have hbelow : ¬ 2 ≤ u.printer.faultRun := by rw [hx]; omega
    rcases hs with h | h
    · rw [State.printerRemoved_of_discharge (by rw [hx, h]), if_neg hbelow, hclosed hx]
    · rw [State.printerRemoved_of_faulted (by rw [hx, h]), if_neg hbelow, hclosed hx]
  · have hx := hsame (by simp [hs]) (by simp [hs])
    rw [State.printerRemoved_of_discharge (by rw [hx, hs]), if_pos (by rwa [hx])]
    refine ⟨by rw [State.printerFaulted_printer, hlost hx], ?_⟩
    rw [(raisedOnly_printerFaulted u.discLost .repeatedFaults).1, ← State.untrayed_event hl, ← hu]
    rfl
  · have hx := hsame (by simp [hs]) (by simp [hs])
    rw [State.printerRemoved_of_faulted (by rw [hx, hs]), if_pos (by rwa [hx]), hlost hx]
  · have hx := hsame (by simp [hs]) (by simp [hs])
    have hother : ∀ p, p ≠ PrinterState.offline → u.printer.state ≠ p := fun p hne h => hne (by rw [← h, hx, hs])
    rw [State.printerRemoved_of_other (hother _ (by decide)) (hother _ (by decide)) (hother _ (by decide)), hlost hx]

/-- Settles O33: the record ends first, then its entry is retired, and the drive and the printer let the disc go. -/
theorem discRemoveEffect : Obligations.DiscRemoveEffect := by
  unfold Obligations.DiscRemoveEffect
  intro f k s hparse hnew r
  refine ⟨_, exec_discRemove_of_handlesAsNew hparse hnew, ?_⟩
  split
  next h =>
    have hrefused : State.discRemove (cmdReply f 16) k s = s.replyPlain (cmdReply f 16) .state := by
      unfold State.discRemove
      split
      · rfl
      next hmode =>
        exact if_neg fun hl => h.elim hmode fun hn => hn.elim (absurd ((s.live_iff k).mp hl).1)
          (absurd ((s.live_iff k).mp hl).2)
    rw [hrefused]
    exact repliedOnly_replyPlain _ _ _
  next h =>
    simp only [not_or, not_not] at h
    obtain ⟨hmode, huse, hgen⟩ := h
    have hl : s.live k = true := (s.live_iff k).mpr ⟨huse, hgen⟩
    have hrecord := State.removed_record hl
    have hqueue := State.removed_queue hl
    have hdrives := fun d => State.removed_drive (s := s) (k := k) (d := d)
    have hprinter := printerLetGo hl
    have hfeed := s.removed_feed (k := k)
    have hkept := State.removed_mode (k := k) hmode
    have hchanges := changes_discRemove (cmdReply f 16) k s
    obtain ⟨later, houtbound⟩ := joined_removed hl
    rw [State.discRemove_of_taken _ hmode hl] at hchanges ⊢
    generalize s.removed k = t at *
    have huse' : (t.record k.num).use = .free := by rw [hrecord]
    have hgen' : (t.record k.num).gen = r.gen := by rw [hrecord]; rfl
    refine ⟨huse', hgen', hkept, ⟨later, ?_⟩,
      replied_replyPlain_of_feed (rt := cmdReply f 16) hfeed, hqueue, hdrives, hprinter, hchanges.mono (by decide)⟩
    exact congrArg (· ++ [(cmdReply f 16).frame .ok]) houtbound

end Sys2Proof.Machine
end

section
/-! Abort All at the waves and the drives (R40, R65, R97, R114): what every step of it leaves of the discs, the trays, the
queue and the printer, and each wave's and drive's own turn (for O56). -/

namespace Sys2Proof.Machine

/-! ### What every step keeps -/

/-- What Abort All does to a disc record until PU's turn: it is left alone, or it has ABORT-ALL unless it had a cause; a FAIL
stays. -/
structure DiscRecord.AbortedTo (r x : DiscRecord) : Prop where
  use : x.use = r.use
  gen : x.gen = r.gen
  origin : x.origin = r.origin
  burn : r.burn = .fail → x.burn = .fail
  verify : r.verify = .fail → x.verify = .fail
  cause : x = r ∨ x.cause = (r.cause <|> some .abortAll)

theorem DiscRecord.AbortedTo.refl (r : DiscRecord) : r.AbortedTo r := ⟨rfl, rfl, rfl, id, id, .inl rfl⟩

theorem DiscRecord.AbortedTo.cause_eq {r x : DiscRecord} (h : r.AbortedTo x) :
    (x.cause <|> some FailCause.abortAll) = (r.cause <|> some .abortAll) := by
  rcases h.cause with rfl | hc
  · rfl
  · rw [hc]; cases r.cause <;> rfl

theorem DiscRecord.AbortedTo.trans {r x y : DiscRecord} (hx : r.AbortedTo x) (hy : x.AbortedTo y) : r.AbortedTo y := by
  refine ⟨hy.use.trans hx.use, hy.gen.trans hx.gen, hy.origin.trans hx.origin, fun h => hy.burn (hx.burn h),
    fun h => hy.verify (hx.verify h), ?_⟩
  rcases hy.cause with rfl | hc
  · exact hx.cause
  · exact .inr (hc.trans hx.cause_eq)

/-- A record that has a cause keeps it. -/
theorem DiscRecord.AbortedTo.cause_of_some {r x : DiscRecord} (h : r.AbortedTo x) (hr : r.cause ≠ none) :
    x.cause = r.cause := by
  rcases h.cause with rfl | hc
  · rfl
  · rw [hc]
    cases hcause : r.cause with
    | none => exact absurd hcause hr
    | some c => rfl

theorem DiscRecord.abortedTo_burnFailed (r : DiscRecord) : r.AbortedTo (r.burnFailed .abortAll) :=
  ⟨rfl, rfl, rfl, fun _ => rfl, id, .inr rfl⟩

theorem DiscRecord.abortedTo_addCause (r : DiscRecord) : r.AbortedTo (r.addCause .abortAll) :=
  ⟨rfl, rfl, rfl, id, id, .inr rfl⟩

/-- A printer in PRINTING is as it was, and one in another state has not come to PRINTING (R172). -/
def Printer.PrintKept (x y : Printer) : Prop :=
  (x.state = .printing → y = x) ∧ (x.state ≠ .printing → y.state ≠ .printing)

theorem Printer.PrintKept.refl (x : Printer) : x.PrintKept x := ⟨fun _ => rfl, id⟩

theorem Printer.PrintKept.trans {x y z : Printer} (hxy : x.PrintKept y) (hyz : y.PrintKept z) : x.PrintKept z := by
  refine ⟨fun h => ?_, fun h => hyz.2 (hxy.2 h)⟩
  have hy := hxy.1 h
  rw [hyz.1 (by rwa [hy]), hy]

theorem Printer.asked_state (x : Printer) (q : PrinterRequest) : (x.asked q).state = x.state := by
  unfold Printer.asked
  split <;> rfl

theorem Printer.printKept_trayed (x : Printer) (bound : Bool) : x.PrintKept (x.trayed bound) := by
  refine ⟨fun h => Printer.trayed_of_still (by simp [h]) (by simp [h]), fun h => ?_⟩
  unfold Printer.trayed
  split
  · rwa [Printer.asked_state]
  · split
    · rw [Printer.asked_state]; simp
    · exact h

/-- The parts that the waves' and the drives' turns of Abort All may change. -/
def abortParts : List Part :=
  [.images, .accs, .waves, .drives, .saves, .verifyQueue, .contexts, .records, .queue, .printer, .outbound, .events]

/-- What the waves' and the drives' turns of Abort All leave of a state. -/
structure Aborting (s t : State) : Prop where
  records : ∀ n, (s.record n).AbortedTo (t.record n)
  trays : ∀ d, (t.drive d).trayRecord = (s.drive d).trayRecord
  queue : ∃ added, t.queue = s.queue ++ added ∧ ∀ e ∈ added, e.kind ≠ .load
  printer : s.printer.PrintKept t.printer
  changes : Changes abortParts s t

theorem Aborting.refl (s : State) : Aborting s s :=
  ⟨fun _ => .refl _, fun _ => rfl, ⟨[], by simp, by simp⟩, .refl _, .refl s⟩

theorem Aborting.trans {s t u : State} (hst : Aborting s t) (htu : Aborting t u) : Aborting s u := by
  obtain ⟨added, hq, hadded⟩ := hst.queue
  obtain ⟨more, hq', hmore⟩ := htu.queue
  refine ⟨fun n => (hst.records n).trans (htu.records n), fun d => (htu.trays d).trans (hst.trays d),
    ⟨added ++ more, by rw [hq', hq, List.append_assoc], fun e he => ?_⟩, hst.printer.trans htu.printer,
    hst.changes.trans htu.changes⟩
  exact (List.mem_append.mp he).elim (hadded e) (hmore e)

/-- A step that leaves the discs, the drives, the queue and the printer. -/
theorem Aborting.of_changes {ps : List Part} {s t : State} (h : Changes ps s t) (hps : ps ⊆ abortParts)
    (hr : .records ∉ ps) (hd : .drives ∉ ps) (hq : .queue ∉ ps) (hp : .printer ∉ ps) : Aborting s t := by
  refine ⟨fun n => ?_, fun d => ?_, ⟨[], ?_, by simp⟩, ?_, h.mono hps⟩
  · rw [State.record_congr (h .records hr)]; exact .refl _
  · rw [State.drive_congr (h .drives hd)]
  · rw [h .queue hq, List.append_nil]
  · rw [h .printer hp]; exact .refl _

/-- A step that writes disc records alone. -/
theorem Aborting.of_records {s t : State} (h : Changes [.records] s t) (hr : ∀ n, (s.record n).AbortedTo (t.record n)) :
    Aborting s t := by
  refine ⟨hr, fun d => ?_, ⟨[], ?_, by simp⟩, ?_, h.mono (by decide)⟩
  · rw [State.drive_congr (h .drives (by simp))]
  · rw [h .queue (by simp), List.append_nil]
  · rw [h .printer (by simp)]; exact .refl _

theorem aborting_foldl {ι : Type} {act : State → ι → State} (h : ∀ t i, Aborting t (act t i)) (s : State) (l : List ι) :
    Aborting s (l.foldl act s) :=
  List.foldlRecOn (motive := Aborting s) l act (.refl s) (fun t ht i _ => ht.trans (h t i))

section
variable {s t : State} (h : Aborting s t)
include h

theorem Aborting.names (tok : Option Token) (n : RecNo) : t.names tok n = s.names tok n :=
  State.names_congr (fun m => (h.records m).use) (fun m => (h.records m).gen) tok n

theorem Aborting.live (k : Token) : t.live k = s.live k := by
  simp [State.live, (h.records k.num).use, (h.records k.num).gen]

theorem Aborting.holds (d : Drive) (n : RecNo) : t.holds d n = s.holds d n := by
  rw [State.holds, h.names, h.trays]
  rfl

end

theorem State.startUnloading_printer (s : State) (d : Drive) (kind : EntryKind) (dest : Dest) :
    ∃ bound, (s.startUnloading d kind dest).printer = s.printer.trayed bound := by
  obtain ⟨e, he⟩ : ∃ e, e = Entry.fresh kind (.station (trayOf d)) dest (s.drive d).trayRecord (some d) none := ⟨_, rfl⟩
  refine ⟨(s.queue ++ [e]).any (·.boundForPR), ?_⟩
  rw [State.startUnloading, changes_askDrive _ _ _ .printer (by simp), changes_raiseDrive _ _ .printer (by simp), ← he,
    State.enqueue_printer, State.modDrive_printer, State.modDrive_queue]

theorem aborting_startUnloading (s : State) (d : Drive) {kind : EntryKind} (hkind : kind ≠ .load) (dest : Dest) :
    Aborting s (s.startUnloading d kind dest) := by
  have hchanges := changes_startUnloading s d kind dest
  refine ⟨fun n => ?_, fun e => ?_, ⟨_, s.startUnloading_queue d kind dest, fun e he => ?_⟩, ?_, hchanges.mono (by decide)⟩
  · rw [State.record_congr (hchanges .records (by simp))]; exact .refl _
  · by_cases hd : e = d
    · subst hd; exact congrArg (·.2.2.2) (s.startUnloading_discSide e kind dest)
    · rw [State.startUnloading_drive_of_ne _ _ _ hd]
  · rw [List.mem_singleton.mp he]; exact hkind
  · obtain ⟨bound, hbound⟩ := s.startUnloading_printer d kind dest
    rw [hbound]; exact Printer.printKept_trayed _ _

theorem aborting_giveCause (s : State) (tok : Option Token) : Aborting s (s.giveCause tok .abortAll) :=
  .of_records (changes_giveCause s tok _) fun n => by
    rw [State.giveCause, State.writeRecordO_record]
    split
    · exact DiscRecord.abortedTo_addCause _
    · exact .refl _

/-! ### A list's turns -/

/-- The turn of one element of a list without repeats. -/
theorem foldl_turn {σ ι : Type} (act : σ → ι → σ) {l : List ι} (hl : l.Nodup) {i : ι} (hi : i ∈ l) (s : σ) :
    ∃ before rest : List ι, i ∉ before ∧ i ∉ rest ∧ l.foldl act s = rest.foldl act (act (before.foldl act s) i) := by
  obtain ⟨before, rest, rfl⟩ := List.append_of_mem hi
  obtain ⟨hbefore, hrest⟩ : i ∉ before ∧ i ∉ rest := by
    rw [List.nodup_middle, List.nodup_cons, List.mem_append, not_or] at hl
    exact hl.1
  exact ⟨before, rest, hbefore, hrest, by rw [List.foldl_append, List.foldl_cons]⟩

/-! ### The waves (R40) -/

theorem aborting_detachStep (s : State) (w : WaveNo) (d : Drive) : Aborting s (s.detachStep w d .abortAll) := by
  have hfail : Aborting (s.unattach w d) ((s.unattach w d).failBurn d .abortAll) :=
    .of_records (changes_failBurn _ _ _) fun n => by
      rw [State.failBurn_record]
      split
      · exact DiscRecord.abortedTo_burnFailed _
      · exact .refl _
  exact (Aborting.of_changes (changes_unattach s w d) (by decide) (by simp) (by simp) (by simp) (by simp)).trans
    (hfail.trans (aborting_startUnloading _ d (by decide) _))

theorem aborting_detachAll (s : State) (w : WaveNo) (ds : List Drive) : Aborting s (s.detachAll w ds .abortAll) :=
  aborting_foldl (fun t d => aborting_detachStep t w d) s ds

theorem aborting_abortWave (s : State) (w : WaveNo) : Aborting s (s.abortWave w .abortAll) := by
  have hdetached : Aborting s (s.detachedForAbort w .abortAll) :=
    (Aborting.of_changes (changes_modWave s w _) (by decide) (by simp) (by simp) (by simp) (by simp)).trans
      ((aborting_detachAll _ w _).trans
        (.of_changes (changes_tellDetach _ w _) (by decide) (by simp) (by simp) (by simp) (by simp)))
  rw [State.abortWave_eq]
  refine hdetached.trans (.of_changes (ps := [.waves, .images, .accs, .outbound, .events]) ?_ (by decide) (by simp) (by simp)
    (by simp) (by simp))
  exact ((changes_modWave _ w _).mono (by simp)).trans (((changes_waveEndAtImage _ w _ _).mono (by simp)).trans
    ((changes_raiseWave _ w _ _).mono (by simp)))

/-- The turn of one wave. -/
def State.abortWaveTurn (s : State) (w : WaveNo) : State :=
  if (s.wave w).state = .idle then s else s.abortWave w .abortAll

theorem State.abortWaveTurn_of_idle {s : State} {w : WaveNo} (h : (s.wave w).state = .idle) : s.abortWaveTurn w = s :=
  if_pos h

theorem State.abortWaveTurn_of_busy {s : State} {w : WaveNo} (h : (s.wave w).state ≠ .idle) :
    s.abortWaveTurn w = s.abortWave w .abortAll := if_neg h

/-- The waves after SD's and IS's part. -/
def State.wavesAborted (s : State) : State := allWaves.foldl State.abortWaveTurn s

theorem aborting_abortWaveTurn (s : State) (w : WaveNo) : Aborting s (s.abortWaveTurn w) := by
  unfold State.abortWaveTurn
  split
  · exact .refl s
  · exact aborting_abortWave s w

theorem State.abortWaveTurn_wave_of_ne (s : State) {v w : WaveNo} (h : v ≠ w) :
    (s.abortWaveTurn w).wave v = s.wave v := by
  unfold State.abortWaveTurn
  split
  · rfl
  · exact s.abortWave_wave_of_ne w _ h

theorem State.foldl_abortWaveTurn_wave (s : State) {l : List WaveNo} {w : WaveNo} (h : w ∉ l) :
    (l.foldl State.abortWaveTurn s).wave w = s.wave w :=
  List.foldlRecOn (motive := fun t : State => t.wave w = s.wave w) l State.abortWaveTurn rfl
    (fun t ht _ hv => (t.abortWaveTurn_wave_of_ne (ne_of_mem_of_not_mem hv h).symm).trans ht)

section
variable (s : State) (w : WaveNo)

/-- Every wave has its turn, with the wave as it was before. -/
theorem State.wavesAborted_turn : ∃ before rest : List WaveNo, w ∉ before ∧ w ∉ rest ∧
    s.wavesAborted = rest.foldl State.abortWaveTurn ((before.foldl State.abortWaveTurn s).abortWaveTurn w) :=
  foldl_turn State.abortWaveTurn (List.nodup_finRange 4) (List.mem_finRange w) s

theorem State.wavesAborted_wave : if (s.wave w).state = .idle then s.wavesAborted.wave w = s.wave w
    else (s.wavesAborted.wave w).atIdle .abortAll := by
  obtain ⟨before, rest, hbefore, hrest, hfold⟩ := s.wavesAborted_turn w
  have hsame := s.foldl_abortWaveTurn_wave hbefore
  rw [hfold, State.foldl_abortWaveTurn_wave _ hrest]
  split
  next h => rw [State.abortWaveTurn_of_idle (by rw [hsame, h]), hsame]
  next h =>
    rw [State.abortWaveTurn_of_busy (by rwa [hsame]), State.abortWave_wave_self]
    exact Wave.atIdle_ended _ _

end

/-- A drive that no wave in use has attached is not touched. -/
theorem State.wavesAborted_drive {s : State} {d : Drive}
    (h : ¬ ∃ w, (s.wave w).state ≠ .idle ∧ (s.wave w).attachment d ≠ none) : s.wavesAborted.drive d = s.drive d := by
  have hfold := List.foldlRecOn (motive := fun t : State => t.drive d = s.drive d ∧
      ∀ w, t.wave w = s.wave w ∨ (t.wave w).state = .idle) allWaves State.abortWaveTurn
    ⟨rfl, fun _ => .inl rfl⟩ (fun t ⟨hdrive, hwaves⟩ w _ => ?_)
  · exact hfold.1
  · by_cases hidle : (t.wave w).state = .idle
    · rw [State.abortWaveTurn_of_idle hidle]; exact ⟨hdrive, hwaves⟩
    · have hsame := (hwaves w).resolve_right hidle
      have hfree : (t.wave w).attachment d = none := by
        by_contra hn
        exact h ⟨w, hsame ▸ hidle, hsame ▸ hn⟩
      rw [State.abortWaveTurn_of_busy hidle]
      refine ⟨?_, fun v => ?_⟩
      · rw [State.abortWave_drive, State.detachedForAbort_drive _ _ _ hfree, hdrive]
      · by_cases hv : v = w
        · right; rw [hv, State.abortWave_wave_self]; exact (Wave.atIdle_ended _ _).1
        · rw [State.abortWave_wave_of_ne _ _ _ hv]; exact hwaves v

theorem State.abortWaveTurn_unloading {s : State} {d : Drive} (w : WaveNo) (h : (s.drive d).unloadingWith .unload) :
    ((s.abortWaveTurn w).drive d).unloadingWith .unload := by
  by_cases hidle : (s.wave w).state = .idle
  · rwa [State.abortWaveTurn_of_idle hidle]
  · rw [State.abortWaveTurn_of_busy hidle, State.abortWave_drive]
    by_cases ha : (s.wave w).attachment d = none
    · rwa [State.detachedForAbort_drive _ _ _ ha]
    · exact State.detachedForAbort_unloading _ _ _ ha

/-- A disc has failed to burn and has ABORT-ALL unless `r`, the record before, had a cause. -/
def DiscRecord.burnAborted (r x : DiscRecord) : Prop := x.burn = .fail ∧ x.cause = (r.cause <|> some .abortAll)

/-- A drive attached to a wave in use unloads a failed disc (R90). -/
theorem State.wavesAborted_attached {s : State} {d : Drive} {w : WaveNo} (hbusy : (s.wave w).state ≠ .idle)
    (ha : (s.wave w).attachment d ≠ none) : (s.wavesAborted.drive d).unloadingWith .unload ∧
      ∀ n, s.holds d n = true → (s.record n).burnAborted (s.wavesAborted.record n) := by
  obtain ⟨before, rest, hbefore, hrest, hfold⟩ := s.wavesAborted_turn w
  have hstart := aborting_foldl aborting_abortWaveTurn s before
  have hsame := s.foldl_abortWaveTurn_wave hbefore
  obtain ⟨x, hx⟩ : ∃ x, x = before.foldl State.abortWaveTurn s := ⟨_, rfl⟩
  rw [← hx] at hfold hstart hsame
  rw [State.abortWaveTurn_of_busy (by rwa [hsame])] at hfold
  rw [← hsame] at ha
  rw [hfold]
  refine ⟨?_, fun n hn => ?_⟩
  · refine List.foldlRecOn (motive := fun t : State => (t.drive d).unloadingWith .unload) rest _ ?_
      (fun t ht v _ => State.abortWaveTurn_unloading v ht)
    rw [State.abortWave_drive]
    exact State.detachedForAbort_unloading _ _ _ ha
  · have hend := (aborting_foldl aborting_abortWaveTurn (x.abortWave w .abortAll) rest).records n
    have hfailed := State.abortWave_record_of_attached x w .abortAll ha (by rwa [hstart.holds])
    rw [hfailed] at hend
    refine ⟨hend.burn rfl, ?_⟩
    have hcause : ((x.record n).burnFailed AbortCause.abortAll.failCause).cause = ((s.record n).cause <|> some .abortAll) :=
      (hstart.records n).cause_eq
    rw [hend.cause_of_some (by rw [hcause]; cases (s.record n).cause <;> simp), hcause]

/-! ### The images of the waves (R12) -/

theorem State.abortWave_image_of_ne (s : State) {w : WaveNo} {i : SlotNo} (h : (s.wave w).slot ≠ some i) (c : AbortCause) :
    (s.abortWave w c).image i = s.image i := by
  have hend : ∀ (t : State) (slot : Option SlotNo) (c : Option ImageCause), slot ≠ some i →
      (t.waveEndAtImage w slot c).image i = t.image i := fun t slot c hslot => by
    unfold State.waveEndAtImage State.raiseImage
    dsimp only
    split
    next j =>
      have hj : j ≠ i := fun hji => hslot (by rw [hji])
      split
      · split
        · simp [State.image_modImage_of_ne _ _ _ _ hj]
        · simp [State.image_modImage_of_ne _ _ _ _ hj]
      · simp [State.image_modImage_of_ne _ _ _ _ hj]
    next => simp
  rw [State.abortWave_eq, State.raiseWave, Untouched.raise_image, hend _ _ _ h, State.image_modWave',
    State.detachedForAbort_image]

section
variable (s : State) {i : SlotNo}

theorem State.abortWaveTurn_image (v : WaveNo) : (s.abortWaveTurn v).image i = s.image i ∨
    (s.abortWaveTurn v).image i = (s.image i).afterAbort v := by
  by_cases hidle : (s.wave v).state = .idle
  · rw [State.abortWaveTurn_of_idle hidle]; exact .inl rfl
  · rw [State.abortWaveTurn_of_busy hidle]
    by_cases hv : (s.wave v).slot = some i
    · exact .inr (s.abortWave_image v .abortAll hv)
    · exact .inl (s.abortWave_image_of_ne hv _)

/-- An image slot that is filled stays so in the turns of the waves that do not fill it. -/
theorem State.abortWaveTurn_filling {v w : WaveNo} (hv : v ≠ w)
    (h : (s.image i).state = .filling ∧ (s.image i).fillingWave = some w) :
    ((s.abortWaveTurn v).image i).state = .filling ∧ ((s.abortWaveTurn v).image i).fillingWave = some w := by
  obtain ⟨hstate, hwave⟩ := h
  rcases s.abortWaveTurn_image (i := i) v with himage | himage
  · rw [himage]; exact ⟨hstate, hwave⟩
  · have hne : ¬ ((s.image i).state = .filling ∧ (s.image i).fillingWave = some v) := fun hn =>
      hv (Option.some.inj (hn.2.symm.trans hwave))
    rw [himage, ImageSlot.afterAbort, if_neg hne]
    exact ⟨hstate, hwave⟩

theorem State.abortWaveTurn_defined (v : WaveNo) (h : (s.image i).state = .defined) :
    ((s.abortWaveTurn v).image i).state = .defined := by
  rcases s.abortWaveTurn_image (i := i) v with himage | himage
  · rw [himage, h]
  · rw [himage, ImageSlot.afterAbort, if_neg (by simp [h])]
    exact h

theorem State.foldl_abortWaveTurn_defined (l : List WaveNo) (h : (s.image i).state = .defined) :
    ((l.foldl State.abortWaveTurn s).image i).state = .defined :=
  List.foldlRecOn (motive := fun t : State => (t.image i).state = .defined) l State.abortWaveTurn h
    (fun t ht v _ => t.abortWaveTurn_defined v ht)

theorem State.foldl_abortWaveTurn_filling {l : List WaveNo} {w : WaveNo} (hw : w ∉ l)
    (h : (s.image i).state = .filling ∧ (s.image i).fillingWave = some w) :
    ((l.foldl State.abortWaveTurn s).image i).state = .filling ∧
      ((l.foldl State.abortWaveTurn s).image i).fillingWave = some w :=
  List.foldlRecOn (motive := fun t : State => (t.image i).state = .filling ∧ (t.image i).fillingWave = some w) l
    State.abortWaveTurn h (fun t ht _ hv => t.abortWaveTurn_filling (ne_of_mem_of_not_mem hv hw) ht)

end

/-- The image slot that a wave in use fills is DEFINED again. -/
theorem State.wavesAborted_image {s : State} {i : SlotNo} {w : WaveNo} (hf : (s.image i).state = .filling)
    (hw : (s.image i).fillingWave = some w) (hbusy : (s.wave w).state ≠ .idle) (hslot : (s.wave w).slot = some i) :
    (s.wavesAborted.image i).state = .defined := by
  obtain ⟨before, rest, hbefore, hrest, hfold⟩ := s.wavesAborted_turn w
  have hsame := s.foldl_abortWaveTurn_wave hbefore
  have hfilling := s.foldl_abortWaveTurn_filling hbefore ⟨hf, hw⟩
  obtain ⟨x, hx⟩ : ∃ x, x = before.foldl State.abortWaveTurn s := ⟨_, rfl⟩
  rw [← hx] at hfold hsame hfilling
  have himage : (x.abortWave w .abortAll).image i = (x.image i).afterAbort w :=
    x.abortWave_image w .abortAll (by rw [hsame, hslot])
  have hturn : x.abortWaveTurn w = x.abortWave w .abortAll := State.abortWaveTurn_of_busy (by rwa [hsame])
  have hended : ((x.abortWaveTurn w).image i).state = .defined := by
    rw [hturn, himage, ImageSlot.afterAbort, if_pos hfilling]
  rw [hfold]
  exact State.foldl_abortWaveTurn_defined _ rest hended

end Sys2Proof.Machine
end

section
/-! Abort All at the drives (R65, R97, R114): each drive's own turn, and what it leaves (for O56). -/

namespace Sys2Proof.Machine

/-! ### One drive -/

section
variable (s : State) (d : Drive)

theorem State.withdraw_eq_unloading : ∃ kind dest, kind ≠ .load ∧ s.withdraw d = s.startUnloading d kind dest := by
  unfold State.withdraw
  split
  · split
    · exact ⟨.return, _, by decide, rfl⟩
    · exact ⟨.unload, _, by decide, rfl⟩
  · exact ⟨.unload, _, by decide, rfl⟩

theorem aborting_withdraw : Aborting s (s.withdraw d) := by
  obtain ⟨kind, dest, hkind, hw⟩ := s.withdraw_eq_unloading d
  rw [hw]
  exact aborting_startUnloading s d hkind dest

/-- The save and the disc of an aborted verify (R114). -/
def State.verifySpoiled : State :=
  ((s.leaveVerify d .abortAll).writeVerify d .fail).giveEnding d .abortAll

theorem State.verifyAborted_eq :
    s.verifyAborted d = ((s.verifySpoiled d).verifyDown d).startUnloading d .unload .byVerdict := rfl

theorem changes_verifySpoiled : Changes [.records] (s.leaveVerify d .abortAll) (s.verifySpoiled d) :=
  (changes_writeVerify _ d _).trans (changes_giveEnding _ d _)

theorem State.verifySpoiled_record (n : RecNo) : (s.verifySpoiled d).record n = if s.holds d n then
    { s.record n with verify := .fail, errorBlocks := ((s.leaveVerify d .abortAll).save d).progress.errors,
                      cause := (s.record n).cause <|> some .abortAll } else s.record n := by
  rw [State.verifySpoiled, State.giveEnding_record, State.writeVerify_holds, State.writeVerify_record,
    State.leaveVerify_holds, State.leaveVerify_record]
  split <;> rfl

theorem aborting_verifyAborted : Aborting s (s.verifyAborted d) := by
  have hspoiled : Aborting (s.leaveVerify d .abortAll) (s.verifySpoiled d) :=
    .of_records (changes_verifySpoiled s d) fun n => by
      rw [State.verifySpoiled_record, State.leaveVerify_record]
      split
      · exact ⟨rfl, rfl, rfl, id, fun _ => rfl, .inr rfl⟩
      · exact .refl _
  rw [State.verifyAborted_eq]
  exact (Aborting.of_changes (changes_leaveVerify s d _) (by decide) (by simp) (by simp) (by simp) (by simp)).trans
    (hspoiled.trans ((Aborting.of_changes (changes_verifyDown _ d) (by decide) (by simp) (by simp) (by simp)
      (by simp)).trans (aborting_startUnloading _ d (by decide) _)))

/-- A LOADING drive has its blank at the tray or in the drive (R65). -/
def DriveSlot.placed (x : DriveSlot) : Prop :=
  x.phase = .speedSet ∨ x.phase = .mediaSense ∨ (x.phase = .trayClosing ∧ x.trayRecord ≠ none)

section
variable {s d}

theorem State.abortDrive_of_ready (h : (s.drive d).state = .ready) : s.abortDrive d = s.withdraw d := by
  simp only [State.abortDrive, h]

theorem State.abortDrive_of_closing (h : (s.drive d).state = .closing) :
    s.abortDrive d = s.giveCause (s.drive d).trayRecord .abortAll := by
  simp only [State.abortDrive, h]

theorem State.abortDrive_of_verifying (h : (s.drive d).state = .verifying) : s.abortDrive d = s.verifyAborted d := by
  simp only [State.abortDrive, h]

theorem State.abortDrive_of_placed (h : (s.drive d).state = .loading) (hp : (s.drive d).placed) :
    s.abortDrive d = s.withdraw d := by
  rcases hp with hp | hp | ⟨hp, htray⟩
  · simp only [State.abortDrive, h, hp]
  · simp only [State.abortDrive, h, hp]
  · simp only [State.abortDrive, h, hp, if_pos (Option.isSome_iff_ne_none.mpr htray)]

theorem State.abortDrive_of_unplaced (h : (s.drive d).state = .loading) (hp : ¬ (s.drive d).placed) :
    s.abortDrive d = s := by
  simp only [State.abortDrive, h]
  split
  next hphase => exact if_neg fun htray => hp (.inr (.inr ⟨hphase, Option.isSome_iff_ne_none.mp htray⟩))
  next hphase => exact absurd (.inl hphase) hp
  next hphase => exact absurd (.inr (.inl hphase)) hp
  next => rfl

/-- The states in which Abort All leaves a drive that no wave has attached. -/
def DriveState.rests (x : DriveState) : Prop :=
  x ≠ .ready ∧ x ≠ .closing ∧ x ≠ .verifying ∧ x ≠ .loading

theorem State.abortDrive_of_rests (h : (s.drive d).state.rests) : s.abortDrive d = s := by
  obtain ⟨hready, hclosing, hverifying, hloading⟩ := h
  unfold State.abortDrive
  split
  next h => exact absurd h hready
  next h => exact absurd h hclosing
  next h => exact absurd h hverifying
  next h => exact absurd h hloading
  next => rfl

end

/-- What a turn at a drive is. -/
theorem State.abortDrive_cases : s.abortDrive d = s ∨ s.abortDrive d = s.withdraw d ∨
    s.abortDrive d = s.giveCause (s.drive d).trayRecord .abortAll ∨ s.abortDrive d = s.verifyAborted d := by
  by_cases hrests : (s.drive d).state.rests
  · exact .inl (State.abortDrive_of_rests hrests)
  · unfold DriveState.rests at hrests
    by_cases hready : (s.drive d).state = .ready
    · exact .inr (.inl (State.abortDrive_of_ready hready))
    by_cases hclosing : (s.drive d).state = .closing
    · exact .inr (.inr (.inl (State.abortDrive_of_closing hclosing)))
    by_cases hverifying : (s.drive d).state = .verifying
    · exact .inr (.inr (.inr (State.abortDrive_of_verifying hverifying)))
    have hloading : (s.drive d).state = .loading := by tauto
    by_cases hp : (s.drive d).placed
    · exact .inr (.inl (State.abortDrive_of_placed hloading hp))
    · exact .inl (State.abortDrive_of_unplaced hloading hp)

theorem aborting_abortDrive : Aborting s (s.abortDrive d) := by
  rcases s.abortDrive_cases d with h | h | h | h
  · rw [h]; exact .refl s
  · rw [h]; exact aborting_withdraw s d
  · rw [h]; exact aborting_giveCause s _
  · rw [h]; exact aborting_verifyAborted s d

/-- The save of a drive after its verify has been aborted. -/
theorem State.verifyAborted_save (e : Drive) : (s.verifyAborted d).save e = (s.leaveVerify d .abortAll).save e := by
  rw [State.verifyAborted_eq, State.save_congr ((changes_startUnloading _ d _ _) .saves (by simp)),
    State.save_congr ((changes_verifyDown _ d) .saves (by simp)), State.save_congr ((changes_verifySpoiled s d) .saves (by simp))]

theorem State.leaveVerify_save_of_ne {e : Drive} (h : e ≠ d) (l : LastEnding) :
    (s.leaveVerify d l).save e = s.save e := by
  have hback : (s.giveBack d).save e = s.save e := by
    unfold State.giveBack
    split
    · split
      · rw [State.save_setContext', State.save_modSave_of_ne _ _ _ _ h.symm]
      · rfl
    · rfl
  rw [State.leaveVerify, State.save_modSave_of_ne _ _ _ _ h.symm, State.leaveQueue, State.save_setVerifyQueue', hback]

theorem State.abortDrive_of_ne {e : Drive} (h : e ≠ d) :
    (s.abortDrive d).drive e = s.drive e ∧ (s.abortDrive d).save e = s.save e := by
  rcases s.abortDrive_cases d with ht | ht | ht | ht
  · rw [ht]; exact ⟨rfl, rfl⟩
  · obtain ⟨kind, dest, -, hw⟩ := s.withdraw_eq_unloading d
    rw [ht, hw]
    exact ⟨s.startUnloading_drive_of_ne _ _ h, State.save_congr ((changes_startUnloading s d _ _) .saves (by simp)) e⟩
  · rw [ht]
    exact ⟨Untouched.giveCause_drive _ _ _ _, State.save_congr ((changes_giveCause s _ _) .saves (by simp)) e⟩
  · rw [ht, State.verifyAborted_save, State.leaveVerify_save_of_ne _ _ h, State.verifyAborted_eq,
      State.startUnloading_drive_of_ne _ _ _ h, Untouched.verifyDown_drive,
      State.drive_congr ((changes_verifySpoiled s d) .drives (by simp)), Untouched.leaveVerify_drive]
    exact ⟨rfl, rfl⟩

end

/-! ### The drives in order -/

/-- The drives after DPC's and VE's part. -/
def State.drivesAborted (s : State) : State := allDrives.foldl State.abortDrive s

theorem aborting_drivesAborted (s : State) : Aborting s s.drivesAborted := aborting_foldl aborting_abortDrive s _

theorem aborting_wavesAborted (s : State) : Aborting s s.wavesAborted := aborting_foldl aborting_abortWaveTurn s _

theorem State.foldl_abortDrive (s : State) {l : List Drive} {d : Drive} (h : d ∉ l) :
    (l.foldl State.abortDrive s).drive d = s.drive d ∧ (l.foldl State.abortDrive s).save d = s.save d :=
  List.foldlRecOn (motive := fun t : State => t.drive d = s.drive d ∧ t.save d = s.save d) l State.abortDrive ⟨rfl, rfl⟩
    (fun t ⟨hdrive, hsave⟩ _ he => by
      obtain ⟨hd, hs⟩ := t.abortDrive_of_ne _ (ne_of_mem_of_not_mem he h).symm
      exact ⟨hd.trans hdrive, hs.trans hsave⟩)

/-- A drive's turn: the state `x` it comes at has the drive as it was, and the drives after it leave what it did. -/
structure DriveTurn (s : State) (d : Drive) (x : State) : Prop where
  before : Aborting s x
  slot : x.drive d = s.drive d
  after : Aborting (x.abortDrive d) s.drivesAborted
  drive : s.drivesAborted.drive d = (x.abortDrive d).drive d
  save : s.drivesAborted.save d = (x.abortDrive d).save d

theorem State.exists_driveTurn (s : State) (d : Drive) : ∃ x, DriveTurn s d x := by
  obtain ⟨before, rest, hbefore, hrest, hfold⟩ :=
    foldl_turn State.abortDrive (List.nodup_finRange 16) (List.mem_finRange d) s
  have hfold' : s.drivesAborted = rest.foldl State.abortDrive ((before.foldl State.abortDrive s).abortDrive d) := hfold
  obtain ⟨hdrive, hsave⟩ := State.foldl_abortDrive ((before.foldl State.abortDrive s).abortDrive d) hrest
  refine ⟨before.foldl State.abortDrive s, aborting_foldl aborting_abortDrive s before, (s.foldl_abortDrive hbefore).1, ?_, ?_, ?_⟩
  · rw [hfold']; exact aborting_foldl aborting_abortDrive _ rest
  · rw [hfold', hdrive]
  · rw [hfold', hsave]

section
variable {s : State} {d : Drive}

/-- A drive that its turn leaves as it is. -/
theorem State.drivesAborted_drive (h : ∀ x : State, x.drive d = s.drive d → (x.abortDrive d).drive d = s.drive d) :
    s.drivesAborted.drive d = s.drive d := by
  obtain ⟨x, hturn⟩ := s.exists_driveTurn d
  rw [hturn.drive, h x hturn.slot]

theorem State.drivesAborted_of_rests (h : (s.drive d).state.rests) : s.drivesAborted.drive d = s.drive d :=
  State.drivesAborted_drive fun x hx => by rw [State.abortDrive_of_rests (by rwa [hx]), hx]

theorem State.drivesAborted_of_unplaced (h : (s.drive d).state = .loading) (hp : ¬ (s.drive d).placed) :
    s.drivesAborted.drive d = s.drive d :=
  State.drivesAborted_drive fun x hx => by rw [State.abortDrive_of_unplaced (by rwa [hx]) (by rwa [hx]), hx]

theorem State.exists_token_of_trayRecordOf {r : DiscRecord} (h : s.trayRecordOf d = some r) :
    ∃ k, (s.drive d).trayRecord = some k ∧ s.live k = true ∧ r = s.record k.num := by
  obtain ⟨k, hk, hr⟩ := Option.bind_eq_some_iff.mp h
  unfold State.liveRecord at hr
  split at hr
  next hl => exact ⟨k, hk, hl, (Option.some.inj hr).symm⟩
  next => exact absurd hr (by simp)

/-- A blank is withdrawn to the spindle it came from. -/
theorem State.drivesAborted_withdrawn {r : DiscRecord} {i : Fin 4}
    (h : (s.drive d).state = .ready ∨ ((s.drive d).state = .loading ∧ (s.drive d).placed))
    (hr : s.trayRecordOf d = some r) (hi : r.origin = .spindle i) : (s.drivesAborted.drive d).unloadingWith .return := by
  obtain ⟨x, hturn⟩ := s.exists_driveTurn d
  obtain ⟨k, hk, hl, rfl⟩ := State.exists_token_of_trayRecordOf hr
  have hwithdrawn : x.abortDrive d = x.withdraw d := by
    rcases h with h | ⟨h, hp⟩
    · exact State.abortDrive_of_ready (by rwa [hturn.slot])
    · exact State.abortDrive_of_placed (by rwa [hturn.slot]) (by rwa [hturn.slot])
  rw [hturn.drive, hwithdrawn]
  exact State.withdraw_unloading (by rwa [hturn.slot]) (by rwa [hturn.before.live])
    ((hturn.before.records k.num).origin.trans hi)

/-- A disc in CLOSING has ABORT-ALL unless it had a cause, and the drive goes on (R97). -/
theorem State.drivesAborted_closing (h : (s.drive d).state = .closing) : s.drivesAborted.drive d = s.drive d ∧
    ∀ n, s.holds d n = true → (s.drivesAborted.record n).cause = ((s.record n).cause <|> some .abortAll) := by
  obtain ⟨x, hturn⟩ := s.exists_driveTurn d
  have hact : x.abortDrive d = x.giveCause (x.drive d).trayRecord .abortAll :=
    State.abortDrive_of_closing (by rwa [hturn.slot])
  refine ⟨by rw [hturn.drive, hact, Untouched.giveCause_drive, hturn.slot], fun n hn => ?_⟩
  have hgiven : (x.abortDrive d).record n = (x.record n).addCause .abortAll := by
    rw [hact, State.giveCause, State.writeRecordO_record]
    exact if_pos ((hturn.before.holds d n).trans hn)
  have hcause : ((x.record n).addCause .abortAll).cause = ((s.record n).cause <|> some .abortAll) :=
    (hturn.before.records n).cause_eq
  have hafter := hturn.after.records n
  rw [hgiven] at hafter
  rw [hafter.cause_of_some (by rw [hcause]; cases (s.record n).cause <;> simp), hcause]

/-- A drive in VERIFYING unloads a disc that has failed its verify (R114). -/
theorem State.drivesAborted_verifying (h : (s.drive d).state = .verifying) :
    (s.drivesAborted.drive d).unloadingWith .unload ∧ (s.drivesAborted.save d).sub = .outside ∧
      (s.drivesAborted.save d).lastEnding = .abortAll ∧ ∀ n, s.holds d n = true →
        (s.drivesAborted.record n).verify = .fail ∧
          (s.drivesAborted.record n).cause = ((s.record n).cause <|> some .abortAll) := by
  obtain ⟨x, hturn⟩ := s.exists_driveTurn d
  have hact : x.abortDrive d = x.verifyAborted d := State.abortDrive_of_verifying (by rwa [hturn.slot])
  have hsave : (x.abortDrive d).save d = (x.leaveVerify d .abortAll).save d := by rw [hact, State.verifyAborted_save]
  have hleft : ((x.leaveVerify d .abortAll).save d).sub = .outside ∧
      ((x.leaveVerify d .abortAll).save d).lastEnding = .abortAll := by
    rw [State.leaveVerify, State.save_modSave_self]
    exact ⟨rfl, rfl⟩
  rw [hturn.save, hsave]
  refine ⟨?_, hleft.1, hleft.2, fun n hn => ?_⟩
  · rw [hturn.drive, hact, State.verifyAborted_eq]
    exact State.startUnloading_unloading _ _ _ _
  · have hspoiled : (x.abortDrive d).record n = (x.verifySpoiled d).record n := by
      rw [hact, State.verifyAborted_eq, State.record_congr ((changes_startUnloading _ d _ _) .records (by simp)),
        State.record_congr ((changes_verifyDown _ d) .records (by simp))]
    have hafter := hturn.after.records n
    rw [hspoiled, State.verifySpoiled_record, if_pos ((hturn.before.holds d n).trans hn)] at hafter
    have hcause := (hturn.before.records n).cause_eq
    refine ⟨hafter.verify rfl, ?_⟩
    rw [← hcause]
    exact hafter.cause_of_some (by show ((x.record n).cause <|> _) ≠ none; cases (x.record n).cause <;> simp)

end

end Sys2Proof.Machine
end

section
/-! Abort All at the queue, the records that await print and the printer (R136, R161, R179), and the whole of it (O56). -/

namespace Sys2Proof.Machine

/-! ### PU: the records that await print (R136) -/

theorem State.abortPrints_record (s : State) (n : RecNo) : s.abortPrints.record n =
    if s.awaitsPrint n then (s.record n).addCause .abortAll else s.record n :=
  get_foldl (get := State.record) (act := fun t n => if s.awaitsPrint n then t.modRecord n (·.addCause .abortAll) else t)
    (new := fun n r => if s.awaitsPrint n then r.addCause .abortAll else r)
    (fun t n => by
      split
      · rw [State.record_modRecord_self]
      · rfl)
    (fun t {n m} hm => by
      split
      · exact State.record_modRecord_of_ne _ _ _ _ hm.symm
      · rfl)
    (List.nodup_finRange _) (List.mem_finRange n) s

theorem aborting_abortPrints (s : State) : Aborting s s.abortPrints :=
  .of_records (changes_abortPrints s) fun n => by
    rw [State.abortPrints_record]
    split
    · exact DiscRecord.abortedTo_addCause _
    · exact .refl _

/-- A record that awaited print before the waves' and the drives' turns has ABORT-ALL after PU's (R136). -/
theorem Aborting.awaitsPrint {s t : State} (h : Aborting s t) {m : RecNo} (hm : s.awaitsPrint m = true) :
    (t.abortPrints.record m).cause = some .abortAll := by
  have hnone : (s.record m).cause = none := by
    simp only [State.awaitsPrint, Bool.and_eq_true, Option.isNone_iff_eq_none] at hm
    exact hm.1.1.1.1.2
  have hrecord := t.abortPrints_record m
  rcases (h.records m).cause with hsame | hcause
  · have horder : ∀ o, t.order o = s.order o := State.order_congr (h.changes .orders (by decide))
    have hawaits : t.awaitsPrint m = true := by
      rw [← hm]
      simp only [State.awaitsPrint, hsame, horder]
    rw [hrecord, if_pos hawaits, DiscRecord.addCause, hsame, hnone]
    rfl
  · have hsome : (t.record m).cause = some .abortAll := by rw [hcause, hnone]; rfl
    have hkept := (aborting_abortPrints t).records m
    rw [hkept.cause_of_some (by simp [hsome]), hsome]

/-! ### TC: unpicked LOADs (R161) -/

/-- The turn of one entry. -/
def State.abortLoad (s : State) (e : Entry) : State := if e.abortsUnpicked then s.retireLoad e else s

theorem State.abortLoads_eq (s : State) : s.abortLoads = s.queue.foldl State.abortLoad s := rfl

theorem State.abortLoads_queue (s : State) : s.abortLoads.queue = s.queue.filter (fun e => !e.abortsUnpicked) :=
  (State.foldl_retireLoad_queue Entry.abortsUnpicked s.queue s).trans (eraseEach_self _ _)

theorem State.retireLoad_order (s : State) (e : Entry) (o : OrderNo) : ((s.retireLoad e).order o).inProgress =
    (s.order o).inProgress - (if e.order = some o then 1 else 0) := by
  have hretired : (s.retire e).order o = s.order o := State.order_congr ((changes_retire s e) .orders (by simp)) o
  rw [State.retireLoad, State.order_congr ((changes_loadRetired _ _) .orders (by simp)), ← hretired]
  unfold State.unreserve
  split
  next p hp =>
    by_cases h : p = o
    · subst h
      rw [State.order_modOrder_self, if_pos hp]
    · rw [State.order_modOrder_of_ne _ _ _ _ h, if_neg (by simpa [hp] using h)]
      rfl
  next hp => rw [if_neg (by simp [hp])]; rfl

/-- Each retired LOAD gives its reservation back. -/
theorem State.foldl_abortLoad_order (s : State) (l : List Entry) (o : OrderNo) :
    ((l.foldl State.abortLoad s).order o).inProgress =
      (s.order o).inProgress - (l.filter (fun e => e.abortsUnpicked && decide (e.order = some o))).length := by
  induction l generalizing s with
  | nil => rfl
  | cons e l ih =>
    rw [List.foldl_cons, ih, State.abortLoad]
    by_cases ha : e.abortsUnpicked = true
    · by_cases ho : e.order = some o
      · rw [if_pos ha, State.retireLoad_order, if_pos ho, List.filter_cons_of_pos (by simp [ha, ho]), List.length_cons]
        omega
      · rw [if_pos ha, State.retireLoad_order, if_neg ho, List.filter_cons_of_neg (by simp [ho])]
        rfl
    · rw [if_neg ha, List.filter_cons_of_neg (by simp [ha])]

/-! ### TC: the drives whose LOAD is gone (R59) -/

/-- A port that has been asked for a request (R46). -/
def DriveSlot.asked (x : DriveSlot) (q : DriveRequest) : DriveSlot :=
  if x.portFree then x.sent q else { x.unwaited with waiting := some q }

theorem State.askDrive_drive_eq (s : State) (d : Drive) (q : DriveRequest) :
    (s.askDrive d q).drive d = (s.drive d).asked q := by
  unfold DriveSlot.asked
  by_cases h : (s.drive d).portFree = true
  · rw [if_pos h, State.askDrive_drive_of_free _ _ _ h]
  · rw [if_neg h, State.askDrive, if_neg h, State.drive_modDrive_self, State.dropWaiting_drive]

/-- A LOADING drive that has lost its LOAD closes its tray. -/
def DriveSlot.loadGone (x : DriveSlot) : DriveSlot :=
  DriveSlot.asked { x with entry := none, phase := .trayClosing } .trayClose

theorem DriveSlot.asked_side (x : DriveSlot) (q : DriveRequest) :
    (x.asked q).state = x.state ∧ (x.asked q).phase = x.phase ∧ (x.asked q).entry = x.entry := by
  unfold DriveSlot.asked
  split
  · exact ⟨rfl, rfl, rfl⟩
  · exact ⟨rfl, rfl, rfl⟩

theorem DriveSlot.loadGone_port (x : DriveSlot) :
    (x.outstanding = none → x.checkPhase = .idle →
      x.loadGone.outstanding = some { req := .trayClose, number := x.nextNumber }) ∧
    (x.outstanding ≠ none → x.loadGone.outstanding = x.outstanding ∧ x.loadGone.waiting = some .trayClose) := by
  unfold DriveSlot.loadGone DriveSlot.asked
  refine ⟨fun ho hc => ?_, fun ho => ?_⟩
  · rw [if_pos (by simp [DriveSlot.portFree, ho, hc])]
    rfl
  · rw [if_neg (by simp [DriveSlot.portFree, ho])]
    exact ⟨rfl, rfl⟩

section
variable (s : State) {d : Drive}

theorem State.retireLoad_drive_gone {e : Entry} (hd : e.drive = some d) (hstate : (s.drive d).state = .loading)
    (hentry : (s.drive d).entry = some .load) : (s.retireLoad e).drive d = (s.drive d).loadGone := by
  have hslot := State.drive_congr (s.retireLoad_drives_before e) d
  have htold : s.retireLoad e = (((s.retire e).unreserve e.order).modDrive d (fun x => { x with
      entry := none, phase := .trayClosing })).askDrive d .trayClose := by
    simp only [State.retireLoad, hd, State.loadRetired, hslot, hstate, hentry, and_self, if_true]
  rw [htold, State.askDrive_drive_eq, State.drive_modDrive_self, hslot]
  rfl

theorem State.foldl_abortLoad_drive_of_ne {l : List Entry}
    (h : ∀ e ∈ l, e.abortsUnpicked = true → e.drive ≠ some d) : (l.foldl State.abortLoad s).drive d = s.drive d :=
  List.foldlRecOn (motive := fun t : State => t.drive d = s.drive d) l State.abortLoad rfl (fun t ht e he => by
    unfold State.abortLoad
    split
    next ha => exact (t.retireLoad_drive_of_ne (h e he ha)).trans ht
    next => exact ht)

theorem State.foldl_abortLoad_drive_of_idle {l : List Entry} (h : (s.drive d).entry ≠ some .load) :
    (l.foldl State.abortLoad s).drive d = s.drive d :=
  List.foldlRecOn (motive := fun t : State => t.drive d = s.drive d) l State.abortLoad rfl (fun t ht e _ => by
    unfold State.abortLoad
    split
    · exact (t.retireLoad_drive_of_idle e (by rw [ht]; exact h)).trans ht
    · exact ht)

theorem State.retireLoad_drive_of_other (e : Entry) (h : (s.drive d).state ≠ .loading) :
    (s.retireLoad e).drive d = s.drive d := by
  by_cases hd : e.drive = some d
  · have hslot := State.drive_congr (s.retireLoad_drives_before e) d
    rw [State.retireLoad, hd, State.loadRetired, if_neg (by rw [hslot]; exact fun hl => h hl.1), hslot]
  · exact s.retireLoad_drive_of_ne hd

theorem State.foldl_abortLoad_drive_of_other {l : List Entry} (h : (s.drive d).state ≠ .loading) :
    (l.foldl State.abortLoad s).drive d = s.drive d :=
  List.foldlRecOn (motive := fun t : State => t.drive d = s.drive d) l State.abortLoad rfl (fun t ht e _ => by
    unfold State.abortLoad
    split
    · exact (t.retireLoad_drive_of_other e (by rw [ht]; exact h)).trans ht
    · exact ht)

/-- The first LOAD of the drive that is retired takes its entry, and later ones find none. -/
theorem State.foldl_abortLoad_drive_gone {l : List Entry} (hstate : (s.drive d).state = .loading)
    (hentry : (s.drive d).entry = some .load) (h : ∃ e ∈ l, e.abortsUnpicked = true ∧ e.drive = some d) :
    (l.foldl State.abortLoad s).drive d = (s.drive d).loadGone := by
  induction l generalizing s with
  | nil => obtain ⟨e, he, -⟩ := h; cases he
  | cons e l ih =>
    rw [List.foldl_cons]
    by_cases hturn : e.abortsUnpicked = true ∧ e.drive = some d
    · have hgone : (s.abortLoad e).drive d = (s.drive d).loadGone := by
        rw [State.abortLoad, if_pos hturn.1, s.retireLoad_drive_gone hturn.2 hstate hentry]
      have hnone : (s.drive d).loadGone.entry = none := (DriveSlot.asked_side _ _).2.2
      rw [State.foldl_abortLoad_drive_of_idle _ (by rw [hgone, hnone]; simp), hgone]
    · have hsame : (s.abortLoad e).drive d = s.drive d := by
        unfold State.abortLoad
        split
        next ha => exact s.retireLoad_drive_of_ne fun hd => hturn ⟨ha, hd⟩
        next => rfl
      obtain ⟨f, hf, ha, hd⟩ := h
      have hmem : f ∈ l := (List.mem_cons.mp hf).resolve_left fun hfe => hturn ⟨hfe ▸ ha, hfe ▸ hd⟩
      rw [ih _ (by rw [hsame, hstate]) (by rw [hsame, hentry]) ⟨f, hmem, ha, hd⟩, hsame]

end

/-! ### TC: the transport, the printer and the discs at the retirements -/

/-- What the retirement of LOADs leaves of the transport (R144, R157). -/
def Transport.retiredFrom (y x : Transport) : Prop :=
  y.autoFeed = x.autoFeed ∧ y.heldCopy = x.heldCopy ∧ (x.parkWaiting = false → y.parkWaiting = false ∧ y.mode = x.mode)

theorem Transport.retiredFrom_afterRetirement (x : Transport) : x.afterRetirement.retiredFrom x := by
  unfold Transport.afterRetirement
  split
  next h => exact ⟨rfl, rfl, fun hp => absurd h.1 (by simp [hp])⟩
  next => exact ⟨rfl, rfl, fun hp => ⟨hp, rfl⟩⟩

theorem Transport.retiredFrom.trans {x y z : Transport} (hxy : y.retiredFrom x) (hyz : z.retiredFrom y) :
    z.retiredFrom x := by
  obtain ⟨hfeed, hcopy, hmode⟩ := hxy
  obtain ⟨hfeed', hcopy', hmode'⟩ := hyz
  refine ⟨hfeed'.trans hfeed, hcopy'.trans hcopy, fun hp => ?_⟩
  obtain ⟨hpark, hsame⟩ := hmode hp
  obtain ⟨hpark', hsame'⟩ := hmode' hpark
  exact ⟨hpark', hsame'.trans hsame⟩

/-- What a retirement of LOADs leaves of the transport, the printer and the discs. -/
structure LoadsRetired (s t : State) : Prop where
  transport : t.transport.retiredFrom s.transport
  printer : s.printer.PrintKept t.printer
  records : UseOnly s t
  changes : Changes [.drives, .orders, .records, .queue, .transport, .printer, .outbound, .events] s t

theorem loadsRetired_retireLoad (s : State) (e : Entry) : LoadsRetired s (s.retireLoad e) := by
  have hkept : (s.retireLoad e).transport = (s.retire e).transport ∧ (s.retireLoad e).printer = (s.retire e).printer ∧
      (s.retireLoad e).records = (s.retire e).records := by
    unfold State.retireLoad
    refine ⟨?_, ?_, ?_⟩
    · rw [changes_loadRetired _ _ .transport (by simp), changes_unreserve _ _ .transport (by simp)]
    · rw [changes_loadRetired _ _ .printer (by simp), changes_unreserve _ _ .printer (by simp)]
    · rw [changes_loadRetired _ _ .records (by simp), changes_unreserve _ _ .records (by simp)]
  obtain ⟨htransport, hprinter, hrecords⟩ := hkept
  refine ⟨?_, ?_, ?_, changes_retireLoad s e⟩
  · rw [htransport, State.retire_transport]
    split
    · exact Transport.retiredFrom_afterRetirement _
    · exact ⟨rfl, rfl, fun hp => ⟨hp, rfl⟩⟩
  · rw [hprinter, State.retire_printer_eq]
    exact Printer.printKept_trayed _ _
  · exact (useOnly_retire s e).trans (.of_records hrecords)

theorem LoadsRetired.refl (s : State) : LoadsRetired s s :=
  ⟨⟨rfl, rfl, fun hp => ⟨hp, rfl⟩⟩, .refl _, .of_records rfl, .refl s⟩

theorem LoadsRetired.trans {s t u : State} (hst : LoadsRetired s t) (htu : LoadsRetired t u) : LoadsRetired s u :=
  ⟨hst.transport.trans htu.transport, hst.printer.trans htu.printer, hst.records.trans htu.records,
    hst.changes.trans htu.changes⟩

theorem loadsRetired_abortLoads (s : State) : LoadsRetired s s.abortLoads := by
  rw [State.abortLoads_eq]
  exact List.foldlRecOn (motive := LoadsRetired s) _ State.abortLoad (.refl s) (fun t ht e _ => by
    unfold State.abortLoad
    split
    · exact ht.trans (loadsRetired_retireLoad t e)
    · exact ht)

/-! ### TC as a whole -/

theorem State.abortTransport_eq (s : State) :
    s.abortTransport = (s.abortLoads.setQueue (s.abortLoads.queue.map s.abortLoads.divert)).printerTray := rfl

theorem changes_divert (s : State) : Changes [.queue, .printer] s.abortLoads s.abortTransport := by
  rw [State.abortTransport_eq]
  exact ((changes_setQueue _ _).mono (by simp)).trans ((changes_printerTray _).mono (by simp))

theorem loadsRetired_abortTransport (s : State) : LoadsRetired s s.abortTransport := by
  have hdivert := changes_divert s
  refine (loadsRetired_abortLoads s).trans ⟨?_, ?_, .of_records (hdivert .records (by simp)), hdivert.mono (by simp)⟩
  · rw [hdivert .transport (by simp)]
    exact ⟨rfl, rfl, fun hp => ⟨hp, rfl⟩⟩
  · rw [State.abortTransport_eq, State.printerTray_printer]
    exact Printer.printKept_trayed _ _

theorem State.abortTransport_queue (s : State) :
    s.abortTransport.queue = (s.queue.filter (fun e => !e.abortsUnpicked)).map s.abortLoads.divert := by
  rw [State.abortTransport_eq, State.printerTray_queue, ← State.abortLoads_queue]
  rfl

/-- A diverted entry is an UNLOAD, and no longer bound for PR (R161). -/
theorem State.divert_cases (s : State) (e : Entry) : s.divert e = e ∧ ¬ (e.kind = .unload ∧ e.dest = .station stationPR ∧
    s.picked e = false) ∨ (s.divert e).kind = .unload ∧ (s.divert e).dest = .byVerdict := by
  unfold State.divert
  split
  next h =>
    right
    dsimp only
    split
    · exact ⟨h.1, rfl⟩
    · exact ⟨h.1, rfl⟩
  next h => exact .inl ⟨rfl, fun hn => h ⟨hn.1, by simp [Entry.boundForPR, hn.2.1], hn.2.2⟩⟩

theorem Entry.abortsUnpicked_eq_false {e : Entry} (h : e.abortsUnpicked = false) (hk : e.kind = .load) :
    e.token ≠ none ∨ e.pickSent = true := by
  unfold Entry.abortsUnpicked at h
  cases ht : e.token with
  | none =>
    right
    simpa [hk, ht] using h
  | some k => simp

section
variable (s : State) {e : Entry} (he : e ∈ s.abortTransport.queue)
include he

theorem State.abortTransport_load (hk : e.kind = .load) : e.token ≠ none ∨ e.pickSent = true := by
  rw [State.abortTransport_queue] at he
  obtain ⟨f, hf, rfl⟩ := List.mem_map.mp he
  rcases s.abortLoads.divert_cases f with ⟨hsame, -⟩ | ⟨hunload, -⟩
  · rw [hsame] at hk ⊢
    exact Entry.abortsUnpicked_eq_false (by simpa using (List.mem_filter.mp hf).2) hk
  · rw [hk] at hunload
    cases hunload

theorem State.abortTransport_unload (hk : e.kind = .unload) (hd : e.dest = .station stationPR) :
    s.abortLoads.picked e = true := by
  rw [State.abortTransport_queue] at he
  obtain ⟨f, -, rfl⟩ := List.mem_map.mp he
  rcases s.abortLoads.divert_cases f with ⟨hsame, hn⟩ | ⟨-, hverdict⟩
  · rw [hsame] at hk hd ⊢
    by_contra hp
    exact hn ⟨hk, hd, by simpa using hp⟩
  · rw [hd] at hverdict
    cases hverdict

end

end Sys2Proof.Machine
end

section
/-! Abort All (R194): the printer's part, and O56 from the parts in their order. -/

namespace Sys2Proof.Machine

/-! ### The printer (R175, R179) -/

theorem State.printFault_printer_eq (s : State) (c : PrinterCause) (counted : Bool) : (s.printFault c counted).printer =
    Printer.asked { s.printer with
      state := .discharge, phase := .ejecting, snapshot := none, faultRun := s.printer.runAfter counted } .trayOut := by
  have hspoiled : ((s.printSpoiled counted).raisePrinter .discharge c).printer =
      { s.printer with snapshot := none, faultRun := s.printer.runAfter counted } := by
    rw [Untouched.raisePrinter_printer, State.printSpoiled_printer]
  rw [State.printFault_eq, State.printerEject, State.askPrinter_printer_eq, State.modPrinter_printer, hspoiled]

theorem Printer.asked_side (x : Printer) (q : PrinterRequest) : (x.asked q).state = x.state ∧ (x.asked q).phase = x.phase ∧
    (x.asked q).snapshot = x.snapshot ∧ (x.asked q).faultRun = x.faultRun := by
  unfold Printer.asked
  split
  · exact ⟨rfl, rfl, rfl, rfl⟩
  · exact ⟨rfl, rfl, rfl, rfl⟩

/-- What the end of a print leaves of a disc record: its outcomes, its place, and a cause that it has. -/
def DiscRecord.PrintedTo (r x : DiscRecord) : Prop :=
  ∃ p c, x = { r with print := p, cause := c } ∧ (r.cause ≠ none → c = r.cause)

theorem State.printFault_printedTo (s : State) (c : PrinterCause) (counted : Bool) (n : RecNo) :
    (s.record n).PrintedTo ((s.printFault c counted).record n) := by
  have hgiven : ∀ m, (s.giveCause s.printer.token .printFault).record m =
      if s.names s.printer.token m then (s.record m).addCause .printFault else s.record m :=
    fun m => State.writeRecordO_record s _ _ m
  have hnames : (s.giveCause s.printer.token .printFault).names s.printer.token n = s.names s.printer.token n :=
    State.names_congr (fun m => by rw [hgiven]; split <;> rfl) (fun m => by rw [hgiven]; split <;> rfl) _ _
  rw [State.record_congr (changes_printFault_of_spoiled s c counted .records (by simp)),
    State.record_congr (changes_faultCounted s counted .records (by simp)),
    State.record_congr (changes_snapshotEnded _ _ .records (by simp)), State.printFailRecorded, State.writeRecordO_record,
    hnames, hgiven]
  split
  · refine ⟨.fail, _, rfl, fun h => ?_⟩
    cases hc : (s.record n).cause with
    | none => exact absurd hc h
    | some a => simp [DiscRecord.addCause, hc]
  · exact ⟨_, _, rfl, fun _ => rfl⟩

theorem State.printAborted_printedTo (s : State) (n : RecNo) : (s.record n).PrintedTo (s.printAborted.record n) := by
  unfold State.printAborted
  split
  · exact s.printFault_printedTo _ _ n
  · exact ⟨_, _, rfl, fun _ => rfl⟩

theorem State.picked_congr {s t : State} (h : ∀ n, (s.record n).PrintedTo (t.record n)) (e : Entry) :
    t.picked e = s.picked e := by
  unfold State.picked
  split
  next k _ =>
    obtain ⟨p, c, hk, -⟩ := h k.num
    simp only [State.live, hk]
  next => rfl

/-! ### A disc record from the drives' turns to the end -/

/-- A FAIL stays, and so does a cause. -/
structure DiscRecord.SettledTo (r x : DiscRecord) : Prop where
  burn : r.burn = .fail → x.burn = .fail
  verify : r.verify = .fail → x.verify = .fail
  cause : r.cause ≠ none → x.cause = r.cause

theorem DiscRecord.SettledTo.trans {r x y : DiscRecord} (hx : r.SettledTo x) (hy : x.SettledTo y) : r.SettledTo y := by
  refine ⟨fun h => hy.burn (hx.burn h), fun h => hy.verify (hx.verify h), fun h => ?_⟩
  have hcause := hx.cause h
  rw [hy.cause (by rwa [hcause]), hcause]

theorem DiscRecord.AbortedTo.settled {r x : DiscRecord} (h : r.AbortedTo x) : r.SettledTo x :=
  ⟨h.burn, h.verify, h.cause_of_some⟩

theorem DiscRecord.PrintedTo.settled {r x : DiscRecord} (h : r.PrintedTo x) : r.SettledTo x := by
  obtain ⟨p, c, rfl, hc⟩ := h
  exact ⟨id, id, hc⟩

theorem UseOnly.settled {s t : State} (h : UseOnly s t) (n : RecNo) : (s.record n).SettledTo (t.record n) := by
  obtain ⟨u, hu⟩ := h n
  rw [hu]
  exact ⟨id, id, fun _ => rfl⟩

/-- A record that has ABORT-ALL unless it had a cause keeps what it has. -/
theorem DiscRecord.SettledTo.aborted {r x y : DiscRecord} (h : x.SettledTo y) (hc : x.cause = (r.cause <|> some .abortAll)) :
    y.cause = (r.cause <|> some .abortAll) := by
  rw [h.cause (by rw [hc]; cases r.cause <;> simp), hc]

/-! ### The drives' turns at the waves and the images -/

/-- A drive's turn leaves the state of every image slot. -/
theorem State.abortDrive_imageState (s : State) (d : Drive) (i : SlotNo) : ((s.abortDrive d).image i).state = (s.image i).state := by
  rcases s.abortDrive_cases d with h | h | h | h
  · rw [h]
  · rw [h, State.image_congr ((changes_withdraw s d) .images (by simp))]
  · rw [h, Untouched.giveCause_image]
  · have hdown : ∀ t : State, ((t.verifyDown d).image i).state = (t.image i).state := fun t => by
      unfold State.verifyDown
      split
      next j _ =>
        by_cases hj : j = i
        · subst hj; rw [State.image_modImage_self]
        · rw [State.image_modImage_of_ne _ _ _ _ hj]
      next => rfl
    rw [h, State.verifyAborted_eq, State.image_congr ((changes_startUnloading _ d _ _) .images (by simp)), hdown,
      State.image_congr ((changes_verifySpoiled s d) .images (by simp)), Untouched.leaveVerify_image]

theorem State.drivesAborted_imageState (s : State) (i : SlotNo) :
    (s.drivesAborted.image i).state = (s.image i).state := by
  unfold State.drivesAborted
  exact List.foldlRecOn (motive := fun t : State => (t.image i).state = (s.image i).state) _ State.abortDrive rfl
    (fun t ht d _ => (t.abortDrive_imageState d i).trans ht)

theorem State.drivesAborted_waves (s : State) : s.drivesAborted.waves = s.waves := by
  unfold State.drivesAborted
  exact List.foldlRecOn (motive := fun t : State => t.waves = s.waves) _ State.abortDrive rfl
    (fun t ht d _ => ((changes_abortDrive t d) .waves (by simp)).trans ht)

/-! ### TC's part at the drives and the orders -/

theorem State.abortTransport_drive (s : State) (d : Drive) :
    s.abortTransport.drive d = (s.queue.foldl State.abortLoad s).drive d := by
  rw [State.drive_congr ((changes_divert s) .drives (by simp)), State.abortLoads_eq]

theorem State.abortTransport_order (s : State) (o : OrderNo) : (s.abortTransport.order o).inProgress =
    (s.order o).inProgress - (s.queue.filter (fun e => e.abortsUnpicked && decide (e.order = some o))).length := by
  rw [State.order_congr ((changes_divert s) .orders (by simp)), State.abortLoads_eq, State.foldl_abortLoad_order]

theorem State.abortTransport_printedTo (s : State) (n : RecNo) :
    (s.abortLoads.record n).PrintedTo (s.abortTransport.record n) := by
  rw [State.record_congr ((changes_divert s) .records (by simp))]
  exact ⟨_, _, rfl, fun _ => rfl⟩

theorem DiscRecord.PrintedTo.trans {r x y : DiscRecord} (hx : r.PrintedTo x) (hy : x.PrintedTo y) : r.PrintedTo y := by
  obtain ⟨p, c, rfl, hc⟩ := hx
  obtain ⟨q, b, rfl, hb⟩ := hy
  exact ⟨q, b, rfl, fun h => (hb (by rw [hc h]; exact h)).trans (hc h)⟩

/-! ### The parts of Abort All in their order (R194; log entry 8) -/

/-- After DPC's and VE's part. -/
def State.discsAborted (s : State) : State := s.wavesAborted.drivesAborted

/-- After TC's part. -/
def State.queueAborted (s : State) : State := s.discsAborted.abortPrints.abortTransport

/-- After LPC's part, before the load decision. -/
def State.allAborted (s : State) : State := s.queueAborted.printAborted

section
variable (s : State)

theorem aborting_discsAborted : Aborting s s.discsAborted :=
  (aborting_wavesAborted _).trans (aborting_drivesAborted _)

theorem aborting_printsAborted : Aborting s s.discsAborted.abortPrints :=
  (aborting_discsAborted s).trans (aborting_abortPrints _)

theorem State.allAborted_printedTo (n : RecNo) : (s.queueAborted.record n).PrintedTo (s.allAborted.record n) :=
  s.queueAborted.printAborted_printedTo n

theorem settled_abortPrints (n : RecNo) :
    (s.discsAborted.abortPrints.record n).SettledTo (s.allAborted.record n) :=
  ((loadsRetired_abortTransport _).records.settled n).trans (s.allAborted_printedTo n).settled

theorem settled_discsAborted (n : RecNo) : (s.discsAborted.record n).SettledTo (s.allAborted.record n) :=
  ((aborting_abortPrints _).records n).settled.trans (settled_abortPrints s n)

theorem State.allAborted_transport : s.allAborted.transport.retiredFrom s.transport := by
  have hprints := (aborting_printsAborted s).changes .transport (by decide)
  have hretired := (loadsRetired_abortTransport s.discsAborted.abortPrints).transport
  rw [hprints] at hretired
  rw [State.allAborted, (changes_printAborted _) .transport (by simp)]
  exact hretired

/-- While auto-feed is clear, no load begins. -/
theorem State.allAborted_loadDecision (h : s.transport.autoFeed = false) : s.allAborted.loadDecision = s.allAborted := by
  obtain ⟨hfeed, -, -⟩ := s.allAborted_transport
  exact State.loadDecision_of_autoFeed_clear (hfeed.trans h)

/-- The printer at LPC's turn: a print is as it was before. -/
theorem printKept_queueAborted : s.printer.PrintKept s.queueAborted.printer :=
  (aborting_printsAborted s).printer.trans (loadsRetired_abortTransport _).printer

/-- The parts that Abort All may change after its REPLY. -/
def abortAllParts : List Part := [.images, .accs, .waves, .drives, .saves, .verifyQueue, .contexts, .orders, .records, .queue,
  .transport, .artworks, .templates, .printer, .outbound, .events]

theorem changes_allAborted : Changes abortAllParts s s.allAborted :=
  ((aborting_printsAborted s).changes.mono (by decide)).trans
    (((loadsRetired_abortTransport _).changes.mono (by decide)).trans ((changes_printAborted _).mono (by decide)))

theorem closed_wavesAborted {free : Freed} {P : State → Prop} (hc : Closed free abortAllParts P) (h : P s) :
    P s.wavesAborted := by
  unfold State.wavesAborted
  refine closed_foldl (fun t w ht => ?_) h
  unfold State.abortWaveTurn
  split
  · exact ht
  · exact closed_abortWave hc (by decide) ht

theorem closed_allAborted {free : Freed} {P : State → Prop} (hc : Closed free abortAllParts P) (h : P s) :
    P s.allAborted := by
  have hdrives : P s.discsAborted :=
    closed_foldl (fun t d ht => closed_abortDrive hc (by decide) ht) (closed_wavesAborted s hc h)
  exact closed_printAborted hc (by decide)
    (closed_abortTransport hc (by decide) (closed_abortPrints hc (by decide) hdrives))

/-! ### The drives, the queue and the orders at the end -/

theorem State.allAborted_drive (d : Drive) : s.allAborted.drive d =
    (s.discsAborted.abortPrints.queue.foldl State.abortLoad s.discsAborted.abortPrints).drive d := by
  rw [State.allAborted, State.drive_congr ((changes_printAborted _) .drives (by simp)), State.queueAborted,
    State.abortTransport_drive]

theorem State.printsAborted_drive (d : Drive) : s.discsAborted.abortPrints.drive d = s.discsAborted.drive d :=
  State.drive_congr ((changes_abortPrints _) .drives (by simp)) d

theorem State.allAborted_drive_of_not_loading {d : Drive} (h : (s.discsAborted.drive d).state ≠ .loading) :
    s.allAborted.drive d = s.discsAborted.drive d := by
  have hsame := s.printsAborted_drive d
  rw [State.allAborted_drive, State.foldl_abortLoad_drive_of_other _ (by rwa [hsame]), hsame]

/-- The entries that have joined the queue are no LOADs, so those retired are those of before. -/
theorem State.printsAborted_queue : ∃ added, s.discsAborted.abortPrints.queue = s.queue ++ added ∧
    ∀ e ∈ added, e.abortsUnpicked = false := by
  obtain ⟨added, hqueue, hkind⟩ := (aborting_printsAborted s).queue
  exact ⟨added, hqueue, fun e he => by simp [Entry.abortsUnpicked, hkind e he]⟩

theorem State.allAborted_drive_of_ne {d : Drive} (h : ∀ e ∈ s.queue, e.abortsUnpicked = true → e.drive ≠ some d) :
    s.allAborted.drive d = s.discsAborted.drive d := by
  obtain ⟨added, hqueue, hadded⟩ := s.printsAborted_queue
  rw [State.allAborted_drive, State.foldl_abortLoad_drive_of_ne, s.printsAborted_drive]
  rw [hqueue]
  intro e he ha
  exact (List.mem_append.mp he).elim (fun hs => h e hs ha) fun hm => absurd ha (by simp [hadded e hm])

theorem State.allAborted_drive_of_idle {d : Drive} (h : (s.discsAborted.drive d).entry ≠ some .load) :
    s.allAborted.drive d = s.discsAborted.drive d := by
  have hsame := s.printsAborted_drive d
  rw [State.allAborted_drive, State.foldl_abortLoad_drive_of_idle _ (by rwa [hsame]), hsame]

theorem State.allAborted_drive_gone {d : Drive} (hstate : (s.discsAborted.drive d).state = .loading)
    (hentry : (s.discsAborted.drive d).entry = some .load)
    (h : ∃ e ∈ s.queue, e.abortsUnpicked = true ∧ e.drive = some d) :
    s.allAborted.drive d = (s.discsAborted.drive d).loadGone := by
  have hsame := s.printsAborted_drive d
  obtain ⟨added, hqueue, -⟩ := s.printsAborted_queue
  obtain ⟨e, he, hload⟩ := h
  rw [← hsame] at hstate hentry ⊢
  rw [State.allAborted_drive]
  generalize s.discsAborted.abortPrints = v at hstate hentry hqueue ⊢
  exact v.foldl_abortLoad_drive_gone hstate hentry ⟨e, by rw [hqueue]; exact List.mem_append_left _ he, hload⟩

theorem State.allAborted_order (o : OrderNo) : (s.allAborted.order o).inProgress = (s.order o).inProgress -
    (s.queue.filter (fun e => e.abortsUnpicked && decide (e.order = some o))).length := by
  obtain ⟨added, hqueue, hadded⟩ := s.printsAborted_queue
  have hnone : added.filter (fun e => e.abortsUnpicked && decide (e.order = some o)) = [] := by
    rw [List.filter_eq_nil_iff]
    exact fun e he => by simp [hadded e he]
  have hsame : s.discsAborted.abortPrints.order o = s.order o :=
    State.order_congr ((aborting_printsAborted s).changes .orders (by decide)) o
  rw [State.allAborted, State.order_congr ((changes_printAborted _) .orders (by simp)), State.queueAborted,
    State.abortTransport_order, hsame, hqueue, List.filter_append, hnone, List.append_nil]

theorem State.allAborted_queue : s.allAborted.queue = s.queueAborted.queue :=
  changes_printAborted _ .queue (by simp)

theorem State.allAborted_load {e : Entry} (he : e ∈ s.allAborted.queue) (hk : e.kind = .load) :
    e.token ≠ none ∨ e.pickSent = true := by
  rw [State.allAborted_queue, State.queueAborted] at he
  exact State.abortTransport_load _ he hk

theorem State.allAborted_unload {e : Entry} (he : e ∈ s.allAborted.queue) (hk : e.kind = .unload)
    (hd : e.dest = .station stationPR) : s.allAborted.picked e = true := by
  rw [State.allAborted_queue, State.queueAborted] at he
  rw [State.picked_congr fun n => (State.abortTransport_printedTo _ n).trans (s.allAborted_printedTo n)]
  exact State.abortTransport_unload _ he hk hd

/-- A record that awaited print has ABORT-ALL (R136). -/
theorem State.allAborted_awaitsPrint {m : RecNo} (hm : s.awaitsPrint m = true) :
    (s.allAborted.record m).cause = some .abortAll := by
  have hcause := (aborting_discsAborted s).awaitsPrint hm
  have hsettled := settled_abortPrints s m
  rw [hsettled.cause (by rw [hcause]; simp), hcause]

/-! ### The waves and the images at the end -/

theorem State.allAborted_wave (w : WaveNo) : s.allAborted.wave w = s.wavesAborted.wave w := by
  rw [State.allAborted, State.wave_congr ((changes_printAborted _) .waves (by simp)), State.queueAborted,
    State.wave_congr ((loadsRetired_abortTransport _).changes .waves (by simp)),
    State.wave_congr ((changes_abortPrints _) .waves (by simp)), State.discsAborted, State.wave_congr (State.drivesAborted_waves _)]

theorem State.allAborted_imageState (i : SlotNo) :
    (s.allAborted.image i).state = (s.wavesAborted.image i).state := by
  rw [State.allAborted, State.image_congr ((changes_printAborted _) .images (by simp)), State.queueAborted,
    State.image_congr ((loadsRetired_abortTransport _).changes .images (by simp)),
    State.image_congr ((changes_abortPrints _) .images (by simp)), State.discsAborted, State.drivesAborted_imageState]

theorem State.allAborted_save (d : Drive) : s.allAborted.save d = s.discsAborted.save d := by
  rw [State.allAborted, State.save_congr ((changes_printAborted _) .saves (by simp)), State.queueAborted,
    State.save_congr ((loadsRetired_abortTransport _).changes .saves (by simp)),
    State.save_congr ((changes_abortPrints _) .saves (by simp))]

end

/-! ### Each drive by its state -/

/-- A wave in use has attached the drive. -/
def State.attached (s : State) (d : Drive) : Prop := ∃ w, (s.wave w).state ≠ .idle ∧ (s.wave w).attachment d ≠ none

/-- A drive that unloads stays so from the drives' turns to the end. -/
theorem State.allAborted_unloading {s : State} {d : Drive} {kind : EntryKind}
    (h : (s.discsAborted.drive d).unloadingWith kind) : (s.allAborted.drive d).unloadingWith kind := by
  rw [State.allAborted_drive_of_not_loading _ (by rw [h.1]; simp)]
  exact h

section
variable {s : State} {d : Drive}

/-- A drive attached to a wave in use unloads a failed disc (R40, R90). -/
theorem attached_allAborted (h : s.attached d) :
    (s.allAborted.drive d).unloadingWith .unload ∧ BurnFailed d .abortAll s s.allAborted := by
  obtain ⟨w, hbusy, ha⟩ := h
  obtain ⟨hunloading, hfailed⟩ := State.wavesAborted_attached (w := w) (d := d) hbusy ha
  have hrests : (s.wavesAborted.drive d).state.rests := by
    rw [hunloading.1]
    simp [DriveState.rests]
  have hdrive : s.discsAborted.drive d = s.wavesAborted.drive d :=
    State.drivesAborted_of_rests hrests
  refine ⟨State.allAborted_unloading (by rwa [hdrive]), fun k hk hl => ?_⟩
  obtain ⟨hburn, hcause⟩ := hfailed k.num (State.holds_of_trayRecord hk hl)
  have hsettled := ((aborting_drivesAborted s.wavesAborted).records k.num).settled.trans
    (settled_discsAborted s k.num)
  exact ⟨hsettled.burn hburn, hsettled.aborted hcause⟩

variable (hfree : ¬ s.attached d)
include hfree

theorem State.wavesAborted_drive_of_free : s.wavesAborted.drive d = s.drive d :=
  State.wavesAborted_drive (s := s) hfree

/-- A drive that the turns leave alone. -/
theorem State.allAborted_of_rests (h : (s.drive d).state.rests) : s.allAborted.drive d = s.drive d := by
  have hwaves := State.wavesAborted_drive_of_free hfree
  have hdrive : s.discsAborted.drive d = s.drive d :=
    (State.drivesAborted_of_rests (by rwa [hwaves])).trans hwaves
  rw [State.allAborted_drive_of_not_loading _ (by rw [hdrive]; exact h.2.2.2), hdrive]

theorem withdrawn_allAborted {r : DiscRecord} {i : Fin 4}
    (h : (s.drive d).state = .ready ∨ ((s.drive d).state = .loading ∧ (s.drive d).placed))
    (hr : s.trayRecordOf d = some r) (hi : r.origin = .spindle i) : (s.allAborted.drive d).unloadingWith .return := by
  have hwaves := State.wavesAborted_drive_of_free hfree
  have hkept := aborting_wavesAborted s
  obtain ⟨k, hk, hl, rfl⟩ := State.exists_token_of_trayRecordOf hr
  refine State.allAborted_unloading (State.drivesAborted_withdrawn (s := s.wavesAborted) (by rwa [hwaves])
    (State.trayRecordOf_of_live (by rw [hwaves]; exact hk) ?_) ((hkept.records k.num).origin.trans hi))
  rw [hkept.live]
  exact hl

theorem closing_allAborted (h : (s.drive d).state = .closing) : s.allAborted.drive d = s.drive d ∧
    ∀ k, (s.drive d).trayRecord = some k → s.live k = true →
      (s.allAborted.record k.num).cause = ((s.record k.num).cause <|> some .abortAll) := by
  have hwaves := State.wavesAborted_drive_of_free hfree
  have hkept := aborting_wavesAborted s
  obtain ⟨hdrive, hcause⟩ := State.drivesAborted_closing (s := s.wavesAborted) (d := d) (by rw [hwaves, h])
  have hsame : s.discsAborted.drive d = s.drive d := hdrive.trans hwaves
  refine ⟨?_, fun k hk hl => ?_⟩
  · rw [State.allAborted_drive_of_not_loading _ (by rw [hsame, h]; simp), hsame]
  · refine (settled_discsAborted s k.num).aborted ?_
    exact (hcause k.num ((hkept.holds d _).trans (State.holds_of_trayRecord hk hl))).trans (hkept.records k.num).cause_eq

theorem verifying_allAborted (h : (s.drive d).state = .verifying) : (s.allAborted.drive d).unloadingWith .unload ∧
    (s.allAborted.save d).sub = .outside ∧ (s.allAborted.save d).lastEnding = .abortAll ∧
      ∀ k, (s.drive d).trayRecord = some k → s.live k = true → (s.allAborted.record k.num).verify = .fail ∧
        (s.allAborted.record k.num).cause = ((s.record k.num).cause <|> some .abortAll) := by
  have hwaves := State.wavesAborted_drive_of_free hfree
  have hkept := aborting_wavesAborted s
  obtain ⟨hdrive, hsub, hending, hrecord⟩ :=
    State.drivesAborted_verifying (s := s.wavesAborted) (d := d) (by rw [hwaves, h])
  rw [State.allAborted_save]
  refine ⟨State.allAborted_unloading hdrive, hsub, hending, fun k hk hl => ?_⟩
  obtain ⟨hverify, hcause⟩ := hrecord k.num ((hkept.holds d _).trans (State.holds_of_trayRecord hk hl))
  have hsettled := settled_discsAborted s k.num
  exact ⟨hsettled.verify hverify, hsettled.aborted (hcause.trans (hkept.records k.num).cause_eq)⟩

/-- A LOADING drive without its blank goes on, or closes its tray when its LOAD is retired (R59, R65). -/
theorem unplaced_allAborted (h : (s.drive d).state = .loading) (hp : ¬ (s.drive d).placed) :
    ((s.drive d).entry = some .load → (∃ e ∈ s.queue, e.abortsUnpicked = true ∧ e.drive = some d) →
      s.allAborted.drive d = (s.drive d).loadGone) ∧
    ((s.drive d).entry ≠ some .load ∨ (∀ e ∈ s.queue, e.abortsUnpicked = true → e.drive ≠ some d) →
      s.allAborted.drive d = s.drive d) := by
  have hwaves := State.wavesAborted_drive_of_free hfree
  have hsame : s.discsAborted.drive d = s.drive d :=
    (State.drivesAborted_of_unplaced (by rw [hwaves, h]) (by rwa [hwaves])).trans hwaves
  refine ⟨fun hentry hload => ?_, fun hnone => ?_⟩
  · rw [s.allAborted_drive_gone (by rw [hsame, h]) (by rw [hsame, hentry]) hload, hsame]
  · rcases hnone with hentry | hne
    · rw [s.allAborted_drive_of_idle (by rwa [hsame]), hsame]
    · rw [s.allAborted_drive_of_ne hne, hsame]

end

/-! ### The printer, the waves and the images by what they were -/

/-- The printer at the end: a print has failed uncounted, and no other has voided a serial (R175, R179). -/
theorem printer_allAborted (s : State) : if s.printer.state = .printing then
      s.allAborted.printer.state = .discharge ∧ s.allAborted.printer.phase = .ejecting ∧
        s.allAborted.printer.snapshot = none ∧ s.allAborted.printer.faultRun = s.printer.faultRun ∧
        ∀ p, s.printer.snapshot = some p → (s.allAborted.template p.template).voided =
          (s.template p.template).voided + (if p.serial.isSome then 1 else 0)
    else s.allAborted.templates = s.templates := by
  obtain ⟨hprints, hother⟩ := printKept_queueAborted s
  have htemplates : s.queueAborted.templates = s.templates :=
    ((loadsRetired_abortTransport _).changes .templates (by simp)).trans
      ((aborting_printsAborted s).changes .templates (by decide))
  unfold State.allAborted State.printAborted
  generalize s.queueAborted = t at *
  split
  next h =>
    have hsame := hprints h
    obtain ⟨hstate, hphase, hsnapshot, hrun⟩ := Printer.asked_side { t.printer with
      state := .discharge, phase := .ejecting, snapshot := none, faultRun := t.printer.runAfter false } .trayOut
    rw [← t.printFault_printer_eq .abortAll false] at hstate hphase hsnapshot hrun
    rw [if_pos (by rw [hsame, h])]
    refine ⟨hstate, hphase, hsnapshot, by rw [hrun, hsame]; rfl, fun p hp => ?_⟩
    rw [State.printFault_voided _ _ (by rw [hsame, hp]), State.template_congr htemplates]
  next h => rw [if_neg (hother h), htemplates]

/-- The waves at the end (R40). -/
theorem wave_allAborted (s : State) (w : WaveNo) :
    if (s.wave w).state = .idle then s.allAborted.wave w = s.wave w else (s.allAborted.wave w).atIdle .abortAll := by
  have hwave := s.wavesAborted_wave w
  rw [State.allAborted_wave]
  exact hwave

/-- The slots that waves in use filled are DEFINED at the end (R12). -/
theorem image_allAborted (s : State) {i : SlotNo} (hf : (s.image i).state = .filling)
    (hw : ∃ w, (s.image i).fillingWave = some w ∧ (s.wave w).state ≠ .idle ∧ (s.wave w).slot = some i) :
    (s.allAborted.image i).state = .defined := by
  obtain ⟨w, hfilling, hbusy, hslot⟩ := hw
  rw [State.allAborted_imageState]
  exact State.wavesAborted_image (s := s) hf hfilling hbusy hslot

/-- A LOADING drive that has lost its LOAD (R59). -/
theorem DriveSlot.loadGone_side (x : DriveSlot) :
    x.loadGone.state = x.state ∧ x.loadGone.phase = .trayClosing ∧ x.loadGone.entry = none :=
  DriveSlot.asked_side { x with entry := none, phase := .trayClosing } .trayClose

/-! ### The statement -/

/-- The REPLY, with auto-feed and its held copy clear. -/
def State.feedStopped (s : State) (rt : ReplyTo) : State :=
  (s.replyPlain rt .ok).modTransport (fun t => { t with autoFeed := false, heldCopy := false })

theorem changes_feedStopped (s : State) (rt : ReplyTo) : Changes [.feed, .outbound, .transport] s (s.feedStopped rt) :=
  ((changes_reply s rt .ok 0 0).mono (by simp)).trans ((changes_modTransport _ _).mono (by simp))

theorem State.feedStopped_transport (s : State) (rt : ReplyTo) :
    (s.feedStopped rt).transport = { s.transport with autoFeed := false, heldCopy := false } := rfl

theorem State.feedStopped_feed (s : State) (rt : ReplyTo) : Replied rt.tag .ok s (s.feedStopped rt) := rfl

theorem State.abortAll_eq (s : State) (rt : ReplyTo) :
    State.abortAll rt () s = (s.feedStopped rt).allAborted.loadDecision.arbiter := rfl

theorem exec_abortAll_of_handlesAsNew {f : CmdFrame} {s : State} (hb : f.body = []) (hn : s.handlesAsNew f.tag f.resend) :
    exec (.abortAll f) s = .next (State.abortAll (cmdReply f 26) () s) :=
  congrArg Host.Outcome.next (State.answer_of_handlesAsNew (rt := cmdReply f 26) _ (parseNone_nil hb) hn)

theorem exec_abortAll_eq {f : CmdFrame} {s : State} (hb : f.body = []) (hn : s.handlesAsNew f.tag f.resend) :
    exec (.abortAll f) s = .next (s.feedStopped (cmdReply f 26)).allAborted.arbiter := by
  rw [exec_abortAll_of_handlesAsNew hb hn, State.abortAll_eq, State.allAborted_loadDecision]
  rw [State.feedStopped_transport]

theorem joined_feedStopped (s : State) (rt : ReplyTo) : Joined [rt.frame .ok] s (s.feedStopped rt).allAborted :=
  joined_of_closed (u := s.feedStopped rt) (ps := abortAllParts) rfl fun _ hc h => closed_allAborted _ hc h

theorem replied_feedStopped (s : State) (rt : ReplyTo) : Replied rt.tag .ok s (s.feedStopped rt).allAborted := by
  have hstart := s.feedStopped_feed rt
  have hsame := changes_allAborted (s.feedStopped rt) .feed (by decide)
  unfold Replied at hstart ⊢
  rw [hsame, hstart]

theorem transport_feedStopped (s : State) (rt : ReplyTo) :
    (s.transport.parkWaiting = false → (s.feedStopped rt).allAborted.transport.mode = s.transport.mode) ∧
      (s.feedStopped rt).allAborted.transport.autoFeed = false ∧
      (s.feedStopped rt).allAborted.transport.heldCopy = false := by
  obtain ⟨hfeed, hcopy, hmode⟩ := (s.feedStopped rt).allAborted_transport
  rw [State.feedStopped_transport] at hfeed hcopy hmode
  exact ⟨fun hp => (hmode hp).2, hfeed, hcopy⟩

/-- What O56 says of drive `d`. -/
def DriveAborted (d : Drive) (s u : State) : Prop :=
  (¬ s.attached d → (s.drive d).state = .loading → (s.drive d).placed → ∀ r i, s.trayRecordOf d = some r →
    r.origin = .spindle i → (u.drive d).unloadingWith .return) ∧
  (¬ s.attached d → (s.drive d).state = .loading → ¬ (s.drive d).placed →
    ((s.drive d).entry = some .load → (∃ e ∈ s.queue, e.abortsUnpicked = true ∧ e.drive = some d) →
      (u.drive d).state = .loading ∧ (u.drive d).phase = .trayClosing ∧ (u.drive d).entry = none ∧
      ((s.drive d).outstanding = none → (s.drive d).checkPhase = .idle →
        (u.drive d).outstanding = some { req := .trayClose, number := (s.drive d).nextNumber }) ∧
      ((s.drive d).outstanding ≠ none → (u.drive d).outstanding = (s.drive d).outstanding ∧
        (u.drive d).waiting = some .trayClose)) ∧
    ((s.drive d).entry ≠ some .load ∨ (∀ e ∈ s.queue, e.abortsUnpicked = true → e.drive ≠ some d) →
      u.drive d = s.drive d)) ∧
  (s.attached d → (u.drive d).unloadingWith .unload ∧ BurnFailed d .abortAll s u) ∧
  (¬ s.attached d → ((s.drive d).state = .absent ∨ (s.drive d).state = .empty ∨ (s.drive d).state = .faulted ∨
    (s.drive d).state = .unloading) → u.drive d = s.drive d) ∧
  (¬ s.attached d → (s.drive d).state = .closing → u.drive d = s.drive d ∧
    ∀ k, (s.drive d).trayRecord = some k → s.live k = true →
      (u.record k.num).cause = ((s.record k.num).cause <|> some .abortAll)) ∧
  (¬ s.attached d → (s.drive d).state = .ready → ∀ r i, s.trayRecordOf d = some r → r.origin = .spindle i →
    (u.drive d).unloadingWith .return) ∧
  (¬ s.attached d → (s.drive d).state = .verifying → (u.drive d).unloadingWith .unload ∧
    (u.save d).sub = .outside ∧ (u.save d).lastEnding = .abortAll ∧
    ∀ k, (s.drive d).trayRecord = some k → s.live k = true → (u.record k.num).verify = .fail ∧
      (u.record k.num).cause = ((s.record k.num).cause <|> some .abortAll))

theorem driveAborted_allAborted (s : State) (d : Drive) : DriveAborted d s s.allAborted := by
  refine ⟨fun hfree hs hp r i => withdrawn_allAborted hfree (.inr ⟨hs, hp⟩), fun hfree hs hp => ?_, attached_allAborted,
    fun hfree hs => State.allAborted_of_rests hfree ?_, closing_allAborted, fun hfree hs r i =>
      withdrawn_allAborted hfree (.inl hs), verifying_allAborted⟩
  · obtain ⟨hgone, hstays⟩ := unplaced_allAborted hfree hs hp
    refine ⟨fun hentry hload => ?_, hstays⟩
    obtain ⟨hstate, hphase, hnone⟩ := (s.drive d).loadGone_side
    rw [hgone hentry hload]
    exact ⟨hstate.trans hs, hphase, hnone, (s.drive d).loadGone_port⟩
  · unfold DriveState.rests
    rcases hs with hs | hs | hs | hs <;> simp [hs]

section
variable {s a : State} (h : Changes [.feed, .outbound, .transport] s a)
include h

/-- What the drives' part says depends on neither the feed nor the transport. -/
theorem DriveAborted.of_start {d : Drive} {u : State} (hd : DriveAborted d a u) : DriveAborted d s u := by
  have hdrive : a.drive d = s.drive d := State.drive_congr (h .drives (by simp)) d
  have hrecord : ∀ n, a.record n = s.record n := State.record_congr (h .records (by simp))
  have hwave : ∀ w, a.wave w = s.wave w := State.wave_congr (h .waves (by simp))
  have hqueue : a.queue = s.queue := h .queue (by simp)
  have hlive : ∀ k, a.live k = s.live k := fun k => by simp only [State.live, hrecord]
  have htray : a.trayRecordOf d = s.trayRecordOf d := by
    have hfun : a.liveRecord = s.liveRecord := funext fun k => by simp only [State.liveRecord, hlive, hrecord]
    rw [State.trayRecordOf, hdrive, hfun]
    rfl
  have hattached : a.attached d ↔ s.attached d := by simp only [State.attached, hwave]
  unfold DriveAborted BurnFailed at hd ⊢
  simp only [hdrive, hrecord, hqueue, hlive, htray, hattached] at hd
  exact hd

theorem State.awaitsPrint_of_start {m : RecNo} (hm : s.awaitsPrint m = true) : a.awaitsPrint m = true := by
  rw [← hm]
  simp only [State.awaitsPrint, State.record_congr (h .records (by simp)), State.order_congr (h .orders (by simp))]

end

/-- Settles O56: SD and IS, DPC and VE, PU, TC and LPC each at their turn, auto-feed clear before. -/
theorem abortAllEffect : Obligations.AbortAllEffect := by
  unfold Obligations.AbortAllEffect
  intro f s hb hnew
  have hexec := exec_abortAll_eq hb hnew
  have hreplied := replied_feedStopped s (cmdReply f 26)
  have hjoined := joined_feedStopped s (cmdReply f 26)
  obtain ⟨hmode, hfeed, hcopy⟩ := transport_feedStopped s (cmdReply f 26)
  have hstart := changes_feedStopped s (cmdReply f 26)
  generalize s.feedStopped (cmdReply f 26) = a at *
  have hwave : ∀ w, a.wave w = s.wave w := State.wave_congr (hstart .waves (by simp))
  have himage : ∀ i, a.image i = s.image i := State.image_congr (hstart .images (by simp))
  have horder : ∀ o, a.order o = s.order o := State.order_congr (hstart .orders (by simp))
  have htemplate : ∀ l, a.template l = s.template l := State.template_congr (hstart .templates (by simp))
  have htemplates : a.templates = s.templates := hstart .templates (by simp)
  have hqueue : a.queue = s.queue := hstart .queue (by simp)
  have hprinter : a.printer = s.printer := hstart .printer (by simp)
  have hwaves := wave_allAborted a
  have himages := fun i => image_allAborted a (i := i)
  have horders := a.allAborted_order
  have hprints := printer_allAborted a
  simp only [hwave, himage, horder, htemplate, hqueue, hprinter, htemplates] at hwaves himages horders hprints
  have hchanges : Changes (Part.all.filter (fun p =>
      decide (p ≠ .pending ∧ p ≠ .settings ∧ p ≠ .stations ∧ p ≠ .ladder))) s a.allAborted :=
    (hstart.mono (by decide)).trans ((changes_allAborted a).mono (by decide))
  have hdrives : ∀ d, DriveAborted d s a.allAborted := fun d => (driveAborted_allAborted a d).of_start hstart
  have hawaits := fun m hm => a.allAborted_awaitsPrint (m := m) (State.awaitsPrint_of_start hstart hm)
  have hloads := fun e => a.allAborted_load (e := e)
  have hunloads := fun e => a.allAborted_unload (e := e)
  generalize a.allAborted = u at *
  exact ⟨_, u, hexec, rfl, hreplied, hjoined, hmode, hfeed, hcopy, hwaves, himages, horders, hdrives, hawaits, hloads, hunloads,
    hprints, hchanges⟩

end Sys2Proof.Machine
end
